-- ==== Sys2Proof/Word.lean ====
section
/-! DEFINITION. The word types of the DX8300 model and the plainest helpers on them (R1, R2). -/

namespace Sys2Proof

/-- One byte of a wire field, record or memory (R9: the data bits of a guarded byte). -/
abbrev Byte := BitVec 8
/-- A string of bytes in wire order, offset 0 first (R1). -/
abbrev Bytes := List Byte
/-- A 16-bit field (status codes, opcodes). -/
abbrev W16 := BitVec 16
/-- A 32-bit management register (R23). -/
abbrev W32 := BitVec 32
/-- A 64-bit field (handles, identifiers, timestamps). -/
abbrev W64 := BitVec 64

/-- A finite table keyed by number, held as a list of pairs with strictly rising keys; a key that
is not listed holds the table's default. -/
abbrev Map (α : Type) := List (Nat × α)

end Sys2Proof
end

