-- ==== Sys2Proof/Syntax.lean ====
section
/-! DEFINITION. The commands of the block: one constructor of `Instr` per row of the opcode table,
with the operands each row takes (log entries 6 to 8). -/

namespace Sys2Proof

/-- Who makes a register access (R27): an FGL session or a control core. -/
inductive Reader
  | session (number : Nat)
  | core (number : Nat)
  deriving DecidableEq, Repr

/-- A read of a management register by address (R24, R410). -/
structure RegRead where
  reader : Reader
  /-- Kernel privilege; a slice 0 session has the normal kernel's rights. -/
  kernel : Bool
  address : Nat
  deriving DecidableEq, Repr

/-- A write of the register that the command's row names. -/
structure RegWrite where
  reader : Reader
  kernel : Bool
  value : W32
  deriving DecidableEq, Repr

/-- A barge as a flight sees it: the record of R66 with the session's slice and generation. -/
structure Barge where
  /-- Session that carries it. -/
  session : Nat
  /-- Packet number of its request datagram, 0 outside FGL-3. -/
  pn : Nat
  slice : Nat
  generation : W32
  /-- Class 0 to 3 for C0 to C3. -/
  cls : Nat
  /-- Opcode as sent; a verb row fixes it. -/
  opcode : Nat
  requestId : W64
  /-- idempotency_key, 0 for none. -/
  idem : W64
  /-- Payload without padding, in the exact layout the verb gives it. -/
  payload : Bytes
  deriving DecidableEq, Repr

/-- Kind of a fabric access (R397). -/
inductive AccessKind
  | read | write | execute
  deriving DecidableEq, Repr

/-- One access of a fabric master (R393, R404). -/
structure FabricAccess where
  /-- Protection unit of the master, 0 to 140. -/
  unit : Nat
  /-- Task privilege, for a core. -/
  task : Bool
  kind : AccessKind
  address : Nat
  length : Nat
  /-- Data of a write. -/
  data : Bytes
  /-- Slice and generation of a tagged master. -/
  tag : Option (Nat × W32)
  /-- Barge whose job the access serves, for a flight or an engine. -/
  barge : Nat
  deriving DecidableEq, Repr

/-- A frame as the MAC delivers it (R51). -/
structure HostFrame where
  cage : Nat
  bytes : Bytes
  /-- The frame check sequence was correct. -/
  fcsOk : Bool
  /-- FEC codewords corrected, and uncorrectable, since the last frame of the cage (R56). -/
  corrected : Nat := 0
  uncorrectable : Nat := 0
  deriving DecidableEq, Repr

/-- An ARP request, neighbour solicitation or echo request (R53). -/
structure AddrQuery where
  cage : Nat
  vlan : Option Nat
  /-- Sender's MAC (6 bytes) and address (4 or 16 bytes). -/
  sender : Bytes
  /-- Address asked for, 4 or 16 bytes. -/
  target : Bytes
  /-- Identifier, sequence and data of an echo request. -/
  data : Bytes
  deriving DecidableEq, Repr

/-- What the other end of a host link offers (R46 to R49). -/
structure LinkPartner where
  /-- Modes advertised, bit n for mode n. -/
  modes : Nat
  /-- RS(528,514) advertised for mode 4. -/
  fec : Bool
  deriving DecidableEq, Repr

/-- A UDP datagram on the FGL-3 port (R57). -/
structure Datagram where
  cage : Nat
  /-- Source address (16 bytes) and port (2 bytes). -/
  source : Bytes
  /-- The UDP payload. -/
  bytes : Bytes
  deriving DecidableEq, Repr

/-- What a TLS client asks for beside a full handshake (R78). -/
inductive TlsAsk
  /-- Nothing else. -/
  | full
  /-- A new handshake on an FGL-1 connection that stands. -/
  | renegotiation
  /-- A session to be resumed. -/
  | resumption
  /-- A pre-shared key. -/
  | preShared
  /-- Early data. -/
  | earlyData
  /-- The KeyUpdate of an FGL-2 connection that stands; true asks the module to update too. -/
  | keyUpdate (requested : Bool)
  deriving DecidableEq, Repr

/-- What a TLS client offers and proves (R78). -/
structure TlsHello where
  cage : Nat
  source : Bytes
  /-- FGL generation, 1 or 2. -/
  fgl : Nat
  /-- Cipher suite, group and signature algorithm as TLS numbers them. -/
  suite : Nat
  group : Nat
  sigAlg : Nat
  extendedMaster : Bool
  /-- What it asks for. -/
  ask : TlsAsk := .full
  /-- Client certificate chain, leaf first, DER. -/
  chain : Bytes
  /-- Handshake transcript the client signed, and its signature. -/
  transcript : Bytes
  signature : Bytes
  deriving DecidableEq, Repr

/-- PTP messages the module uses (R82). -/
inductive PtpKind
  | announce | sync | followUp
  /-- Delay_Req, or Pdelay_Req under peer-to-peer. -/
  | delayReq
  /-- Delay_Resp, or Pdelay_Resp with what its follow-up carries under peer-to-peer. -/
  | delayResp
  deriving DecidableEq, Repr

/-- A PTP message with the timestamps the PCS took (R82, R496, R497). -/
structure PtpMessage where
  cage : Nat
  kind : PtpKind
  domain : Nat
  /-- timeTransmitter identity. -/
  source : Bytes
  sequence : Nat
  /-- Announced dataset in the order the best clock algorithm compares it, lower is better. -/
  quality : List Nat
  twoStep : Bool
  /-- Transport: 0 UDP over IPv4, 1 UDP over IPv6, 2 IEEE 802.3. -/
  transport : Nat := 0
  /-- Origin or receive timestamp in TAI units of 2^-24 s, correction included. -/
  origin : Nat
  /-- Pdelay_Resp: when the peer sent it, in TAI units of 2^-24 s, correction included. -/
  egress : Nat := 0
  utcOffset : Nat
  utcOffsetValid : Bool
  leap61 : Bool
  leap59 : Bool
  deriving DecidableEq, Repr

/-- How a cipher job ends (R279). -/
inductive JobEnd
  | commit | guard | control | maskgen
  deriving DecidableEq, Repr

/-- Causes of a flight fault (R166). -/
inductive FlightCause
  | guard | sequencer | context
  deriving DecidableEq, Repr

/-- Causes of a core or engine fault (R279, R310). -/
inductive EngineCause
  | guard | control | third
  deriving DecidableEq, Repr

/-- Engine kinds of the pools (R159, R183). -/
inductive EngineKind
  | shuffled | masked | hash | publicKey | lattice
  deriving DecidableEq, Repr

/-- Which 50 ms drain has run out (R102, R144, R372). -/
inductive Drain
  | slice (slice : Nat)
  | shred (shred : Nat)
  | switchover
  deriving DecidableEq, Repr

/-- A witness message and how it came (R365). -/
structure WitnessMsg where
  /-- It arrived inside an authenticated interlink frame of this module. -/
  via : Option W64
  /-- The 128 bytes. -/
  bytes : Bytes
  deriving DecidableEq, Repr

/-- What the power-on tests of a start find (R339, R513). -/
structure StartTests where
  /-- Power stage calibration is gone, or the start comes from input qualification. -/
  cold : Bool
  /-- Engines that fail: kind and number. -/
  engines : List (EngineKind × Nat)
  /-- Flights that fail. -/
  flights : List Nat
  /-- Generator cores that pass, bit n for core n. -/
  generators : Nat
  /-- Sources that pass their start-up test, bit n for source n. -/
  sources : Nat
  /-- Hold lines that fail their read-back. -/
  badLines : Nat
  deriving DecidableEq, Repr

/-- An alarm as the sentinel's detectors or an island report it (R452 to R455). -/
structure AlarmReport where
  /-- Sensor or alarm code. -/
  code : Nat
  /-- Detector A reports within the bound. -/
  a : Bool
  /-- Detector B reports within the bound. -/
  b : Bool
  /-- Reading at detection. -/
  reading : BitVec 32
  /-- Island the alarm concerns, by the chart's island codes; 0 for none. -/
  island : Nat
  deriving DecidableEq, Repr

/-- The commands of the block: one constructor per row of the opcode table, in its order. -/
inductive Instr
  /-- READ_REG (R24): Slice 0 reads one 32-bit management register by address, subject to alignment, range and world rights. -/
  | readReg (b : Barge)
  /-- WRITE_REG (R24): Slice 0 writes one 32-bit management register that has no row of its own, honouring its access code and rights. -/
  | writeReg (b : Barge)
  /-- READ_REG_DX6100 (R499): The DX6100 form 0x0A80 of READ_REG. -/
  | readRegDx6100 (b : Barge)
  /-- LO_READ_LATCH (R491): A read of a LO register latches the matching high word for that reader. -/
  | loReadLatch (r : RegRead)
  /-- PCNT_LO_WRITE (R491): A write of PCNT_LO sets the 48-bit counter from this word and the reader's PCNT_HI shadow. -/
  | pcntLoWrite (w : RegWrite) (block : Nat)
  /-- WHF_LINKCFG_WRITE (R56): A write to WHF_LINKCFG on a host cage updates the link settings and restarts the link. -/
  | whfLinkcfgWrite (w : RegWrite)
  /-- RESET_PCS (R56): Writing 1 to RESET_PCS resets the cage's PCS and FEC and reruns link training. -/
  | resetPcs (w : RegWrite)
  /-- IXP_RATTR_WRITE (R399): Writing IXP_RATTR commits the shadowed base, last page and attributes of the selected region at once. -/
  | ixpRattrWrite (w : RegWrite)
  /-- IXP_FBATTR_WRITE (R409): Writing IXP_FBATTR commits the selected fall-back table entry in the same way as a unit region. -/
  | ixpFbattrWrite (w : RegWrite)
  /-- POP (R409): Writing 1 to POP removes the head violation report of the selected queue. -/
  | pop (w : RegWrite)
  /-- CLK_OFF (R412): A secure-world write of CLK_OFF stops the domain's clock, or becomes a gating request if the domain is leased. -/
  | clkOff (w : RegWrite)
  /-- PWR_OFF (R412): A secure-world write of PWR_OFF removes the domain's power, or becomes a gating request if the domain is leased. -/
  | pwrOff (w : RegWrite)
  /-- KEEPER_LEASE_WRITE (R417): A secure-kernel write of the KEEPER bit of PWR_LEASE takes or releases the keeper's lease on a domain. -/
  | keeperLeaseWrite (w : RegWrite)
  /-- GATEREQ_CLOCK_OFF (R413): A PWR_GATEREQ write with ACTION 1 queues, grants or refuses a clock-off gating request. -/
  | gatereqClockOff (w : RegWrite)
  /-- GATEREQ_POWER_OFF (R413): A PWR_GATEREQ write with ACTION 2 queues, grants or refuses a power-off gating request. -/
  | gatereqPowerOff (w : RegWrite)
  /-- GATEREQ_RESTORE (R412): A PWR_GATEREQ write with ACTION 3 restores clock and power to the domain at once. -/
  | gatereqRestore (w : RegWrite)
  /-- CORE_WDKICK (R418): A write to CORE_WDKICK kicks the keeper watchdog, or expires it when the value is wrong. -/
  | coreWdkick (w : RegWrite)
  /-- CORE_NWDKICK (R423): A write to CORE_NWDKICK kicks the normal-world watchdog, or expires it when the value is wrong. -/
  | coreNwdkick (w : RegWrite)
  /-- RESTART (R419): The keeper writes RESTART in CORE_SRREQ and starts a secure restart. -/
  | restart (w : RegWrite)
  /-- FABRIC_ACCESS (R404): A fabric master issues an access, which the protection unit, the fall-back table and the region
  controller check for every byte. -/
  | fabricAccess (a : FabricAccess)
  /-- HOST_FRAME_RX (R51): The wharf receives a host-port frame and accepts or drops it after checking length, FCS, tags and IP headers. -/
  | hostFrameRx (f : HostFrame)
  /-- ARP_REQUEST (R53): The wharf answers an ARP request for a configured or basin address in hardware. -/
  | arpRequest (q : AddrQuery)
  /-- NEIGHBOUR_SOLICITATION (R53): The wharf answers an IPv6 neighbour solicitation for a configured address in hardware. -/
  | neighbourSolicitation (q : AddrQuery)
  /-- ECHO_REQUEST (R53): The wharf answers an ICMP or ICMPv6 echo request, within 1,000 replies per second per port. -/
  | echoRequest (q : AddrQuery)
  /-- HOST_LINK_UP (R48): A host port completes resolution and training, and its PCS aligns. -/
  | hostLinkUp (cage : Nat) (partner : LinkPartner)
  /-- HOST_LINK_DOWN (R48): A host port loses its link, or fails resolution or training and sets TRAIN_FAIL. -/
  | hostLinkDown (cage : Nat) (trainFail : Bool)
  /-- AN_RESTART_TIMEOUT (R48): 1 s after a failed resolution or training, auto-negotiation restarts. -/
  | anRestartTimeout (cage : Nat)
  /-- HELLO_C (R62): The module receives a HELLO_C and answers with HELLO_M, RETRY or ALERT, or drops it. -/
  | helloC (d : Datagram)
  /-- FINISH_C (R65): The module verifies the client's chain, signature and finished value and binds the session to its slice. -/
  | finishC (d : Datagram)
  /-- REQUEST (R66): The module authenticates a REQUEST datagram under the replay window and splits it into barges. -/
  | request (d : Datagram)
  /-- CLOSE (R76): A peer's CLOSE ends the session; barges in progress run on, and their responses are discarded. -/
  | close (d : Datagram)
  /-- PING (R75): The module receives a PING and returns its 8-byte value in a PONG. -/
  | ping (d : Datagram)
  /-- RESPONSE_GATHER_TIMEOUT (R69): 20 µs after the oldest pending response completed, the pending responses are sent. -/
  | responseGatherTimeout (session pn : Nat)
  /-- HANDSHAKE_TIMEOUT (R75): A half-open handshake is discarded when its completion timer expires. -/
  | handshakeTimeout (session : Nat)
  /-- SESSION_IDLE_TIMEOUT (R75): A session with no authenticated host datagram for the idle time is closed without a message. -/
  | sessionIdleTimeout (session : Nat)
  /-- SEND_KEY_UPDATE (R61): At 2^30 datagrams or 24 h under one key, the module flips its send key phase. -/
  | sendKeyUpdate (session : Nat)
  /-- PREV_KEY_DISCARD (R61): 2 s after the first success under a new receive key, the previous receive key is discarded. -/
  | prevKeyDiscard (session : Nat)
  /-- IDEM_ENTRY_EXPIRE (R72): An idempotency entry, local or mirrored, is discarded when its retention runs out. -/
  | idemEntryExpire (slice : Nat) (generation : W32) (key : W64)
  /-- TLS_HANDSHAKE (R78): The normal world terminates TCP and runs the FGL-1 or FGL-2 TLS handshake, binding the session to a slice. -/
  | tlsHandshake (h : TlsHello)
  /-- FGL1_REQUEST (R79): An FGL-1 request frame forms an opcode from its command number and becomes a C2 barge, answered in order. -/
  | fgl1Request (session : Nat) (frame : Bytes)
  /-- FGL2_REQUEST (R79): An FGL-2 request frame becomes a C2 barge, answered in any order. -/
  | fgl2Request (session : Nat) (frame : Bytes)
  /-- BEACON_TIMER (R81): Once per second on each link-up host port, the module sends a signed BEACON. -/
  | beaconTimer (cage : Nat)
  /-- PTP_MESSAGE (R82): A PTP event or general message is timestamped and used by the best clock algorithm and by clock discipline. -/
  | ptpMessage (m : PtpMessage)
  /-- SESSION_INFO (R526): Returns the details of the session that carries the barge. -/
  | sessionInfo (b : Barge)
  /-- MODULE_INFO (R526): Returns the module ID, life cycle, flags, SVN, floor and chart version. -/
  | moduleInfo (b : Barge)
  /-- MODULE_INFO_DX6100 (R526): The DX6100 form 0x0180 of MODULE_INFO, returning bytes 0 to 15. -/
  | moduleInfoDx6100 (b : Barge)
  /-- IDLE_ANNOUNCE (R510): Slice 0 announces an idle window whose end becomes a known event. -/
  | idleAnnounce (b : Barge)
  /-- IDLE_WINDOW_END (R510): The announced idle window ends, a known event for the power manager. -/
  | idleWindowEnd
  /-- BARGE_ADMIT (R161): The lock keeper checks a barge for opcode, class eligibility, restart, reservation and pound room, and
  admits it or ends it. -/
  | bargeAdmit (barge : Nat)
  /-- BARGE_TAKE_CONTEXT (R164): A waiting barge takes a free flight context, chosen by class, deficit round robin and admission order. -/
  | bargeTakeContext (flight : Nat)
  /-- PARSE_STEP (R147): PARSE checks the request fields against the program's field table and copies the operands. -/
  | parseStep (barge : Nat)
  /-- POLICY_STEP (R147): POLICY checks the pair state, slice state, handle, attributes, usage share and lease availability. -/
  | policyStep (barge : Nat)
  /-- KEYFETCH_STEP (R147): KEYFETCH reads a key from a vault slot with its tag check, or resolves a cache entry into a transit slot. -/
  | keyfetchStep (barge guardErrors : Nat)
  /-- CIPHER_STEP (R147): CIPHER dispatches a job to a pooled core, or runs it on the lock's bound core. -/
  | cipherStep (barge : Nat)
  /-- HASH_STEP (R147): HASH dispatches a job to a hash unit. -/
  | hashStep (barge : Nat)
  /-- PKE_STEP (R147): PKE dispatches a job to a public-key or lattice engine with an operand descriptor. -/
  | pkeStep (barge : Nat)
  /-- FORMAT_STEP (R147): FORMAT builds the response payload and applies the output format checks. -/
  | formatStep (barge : Nat)
  /-- EMIT_STEP (R40): EMIT checks the generation and passes the result to the wharf, or moves the barge to the epoch hold. -/
  | emitStep (barge : Nat)
  /-- CIPHER_JOB_DONE (R272): A cipher bank job completes and commits, or ends before commit. -/
  | cipherJobDone (barge : Nat) (end_ : JobEnd)
  /-- PKE_JOB_DONE (R304): A public-key engine job completes its twin computation and commits or rejects. -/
  | pkeJobDone (barge : Nat) (twin : Bool)
  /-- LATTICE_JOB_DONE (R316): A lattice engine job completes its release check and commits. -/
  | latticeJobDone (barge iterations : Nat) (release : Bool)
  /-- HASH_JOB_DONE (R318): A hash unit job completes. -/
  | hashJobDone (barge compressions : Nat)
  /-- SEGMENT_COMBINE (R278): When the last segment of a split GCM job ends, the combiner joins the partial GHASH values. -/
  | segmentCombine (barge : Nat)
  /-- FW_ASSIST_RETURN (R153): A firmware-assisted barge returns from its world and takes the next free context ahead of its class. -/
  | fwAssistReturn (barge : Nat)
  /-- SUSPENDED_JOB_RESUME (R151): A suspended lower-class job resumes once no C0 barge held by the flight has its lock still to pass. -/
  | suspendedJobResume (barge : Nat)
  /-- FLIGHT_FAULT (R166): A datapath, sequencer or context fault takes the flight out of service and moves its pound entries. -/
  | flightFault (flight : Nat) (cause : FlightCause)
  /-- FLIGHT_RETURN (R166): The flight finishes its erase and self-test and returns to service. -/
  | flightReturn (flight : Nat)
  /-- EPOCH_CLOSE (R358): 20 µs after its first mutation, the current epoch closes and its segments are sent. -/
  | epochClose
  /-- EPOCH_SEGMENT (R358): The partner receives an epoch segment and applies the records of complete epochs. -/
  | epochSegment (frame : Bytes)
  /-- EPOCH_ACK (R358): An epoch ack releases held responses and marks lease blocks ready. -/
  | epochAck (frame : Bytes)
  /-- SEGMENT_RESEND (R357): A segment without an ack after 15 µs is sent again, up to 40 times. -/
  | segmentResend (epoch : Nat)
  /-- CUSTODIAN_ENROL (R88): Enrols a custodian, or adds a credential kind, with proofs of possession. -/
  | custodianEnrol (b : Barge)
  /-- CUSTODIAN_SUSPEND (R87): Suspends a custodian and withdraws its standing approvals. -/
  | custodianSuspend (b : Barge)
  /-- CUSTODIAN_REINSTATE (R87): Returns a suspended custodian to ENROLLED. -/
  | custodianReinstate (b : Barge)
  /-- CUSTODIAN_REVOKE (R87): Revokes a custodian and frees its index. -/
  | custodianRevoke (b : Barge)
  /-- CUSTODIAN_READ (R83): Returns custodian entries. -/
  | custodianRead (b : Barge)
  /-- CUSTODY_ESTABLISH (R88): Moves custody to ESTABLISHED when every role meets its quorum. -/
  | custodyEstablish (b : Barge)
  /-- BALLOT_PROPOSE (R90): Creates a ballot for a dual-controlled inner verb and binds its target generation. -/
  | ballotPropose (b : Barge)
  /-- BALLOT_APPROVE (R92): Checks a custodian's signed approval and may arm the ballot. -/
  | ballotApprove (b : Barge)
  /-- BALLOT_EXECUTE (R93): Checks an armed ballot's payload, generation and target state, and runs the inner verb. -/
  | ballotExecute (b : Barge)
  /-- BALLOT_WITHDRAW (R94): The proposing session withdraws an open or armed ballot. -/
  | ballotWithdraw (b : Barge)
  /-- BALLOT_STATUS (R94): Returns a ballot's state and approval count. -/
  | ballotStatus (b : Barge)
  /-- APPROVAL_EXPIRE (R92): An approval's window W ends, and the ballot may fall back to OPEN. -/
  | approvalExpire (ballot custodian : Nat)
  /-- BALLOT_EXPIRE (R94): A ballot not executed within 3,600 s of proposal becomes EXPIRED. -/
  | ballotExpire (ballot : Nat)
  /-- BALLOT_RECORD_DISCARD (R94): 600 s after a ballot entered a terminal state, its status record is discarded. -/
  | ballotRecordDiscard (ballot : Nat)
  /-- HOLD_OFF_END (R86): A custodian's 600 s hold-off ends and its failure count restarts at 0. -/
  | holdOffEnd (custodian : Nat)
  /-- SLICE_CREATE (R99): Creates a slice with a quota record. -/
  | sliceCreate (b : Barge)
  /-- SLICE_SET_QUOTA (R99): Replaces a slice's quota record within the module-wide sums. -/
  | sliceSetQuota (b : Barge)
  /-- SLICE_BIND (R97): Adds or removes a principal binding, ending the sessions of a removed binding. -/
  | sliceBind (b : Barge)
  /-- SLICE_FREEZE (R101): Freezes a slice without changing its generation. -/
  | sliceFreeze (b : Barge)
  /-- SLICE_THAW (R100): Returns a frozen slice to ACTIVE. -/
  | sliceThaw (b : Barge)
  /-- SLICE_RESET (R102): Advances the slice's generation and starts the reset sequence. -/
  | sliceReset (b : Barge)
  /-- SLICE_REMOVE (R102): Advances the slice's generation and starts the removal sequence. -/
  | sliceRemove (b : Barge)
  /-- SLICE_DRAIN_DONE (R102): Old-generation barges have drained; erasure, entry discard and release follow. -/
  | sliceDrainDone (slice : Nat)
  /-- DRAIN_TIMEOUT (R102): Barges still running 50 ms into a drain end with ABORTED_HOST. -/
  | drainTimeout (d : Drain)
  /-- SLICE_SAVE (R105): Exports one chunk of a frozen slice's migration image. -/
  | sliceSave (b : Barge)
  /-- SLICE_RESTORE (R105): Imports one chunk of a migration image; the final chunk verifies the image and places the keys. -/
  | sliceRestore (b : Barge)
  /-- SLICE_TRANSFER_ABANDON (R105): A save or restore with no chunk for 600 s is abandoned. -/
  | sliceTransferAbandon (slice : Nat)
  /-- SLICE_STATUS (R101): Returns a slice's state. -/
  | sliceStatus (b : Barge)
  /-- SLICE_MAP_READ (R106): Returns a page of the old-to-new handle map after a restore. -/
  | sliceMapRead (b : Barge)
  /-- ANCHOR_ADD (R97): Adds a trust anchor. -/
  | anchorAdd (b : Barge)
  /-- ANCHOR_REMOVE (R98): Removes an anchor and its bindings, ending their sessions. -/
  | anchorRemove (b : Barge)
  /-- KEY_GENERATE (R142): Generates a key into a vault slot, or a KEK blob for classes 1 and 2. -/
  | keyGenerate (b : Barge)
  /-- KEY_IMPORT_WRAPPED (R529): Unwraps an AES-KWP key under a slice KEK into a new slot. -/
  | keyImportWrapped (b : Barge)
  /-- KEY_COMPONENT (R530): Adds one clear component of a key, taking a slot to PENDING or to ACTIVE. -/
  | keyComponent (b : Barge)
  /-- KEY_DELETE (R120): Deletes a key and erases its slot through the sluice. -/
  | keyDelete (b : Barge)
  /-- KEY_ATTR_READ (R142): Returns a slot's attributes, usage and epoch. -/
  | keyAttrRead (b : Barge)
  /-- KEY_ATTR_RESTRICT (R142): Clears one-way bits or sets set-only bits of a key. -/
  | keyAttrRestrict (b : Barge)
  /-- KEY_EXPORT_WRAPPED (R529): Exports an exportable key wrapped under a slice KEK. -/
  | keyExportWrapped (b : Barge)
  /-- KEY_BLOB_READ (R133): Returns a chunk of a hold-resident key's blob. -/
  | keyBlobRead (b : Barge)
  /-- KEY_BLOB_LOAD (R133): Loads a chunk of a hold-resident key's blob; the final chunk is checked against the slot. -/
  | keyBlobLoad (b : Barge)
  /-- KEY_SHRED (R144): Destroys a key and its derivatives and starts the shred sequence. -/
  | keyShred (b : Barge)
  /-- SHRED_DRAIN_DONE (R144): The barges that fetched the shredded keys complete, and erasure follows. -/
  | shredDrainDone (shred : Nat)
  /-- SHRED_CERT_SIGNED (R144): The erasure certificate is signed and becomes readable. -/
  | shredCertSigned (shred : Nat)
  /-- CERT_READ (R145): Returns a chunk of an erasure certificate. -/
  | certRead (b : Barge)
  /-- DOMAIN_BACKUP (R140): Splits DK into sealed Shamir shares. -/
  | domainBackup (b : Barge)
  /-- SHARE_IMPORT_KEY (R141): Returns a one-time signed import key pair for share restoration. -/
  | shareImportKey (b : Barge)
  /-- DOMAIN_SHARE_IMPORT (R141): Accepts one sealed share; at k shares it combines them and installs DK. -/
  | domainShareImport (b : Barge)
  /-- SHARE_WINDOW_EXPIRE (R141): The share collection window or the import key's validity ends. -/
  | shareWindowExpire
  /-- KEY_ATTR_READ_DX6100 (R142): The DX6100 form 0x0380 of KEY_ATTR_READ. -/
  | keyAttrReadDx6100 (b : Barge)
  /-- KEY_DELETE_DX6100 (R142): The DX6100 form 0x0382 of KEY_DELETE. -/
  | keyDeleteDx6100 (b : Barge)
  /-- PENDING_SLOT_EXPIRE (R120): A PENDING slot with no final component for 3,600 s returns to FREE or RETIRED. -/
  | pendingSlotExpire (slot : Nat)
  /-- VAULT_SCRUB_PASS (R125): Every 10 s a scrub pass verifies the tag of every occupied slot. -/
  | vaultScrubPass (guardErrors : List (Nat × Nat))
  /-- VAULT_SLOT_RESTORE (R127): The keeper's restore of a quarantined slot from MRAM or the partner completes or fails. -/
  | vaultSlotRestore (slot : Nat)
  /-- SLOT_FETCH (R127): A towpath slot fetch frame asks the partner for a slot copy. -/
  | slotFetch (frame : Bytes)
  /-- SLOT_REPLY (R127): A towpath slot reply returns the partner's copy of a slot. -/
  | slotReply (frame : Bytes)
  /-- LEASE_WAIT_TIMEOUT (R137): A barge waiting at POLICY for a lease block for 100 µs ends with MIRROR_UNAVAILABLE. -/
  | leaseWaitTimeout (barge : Nat)
  /-- CHART_READ (R204): Returns bytes of a running merged chart section. -/
  | chartRead (b : Barge)
  /-- CHART_STAGE (R198): Stages a chunk of a partial chart; the final chunk validates it. -/
  | chartStage (b : Barge)
  /-- CHART_DISCARD (R198): Discards the staging area. -/
  | chartDiscard (b : Barge)
  /-- CHART_APPLY (R199): Validates the staged chart again, loads changed programs and switches the module to the merged chart. -/
  | chartApply (b : Barge)
  /-- CHART_STATUS (R204): Returns the chart sequence, identity, state, banks and staging. -/
  | chartStatus (b : Barge)
  /-- SETTINGS_STORE (R203): Writes the applied partial charts to the inactive settings bank and commits it. -/
  | settingsStore (b : Barge)
  /-- SETTINGS_READ (R204): Returns raw bytes of a settings bank. -/
  | settingsRead (b : Barge)
  /-- CHART_STATUS_DX6100 (R204): The DX6100 form 0x0980 of CHART_STATUS. -/
  | chartStatusDx6100 (b : Barge)
  /-- STAGING_EXPIRE (R198): A successful staging is discarded 3,600 s after its final chunk. -/
  | stagingExpire
  /-- PROGRAM_BANK_DRAINED (R201): The old program bank empties, and the chart state leaves DRAINING. -/
  | programBankDrained
  /-- CHART_DRAIN_TIMEOUT (R200): 100 ms after a switch, barges still bound to the old bank end with ABORTED_HOST. -/
  | chartDrainTimeout
  /-- ISLAND_CLOCK_SETTLED (R200): A changed island settles at its new clock, and the next island changes or the state returns to STEADY. -/
  | islandClockSettled (island : Nat)
  /-- DK_GENERATE (R224): Generates a data key and returns it wrapped under a per-object key and through the seal port. -/
  | dkGenerate (b : Barge)
  /-- DK_WRAP (R224): Wraps a host-supplied data key under a per-object key. -/
  | dkWrap (b : Barge)
  /-- DK_UNWRAP (R224): Unwraps a wrapped object key and returns the data key through the seal port. -/
  | dkUnwrap (b : Barge)
  /-- DK_REWRAP (R225): Moves a data key to a new bucket, generation or suite inside the module. -/
  | dkRewrap (b : Barge)
  /-- DK_UNWRAP_BULK (R226): Unwraps up to 48 wrapped object keys under one bucket. -/
  | dkUnwrapBulk (b : Barge)
  /-- DK_REWRAP_BULK (R226): Rewraps up to 48 object keys between two buckets. -/
  | dkRewrapBulk (b : Barge)
  /-- BUCKET_CREATE (R228): Creates a bucket KEK under a tenant KEK and returns its blob. -/
  | bucketCreate (b : Barge)
  /-- BUCKET_REPARENT (R229): Rewrites a bucket blob under a new tenant KEK. -/
  | bucketReparent (b : Barge)
  /-- KEK_LOAD (R230): Loads a KEK blob into the cache. -/
  | kekLoad (b : Barge)
  /-- KEK_EVICT (R215): Evicts a cache entry, or marks it when pinned. -/
  | kekEvict (b : Barge)
  /-- KEK_SHRED (R233): Enters a KEK in the shred register and runs the shred sequence. -/
  | kekShred (b : Barge)
  /-- CACHE_LOAD_DONE (R214): A KEK blob load finishes and writes its cache entry, or ends on a shred or generation change. -/
  | cacheLoadDone (barge : Nat)
  /-- PIN_TRANSLATE (R247): Translates a PIN block between formats and keys, with zone or DUKPT sources. -/
  | pinTranslate (b : Barge)
  /-- PIN_TRANSLATE_4 (R248): Translates a format 4 PIN block from one AES key to another. -/
  | pinTranslate4 (b : Barge)
  /-- PIN_VERIFY (R253): Verifies a PIN by the offset or reference block method. -/
  | pinVerify (b : Barge)
  /-- ARQC_VERIFY (R259): Verifies an AES EMV ARQC. -/
  | arqcVerify (b : Barge)
  /-- ARQC_VERIFY_EXT (R260): Verifies an ARQC and forms an ARPC. -/
  | arqcVerifyExt (b : Barge)
  /-- CVV_GENERATE (R257): Generates a card verification value. -/
  | cvvGenerate (b : Barge)
  /-- CVV_VERIFY (R257): Verifies a card verification value. -/
  | cvvVerify (b : Barge)
  /-- MAC_GENERATE (R261): Generates an ISO 9797-1 MAC. -/
  | macGenerate (b : Barge)
  /-- MAC_VERIFY (R261): Verifies an ISO 9797-1 MAC. -/
  | macVerify (b : Barge)
  /-- KB_IMPORT (R266): Imports an X9.143 key block into a new slot. -/
  | kbImport (b : Barge)
  /-- KB_EXPORT (R267): Exports a key as an X9.143 key block. -/
  | kbExport (b : Barge)
  /-- DECTAB_SET (R256): Sets or removes a slice decimalisation table. -/
  | dectabSet (b : Barge)
  /-- PIN_VERIFY_DX6100 (R270): The DX6100 form 0x0580 of PIN_VERIFY. -/
  | pinVerifyDx6100 (b : Barge)
  /-- PIN_TRANSLATE_DX6100 (R249): The DX6100 form 0x0581 of PIN translation. -/
  | pinTranslateDx6100 (b : Barge)
  /-- PIN_TRANSLATE_DUKPT_DX6100 (R270): The DX6100 form 0x0582 of TDES DUKPT PIN translation. -/
  | pinTranslateDukptDx6100 (b : Barge)
  /-- CVV_GENERATE_DX6100 (R270): The DX6100 form 0x0584 of CVV_GENERATE. -/
  | cvvGenerateDx6100 (b : Barge)
  /-- CVV_VERIFY_DX6100 (R270): The DX6100 form 0x0585 of CVV_VERIFY. -/
  | cvvVerifyDx6100 (b : Barge)
  /-- MAC_GENERATE_DX6100 (R270): The DX6100 form 0x0588 of MAC_GENERATE. -/
  | macGenerateDx6100 (b : Barge)
  /-- MAC_VERIFY_DX6100 (R270): The DX6100 form 0x0589 of MAC_VERIFY. -/
  | macVerifyDx6100 (b : Barge)
  /-- ARQC_VERIFY_EXT_DX6100 (R270): The DX6100 form 0x058C of ARQC_VERIFY_EXT. -/
  | arqcVerifyExtDx6100 (b : Barge)
  /-- KB_IMPORT_DX6100 (R270): The DX6100 form 0x0590 of KB_IMPORT. -/
  | kbImportDx6100 (b : Barge)
  /-- KB_EXPORT_DX6100 (R270): The DX6100 form 0x0591 of KB_EXPORT. -/
  | kbExportDx6100 (b : Barge)
  /-- AEAD_SEAL (R294): Seals one chunk of a chunked AEAD message and parks the next context image. -/
  | aeadSeal (b : Barge)
  /-- AEAD_OPEN (R294): Opens one chunk of a chunked AEAD message. -/
  | aeadOpen (b : Barge)
  /-- BNK_CORE_FAULT (R279): A cipher core fault ends the job and removes the core for erase and self-test. -/
  | bnkCoreFault (core : Nat) (cause : EngineCause)
  /-- BNK_CORE_RETURN (R279): A faulted core passes its self-test and returns to service. -/
  | bnkCoreReturn (core : Nat) (pass : Bool)
  /-- SEED_TIMEOUT (R276): A core waiting for a seed for 100 µs ends its job with FAULT_DETECTED. -/
  | seedTimeout (core : Nat)
  /-- PARKED_JOB_EXPIRE (R290): A parked job leaves the table 3,600 s after its last parking. -/
  | parkedJobExpire (job : Nat)
  /-- ECDSA_SIGN (R326): Signs a digest with an EC private key. -/
  | ecdsaSign (b : Barge)
  /-- ECDSA_VERIFY (R326): Verifies an ECDSA signature. -/
  | ecdsaVerify (b : Barge)
  /-- ECDH_DERIVE (R326): Computes an ECDH shared value through the seal port. -/
  | ecdhDerive (b : Barge)
  /-- EDDSA_SIGN (R326): Signs a message with Ed25519 or Ed448. -/
  | eddsaSign (b : Barge)
  /-- EDDSA_VERIFY (R326): Verifies an EdDSA signature. -/
  | eddsaVerify (b : Barge)
  /-- XDH_DERIVE (R326): Computes an X25519 or X448 secret through the seal port. -/
  | xdhDerive (b : Barge)
  /-- PUBKEY_READ (R326): Returns the public key of a private key. -/
  | pubkeyRead (b : Barge)
  /-- RSA_PRIVATE (R326): Performs an RSA private operation in CRT form. -/
  | rsaPrivate (b : Barge)
  /-- RSA_PUBLIC (R326): Performs an RSA public operation. -/
  | rsaPublic (b : Barge)
  /-- MOD_OP (R326): Performs modular add, subtract, multiply or exponentiate. -/
  | modOp (b : Barge)
  /-- KEM_ENCAPS (R326): Performs ML-KEM-768 encapsulation. -/
  | kemEncaps (b : Barge)
  /-- KEM_DECAPS (R326): Performs ML-KEM-768 decapsulation through the seal port. -/
  | kemDecaps (b : Barge)
  /-- MLDSA_SIGN (R326): Signs with ML-DSA-65. -/
  | mldsaSign (b : Barge)
  /-- MLDSA_VERIFY (R326): Verifies an ML-DSA-65 signature. -/
  | mldsaVerify (b : Barge)
  /-- HASH (R326): Computes a digest. -/
  | hash (b : Barge)
  /-- HMAC_GENERATE (R326): Generates an HMAC. -/
  | hmacGenerate (b : Barge)
  /-- HMAC_VERIFY (R326): Verifies an HMAC with a full-length comparison. -/
  | hmacVerify (b : Barge)
  /-- OPBUF_ALLOC (R303): Allocates an operand buffer in the hold. -/
  | opbufAlloc (b : Barge)
  /-- OPBUF_WRITE (R303): Writes bytes into an operand buffer, waiting for any fetch in progress. -/
  | opbufWrite (b : Barge)
  /-- OPBUF_READ (R303): Reads bytes from an operand buffer. -/
  | opbufRead (b : Barge)
  /-- OPBUF_FREE (R303): Frees an operand buffer once any fetch ends. -/
  | opbufFree (b : Barge)
  /-- RSA_PRIVATE_DX6100 (R327): The DX6100 form 0x0680 of RSA_PRIVATE. -/
  | rsaPrivateDx6100 (b : Barge)
  /-- RSA_PUBLIC_DX6100 (R327): The DX6100 form 0x0681 of RSA_PUBLIC. -/
  | rsaPublicDx6100 (b : Barge)
  /-- ECDSA_SIGN_DX6100 (R327): The DX6100 form 0x0682 of ECDSA_SIGN. -/
  | ecdsaSignDx6100 (b : Barge)
  /-- ECDSA_VERIFY_DX6100 (R327): The DX6100 form 0x0683 of ECDSA_VERIFY. -/
  | ecdsaVerifyDx6100 (b : Barge)
  /-- ENGINE_FAULT (R310): A public-key, lattice or hash engine fault ends the job and removes the engine for erase and self-test. -/
  | engineFault (kind : EngineKind) (engine : Nat) (cause : EngineCause)
  /-- ENGINE_RETURN (R310): A faulted engine passes its self-test and returns to service. -/
  | engineReturn (kind : EngineKind) (engine : Nat) (pass : Bool)
  /-- DEVICE_SIGNATURE_DONE (R322): A device LMS signature completes with its verification before release. -/
  | deviceSignatureDone (verified : Bool)
  /-- LMS_TREE_BUILT (R321): A background build of the next LMS tree completes. -/
  | lmsTreeBuilt (level tree : Nat)
  /-- ENT_SOURCE_FAIL (R333): A source health test fails, the pending block is discarded and the source restarts or latches off. -/
  | entSourceFail (source : Nat) (adaptive : Bool)
  /-- SOURCE_RESTART_TIMEOUT (R333): 100 ms after a failure, the source returns to STARTUP. -/
  | sourceRestartTimeout (source : Nat)
  /-- SOURCE_STARTUP_PASS (R333): 4,096 samples pass both health tests, and the source enters RUNNING. -/
  | sourceStartupPass (source : Nat)
  /-- DRBG_RESEED (R335): A DRBG instance reaches its request count or time and reseeds. -/
  | drbgReseed (drbg : Nat)
  /-- DRBG_DRAW_TIMEOUT (R337): A draw on a stalled instance waits 100 µs and ends with FAULT_DETECTED. -/
  | drbgDrawTimeout (barge : Nat)
  /-- GEN_PAIR_FAIL (R337): A generator core fails its test or lockstep comparison, and its pair leaves service. -/
  | genPairFail (core : Nat)
  /-- READY_RECOVERY_DELAY (R338): 1 ms after a source re-enters RUNNING, READY is set again. -/
  | readyRecoveryDelay
  /-- PERIODIC_KAT (R342): A pooled engine or spare runs its hourly known-answer tests. -/
  | periodicKat (kind : EngineKind) (engine : Nat) (pass : Bool)
  /-- HEALTH_REPORT_TICK (R345): A health report is formed on the 1 ms grid. -/
  | healthReportTick
  /-- HEALTH_REPORT_CHANGE (R345): A health report is formed for a changed field, at least 100 µs after the previous one. -/
  | healthReportChange
  /-- TOWPATH_HELLO (R354): A towpath HELLO is checked against the pair record and derives the link keys. -/
  | towpathHello (frame : Bytes)
  /-- TOWPATH_BEAT (R357): A beat frame from the partner arrives. -/
  | towpathBeat (frame : Bytes)
  /-- BEAT_SEND_TIMER (R357): Each side sends a beat every 100 µs while nothing else is sent. -/
  | beatSendTimer
  /-- PARTNER_SILENT (R357): 1 ms after the last authenticated frame, or at PCS loss, the partner is silent. -/
  | partnerSilent (pcsLoss : Bool)
  /-- AUDIT_TIMER (R373): Every 40 ms the pair compares one range of 256 slots by audit frames. -/
  | auditTimer
  /-- AUDIT_FRAME (R373): An audit frame arrives; on a mismatch the standby fetches the range. -/
  | auditFrame (frame : Bytes)
  /-- STANDBY_KAT_TIMER (R373): Every 60 s the standby runs known-answer tests on one pool part. -/
  | standbyKatTimer (pass : Bool)
  /-- SWITCHOVER_FRAME (R372): The standby receives the switchover frame with the final epoch. -/
  | switchoverFrame (frame : Bytes)
  /-- SYNC_DONE (R353): A full sync completes; the joiner becomes STANDBY and the holder PRIMARY. -/
  | syncDone
  /-- WITNESS_BEAT_TIMER (R364): The holder sends a BEAT to its witness every 1 ms. -/
  | witnessBeatTimer
  /-- WITNESS_ANSWER (R364): An ANSWER renews the holder's lease. -/
  | witnessAnswer (m : WitnessMsg)
  /-- LEASE_LAPSE (R364): 3 ms after the last answered BEAT, the holder stops admitting and enters SEEKING. -/
  | leaseLapse
  /-- WITNESS_GRANT (R368): A GRANT in a new term makes the standby begin the take-over fence. -/
  | witnessGrant (m : WitnessMsg)
  /-- WITNESS_DENY (R350): A DENY sends the claiming standby to FENCED. -/
  | witnessDeny (m : WitnessMsg)
  /-- WITNESS_BEAT_RX (R366): A module acting as witness answers a pair member's BEAT. -/
  | witnessBeatRx (m : WitnessMsg)
  /-- WITNESS_CLAIM_RX (R365): A module acting as witness grants, holds or denies a CLAIM. -/
  | witnessClaimRx (m : WitnessMsg)
  /-- WITNESS_RELEASE_RX (R372): A witness receives RELEASE and grants the standby at once in a new term. -/
  | witnessReleaseRx (m : WitnessMsg)
  /-- HEALTH_IN_HIGH (R367): HEALTH_IN held high for 0.5 ms makes the module act as holder in a new term. -/
  | healthInHigh
  /-- HEALTH_IN_LOW (R367): HEALTH_IN going low makes the holder stop within 0.1 ms. -/
  | healthInLow
  /-- FENCE_DONE (R369): Counter reservations and the idempotency index rebuild complete; the new primary opens admission. -/
  | fenceDone
  /-- NO_ENTROPY_SWITCHOVER (R371): After 100 ms with no entropy source and a ready standby, the primary starts a planned switchover. -/
  | noEntropySwitchover
  /-- INTERLINK_HELLO (R376): A signed interlink hello sets up or refreshes a link key. -/
  | interlinkHello (d : Bytes)
  /-- INTERLINK_HELLO_TIMER (R376): Interlink hellos are repeated every 100 ms. -/
  | interlinkHelloTimer
  /-- INTERLINK_FORWARD (R377): The home pair admits a forwarded barge and returns a forward reply. -/
  | interlinkForward (d : Bytes)
  /-- FORWARD_REPLY (R377): The gate receives a forward reply and gathers it under R69. -/
  | forwardReply (d : Bytes)
  /-- FORWARD_TIMEOUT (R378): A forwarded barge without a reply after 100 ms completes with MEMBER_UNREACHABLE. -/
  | forwardTimeout (tag : Nat)
  /-- DIRECTORY_UPDATE (R375): The gate applies a member's basin directory update. -/
  | directoryUpdate (d : Bytes)
  /-- DOMAIN_RECORD (R379): A member applies a domain record in sequence and acknowledges it. -/
  | domainRecord (d : Bytes)
  /-- DOMAIN_ACK (R379): The registrar receives a member's acknowledgement of a domain record. -/
  | domainAck (d : Bytes)
  /-- DOMAIN_PULL (R379): A member asks for records missing from its sequence. -/
  | domainPull (d : Bytes)
  /-- SHARE_CLAIM (R383): The registrar grants the next share unit of a key's ledger. -/
  | shareClaim (d : Bytes)
  /-- SHARE_GRANT (R383): A module receives a share unit and resumes counting barges. -/
  | shareGrant (d : Bytes)
  /-- JOIN_REQUEST (R381): The sponsor checks a joiner's statement and answers with a join grant. -/
  | joinRequest (d : Bytes)
  /-- JOIN_GRANT (R381): The joiner installs DK, domain ID, floor and custodian table. -/
  | joinGrant (d : Bytes)
  /-- INTERLINK_REFUSAL (R386): A refusal carrying a higher floor index makes the sender pull the floor commit. -/
  | interlinkRefusal (d : Bytes)
  /-- ADMISSION_EXPIRE (R381): An open domain admission lapses after 3,600 s. -/
  | admissionExpire (joiner : W64)
  /-- PAIR_STATUS (R389): Returns the pair state, lease, term, epoch and floor. -/
  | pairStatus (b : Barge)
  /-- PAIR_BIND (R352): Binds a partner to the holder; the partner enters SYNCING. -/
  | pairBind (b : Barge)
  /-- PAIR_SWITCHOVER (R372): Moves primacy to a ready standby through drain, final epoch and witness release. -/
  | pairSwitchover (b : Barge)
  /-- PAIR_POLICY (R360): Sets the solo policy. -/
  | pairPolicy (b : Barge)
  /-- WITNESS_SET (R363): Names the pair's witness. -/
  | witnessSet (b : Barge)
  /-- BASIN_CONFIG (R374): Sets the basin ID, gate pair and basin addresses. -/
  | basinConfig (b : Barge)
  /-- BASIN_STATUS (R534): Returns basin membership and gate state. -/
  | basinStatus (b : Barge)
  /-- DOMAIN_STATUS (R534): Returns domain ID, registrar, sequence, members and floor. -/
  | domainStatus (b : Barge)
  /-- DOMAIN_JOIN (R381): Starts the join exchange on the joiner. -/
  | domainJoin (b : Barge)
  /-- DOMAIN_ADMIT (R381): Opens an admission for a named joiner. -/
  | domainAdmit (b : Barge)
  /-- DOMAIN_EXPEL (R384): Expels a module from the domain. -/
  | domainExpel (b : Barge)
  /-- COMMIT_FLOOR (R388): Raises the domain version floor when every member runs at or above it. -/
  | commitFloor (b : Barge)
  /-- SLICE_SPREAD (R382): Makes a slice a spread slice on named pairs. -/
  | sliceSpread (b : Barge)
  /-- KEY_DISTRIBUTE (R382): Copies a scope 1 or 2 key of a spread slice to its hosting pairs. -/
  | keyDistribute (b : Barge)
  /-- DOMAIN_REGISTRAR (R379): Moves the registrar role to another pair. -/
  | domainRegistrar (b : Barge)
  /-- PAIR_STATUS_DX6100 (R389): The DX6100 form 0x0780 of PAIR_STATUS. -/
  | pairStatusDx6100 (b : Barge)
  /-- GATE_REQUEST_GRANT (R414): A queued gating request is granted when the domain's last lease is released. -/
  | gateRequestGrant (domain : Nat)
  /-- LEASE_CEILING (R415): At the lease ceiling, the manager erases, revokes leases, aborts barges and gates the domain. -/
  | leaseCeiling (domain : Nat)
  /-- KEEPER_WATCHDOG_EXPIRE (R418): The keeper watchdog expires and starts a secure restart. -/
  | keeperWatchdogExpire
  /-- SECURE_KERNEL_EXCEPTION (R418): A secure-world core takes an exception in its kernel exception handler and starts a secure restart. -/
  | secureKernelException (core : Nat)
  /-- SECURE_RESTART_COMPLETE (R419): The keeper restarts, HEALTH_OUT resumes and CORE_RESTARTED is raised. -/
  | secureRestartComplete
  /-- RESTART_ESCALATE_TIMEOUT (R420): A restart that has not completed 30 ms after its cause escalates to FULL_RESET. -/
  | restartEscalateTimeout
  /-- NORMAL_WATCHDOG_EXPIRE (R423): The normal-world watchdog expires and restarts the normal-world clusters. -/
  | normalWatchdogExpire
  /-- NORMAL_RESTART_COMPLETE (R423): The normal-world restart completes after re-measurement. -/
  | normalRestartComplete
  /-- LC_STATUS (R445): Returns the life cycle, tokens, slots, root count and SVN. -/
  | lcStatus (b : Barge)
  /-- LC_TRANSITION (R438): Checks a life-cycle transition and hands it to the charter controller. -/
  | lcTransition (b : Barge)
  /-- LC_WRITE_DONE (R439): The charter controller finishes writing intent, token, root zeroisation and commit, and releases the response. -/
  | lcWriteDone
  /-- DELAYED_FULL_RESET (R439): 10 ms after a transition or activation response, a full reset follows. -/
  | delayedFullReset
  /-- FACTORY_TRANSITION (R438): The factory test interface moves a BLANK module to FOUNDRY_TEST. -/
  | factoryTransition
  /-- FW_STAGE (R445): Writes a firmware chunk into the copy not booted from; the final chunk validates the image. -/
  | fwStage (b : Barge)
  /-- FW_ACTIVATE (R445): Writes a boot record preferring the staged copy in trial. -/
  | fwActivate (b : Barge)
  /-- FW_STATUS (R445): Returns the boot copies and their validity. -/
  | fwStatus (b : Barge)
  /-- ATTEST_IDENTITY (R436): Returns the identity statement. -/
  | attestIdentity (b : Barge)
  /-- ATTEST_QUOTE (R437): Signs a quote over the measurements and the health report. -/
  | attestQuote (b : Barge)
  /-- FOUNDRY_CERT_READ (R425): Returns a chunk of the foundry certificate. -/
  | foundryCertRead (b : Barge)
  /-- DBG_CHALLENGE (R448): Returns a fresh debug challenge. -/
  | dbgChallenge (b : Barge)
  /-- DBG_ENABLE (R448): Accepts a debug certificate and sets a debug enable or the secure arm latch. -/
  | dbgEnable (b : Barge)
  /-- DBG_END (R446): Clears the debug enables. -/
  | dbgEnd (b : Barge)
  /-- DBG_READ (R450): Reads through the debug access port, access by access. -/
  | dbgRead (b : Barge)
  /-- DBG_WRITE (R450): Writes through the debug access port, access by access. -/
  | dbgWrite (b : Barge)
  /-- DBG_CORE (R450): Halts, resumes, steps or reads the registers of a core. -/
  | dbgCore (b : Barge)
  /-- DBG_CERT_EXPIRE (R446): A debug enable ends at its certificate's not_after. -/
  | dbgCertExpire
  /-- VENDOR_REVOKE (R445): Burns a vendor key revocation bit under signatures of the other kind. -/
  | vendorRevoke (b : Barge)
  /-- LC_STATUS_DX6100 (R445): The DX6100 form 0x0880 of LC_STATUS. -/
  | lcStatusDx6100 (b : Barge)
  /-- BOOT (R432): On reset release, the boot ROM resolves the ledger, verifies firmware, forms measurements, derives keys and loads
  charts. -/
  | boot
  /-- ROOT_GEN_RETRY (R110): 100 ms after a source health failure, root generation is retried, up to three times. -/
  | rootGenRetry
  /-- START (R513): A cold or warm start runs calibration, hold initialisation, boot, keeper start and self-tests to READY. -/
  | start (t : StartTests)
  /-- SENSOR_ALARM (R452): A sensor or logic alarm is raised, staged and answered at its configured level. -/
  | sensorAlarm (a : AlarmReport)
  /-- HELD_RELEASE (R466): A held start resumes once every zeroising condition has been clear for 1 s. -/
  | heldRelease
  /-- SHADOW_SCAN (R468): Every 1 ms the sentinel compares each register with its shadow. -/
  | shadowScan
  /-- EVIDENCE_COPY (R474): The charter controller copies staged entries to the evidence log and chains them. -/
  | evidenceCopy
  /-- TAMPER_STATUS (R477): Returns the configuration and state of every sensor and alarm. -/
  | tamperStatus (b : Barge)
  /-- TAMPER_CONFIG (R460): Sets response levels of sensors and escalation alarms. -/
  | tamperConfig (b : Barge)
  /-- EVIDENCE_EXPORT (R478): Exports evidence entries with chain values, signed in CUSTODY. -/
  | evidenceExport (b : Barge)
  /-- EVIDENCE_MARK (R477): Raises the export mark. -/
  | evidenceMark (b : Barge)
  /-- THERMAL_QUARTER_CLOCK (R511): 100 ms into a thermal emergency above 110 °C, the islands drop to a quarter of their clocks. -/
  | thermalQuarterClock
  /-- THERMAL_END (R511): After 1 s within limits, the emergency ends and the islands return to their clocks. -/
  | thermalEnd
  /-- RECORDER_WRITE (R486): The recorder drains one queued event into the ring. -/
  | recorderWrite
  /-- REC_READ (R488): Returns a snapshot of recorder records. -/
  | recRead (b : Barge)
  /-- REC_CLEAR (R489): Sets the recorder's clear floor. -/
  | recClear (b : Barge)
  /-- HEALTH_READ (R499): Returns the latest health report. -/
  | healthRead (b : Barge)
  /-- COUNTER_READ (R499): Returns the counters of one performance counter site. -/
  | counterRead (b : Barge)
  /-- TIME_STATUS (R499): Returns the timestamp, monotonic clock and time status. -/
  | timeStatus (b : Barge)
  /-- TIME_SET (R496): Sets the real-time clock directly when invalid, or under a ballot. -/
  | timeSet (b : Barge)
  /-- COUNTER_WRAP (R494): A programmable counter wraps and interrupts or raises CNT_OVF. -/
  | counterWrap (block site counter : Nat)
  /-- TIME_LEAP (R497): 1,000 s before a flagged leap second, the clock starts running slow or fast. -/
  | timeLeap
  /-- INPUT_QUALIFIED (R501): The input has stayed above the threshold for 20 ms with SHORT_L low, and is ramped in. -/
  | inputQualified (millivolts : Nat)
  /-- INPUT_OUTAGE (R502): The input falls below the outage threshold or exceeds overvoltage, and the store carries the bus. -/
  | inputOutage (exceeds : Bool)
  /-- OUTAGE_TIMEOUT (R502): An outage lasting beyond 1 ms, or the store below 10.5 V, starts the power-fail shutdown. -/
  | outageTimeout
  /-- INPUT_LOSS_TRIP (R503): Input current below 50 mA for 100 µs opens the switch, connects the discharge and starts shutdown. -/
  | inputLossTrip
  /-- DISCHARGE_END (R503): The active discharge disconnects below 5 V or after 50 ms. -/
  | dischargeEnd
  /-- HOLDUP_THRESHOLD (R515): The hold-up store crosses 11.5 V or 10.5 V, setting or clearing HOLDUP_OK and READY. -/
  | holdupThreshold (millivolts : Nat)
  /-- SHORT_L_BREAK (R520): SHORT_L high for 10 µs starts the power-fail shutdown and the discharge. -/
  | shortLBreak
  /-- POWER_STATE_EVAL (R508): At a known event or when the last barge completes, the manager chooses the power state. -/
  | powerStateEval
  /-- CAGE_INSERT (R521): ModPrsL asserts on a cage, and its power-on is scheduled 100 ms later. -/
  | cageInsert (cage : Nat)
  /-- CAGE_POWER_ON (R521): The cage feed is switched on, the power class read and LPMode held if over budget. -/
  | cagePowerOn (cage milliwatts : Nat) (active : Bool)
  /-- CAGE_INTERRUPT (R521): An IntL assertion makes the module re-read the device status. -/
  | cageInterrupt (cage status : Nat)
  /-- PMBUS_READ (R522): A PMBus read command returns telemetry. -/
  | pmbusRead (command : Nat)
  /-- PMBUS_WRITE (R522): A PMBus write has its data refused and sets CML. -/
  | pmbusWrite (command : Nat) (data : Bytes)
  /-- TOWPATH_LINK_UP (R354): The towpath cage completes Clause 136 training and its PCS aligns, and the module sends its HELLO to
  the partner. -/
  | towpathLinkUp
  /-- DETECTOR_DISAGREEMENT (R454): One detector of a non-zeroising sensor reports, and the sensor's bound passes without the other,
  so a DETECTOR_FAULT entry is staged at NOTE. -/
  | detectorDisagreement (code : Nat) (detectorB : Bool)
  /-- OUTAGE_END (R502): The input returns within range during an outage of at most 1 ms, the input switch closes again and DIP or
  OVERVOLT is set. -/
  | outageEnd (millivolts : Nat)
  /-- ISLAND_RELEASE (R281): An island reset of CI_BANK, CI_PKE, CI_LAT or CI_HASH finishes its self-test, and the island is
  released together with the barges held at the fabric. -/
  | islandRelease (island : Nat)
  /-- WITNESS_LEASE_EXPIRY (R365): On a module acting as kind 1 witness, a pair holder's lease expires on the witness's clock, and a
  held CLAIM is granted or denied. -/
  | witnessLeaseExpiry (pair : W64)
  /-- BLOCK_WAKE (R33): A block put down by a power state finishes waking after the state's wake time, and the accesses held at the
  fabric proceed. -/
  | blockWake (domain : Nat)
  /-- PTP_LOCK_LOST (R82): A host port loses its PTP lock when its timeTransmitter falls silent, so WHF_PTP_LOCK is deasserted and
  DISCIPLINED is cleared. -/
  | ptpLockLost (cage : Nat)
  /-- LMS_BUCKET_TOKEN (R323): The device LMS signer's bucket gains a token at 200 per second, and the oldest waiting signature
  request proceeds. -/
  | lmsBucketToken
  deriving DecidableEq, Repr

end Sys2Proof
end

