-- ==== Sys2Proof/Machine/Bytes.lean ====
section
/-! DEFINITION. Byte strings, bit fields and keyed tables: the byte order of R1, the bit ranges of R2
and the sparse maps that hold the state. -/

namespace Sys2Proof

/-- A number as n bytes, most significant first (R1). -/
def be (n v : Nat) : Bytes :=
  (List.range n).map fun i => BitVec.ofNat 8 (v / 256 ^ (n - 1 - i))

/-- The number a byte string holds, most significant byte first (R1). -/
def num (bs : Bytes) : Nat := bs.foldl (fun a b => a * 256 + b.toNat) 0

/-- n zero bytes. -/
def zeros (n : Nat) : Bytes := List.replicate n 0

/-- len bytes from offset off. -/
def sl (bs : Bytes) (off len : Nat) : Bytes := (bs.drop off).take len

/-- The big-endian field of len bytes at offset off. -/
def fld (bs : Bytes) (off len : Nat) : Nat := num (sl bs off len)

/-- Left-aligned and zero-filled, or cut, to n bytes. -/
def fit (n : Nat) (bs : Bytes) : Bytes := (bs ++ zeros (n - bs.length)).take n

/-- n bytes, those past the end zero: byte by byte, so that its length is plain. -/
def exact (n : Nat) (bs : Bytes) : Bytes := (List.range n).map fun i => bs.getD i 0

/-- Every byte is zero. -/
def allZero (bs : Bytes) : Bool := bs.all (· == 0)

/-- Padded with zero bytes to a multiple of four (R66, R68). -/
def pad4 (bs : Bytes) : Bytes := bs ++ zeros ((4 - bs.length % 4) % 4)

/-- Bytes a field of n bytes takes with its padding to a multiple of four. -/
def padded (n : Nat) : Nat := (n + 3) / 4 * 4

/-- Bit range [hi:lo] of a number (R2). -/
def bits (v hi lo : Nat) : Nat := v / 2 ^ lo % 2 ^ (hi - lo + 1)

/-- A flag at bit i. -/
def flag (b : Bool) (i : Nat) : Nat := if b then 2 ^ i else 0

/-- A Bool as 0 or 1. -/
def bit01 (b : Bool) : Nat := if b then 1 else 0

/-- A count held at its largest value once it would pass it. -/
def sat (max v : Nat) : Nat := min max v

/-- ASCII bytes of a label, without a terminator (R112). -/
def ascii (s : String) : Bytes := s.toList.map fun c => BitVec.ofNat 8 c.toNat

/-- Byte-wise XOR, to the shorter length. -/
def xorBytes (a b : Bytes) : Bytes := List.zipWith (· ^^^ ·) a b

/-- Byte strings one after another, each behind its length (log entry 15). -/
def packFields (fs : List Bytes) : Bytes := fs.flatMap fun f => be 4 f.length ++ f

/-- At most n byte strings, each behind its length. -/
def unpackFields : Nat → Bytes → List Bytes
  | 0, _ => []
  | n + 1, bs => if bs.length < 4 then [] else sl bs 4 (fld bs 0 4) :: unpackFields n (bs.drop (4 + fld bs 0 4))

/-- A byte string in pieces of w bytes, the last one shorter where it must be. -/
def pieces (w : Nat) (bs : Bytes) : List Bytes := (List.range ((bs.length + w - 1) / w)).map fun i => sl bs (w * i) w

/-- Replace len bytes at offset off, extending with zeros when the string is shorter. -/
def patch (bs : Bytes) (off : Nat) (new : Bytes) : Bytes :=
  fit off bs ++ new ++ bs.drop (off + new.length)

/-- The entry a table lists for a key. -/
def Map.find {α : Type} (m : Map α) (k : Nat) : Option α :=
  match m with
  | [] => none
  | (k', v) :: t => if k' = k then some v else Map.find t k

/-- The value at a key, the default where none is listed. -/
def Map.at {α : Type} (m : Map α) (d : α) (k : Nat) : α := (Map.find m k).getD d

/-- Set a key, keeping the keys strictly rising. -/
def Map.put {α : Type} (m : Map α) (k : Nat) (v : α) : Map α :=
  match m with
  | [] => [(k, v)]
  | (k', v') :: t =>
    if k < k' then (k, v) :: (k', v') :: t
    else if k = k' then (k, v) :: t
    else (k', v') :: Map.put t k v

/-- Remove a key. -/
def Map.del {α : Type} (m : Map α) (k : Nat) : Map α := m.filter fun e => e.1 != k

/-- Change the value at a key, starting from the default where none is listed. -/
def Map.upd {α : Type} (m : Map α) (d : α) (k : Nat) (f : α → α) : Map α :=
  Map.put m k (f (Map.at m d k))

/-- Change a listed value and leave an unlisted key alone. -/
def Map.mod {α : Type} (m : Map α) (k : Nat) (f : α → α) : Map α :=
  match Map.find m k with
  | some v => Map.put m k (f v)
  | none => m

/-- The keys listed. -/
def Map.keys {α : Type} (m : Map α) : List Nat := m.map (·.1)

/-- The values listed. -/
def Map.vals {α : Type} (m : Map α) : List α := m.map (·.2)

/-- The table's keys rise strictly. -/
def Map.sorted {α : Type} : Map α → Bool
  | [] => true
  | [_] => true
  | (k, _) :: (k', v') :: t => decide (k < k') && Map.sorted ((k', v') :: t)

/-- The smallest number from a that a list does not hold, within n tries. -/
def firstFree (used : List Nat) (a : Nat) : Nat → Nat
  | 0 => a
  | n + 1 => if used.contains a then firstFree used (a + 1) n else a

/-! ## Guarded bytes (R8) -/

/-- The XOR of bits i, i + 2, i + 4 and i + 6 of a byte. -/
def everySecond (b : Byte) (i : Nat) : Bool :=
  ((b.getLsbD i ^^ b.getLsbD (i + 2)) ^^ b.getLsbD (i + 4)) ^^ b.getLsbD (i + 6)

/-- The guarded byte of a data byte: the data, the XOR of its even bits and the complement of the XOR of its odd bits. -/
def guarded (b : Byte) : BitVec 10 :=
  (BitVec.ofBool (!everySecond b 1) ++ BitVec.ofBool (everySecond b 0)) ++ b

/-- A 10-bit word is a guarded byte; any other is a guard error, which the rows report by number. -/
def guardHolds (w : BitVec 10) : Bool := guarded (w.extractLsb' 0 8) == w

end Sys2Proof
end

