-- ==== Sys2Proof/Config.lean ====
section
/-! DEFINITION. What the spec leaves open: the free values, and the cryptographic primitives that the spec names by their own
standards and does not define (log entries 2 and 3). None has a body, so no proof can rest on a
value of one. -/

namespace Sys2Proof.Config

/-! ## Free values -/

/-- A fresh random value: draw number and length in bytes (R334). -/
opaque random : Nat → Nat → Bytes
/-- A free natural number, for a value the spec leaves open. -/
opaque freeNat : Nat → Nat
/-- A free choice, for an outcome the spec leaves open. -/
opaque freeBool : Nat → Bool

/-- The CRC-32 of reservation and boot records, whose polynomial the spec does not give (R138, R430). -/
opaque crc32 : Bytes → Nat

/-- What keeps the ballot IDs of a domain's pairs and of their modules apart: serving, and the pair or module ID (R90; log entry 47). -/
opaque ballotSpace : Bool → BitVec 64 → BitVec 15

/-- First hold page of the operand buffers, sixteen pages each, whose place the spec does not give (R42, R303; log entry 37). -/
opaque bufferBase : Nat

/-- Hold address of the staging buffer of a flight's context, whose place the spec does not give (R302; log entry 37). -/
opaque stagingPlace : Nat → Nat → Nat

/-- Hold address of the blob of a slot's key, whose place the spec does not give (R302; log entry 37). -/
opaque blobPlace : Nat → Nat

/-- The link-local IPv6 address of a host port, whose interface identifier the spec does not give (R190). -/
opaque linkLocal : Nat → Bytes

/-! ## Hash functions and MACs -/

/-- SHA-384 (FIPS 180-4). -/
opaque sha384 : Bytes → Bytes
/-- Hash algorithm a of R324 over a message. -/
opaque hash : Nat → Bytes → Bytes
/-- HMAC over hash algorithm a of R324: key, message. -/
opaque hmac : Nat → Bytes → Bytes → Bytes
/-- AES-CMAC: key, message (SP 800-38B). -/
opaque aesCmac : Bytes → Bytes → Bytes
/-- ISO 9797-1 MAC: algorithm, padding method, cipher is AES, key, message (R261). -/
opaque isoMac : Nat → Nat → Bool → Bytes → Bytes → Bytes

/-! ## Ciphers -/

/-- One AES block: key, block. -/
opaque aesEnc : Bytes → Bytes → Bytes
/-- One AES block, inverse: key, block. -/
opaque aesDec : Bytes → Bytes → Bytes
/-- One TDES block: key of 16 or 24 bytes, block. -/
opaque tdesEnc : Bytes → Bytes → Bytes
/-- One TDES block, inverse. -/
opaque tdesDec : Bytes → Bytes → Bytes
/-- One single-DES block: key of 8 bytes, block. -/
opaque desEnc : Bytes → Bytes → Bytes
/-- The round keys of an AES or TDES key, one after another (FIPS 197, SP 800-67). -/
opaque roundKeys : Bytes → Bytes
/-- AES-KWP wrap: key, plaintext (SP 800-38F). -/
opaque kwpWrap : Bytes → Bytes → Bytes
/-- AES-KWP unwrap; none when the integrity check fails. -/
opaque kwpUnwrap : Bytes → Bytes → Option Bytes
/-- AES-256-GCM seal: key, nonce, AAD, plaintext; answers ciphertext then tag. -/
opaque gcmSeal : Bytes → Bytes → Bytes → Bytes → Bytes
/-- AES-256-GCM open: key, nonce, AAD, ciphertext with tag; none when the tag is wrong. -/
opaque gcmOpen : Bytes → Bytes → Bytes → Bytes → Option Bytes
/-- AES-256-GCM-SIV seal (RFC 8452). -/
opaque sivSeal : Bytes → Bytes → Bytes → Bytes → Bytes
/-- AES-256-GCM-SIV open. -/
opaque sivOpen : Bytes → Bytes → Bytes → Bytes → Option Bytes

/-! ## Datapaths of the cipher bank, which a compatible part may form in its own way (R274 to R277; log entry 42) -/

/-- Output of a local generator: state, bytes (R276). -/
opaque localOut : Bytes → Nat → Bytes
/-- State of a local generator after an output: state, bytes. -/
opaque localNext : Bytes → Nat → Bytes
/-- State of a local generator after a seed: state, seed. -/
opaque localSeed : Bytes → Bytes → Bytes
/-- Mask of the round keys that the shared key schedule forms: length, randomness, which of the two. -/
opaque scheduleMask : Nat → Bytes → Bool → Bytes
/-- One slot of a masked core in shared form: slot, shares of the round keys, shares of the state, randomness, which share (R275). -/
opaque sharedSlot : Nat → List Bytes → List Bytes → Bytes → Nat → Bytes
/-- The block that the mode of a command's job computes on: opcode, payload, key (R277). -/
opaque modeBlock : Nat → Bytes → Bytes → Bytes
/-- One block operation of a core: key, block (R272). -/
opaque cipherBlock : Bytes → Bytes → Bytes
/-- Fields 16 to 111 of a GCM context: key, nonce, AAD and the bytes processed (R287). -/
opaque gcmContext : Bytes → Bytes → Bytes → Bytes → Bytes

/-! ## Payment schemes named by their standards -/

/-- ANSI X9.24-1 TDES DUKPT PIN key: BDK, KSN (R250). -/
opaque dukptTdes : Bytes → Bytes → Bytes
/-- ANSI X9.24-3 AES DUKPT PIN working key: BDK, KSN (R251). -/
opaque dukptAes : Bytes → Bytes → Bytes
/-- EMV ICC master key: scheme, IMK, PAN digits and sequence number right-aligned in 9 BCD bytes (R258). -/
opaque emvMaster : Nat → Bytes → Bytes → Bytes
/-- EMV common session key: scheme, ICC master key, ATC (R258). -/
opaque emvSession : Nat → Bytes → Bytes → Bytes
/-- X9.143 key block form: KBPK, header with its optional blocks and without its length, and key; answers the characters after the
header, the enciphered key and the MAC (R263). -/
opaque keyBlockWrap : Bytes → Bytes → Bytes → Bytes
/-- X9.143 key block opening: KBPK, block; none when its MAC fails (R263). -/
opaque keyBlockUnwrap : Bytes → Bytes → Option Bytes

/-! ## Public-key, lattice and signature functions -/

/-- Does a signature verify: scheme (R302 function code), domain, public key, message, signature. -/
opaque sigVerify : Nat → Nat → Bytes → Bytes → Bytes → Bool
/-- A signature: scheme, domain, private key, message, randomness. -/
opaque sigSign : Nat → Nat → Bytes → Bytes → Nat → Bytes
/-- The public key of a private key: key type, private key. -/
opaque publicOf : Nat → Bytes → Bytes
/-- A fresh private key: key type, modulus bits, randomness. -/
opaque newPrivate : Nat → Nat → Nat → Bytes
/-- Shared value of ECDH, X25519 or X448: domain, private key, peer value. -/
opaque agree : Nat → Bytes → Bytes → Bytes
/-- ML-KEM-768 encapsulation: encapsulation key, randomness; ciphertext and shared secret. -/
opaque kemEncaps : Bytes → Nat → Bytes × Bytes
/-- ML-KEM-768 decapsulation: decapsulation key, ciphertext (R315, implicit rejection included). -/
opaque kemDecaps : Bytes → Bytes → Bytes
/-- Does an encapsulation key pass the FIPS 203 modulus check (R305). -/
opaque kemKeyOk : Bytes → Bool
/-- Does an affine point lie on its curve: domain, point field (R305). -/
opaque onCurve : Nat → Bytes → Bool
/-- Has a point field a coordinate at or above p: domain, point (R305). -/
opaque coordRange : Nat → Bytes → Bool
/-- Order of the curve of a domain (R305, R306). -/
opaque curveOrder : Nat → Nat
/-- RSA private operation in CRT form: key, base (R326). -/
opaque rsaPrivate : Bytes → Bytes → Bytes
/-- SHA-384 digest of the identity key that the module with an ID has in its statement (R352, R436). -/
opaque identityDigest : Nat → Bytes
/-- Does a signature verify under the attestation key of the module with an ID: ID, message, signature (R354, R376). -/
opaque attested : Nat → Bytes → Bytes → Bool
/-- Does an endorsement of a module verify under the foundry key that its foundry certificate names: module ID, message,
signature (R381, R436). -/
opaque endorsed : Nat → Bytes → Bytes → Bool
/-- Does an X.509 chain verify against an anchor: chain, anchor (R65). -/
opaque chainOk : Bytes → Bytes → Bool
/-- Is a DER string an X.509 CA certificate with a P-384 key (R97). -/
opaque caCertificate : Bytes → Bool
/-- Subject Name's DER of a chain's leaf certificate (R97). -/
opaque leafSubject : Bytes → Bytes
/-- Public key of a chain's leaf certificate. -/
opaque leafKey : Bytes → Bytes
/-- The certificate chain that HELLO_M carries for the session key, leaf first (R62), from the identity
statement. -/
opaque moduleChain : Bytes → Bytes
/-- First application traffic secret of a TLS 1.3 transcript, of the module for true, else of the client (R78). -/
opaque tlsSecret : Bytes → Bool → Bytes
/-- The MAC that makes a RETRY cookie: source address and port, time (R64). -/
opaque cookieMac : Bytes → Nat → Bytes
/-- LMS public key of a tree from its SEED and I, 56 bytes (R321). -/
opaque lmsPublic : Bytes → Bytes
/-- LMS signature of a tree, 1,452 bytes: SEED and I, leaf, randomiser, message (RFC 8554, R320). -/
opaque lmsSign : Bytes → Nat → Bytes → Bytes → Bytes
/-- Exponent that a PMBus command's LINEAR11 value carries, by command code (R522; log entry 36). -/
opaque linearExp : Nat → Int

/-- Shamir share i of a secret: secret, threshold, randomness, index (R140). -/
opaque shamirShare : Bytes → Nat → Nat → Nat → Bytes
/-- The secret that a set of shares combines to (R141). -/
opaque shamirCombine : List (Nat × Bytes) → Bytes

/-- Does a vendor signature verify under the vendor key with a digest: HSS or ECDSA, key digest, message,
signature (R178, R429, R445). -/
opaque vendorVerify : Bool → Bytes → Bytes → Bytes → Bool

/-! ## Lock programs: the spec gives the operation and argument of a step word no encoding but the core kind (R156 to R158, R169,
R182; log entry 29) -/

/-- Time in ns of the engine job that a step of a program record runs, key load and set-up included: record, step, at its maximum or
typical, payload bytes. -/
opaque jobTime : Bytes → Nat → Bool → Nat → Nat
/-- Does a step of a program record mutate a slot, the slot state, the quorum state or the slice state. -/
opaque stepMutates : Bytes → Nat → Bool
/-- Does a step of a program record hand the barge to a world. -/
opaque stepHandsOver : Bytes → Nat → Bool
/-- Does a step of a program record fetch a hold-resident key or reach the hold otherwise. -/
opaque stepHold : Bytes → Nat → Bool
/-- Key classes that a CIPHER step of a program record can fetch (R123, R182). -/
opaque stepClasses : Bytes → Nat → List Nat
/-- Does the pairwise consistency test of a generated key of a type pass, at a draw (R341). -/
opaque pairwiseOk : Nat → Bytes → Nat → Bool
/-- Does a program record draw from the flight DRBG. -/
opaque programDraws : Bytes → Bool
/-- Does a lock program raise its exception for a request: record, empty for a default program, opcode, payload (R36). -/
opaque programRaises : Bytes → Nat → Bytes → Bool
/-- Charge of a default program for an operation whose engine time the spec states as a formula or not at all, by opcode and request
payload (R304, R328; log entry 29). -/
opaque defaultCharge : Nat → Bytes → Nat

end Sys2Proof.Config
end

