-- ==== Sys2Proof/Machine/State.lean ====
section
/-! DEFINITION. The state of the block as plain data: every register, queue, counter, mode and pin the
spec names, with its width, the rule that names it and its reset value. -/

namespace Sys2Proof.Machine

/-- A barge whose response a later command releases (R102, R144, R323, R372, R439). -/
structure Waiter where
  /-- Session. W 64. R69. -/
  session : Nat
  /-- Request packet number. W 64. R69. -/
  pn : Nat
  /-- Opcode. W 16. R68. -/
  opcode : Nat
  /-- Class. W 2. R68. -/
  cls : Nat
  /-- Request ID. W 64. R68. -/
  request : W64
  /-- Idempotency entry: slice, generation and key, 0 for none. W -. R72. -/
  idem : Nat × W32 × W64
  /-- Bytes the payload of a DONE follows, those of BALLOT_EXECUTE. W -. R96. -/
  head : Bytes := []
  deriving DecidableEq, Repr

/-! ## Wharf: links, sessions, handshakes, idempotency (chapters 2 and 16 of the spec) -/

/-- One cage of the wharf (R56). Entries: three, cages 0 to 2. -/
structure Link where
  /-- WHF_LINKCFG without RESET_PCS. W 32. R56. Reset 0x0BF1 on cages 0 and 1, 0x0022 on cage 2 [spec] -/
  cfg : W32
  /-- WHF_LINKSTAT UP. W 1. R56. Reset false [spec] -/
  up : Bool := false
  /-- WHF_LINKSTAT AN_DONE. W 1. R56. Reset false [spec] -/
  anDone : Bool := false
  /-- WHF_LINKSTAT TRAIN_FAIL, W1C. W 1. R56. Reset false [spec] -/
  trainFail : Bool := false
  /-- WHF_LINKSTAT FEC. W 2. R56. Reset 0 [spec] -/
  fec : Nat := 0
  /-- WHF_LINKSTAT MODE. W 3. R56. Reset 0 [spec] -/
  mode : Nat := 0
  /-- WHF_FECCORR. W 32. R56. Reset 0 [spec] -/
  fecCorr : W32 := 0
  /-- WHF_FECUNCORR. W 32. R56. Reset 0 [spec] -/
  fecUncorr : W32 := 0
  /-- WHF_DROPFRAME. W 32. R56. Reset 0 [spec] -/
  dropFrame : W32 := 0
  /-- WHF_DROPAUTH. W 32. R56. Reset 0 [spec] -/
  dropAuth : W32 := 0
  /-- WHF_DROPREPLAY. W 32. R56. Reset 0 [spec] -/
  dropReplay : W32 := 0
  /-- When auto-negotiation restarts after a failure, in ns of the monotonic clock. W 64. R48. Reset none [spec] -/
  anRestart : Option Nat := none
  /-- Echo replies sent in the present second. W 10. R53. Reset 0 [DC 4] -/
  echoes : Nat := 0
  /-- Second that `echoes` counts. W 64. R53. Reset 0 [DC 4] -/
  echoSecond : Nat := 0
  /-- RESET_HINTs sent in the present second. W 7. R77. Reset 0 [DC 4] -/
  hints : Nat := 0
  /-- Second that `hints` counts. W 64. R77. Reset 0 [DC 4] -/
  hintSecond : Nat := 0
  /-- packet_number of the last BEACON on this port. W 64. R81. Reset 0 [spec] -/
  beaconPn : Nat := 0
  /-- When the next BEACON of this port is due, in ns of the monotonic clock. W 64. R81. Reset 0 [DC 4] -/
  beaconAt : Nat := 0
  deriving DecidableEq, Repr

/-- Traffic key of one direction of a session (R61). -/
structure TrafficKey where
  /-- Traffic secret. W 384. R62. -/
  secret : Bytes
  /-- Key phase bit. W 1. R61. -/
  phase : Bool := false
  /-- Monotonic time the key came into use. W 64. R61. -/
  since : Nat
  /-- Datagrams under this key. W 31. R61. -/
  count : Nat := 0
  /-- Previous receive secret and the time it is discarded. W 448. R61. -/
  prev : Option (Bytes × Nat) := none
  /-- Datagrams under the previous receive secret. W 31. R61. -/
  prevCount : Nat := 0
  deriving DecidableEq, Repr

/-- One host session, FGL-1, FGL-2 or FGL-3 (R74). -/
structure Session where
  /-- FGL generation, 1 to 3. W 2. R526. -/
  fgl : Nat
  /-- Slice bound to the session. W 12. R65. -/
  slice : Nat
  /-- Slice generation at binding. W 32. R62. -/
  generation : W32
  /-- Anchor the session was authenticated through. W 6. R98. -/
  anchor : Nat
  /-- Principal ID. W 128. R97. -/
  principal : Bytes
  /-- limit_agreed, 0 for FGL-1 and FGL-2. W 16. R62. -/
  limit : Nat
  /-- Cage last reached through. W 2. R56. -/
  cage : Nat
  /-- Source address and port of the last authenticated datagram. W 144. R69. -/
  source : Bytes
  /-- Monotonic time of the last authenticated host datagram. W 64. R75. -/
  lastHeard : Nat
  /-- Idle time in seconds that its last datagram set. W 12. R200. -/
  idle : Nat := 60
  /-- Host to module key; of an FGL-2 connection its TLS traffic secret, none for FGL-1. W -. R61. -/
  recv : TrafficKey
  /-- Module to host key; of an FGL-2 connection its TLS traffic secret, none for FGL-1. W -. R61. -/
  send : TrafficKey
  /-- Packet number of the last datagram sent. W 64. R57. -/
  sendPn : Nat := 0
  /-- Highest authenticated packet number. W 64. R60. -/
  highest : Nat := 0
  /-- Authenticated packet numbers still inside the window of 1,024. W 1024. R60. -/
  seen : List Nat := []
  /-- Has the host sent a datagram under the module's present send phase's epoch. W 1. R61. -/
  heardSinceFlip : Bool := true
  /-- Barges or requests in progress, by request ID and idempotency_key. W -. R71. -/
  inProgress : List (W64 × W64) := []
  /-- FGL-1 requests held beyond sixteen. W -. R79. -/
  held : List Bytes := []
  /-- FGL-1 requests taken so far, which numbers them: two may carry one sequence. W -. R79. -/
  requests : Nat := 0
  /-- FGL-1 requests outstanding, by number, in request order. W -. R79. -/
  order : List Nat := []
  /-- FGL-1 responses complete but out of order, by request number. W -. R79. -/
  ready : List (Nat × Bytes) := []
  deriving DecidableEq, Repr

/-- A half-open FGL-3 handshake (R62). -/
structure HalfOpen where
  /-- Cage of the HELLO_C. W 2. R62. -/
  cage : Nat
  /-- Source address and port. W 144. R64. -/
  source : Bytes
  /-- limit_agreed. W 16. R62. -/
  limit : Nat
  /-- hs of the key schedule. W 384. R62. -/
  hs : Bytes
  /-- c_hs. W 384. R62. -/
  cHs : Bytes
  /-- m_hs. W 384. R62. -/
  mHs : Bytes
  /-- th_3 followed by module_finished, the stem of th_4. W 768. R62. -/
  stem : Bytes
  /-- When the handshake is discarded. W 64. R75. -/
  deadline : Nat
  deriving DecidableEq, Repr

/-- One idempotency entry (R72). -/
structure IdemEntry where
  /-- Opcode of the original; an IDEM record carries none. W 16. R72. -/
  opcode : Option Nat
  /-- SHA-384 of the original's payload. W 384. R72. -/
  digest : Bytes
  /-- Stored status and payload, none while the original is in progress. W -. R72. -/
  result : Option (W16 × Bytes)
  /-- Monotonic time at which the entry is discarded. W 64. R72. -/
  expiry : Nat
  /-- The entry came from or went to the partner. W 1. R73. -/
  mirrored : Bool := false
  deriving DecidableEq, Repr

/-- Responses gathered for one request datagram (R69). -/
structure Gather where
  /-- Barges of the datagram not completed. W 6. R69. -/
  outstanding : Nat
  /-- Completed response records not yet sent, without what passes the seal port. W -. R69. -/
  records : List Bytes := []
  /-- What each of those records takes over the seal port: offset and bytes, in the GCM pipeline's key port. W -. R217. -/
  seals : List (List (Nat × Bytes)) := []
  /-- When the oldest pending response completed. W 64. R69. -/
  oldest : Nat := 0
  /-- Source address and port the responses go to. W 144. R69. -/
  source : Bytes := []
  /-- Cage the request entered by. W 2. R170. -/
  cage : Nat := 0
  deriving DecidableEq, Repr

/-- One PTP clock dataset seen on a port (R82). -/
structure PtpPort where
  /-- Announced time source quality, lower is better. W 128. R82. Reset none [DC 4] -/
  best : Option (List Nat) := none
  /-- Identity of the timeTransmitter. W 80. R82. Reset empty [DC 4] -/
  master : Bytes := []
  /-- PTP lock of the port. W 1. R82. Reset false [DC 4] -/
  locked : Bool := false
  /-- Pending two-step Sync: sequence and ingress time. W -. R82. Reset none [DC 4] -/
  sync : Option (Nat × Nat) := none
  /-- Path delay in units of 2^-24 s. W 32. R82. Reset 0 [DC 4] -/
  delay : Int := 0
  /-- Origin and ingress time of the last Sync measured. W 128. R82. Reset none [DC 4] -/
  last : Option (Nat × Nat) := none
  /-- Egress time of the delay request in progress. W 80. R82. Reset none [DC 4] -/
  req : Option (Nat × Nat) := none
  deriving DecidableEq, Repr

/-- The wharf. -/
structure Wharf where
  /-- The three cages. W -. R46. Reset three links at their reset values [spec] -/
  links : Map Link := [(0, { cfg := 0xBF1 }), (1, { cfg := 0xBF1 }), (2, { cfg := 0x22 })]
  /-- Sessions by session number. W -. R74. Reset empty [spec] -/
  sessions : Map Session := []
  /-- Half-open handshakes by session_id. W -. R64. Reset empty [spec] -/
  halfOpen : Map HalfOpen := []
  /-- Number the next TCP session receives; FGL-1 and FGL-2 sessions report session_id 0. W 64. R74. Reset 2^64 [DC 9] -/
  nextTcp : Nat := 2 ^ 64
  /-- Idempotency table: slice, generation, key and entry. W -. R72. Reset empty [spec] -/
  idem : List ((Nat × W32 × W64) × IdemEntry) := []
  /-- Responses gathered, by session and request packet number. W -. R69. Reset empty [spec] -/
  gathers : List ((Nat × Nat) × Gather) := []
  /-- Handshakes completed in the present second. W 13. R62. Reset 0 [DC 4] -/
  handshakes : Nat := 0
  /-- Second that `handshakes` counts. W 64. R62. Reset 0 [DC 4] -/
  handshakeSecond : Nat := 0
  /-- Frames accepted and handed on: cage, VLAN, class of receiver, frame. W -. R51. Reset empty [spec] -/
  accepted : List (Nat × Option Nat × Nat × Bytes) := []
  /-- PTP state of host ports A and B. W -. R82. Reset both at their defaults [DC 4] -/
  ptp : Map PtpPort := []
  /-- WHF_PTP_LOCK level, the port that disciplines the clock. W 2. R82. Reset none [DC 4] -/
  ptpBest : Option Nat := none
  deriving DecidableEq, Repr

/-! ## Register state held per reader (R27, R28) -/

/-- The selection copies of one FGL session or control core (R27, R28, R408, R424, R491). -/
structure ReaderRegs where
  /-- CHSEL copies by block number. W 16 each. R25. Reset 0 [spec] -/
  chsel : Map Nat := []
  /-- PCSEL copies by block number. W 8 each. R490. Reset 0 [spec] -/
  pcsel : Map Nat := []
  /-- High words latched by LO reads, by the address of the HI register. W 32 each. R491. Reset 0 [spec] -/
  latch : Map Nat := []
  /-- PCNT_HI shadows by block number. W 16 each. R491. Reset 0 [spec] -/
  shadow : Map Nat := []
  /-- IXP_RSEL. W 5. R408. Reset 0 [spec] -/
  rsel : Nat := 0
  /-- IXP_RBASE shadow; none while it stands as the selection loaded it. W 28. R399. Reset none [spec] -/
  rbase : Option Nat := none
  /-- IXP_RLAST shadow; none while it stands as the selection loaded it. W 28. R399. Reset none [spec] -/
  rlast : Option Nat := none
  /-- IXP_FBSEL. W 10. R409. Reset 0 [spec] -/
  fbsel : Nat := 0
  /-- IXP_FBBASE shadow; none while it stands as the selection loaded it. W 28. R409. Reset none [spec] -/
  fbbase : Option Nat := none
  /-- IXP_FBLAST shadow; none while it stands as the selection loaded it. W 28. R409. Reset none [spec] -/
  fblast : Option Nat := none
  /-- IXP_VCTRL QUEUE selection. W 1. R409. Reset 0 [spec] -/
  vqueue : Nat := 0
  /-- CHT_MRSEL. W 7. R451. Reset 0 [spec] -/
  mrsel : Nat := 0
  /-- CORE_EVSEL. W 9. R483. Reset 0 [spec] -/
  evsel : Nat := 0
  deriving DecidableEq, Repr

/-! ## Custodians, ballots and slices (chapter 3 of the spec) -/

/-- Custodian states (R87); an index with no entry is REVOKED. -/
inductive CustodianState
  | enrolled | suspended | revoked
  deriving DecidableEq, Repr

/-- One custodian entry (R83). -/
structure Custodian where
  /-- Label. W 256. R83. -/
  label : Bytes
  /-- Credential kinds: bit 0 ECDSA P-384, bit 1 ML-DSA-65. W 2. R83. -/
  kinds : Nat
  /-- ECDSA public key, empty when absent. W 776. R83. -/
  ecdsaKey : Bytes
  /-- ML-DSA public key, empty when absent. W 15616. R83. -/
  mldsaKey : Bytes
  /-- Role bitmap. W 7. R84. -/
  roles : Nat
  /-- State. W -. R83. -/
  state : CustodianState
  /-- Consecutive failed approvals. W 4. R86. -/
  fails : Nat := 0
  /-- End of a hold-off, monotonic. W 64. R86. -/
  holdOff : Option Nat := none
  deriving DecidableEq, Repr

/-- Ballot states (R94). -/
inductive BallotState
  | open_ | armed | executed | void | withdrawn | expired
  deriving DecidableEq, Repr

/-- One ballot or its terminal record (R90 to R94). -/
structure Ballot where
  /-- Inner opcode. W 16. R90. -/
  opcode : Nat
  /-- Target slice. W 12. R90. -/
  target : Nat
  /-- Target generation bound at proposal. W 32. R90. -/
  generation : W32
  /-- pflags: bit 0 digest-bound. W 8. R90. -/
  pflags : Nat
  /-- Length of the inner payload. W 16. R90. -/
  length : Nat
  /-- The inline payload, or the 48-byte digest; dropped in a terminal state. W -. R94. -/
  payload : Bytes
  /-- Ballot digest. W 384. R91. -/
  bd : Bytes
  /-- Approving role. W 3. R84. -/
  role : Nat
  /-- Approvals needed. W 5. R186. -/
  m : Nat
  /-- Arming window in seconds. W 10. R186. -/
  window : Nat
  /-- State. W -. R94. -/
  state : BallotState
  /-- Proposing session. W 64. R96. -/
  proposer : Nat
  /-- Monotonic time at which the ballot expires. W 64. R94. -/
  expires : Nat
  /-- Standing approvals: custodian and monotonic time at which each ends. W -. R92. -/
  approvals : Map Nat := []
  /-- Proposed on a module that was not serving. W 1. R94. -/
  isLocal : Bool
  /-- Monotonic time at which the terminal record is discarded. W 64. R94. -/
  dropAt : Nat := 0
  /-- Count of ballots run on the target slice's entry, as bound at proposal. W 32. R95. -/
  acts : Nat := 0
  deriving DecidableEq, Repr

/-- Slice states (R100). -/
inductive SliceState
  | absent | active | frozen | resetting | restoring | retired
  deriving DecidableEq, Repr

/-- A quota record (R99). -/
structure Quota where
  /-- vault_slots. W 32. R99. -/
  vaultSlots : Nat := 0
  /-- hold_mib. W 32. R99. -/
  holdMib : Nat := 0
  /-- sessions_3. W 16. R99. -/
  sessions3 : Nat := 0
  /-- sessions_12. W 16. R99. -/
  sessions12 : Nat := 0
  /-- idem_entries. W 32. R99. -/
  idemEntries : Nat := 0
  deriving DecidableEq, Repr

/-- A reset or removal sequence in progress (R102). -/
structure DrainSeq where
  /-- Removal rather than reset. W 1. R102. -/
  removal : Bool
  /-- State the slice returns to. W -. R102. -/
  prior : SliceState
  /-- The generation that drains. W 32. R102. -/
  oldGeneration : W32
  /-- When barges still running are ended. W 64. R102. -/
  deadline : Nat
  /-- Response released when the sequence ends. W -. R102. -/
  answer : Option Waiter
  deriving DecidableEq, Repr

/-- A save or restore in progress (R105). -/
structure Transfer where
  /-- Save rather than restore. W 1. R105. -/
  save : Bool
  /-- Image bytes, whole for a save, so far for a restore. W -. R105. -/
  image : Bytes
  /-- Bytes moved. W 32. R105. -/
  offset : Nat
  /-- The parked job that carries the whole-image MAC from chunk to chunk. W 64. R290. -/
  job : Nat
  /-- Its wrapped image. W 1536. R289. -/
  context : Bytes
  /-- When the operation is abandoned. W 64. R105. -/
  deadline : Nat
  deriving DecidableEq, Repr

/-- One slice table entry (R97, R99, R100). -/
structure Slice where
  /-- State. W -. R100. Reset absent [spec] -/
  state : SliceState := .absent
  /-- Generation. W 32. R10. Reset 0 [spec] -/
  generation : W32 := 0
  /-- Carried generation of a restored slice. W 33. R211. Reset none [spec] -/
  carried : Option W32 := none
  /-- Quota record. W 128. R99. Reset all zero [DC 4] -/
  quota : Quota := {}
  /-- Reset or removal in progress. W -. R102. Reset none [spec] -/
  drain : Option DrainSeq := none
  /-- Save or restore in progress. W -. R105. Reset none [spec] -/
  transfer : Option Transfer := none
  /-- Old to new handles after a restore. W -. R106. Reset empty [spec] -/
  handleMap : List (W64 × W64) := []
  /-- Decimalisation tables 1 to 15, 16 digits each packed in 8 bytes. W 64 each. R256. Reset none [spec] -/
  decTabs : Map Bytes := []
  /-- Times of the format check failures of the last second, the latest 1,001 of them. W -. R246. Reset [] [DC 4] -/
  storm : List Nat := []
  /-- When PAY_FMT_STORM was last raised for the slice. W -. R246. Reset none [DC 4] -/
  stormAt : Option Nat := none
  /-- Pairs that host this spread slice. W -. R382. Reset empty [spec] -/
  spread : List W64 := []
  /-- Ballots of slice verbs run on this entry, which stale the others. W 32. R95. Reset 0 [DC 4] -/
  acts : Nat := 0
  deriving DecidableEq, Repr

/-- A principal binding (R97). -/
structure Binding where
  /-- Anchor index. W 6. R97. -/
  anchor : Nat
  /-- Principal ID. W 128. R97. -/
  principal : Bytes
  /-- Slice. W 12. R97. -/
  slice : Nat
  deriving DecidableEq, Repr

/-- The custody tables. -/
structure Custody where
  /-- Custodian entries by index 0 to 63. W -. R83. Reset empty [spec] -/
  custodians : Map Custodian := []
  /-- Custody is ESTABLISHED. W 1. R88. Reset false [spec] -/
  established : Bool := false
  /-- Custody sequence. W 32. R90. Reset 0 [DC 4] -/
  custodySeq : W32 := 0
  /-- Module sequence. W 32. R90. Reset 0 [DC 4] -/
  moduleSeq : W32 := 0
  /-- Ballots and terminal records by ballot ID. W -. R94. Reset empty [spec] -/
  ballots : Map Ballot := []
  /-- Count that gave the last ballot ID. W 63. R90. Reset 0 [DC 4] -/
  ballotCount : Nat := 0
  /-- Trust anchors by index 0 to 63. W -. R97. Reset empty [spec] -/
  anchors : Map Bytes := []
  /-- Principal bindings. W -. R97. Reset empty [spec] -/
  bindings : List Binding := []
  /-- Slice table; slice 0 is the custody slice and is ACTIVE. W -. R97. Reset slice 0 active, others absent [DC 4] -/
  slices : Map Slice := [(0, { state := .active, quota := { sessions3 := 65535, sessions12 := 4096, idemEntries := 4194304 } })]
  /-- Version floor that each record of the custody tables region was written at, by area and record. W 16 each. R117, R128. Reset empty
  [DC 4] -/
  marks : List ((Nat × Nat) × Nat) := []
  deriving DecidableEq, Repr, Inhabited

/-! ## Root, vault, keys in the hold, leases and shreds (chapters 4 and 7 of the spec) -/

/-- Slot states (R120). -/
inductive SlotState
  | free | active | pending | quarantined | transit | retired
  deriving DecidableEq, Repr

/-- One vault slot (R120). -/
structure Slot where
  /-- material. W 512. R120. Reset zero [DC 4] -/
  material : Bytes := []
  /-- attributes. W 64. R121. Reset 0 [DC 4] -/
  attributes : W64 := 0
  /-- Slot state. W 4. R120. Reset free [DC 4] -/
  state : SlotState := .free
  /-- Slot epoch. W 20. R120. Reset 0 [DC 4] -/
  epoch : Nat := 0
  /-- Owning slice. W 12. R120. Reset 0 [DC 4] -/
  slice : Nat := 0
  /-- key_type. W 8. R120. Reset 0 [DC 4] -/
  keyType : Nat := 0
  /-- length. W 8. R120. Reset 0 [DC 4] -/
  length : Nat := 0
  /-- usage_limit. W 64. R120. Reset 0 [DC 4] -/
  usageLimit : W64 := 0
  /-- lease_top. W 64. R120. Reset 0 [DC 4] -/
  leaseTop : W64 := 0
  /-- key_id. W 64. R120. Reset 0 [DC 4] -/
  keyId : W64 := 0
  /-- lineage. W 64. R120. Reset 0 [DC 4] -/
  lineage : W64 := 0
  /-- tag. W 128. R125. Reset empty [DC 4] -/
  tag : Bytes := []
  deriving DecidableEq, Repr

/-- A key that waits for its components (R530). -/
structure PendingKey where
  /-- Bytes 8 to 35 of the first component's request, index excluded. W 224. R530. -/
  head : Bytes
  /-- Components wanted. W 2. R530. -/
  count : Nat
  /-- Indexes received. W -. R530. -/
  got : List Nat
  /-- When the slot returns to FREE. W 64. R120. -/
  deadline : Nat
  deriving DecidableEq, Repr

/-- Counter table entry of one key (R135, R137, R283). -/
structure Counter where
  /-- Nonce salt. W 48. R135. -/
  salt : Bytes := []
  /-- Next value to issue. W 48. R135. -/
  next : Nat
  /-- Last value of the block in use. W 64. R137. -/
  top : Nat
  /-- First value of the block in use, as its unit cuts it. W 64. R137. -/
  low : Nat := 1
  /-- The next block: its first and last value, and whether the partner has acknowledged it. W -. R137. -/
  ahead : Option (Nat × Nat × Bool) := none
  /-- Invocations counted. W 64. R142. -/
  used : Nat := 0
  /-- Draw clock at its last draw. W 64. R283. -/
  drawn : Nat := 0
  deriving DecidableEq, Repr

/-- One entry of the hold key cache (R134, R212). -/
structure CacheEntry where
  /-- Cache reference. W 64. R212. -/
  ref : W64
  /-- Owning slice. W 12. R134. -/
  slice : Nat
  /-- Generation the blob was sealed at. W 32. R211. -/
  generation : W32
  /-- key_id. W 64. R134. -/
  keyId : W64
  /-- Attribute word. W 64. R134. -/
  attributes : W64
  /-- Lineage. W 64. R134. -/
  lineage : W64
  /-- The KEK in wrapped form, AES-KWP under kbk (log entry 23). W 384. R134. -/
  kek : Bytes
  /-- Version floor that kbk was taken at. W 16. R117. -/
  floor : Nat := 0
  /-- Barges pinning the entry. W 16. R215. -/
  pins : Nat := 0
  /-- Evict when the last pin ends. W 1. R215. -/
  marked : Bool := false
  /-- Order of last use. W 64. R134. -/
  used : Nat := 0
  /-- The tenant entry that a bucket was loaded through: its reference and generation. W -. R215, R233. -/
  parent : Option (W64 × W32) := none
  deriving DecidableEq, Repr

/-- A shred sequence (R144, R233, R532). -/
structure ShredSeq where
  /-- Handle shredded, or 0 for a KEK. W 64. R144. -/
  handle : W64
  /-- key_id. W 64. R144. -/
  keyId : W64
  /-- Slice. W 12. R145. -/
  slice : Nat
  /-- Slice generation. W 32. R145. -/
  generation : W32
  /-- Key type. W 8. R145. -/
  keyType : Nat
  /-- Certificate flags. W 16. R145. -/
  flags : Nat
  /-- Fingerprint of the key. W 384. R145. -/
  fingerprint : Bytes
  /-- Derivatives: handle and key_id. W -. R143. -/
  derivatives : List (W64 × W64)
  /-- Slots to erase in phase 3. W -. R144. -/
  slots : List Nat
  /-- Version floor at shredding. W 16. R145. -/
  floor : Nat := 0
  /-- A reset or a failure of the serving module cut the sequence and it goes on here. W 1. R532. -/
  resumed : Bool := false
  /-- Phases completed, 1 to 6. W 3. R144. -/
  phase : Nat
  /-- When phase 2 ends barges still running. W 64. R144. -/
  deadline : Nat
  /-- Partner that takes part, or 0. W 64. R145. -/
  partner : W64 := 0
  /-- Members that acknowledged, 1 without a partner. W 11. R145. -/
  members : Nat
  /-- Members still to acknowledge a domain-wide shred. W -. R384. -/
  awaiting : List W64
  /-- Evidence sequence number, once phase 5 has run. W 64. R144. -/
  evidence : Option Nat
  /-- Timestamp of phase 5. W 64. R145. -/
  time : W64
  /-- Barges that wait for phase 5. W -. R146. -/
  waiting : List Waiter
  /-- Epoch that holds the phase 1 mutation. W 64. R144. -/
  epoch : Nat := 0
  /-- Cache references of a KEK sequence. W -. R233. -/
  refs : List W64 := []
  deriving DecidableEq, Repr

/-- The one-time import key and the shares collected (R141). -/
structure ShareImport where
  /-- P-384 private key. W 384. R141. -/
  ecKey : Bytes
  /-- ML-KEM-768 decapsulation key. W 19200. R141. -/
  kemKey : Bytes
  /-- When the import key ends. W 64. R141. -/
  keyEnd : Nat
  /-- Shares by index: plaintexts of 52 bytes. W -. R141. -/
  shares : Map Bytes := []
  /-- When the collection ends. W 64. R141. -/
  windowEnd : Nat := 0
  deriving DecidableEq, Repr

/-- The vault with what its keys rest on. -/
structure Vault where
  /-- Vault slots by index; a slot not listed is FREE at epoch 0. W 1024 each. R120. Reset all free [DC 4] -/
  slots : Map Slot := []
  /-- VLT_STAT UNLOCKED. W 1. R127. Reset false [spec] -/
  unlocked : Bool := false
  /-- VLT_STAT IMAGE_LOADED. W 1. R127. Reset false [spec] -/
  imageLoaded : Bool := false
  /-- VLT_SCRUB PASSES. W 32. R127. Reset 0 [spec] -/
  scrubs : W32 := 0
  /-- The vault stays locked because a record is marked above the SVN. W 1. R118. Reset false [DC 4] -/
  floorLocked : Bool := false
  /-- Vault integrity key. W 256. R119. Reset empty [spec] -/
  vik : Bytes := []
  /-- Hold line key, an XTS key pair. W 512. R119. Reset empty [spec] -/
  holdKey : Bytes := []
  /-- Handle check key, in the vault controller. W 128. R119. Reset empty [spec] -/
  hck : Bytes := []
  /-- Image record writes to come that will read back with a mismatch, the MRAM's own condition. W 64. R130. Reset 0 [DC 4] -/
  badWrites : Nat := 0
  /-- Record writes given up after a third mismatch. W 64. R130. Reset 0 [DC 4] -/
  imageFaults : Nat := 0
  /-- MRAM vault image records by slot, 136 bytes each. W 1088 each. R129. Reset empty [DC 4] -/
  image : Map Bytes := []
  /-- Keys that wait for components, by slot. W -. R530. Reset empty [spec] -/
  pendingKeys : Map PendingKey := []
  /-- Blobs of hold-resident keys by slot. W -. R132. Reset empty [spec] -/
  blobs : Map Bytes := []
  /-- Fingerprints of the hold-resident keys made or placed here, by slot, as returned at creation. W 384 each. R145. Reset empty [DC 4] -/
  prints : Map Bytes := []
  /-- Blob chunks being loaded, by slot. W -. R133. Reset empty [spec] -/
  blobLoads : Map Bytes := []
  /-- Reservation records in the MRAM ring, 24 bytes each, oldest first. W 192 each. R138. Reset empty [DC 4] -/
  reservations : List Bytes := []
  /-- First value above the highest block that either module has reserved, by key: a slot's index, or 65,536 and the KEK tag. W 64 each.
  R138. Reset empty [DC 4] -/
  reservedTo : Map Nat := []
  /-- Root, 32 bytes, or empty. W 256. R108. Reset empty [DC 4] -/
  root : Bytes := []
  /-- Inverted shadow of the root. W 256. R108. Reset empty [DC 4] -/
  rootShadow : Bytes := []
  /-- SNT_ROOTSTAT ROOT_VALID. W 1. R111. Reset false [DC 4] -/
  rootValid : Bool := false
  /-- SNT_ROOTSTAT ZEROISED. W 1. R111. Reset false [DC 4] -/
  zeroised : Bool := false
  /-- SNT_ROOTSTAT SHADOW_FAULT. W 1. R111. Reset false [DC 4] -/
  shadowFault : Bool := false
  /-- SNT_ROOTSTAT ROOT_COUNT. W 8. R111. Reset 0 [DC 4] -/
  rootCount : Nat := 0
  /-- Failed attempts of the root generation in progress. W 2. R110. Reset 0 [spec] -/
  rootTries : Nat := 0
  /-- When root generation is tried again, in ns of the monotonic clock. W 64. R110. Reset 0 [DC 4] -/
  rootAt : Nat := 0
  /-- rat[s] at the running SVN, in the keeper's key port. W 384. R114. Reset empty [spec] -/
  rat : Bytes := []
  /-- dom[s] at the running SVN. W 384. R116. Reset empty [spec] -/
  dom : Bytes := []
  /-- Device identity seed. W 384. R119. Reset empty [spec] -/
  dis : Bytes := []
  /-- Custody domain ID. W 64. R139. Reset 0 [DC 4] -/
  domainId : W64 := 0
  /-- Key cache entries. W 1536 each. R134. Reset empty [spec] -/
  cache : List CacheEntry := []
  /-- Clock of cache uses. W 64. R134. Reset 0 [spec] -/
  cacheClock : Nat := 0
  /-- Last entry epoch given, by slice times 2^28 and entry index. W 8 each. R212. Reset empty [DC 4] -/
  cacheEpochs : Map Nat := []
  /-- Cache reference, or handle, of the key that each transit slot holds. W 64 each. R152. Reset empty [spec] -/
  transit : Map W64 := []
  /-- KEK loads in progress: slice, barge, blob, and the tenant entry that the load reads. W -. R214, R215. Reset empty [spec] -/
  loads : List (Nat × Nat × Bytes × Option W64) := []
  /-- Shred register: slice, key_class, generation and key_id of shredded KEKs. W 128 each. R232. Reset empty [spec] -/
  shredRegister : List (Nat × Nat × W32 × W64) := []
  /-- Shred sequences in progress or ended, by sequence number. W -. R532. Reset empty [spec] -/
  shreds : Map ShredSeq := []
  /-- Erasure certificates by evidence sequence number. W 38016 each. R144. Reset empty [spec] -/
  certs : Map Bytes := []
  /-- Share import in progress. W -. R141. Reset none [spec] -/
  shareImport : Option ShareImport := none
  deriving DecidableEq, Repr

/-! ## Barges, flights and the lock keeper (chapters 1 and 5 of the spec) -/

/-- Where a barge record stands on its path (R148, R153, R161). -/
inductive BargeStage
  /-- Split from a datagram, not yet checked by the lock keeper. -/
  | arrived
  /-- In the pound of its flight. -/
  | pound
  /-- In a flight context. -/
  | context
  /-- In a core queue of a world (R36). -/
  | coreQueue
  /-- Held outside a flight, as under R79 or R377. -/
  | held
  deriving DecidableEq, Repr

/-- An engine job of a barge (R147). -/
structure Job where
  /-- Kind of engine. W -. R159. -/
  kind : EngineKind
  /-- Engine number within its block. W 8. R159. -/
  engine : Nat
  /-- Runs on the bound core of an attached CIPHER lock. W 1. R149. -/
  attached : Bool
  /-- Position of its lock in the flight's series. W 4. R149. -/
  position : Nat := 0
  /-- Suspended under R151. W 1. R151. -/
  suspended : Bool := false
  /-- Segments of a split job that still run, or wait for the combiner; 0 for a job that is not split. W 8. R278. -/
  segments : Nat := 0
  /-- Further cores that run segments. W -. R278. -/
  more : List Nat := []
  /-- Block operations of the job that its ended segments have counted. W 16. R278. -/
  counted : Nat := 0
  deriving DecidableEq, Repr

/-- What the module answers a barge with. -/
structure Reply where
  /-- Status code. W 16. R22. -/
  status : W16
  /-- Response payload. W -. R68. -/
  payload : Bytes
  deriving DecidableEq, Repr

/-- A share ledger at the registrar (R383). -/
structure Ledger where
  /-- KEK tag or handle. W 64. R383. -/
  key : W64
  /-- The limit L. W 64. R136. -/
  limit : Nat
  /-- Units issued. W 11. R383. -/
  issued : Nat
  /-- Invocations in the units issued. W 64. R189, R383. -/
  given : Nat := 0
  deriving DecidableEq, Repr

/-- One basin directory entry (R375). -/
structure DirEntry where
  /-- Home pair_id. W 64. R375. -/
  home : W64
  /-- Present generation. W 32. R375. -/
  generation : W32
  /-- Bindings of the slice: anchor and principal. W -. R375. -/
  bindings : List (Nat × Bytes) := []
  deriving DecidableEq, Repr

/-- What an unacknowledged mutation changed, as it stood before, for R360. -/
inductive PriorImage
  /-- Slot, its prior contents and image record. -/
  | slot (index : Nat) (prior : Slot) (record : Bytes)
  /-- A custodian entry. -/
  | custodian (index : Nat) (prior : Option Custodian)
  /-- A ballot. -/
  | ballot (id : Nat) (prior : Option Ballot)
  /-- A slice entry. -/
  | slice (id : Nat) (prior : Slice)
  /-- The principal bindings. -/
  | bindings (prior : List Binding)
  /-- A trust anchor. -/
  | anchor (index : Nat) (prior : Option Bytes)
  /-- Custody established or not. -/
  | established (prior : Bool)
  /-- The hold blob of a slot's key. -/
  | blob (index : Nat) (prior : Option Bytes)
  /-- A share ledger. -/
  | ledger (key : W64) (prior : Option Ledger)
  /-- A basin directory entry. -/
  | directory (slice : Nat) (prior : Option DirEntry)
  /-- The anchors of the basin directory. -/
  | dirAnchors (prior : List ((W64 × Nat) × Bytes))
  /-- The domain's sequence number, members and expelled list. -/
  | domain (seq : Nat) (members expelled : List W64)
  deriving DecidableEq, Repr

/-- What a barge changed that the partner must hold (R38, R356). -/
inductive Touch
  | slot (index : Nat)
  /-- A slot whose key is erased or whose epoch advances. -/
  | slotErased (index : Nat)
  /-- The hold blob of a slot's key. -/
  | blob (index : Nat)
  | custodian (index : Nat) (destructive : Bool)
  | ballot (id : Nat) (destructive : Bool)
  /-- Generation and state of a slice. -/
  | generation (id : Nat)
  /-- Quota, tables or state of a slice without its generation. -/
  | slice (id : Nat) (destructive : Bool)
  | bindings (destructive : Bool)
  | anchor (index : Nat) (destructive : Bool)
  | established
  /-- A shred register entry: slice, key_class, generation, key_id. -/
  | shred (slice cls : Nat) (generation : W32) (keyId : W64)
  /-- A domain record as applied: type and body. -/
  | domain (kind : Nat) (body : Bytes)
  /-- The share ledger of a key. -/
  | ledger (key : W64)
  /-- A recorded shred sequence. -/
  | sequence (number : Nat)
  /-- A basin directory entry. -/
  | directory (slice : Nat)
  /-- An anchor of the basin directory: home pair and index. -/
  | dirAnchor (home : W64) (index : Nat)
  deriving DecidableEq, Repr

/-- A parked job (R290). -/
structure Parked where
  /-- Slice. W 12. R290. -/
  slice : Nat
  /-- Slice generation. W 32. R290. -/
  generation : W32
  /-- Latest seq. W 32. R290. -/
  seq : Nat
  /-- Barge that has claimed the image. W 64. R290. -/
  claim : Option Nat := none
  /-- When the job leaves the table. W 64. R290. -/
  expiry : Nat
  deriving DecidableEq, Repr

/-- An operand buffer (R303). -/
structure OpBuf where
  /-- Owning slice. W 12. R303. -/
  slice : Nat
  /-- Buffer epoch. W 12. R303. -/
  epoch : Nat
  /-- Contents; none once freed. W -. R303. -/
  bytes : Option Bytes
  deriving DecidableEq, Repr

/-- A barge in progress (R34, R147). -/
structure BargeRec where
  /-- The request. W -. R66. -/
  barge : Barge
  /-- Clear key fields of the request with their places: the seal port passes them to the flight context. W -. R217. -/
  cut : List (Nat × Bytes) := []
  /-- Stage. W -. R148. -/
  stage : BargeStage
  /-- Packet number of its request datagram. W 64. R69. -/
  pn : Nat
  /-- Class it was admitted as. W 2. R161. -/
  admitted : Nat
  /-- Admission number. W 64. R150. -/
  order : Nat := 0
  /-- Flight, once placed. W 5. R165. -/
  flight : Nat := 0
  /-- Charge set aside. W 32. R162. -/
  charge : Nat := 0
  /-- Reservation bucket drawn on. W -. R162. -/
  bucket : Bool := false
  /-- Program bank bound at admission. W 1. R200. -/
  bank : Nat := 0
  /-- Locks passed, as positions in the flight's series. W -. R147. -/
  passed : List Nat := []
  /-- Steps of its lock program that are done. W 6. R156. -/
  steps : Nat := 0
  /-- Cage its request entered by, which its response leaves by. W 2. R170. -/
  cage : Nat := 0
  /-- Monotonic time at which it entered its pound. W 64. R172. -/
  poundAt : Nat := 0
  /-- It keeps its pound entry while it has a context, since it may go to a core queue. W 1. R153. -/
  keepsEntry : Bool := false
  /-- Slots fetched at KEYFETCH, transit slots included. W -. R144. -/
  fetched : List Nat := []
  /-- Keys read from vault slots at KEYFETCH: slot, its contents and the blob. W -. R144, R147. -/
  keys : List (Nat × Slot × Option Bytes) := []
  /-- Key cache entries resolved at KEYFETCH. W -. R213. -/
  keks : List CacheEntry := []
  /-- Cache references pinned. W -. R215. -/
  pinned : List W64 := []
  /-- Engine job running. W -. R147. -/
  job : Option Job := none
  /-- Result, once formed. W -. R147. -/
  reply : Option Reply := none
  /-- Prior slots and records, for an undo. W -. R166. -/
  undo : List (Nat × Slot × Bytes) := []
  /-- Results its job writes to operand buffers at commit: buffer, epoch, offset and bytes. W -. R303, R311. -/
  results : List (Nat × Nat × Nat × Bytes) := []
  /-- Operand buffers its work has changed, as they stood before and after. W -. R166. -/
  undoBufs : List (Nat × Option OpBuf × Option OpBuf) := []
  /-- Parked jobs its work has changed, as they stood before. W -. R280, R290. -/
  undoParked : List (Nat × Option Parked) := []
  /-- What its work changed, for the epoch that EMIT places it in. W -. R38. -/
  touch : List Touch := []
  /-- Prior images of what its work changed. W -. R360. -/
  prior : List PriorImage := []
  /-- Monotonic time of arrival. W 64. R170. -/
  arrived : Nat
  /-- Every condition of R168 has held so far. W 1. R170. -/
  onTime : Bool := true
  /-- Values its work had drawn, and bound to it, when it came to wait for the next. W 6. R284. -/
  taken : Nat := 0
  /-- Time a wait at POLICY for a lease ends. W 64. R137. -/
  leaseWait : Option Nat := none
  /-- Code of the lock its next step is at. W 4. R492. -/
  nextLock : Nat := 0
  /-- Pool its next step draws on. W 3. R492. -/
  nextPool : Option EngineKind := none
  /-- Decimalisation tables of its slice as POLICY read them. W -. R256. -/
  decTabs : Option (Map Bytes) := none
  /-- Time its wait for a draw on a stalled instance ends. W 64. R337. -/
  drawWait : Option Nat := none
  /-- Context of its flight that it stands in. W 4. R148. -/
  context : Nat := 0
  deriving DecidableEq, Repr

/-- One flight (R173). -/
structure Flight where
  /-- FLT_STAT IN_SERVICE. W 1. R173. Reset true [spec] -/
  inService : Bool := true
  /-- FLT_FAULT. W 3. R173. Reset 0 [spec] -/
  fault : W32 := 0
  /-- Monotonic times of the faults within the last second. W -. R166. Reset empty [spec] -/
  faults : List Nat := []
  /-- Out of service until the next reset. W 1. R166. Reset false [spec] -/
  out : Bool := false
  deriving DecidableEq, Repr

/-- Lock keeper registers of one class (R172). -/
structure ClassRegs where
  /-- LKP_ADMIT. W 32. R172. Reset 0 [spec] -/
  admits : W32 := 0
  /-- LKP_FULL. W 32. R172. Reset 0 [spec] -/
  full : W32 := 0
  /-- LKP_INELIG. W 32. R172. Reset 0 [spec] -/
  inelig : W32 := 0
  /-- LKP_OVERFLOW. W 32. R172. Reset 0 [spec] -/
  overflow : W32 := 0
  /-- LKP_WAITMAX. W 24. R172. Reset 0 [spec] -/
  waitMax : W32 := 0
  /-- LKP_LATE. W 32. R172. Reset 0 [spec] -/
  late : W32 := 0
  deriving DecidableEq, Repr

/-- The lock keeper and the flights. -/
structure Flights where
  /-- Barges in progress by barge number. W -. R147. Reset empty [spec] -/
  barges : Map BargeRec := []
  /-- Number of the next barge record. W 64. R150. Reset 0 [DC 4] -/
  nextBarge : Nat := 0
  /-- Number of the next admission. W 64. R150. Reset 0 [DC 4] -/
  nextOrder : Nat := 0
  /-- Flights not at their reset value, by number. W -. R173. Reset all in service [spec] -/
  flights : Map Flight := []
  /-- Class registers not at zero, by class. W -. R172. Reset 0 [spec] -/
  classes : Map ClassRegs := []
  /-- Reservation buckets not full: slice, group, class, level in units times 10^6, time. W -. R162. Reset full [spec] -/
  buckets : List ((Nat × Nat × Nat) × (Nat × Nat)) := []
  /-- Deficits of the round robin by group and slice. W -. R164. Reset 0 [spec] -/
  deficits : List ((Nat × Nat) × Nat) := []
  /-- Charge served to all classes and to C3, by group. W -. R164. Reset (0, 0) [DC 4] -/
  served : Map (Nat × Nat) := []
  /-- Admission is held, as by the fence of R171. W 1. R171. Reset false [spec] -/
  held : Bool := false
  deriving DecidableEq, Repr

/-! ## The chart and settings (chapter 6 of the spec) -/

/-- Chart states (R201). -/
inductive ChartMode
  | steady | draining | clocking
  deriving DecidableEq, Repr

/-- The staging area (R198). -/
structure Staging where
  /-- Bytes staged. W 1048576. R198. Reset empty [spec] -/
  bytes : Bytes := []
  /-- The final chunk has validated. W 1. R198. Reset false [spec] -/
  valid : Bool := false
  /-- SHA-384 over the staged chart. W 384. R204. Reset empty [spec] -/
  digest : Bytes := []
  /-- When a valid staging is discarded. W 64. R198. Reset 0 [spec] -/
  deadline : Nat := 0
  deriving DecidableEq, Repr

/-- The running chart with its registers. -/
structure Chart where
  /-- Running, merged sections: records by section type. W -. R176. Reset the default chart's sections [PRESUMED 13] -/
  sections : Map (List Bytes)
  /-- chart_id of the running full chart. W 64. R205. Reset 0 [DC 4] -/
  chartId : W64 := 0
  /-- Running chart version. W 32. R205. Reset 0 [DC 4] -/
  version : W32 := 0
  /-- CHT_CHARTSEQ. W 32. R205. Reset 1 [spec] -/
  seq : W32 := 1
  /-- CHT_CHARTSTAT STATE. W 2. R205. Reset steady [spec] -/
  mode : ChartMode := .steady
  /-- CHT_CHARTSTAT UNSTORED. W 1. R205. Reset false [spec] -/
  unstored : Bool := false
  /-- CHT_CHARTSTAT BANK_SKIPPED, W1C. W 1. R205. Reset false [spec] -/
  bankSkipped : Bool := false
  /-- CHT_CHARTSTAT FLASH_ALT. W 1. R205. Reset false [spec] -/
  flashAlt : Bool := false
  /-- CHT_CHARTSTAT BANK: bank B active. W 1. R205. Reset false [spec] -/
  bankB : Bool := false
  /-- CHT_CHARTSTAT BANK_VALID. W 1. R205. Reset false [spec] -/
  bankValid : Bool := false
  /-- CHT_BANKSEQ. W 32. R205. Reset 0 [DC 4] -/
  bankSeq : W32 := 0
  /-- Staging area. W -. R198. Reset empty [spec] -/
  staging : Staging := {}
  /-- The default chart's programs are loaded; the spec gives no records for them. W 1. R160. Reset true [PRESUMED 13] -/
  defaultPrograms : Bool := true
  /-- Program bank in use for new admissions. W 1. R199. Reset 0 [DC 4] -/
  bank : Nat := 0
  /-- Sections PROGRAMS of the bank that drains. W -. R200. Reset empty [spec] -/
  oldPrograms : List Bytes := []
  /-- When barges bound to the old bank are ended. W 64. R200. Reset 0 [spec] -/
  drainDeadline : Nat := 0
  /-- Islands still to move to their new clocks. W -. R200. Reset empty [spec] -/
  clocking : List Nat := []
  /-- Clocks in force by island code, MHz; an island not listed runs at its maximum. W 16 each. R180. Reset the maxima [spec] -/
  clocks : Map Nat := []
  /-- Partial charts applied since start or loaded from the bank, in order. W -. R203. Reset empty [spec] -/
  applied : List Bytes := []
  /-- Settings bank A, raw. W 4194304. R202. Reset empty [DC 4] -/
  bankA : Bytes := []
  /-- Settings bank B, raw. W 4194304. R202. Reset empty [DC 4] -/
  bankBBytes : Bytes := []
  /-- A store that may still be writing: when it is surely done, and the bank that it takes out of force as it stood. W -. R203. Reset none
  [spec] -/
  storing : Option (Nat × Bytes) := none
  /-- Bank writes to come that will read back with another digest, the MRAM's own condition. W 64. R203. Reset 0 [DC 4] -/
  badStores : Nat := 0
  deriving DecidableEq, Repr

/-! ## Cipher bank, public-key, lattice and hash engines, entropy (chapters 9 to 11) -/

/-- What a shuffled core draws for a block operation (R274). -/
structure ShuffledBlock where
  /-- Ballast count B. W 3. R274. -/
  ballast : Nat
  /-- Byte order within each slot. W 64. R274. -/
  order : List Nat
  /-- The slots in order: true for a real round, false for ballast. W 20. R274. -/
  slots : List Bool
  /-- Dummy state and dummy round key. W 256. R274. -/
  dummy : Bytes
  deriving DecidableEq, Repr

/-- What the datapath of a cipher core or of a public-key or lattice engine holds for its job (R273, R275, R288, R291, R302, R311). -/
structure Datapath where
  /-- Key port of a core or an engine; a masked core erases it once the shares of the round keys stand. W 256. R275. Reset empty [spec] -/
  keyPort : Bytes := []
  /-- Second key port of a shuffled core: the key of its next job. W 256. R273. Reset empty [spec] -/
  nextPort : Bytes := []
  /-- Admission number of the barge whose key the second port holds. W 64. R273. Reset none [spec] -/
  nextFor : Option Nat := none
  /-- The block that is computed on. W 128. R272. Reset empty [spec] -/
  block : Bytes := []
  /-- What a shuffled core drew for the block. W -. R274. Reset none [spec] -/
  shuffle : Option ShuffledBlock := none
  /-- The three shares of the round keys of a masked core. W -. R275. Reset empty [spec] -/
  roundKeys : List Bytes := []
  /-- The three shares of the state of a masked core. W 384. R275. Reset empty [spec] -/
  shares : List Bytes := []
  /-- Save RAM: the clear image of a suspended job as its bytes 0 to 15, the three shares of its bytes 16 to 111, and its bytes 112 to 127.
  W 2560. R287, R288. Reset empty [spec] -/
  saveRam : List Bytes := []
  /-- Output register. W 128. R275. Reset empty [spec] -/
  output : Bytes := []
  /-- Operand descriptor of the job of a public-key or lattice engine. W -. R302. Reset empty [spec] -/
  descriptor : Bytes := []
  /-- Operands in the bank of operand RAM that computes. W 196608. R302. Reset empty [spec] -/
  operands : List Bytes := []
  /-- The key that the blob opener has opened for the job. W -. R300. Reset empty [spec] -/
  opened : Bytes := []
  deriving DecidableEq, Repr

/-- One engine: a cipher core, a public-key or lattice engine, or a hash unit (R297, R329). -/
structure Engine where
  /-- STAT IN_SERVICE. W 1. R297. Reset true [spec] -/
  inService : Bool := true
  /-- STAT LOCKED_OUT. W 1. R297. Reset false [spec] -/
  lockedOut : Bool := false
  /-- STAT BUSY. W 1. R297. Reset false [spec] -/
  busy : Bool := false
  /-- STAT SUSPENDED: a job is saved in save RAM. W 1. R297. Reset false [spec] -/
  suspended : Bool := false
  /-- FAULT bits [3:0]. W 4. R297. Reset 0 [spec] -/
  faultBits : W32 := 0
  /-- FAULT COUNT. W 4. R297. Reset 0 [spec] -/
  faultCount : Nat := 0
  /-- BNK_BLOCKS, PKE_OPS, LAT_OPS or HSH_OPS. W 32. R297. Reset 0 [spec] -/
  ops : W32 := 0
  /-- BNK_BALLAST, PKE_REJECT or LAT_ITERS. W 32. R297. Reset 0 [spec] -/
  aux : W32 := 0
  /-- BNK_RESEED. W 32. R297. Reset 0 [spec] -/
  reseeds : W32 := 0
  /-- When its known-answer tests are due again. W 64. R342. Reset 0 [DC 4] -/
  katAt : Nat := 0
  /-- The engine a mapped spare stands in for. W 8. R343. Reset none [spec] -/
  standsFor : Option Nat := none
  /-- A mapped spare that moves once its present job has ended. W 1. R344. Reset false [spec] -/
  moves : Bool := false
  /-- Registers of a cipher core's datapath. W -. R275. Reset default [spec] -/
  path : Datapath := {}
  /-- State of a cipher core's local generator. W 256. R276. Reset empty [DC 4] -/
  generator : Bytes := []
  /-- The core stands at its reseed point, or at a key load, without its seed: when the wait of its job ends. W 64. R276. Reset none [spec] -/
  seedless : Option Nat := none
  deriving DecidableEq, Repr

/-- A flight's chamber while a barge holds it (R291). -/
structure Chamber where
  /-- The barge. W 64. R292. -/
  owner : Nat
  /-- Output written to it. W 524288. R291. -/
  bytes : Bytes
  deriving DecidableEq, Repr

/-- The engines of one kind with their block-wide registers. -/
structure EngineBlock where
  /-- Engines not at their reset value, by number. W -. R297. Reset all in service [spec] -/
  engines : Map Engine := []
  /-- Monotonic times of the faults in the present 1 s window. W -. R281. Reset empty [spec] -/
  window : List Nat := []
  /-- ESCAL ISLAND_RESETS. W 8. R298. Reset 0 [spec] -/
  islandResets : Nat := 0
  /-- The island is in an island reset and its waiting barges are held. W 1. R281. Reset false [spec] -/
  resetting : Bool := false
  deriving DecidableEq, Repr

/-- What waits for the device LMS signer (R323). -/
inductive LmsRequest
  /-- An erasure certificate, by shred sequence. -/
  | cert (seq : Nat)
  /-- A quote: the barge that waits and the bytes to sign. -/
  | quote (w : Waiter) (body : Bytes)
  deriving DecidableEq, Repr

/-- All engines. -/
structure Engines where
  /-- Cipher bank, 256 cores. W -. R297. Reset default [spec] -/
  bank : EngineBlock := {}
  /-- Public-key engines, 32. W -. R329. Reset default [spec] -/
  pke : EngineBlock := {}
  /-- Lattice engines, 8. W -. R329. Reset default [spec] -/
  lattice : EngineBlock := {}
  /-- Hash units, 32. W -. R329. Reset default [spec] -/
  hash : EngineBlock := {}
  /-- Counter table entries by slot. W -. R283. Reset empty [spec] -/
  counters : Map Counter := []
  /-- Counter table entries by KEK tag. W -. R283. Reset empty [spec] -/
  kekCounters : Map Counter := []
  /-- Draws made from KEK entries: the order of their last use. W 64. R283. Reset 0 [spec] -/
  drawClock : Nat := 0
  /-- Values already drawn for, and bound to, the barge whose work runs. W 6. R284. Reset 0 [spec] -/
  taken : Nat := 0
  /-- CI_BANK context key. W 256. R289. Reset empty [spec] -/
  contextKey : Bytes := []
  /-- Images sealed this start. W 64. R289. Reset 0 [spec] -/
  imageCount : Nat := 0
  /-- Parked jobs by job_id. W -. R290. Reset empty [spec] -/
  parked : Map Parked := []
  /-- Last job_id given. W 64. R289. Reset 0 [DC 4] -/
  jobCount : Nat := 0
  /-- Chambers held, by flight. W -. R291. Reset empty [spec] -/
  chambers : Map Chamber := []
  /-- Operand buffers by index. W -. R303. Reset empty [spec] -/
  opBufs : Map OpBuf := []
  /-- LMS position: HSH_LMSGEN and HSH_LMSPOS. W 37. R320. Reset 0 [DC 4] -/
  lmsPos : Nat := 0
  /-- Last position of the highest reserved LMS block. W 37. R330. Reset 0 [DC 4] -/
  lmsReserved : Nat := 0
  /-- HSH_LMSGOV. W 9. R330. Reset 400 [spec] -/
  lmsTokens : Nat := 400
  /-- Time of the next token of the LMS bucket. W 64. R323. Reset 0 [DC 4] -/
  lmsTokenAt : Nat := 0
  /-- Requests that wait for the signer, oldest first. W -. R323. Reset empty [spec] -/
  lmsQueue : List LmsRequest := []
  /-- The LMS seed is in the signer's key port. W 1. R312. Reset false [spec] -/
  lmsSeed : Bool := false
  /-- Digest of the 128 top-tree public keys, in the reservations region. W 384. R321. Reset empty [DC 4] -/
  lmsTop : Bytes := []
  /-- The 128 top-tree public keys, in the reservations region. W 57344. R321. Reset empty [DC 4] -/
  lmsKeys : Bytes := []
  /-- LMS trees built and held in the hold: level and tree number. W -. R321. Reset empty [spec] -/
  lmsTrees : List (Nat × Nat) := []
  deriving DecidableEq, Repr

/-- Source states (R333). -/
inductive SourceState
  | off | startup | running | restarting | latched
  deriving DecidableEq, Repr

/-- One entropy source (R333, R346). -/
structure Source where
  /-- ENT_STAT STATE. W 3. R346. Reset off [spec] -/
  state : SourceState := .off
  /-- Monotonic times of the failures within the last hour; ENT_STAT FAILS_HOUR counts them. W -. R346. Reset empty [spec] -/
  fails : List Nat := []
  /-- ENT_RCTFAIL. W 32. R346. Reset 0 [spec] -/
  rctFail : W32 := 0
  /-- ENT_APTFAIL. W 32. R346. Reset 0 [spec] -/
  aptFail : W32 := 0
  /-- ENT_BLOCKS. W 32. R346. Reset 0 [spec] -/
  blocks : W32 := 0
  /-- When the restart ends. W 64. R333. Reset 0 [spec] -/
  restartAt : Nat := 0
  /-- Raw bits gathered toward the pending conditioned block. W 1024. R332. Reset empty [spec] -/
  raw : Bytes := []
  deriving DecidableEq, Repr

/-- One DRBG instance (R334, R335). -/
structure Drbg where
  /-- Key of the CTR_DRBG; empty until the instance is instantiated. W 256. R334. Reset empty [spec] -/
  key : Bytes := []
  /-- Counter block V of the CTR_DRBG. W 128. R334. Reset empty [spec] -/
  v : Bytes := []
  /-- Requests since the last reseed. W 17. R335. Reset 0 [spec] -/
  requests : Nat := 0
  /-- Output buffer. W 1024. R336. Reset empty [spec] -/
  buffer : Bytes := []
  /-- A reseed is due and no source runs: the instance serves its buffer. W 1. R337. Reset false [spec] -/
  due : Bool := false
  /-- Monotonic time of the last reseed. W 64. R335. Reset 0 [spec] -/
  reseeded : Nat := 0
  /-- Stalled under R337. W 1. R337. Reset false [spec] -/
  stalled : Bool := false
  deriving DecidableEq, Repr

/-- The entropy unit. -/
structure Entropy where
  /-- Source 0, the ring bank. W -. R331. Reset off [spec] -/
  ring : Source := {}
  /-- Source 1, the latch array. W -. R331. Reset off [spec] -/
  latch : Source := {}
  /-- DRBG instances not at their reset value. W -. R335. Reset all [spec] -/
  drbg : Map Drbg := []
  /-- ENT_DRBGSTAT GEN_OK. W 8. R347. Reset 0 [spec] -/
  genOk : Nat := 0
  /-- ENT_RESEEDS. W 32. R347. Reset 0 [spec] -/
  reseeds : W32 := 0
  /-- Since when no source has been RUNNING. W 64. R338. Reset none [spec] -/
  noneSince : Option Nat := none
  /-- When READY may be set again after an entropy outage. W 64. R338. Reset none [spec] -/
  readyAt : Option Nat := none
  /-- The instance that the work at hand draws on; the model's own. W 7. R335. Reset 111 [DC 28] -/
  drawer : Nat := 111
  /-- Draws that found their instance unable to serve them; the model's own. W -. R337. Reset 0 [DC 28] -/
  short : Nat := 0
  deriving DecidableEq, Repr

/-- The health report's own state (R345). -/
structure Health where
  /-- The latest report. W 512. R345. Reset empty [spec] -/
  report : Bytes := []
  /-- seq of the latest report. W 32. R345. Reset 0 [spec] -/
  seq : W32 := 0
  /-- Monotonic time of the latest report. W 64. R345. Reset 0 [spec] -/
  formed : Nat := 0
  /-- The next point of the 1 ms grid. W 64. R345. Reset 0 [DC 4] -/
  gridAt : Nat := 0
  /-- Monotonic times of the faults of the last hour. W -. R345. Reset empty [spec] -/
  faults : List Nat := []
  /-- Timestamp of the latest fault. W 64. R345. Reset 0 [spec] -/
  lastFault : W64 := 0
  /-- A power-on test failed. W 1. R345. Reset false [spec] -/
  powerOnFail : Bool := false
  deriving DecidableEq, Repr

/-! ## Towpath, witness, interlink and domain (chapter 12 of the spec) -/

/-- Pair states (R350), ordinals 0 to 6. -/
inductive PairState
  | unpaired | primary | standby | seeking | solo | fenced | syncing
  deriving DecidableEq, Repr

/-- One mirrored record (R356): type, whether destructive, and body. -/
structure MirrorRec where
  /-- Record type. W 8. R356. -/
  kind : Nat
  /-- Destructive under R356. W 1. R356. -/
  destructive : Bool
  /-- Body. W -. R356. -/
  body : Bytes
  deriving DecidableEq, Repr

/-- One mutation of an epoch (R356). -/
structure Mutation where
  /-- Its records. W -. R356. -/
  records : List MirrorRec
  /-- Prior images of what it changed. W -. R360. -/
  prior : List PriorImage
  /-- Response that waits: session, request packet number, opcode, class, request ID, reply, flight. W -. R358. -/
  response : Option (Nat × Nat × Nat × Nat × W64 × Reply)
  /-- Flight whose epoch hold keeps the response. W 5. R153. -/
  flight : Nat
  /-- Idempotency entry: slice, generation and key, 0 for none. W -. R73. -/
  idem : Nat × W32 × W64
  /-- Lease block acknowledged with the epoch: slot or KEK tag. W -. R137. -/
  lease : Option (Bool × Nat)
  deriving DecidableEq, Repr

/-- A response held in SEEKING (R361). -/
structure HeldResponse where
  /-- Session. W 64. R69. -/
  session : Nat
  /-- Request packet number. W 64. R69. -/
  pn : Nat
  /-- Opcode. W 16. R68. -/
  opcode : Nat
  /-- Class. W 2. R68. -/
  cls : Nat
  /-- Request ID. W 64. R68. -/
  request : W64
  /-- Reply, without its clear key fields. W -. R68, R217. -/
  reply : Reply
  /-- Its clear key fields with their places, on the seal port. W -. R217. -/
  cut : List (Nat × Bytes) := []
  /-- REPEAT. W 1. R72. -/
  again : Bool
  deriving DecidableEq, Repr

/-- One epoch (R358). -/
structure Epoch where
  /-- Mutations. W -. R358. -/
  mutations : List Mutation := []
  /-- Closed and sent. W 1. R358. -/
  closed : Bool := false
  /-- Time of its first mutation. W 64. R358. -/
  opened : Nat := 0
  /-- When its segments were last sent. W 64. R357. -/
  sent : Nat := 0
  /-- Resends so far. W 6. R357. -/
  resends : Nat := 0
  deriving DecidableEq, Repr

/-- Segments of an epoch being received (R358). -/
structure EpochRx where
  /-- Segments held: number and records. W -. R355. -/
  segments : Map (List MirrorRec) := []
  /-- Number of segments, once the last has arrived. W 32. R355. -/
  total : Option Nat := none
  deriving DecidableEq, Repr

/-- A module link: the towpath or one interlink peer (R354, R376). -/
structure PeerLink where
  /-- Peer module ID. W 64. R354. -/
  peer : W64
  /-- Peer pair_id. W 64. R354. -/
  pairId : W64 := 0
  /-- Peer SVN. W 12. R385. -/
  svn : Nat := 0
  /-- Time the SVN was last announced. W 64. R388. -/
  announced : Nat := 0
  /-- Peer's pair state. W 3. R376. -/
  state : Nat := 0
  /-- Key of frames sent. W 256. R354. -/
  txKey : Bytes := []
  /-- Key of frames received. W 256. R354. -/
  rxKey : Bytes := []
  /-- Hello complete. W 1. R354. -/
  live : Bool := false
  /-- Last frame_pn or link_pn sent. W 64. R355. -/
  txPn : Nat := 0
  /-- Highest frame_pn or link_pn received. W 64. R355. -/
  rxPn : Nat := 0
  /-- Own hello nonce. W 256. R354. -/
  nonce : Bytes := []
  /-- Time of the last authenticated frame. W 64. R357. -/
  heard : Nat := 0
  /-- Time of the last frame sent. W 64. R357. -/
  sent : Nat := 0
  /-- The peer's latest health report has READY set. W 1. R372. -/
  ready : Bool := false
  /-- Highest term seen from the peer. W 64. R367. -/
  term : Nat := 0
  /-- txPn at the last hello. W 64. R354. -/
  helloPn : Nat := 0
  deriving DecidableEq, Repr

/-- Channel counters (R390). -/
structure TowChannel where
  /-- TOW_TXFRAMES. W 32. R390. Reset 0 [spec] -/
  tx : W32 := 0
  /-- TOW_RXFRAMES. W 32. R390. Reset 0 [spec] -/
  rx : W32 := 0
  /-- TOW_DROPAUTH. W 32. R390. Reset 0 [spec] -/
  dropAuth : W32 := 0
  /-- TOW_RESENT. W 32. R390. Reset 0 [spec] -/
  resent : W32 := 0
  /-- TOW_ACKMAX. W 24. R390. Reset 0 [spec] -/
  ackMax : W32 := 0
  deriving DecidableEq, Repr

/-- The witness of the pair (R363). -/
structure WitnessCfg where
  /-- Kind, 0 none, 1 to 3. W 2. R363. Reset 0 [spec] -/
  kind : Nat := 0
  /-- Witness module ID or witness ID. W 64. R363. Reset 0 [DC 4] -/
  id : W64 := 0
  /-- UDP port and IPv6 address of a kind 2 witness. W 144. R363. Reset empty [DC 4] -/
  address : Bytes := []
  /-- P-384 key of a kind 2 witness. W 776. R363. Reset empty [DC 4] -/
  key : Bytes := []
  deriving DecidableEq, Repr

/-- State a module holds as witness of another pair (R364, R366). -/
structure WitnessRec where
  /-- Term. W 64. R364. -/
  term : Nat
  /-- Holder's module ID. W 64. R364. -/
  holder : W64
  /-- Lease expiry on the witness's clock. W 64. R364. -/
  expiry : Nat
  /-- Time of the holder's last renewal. W 64. R365. -/
  renewed : Nat
  /-- Latest beat of the other member: sender, time, state and hflags. W -. R365. -/
  standby : Option (W64 × Nat × Nat × Nat) := none
  /-- That beat as it stood at the holder's last renewal. W -. R365. -/
  proved : Option (W64 × Nat × Nat × Nat) := none
  /-- A claim held. W 64. R365. -/
  claim : Option W64 := none
  /-- The holder released the lease while nothing might be granted. W 1. R366, R372. -/
  released : Bool := false
  deriving DecidableEq, Repr

/-- A forwarded barge outstanding at the gate (R378). -/
structure Forward where
  /-- Session, request packet number and request ID. W -. R377. -/
  session : Nat
  /-- Request packet number. W 64. R377. -/
  pn : Nat
  /-- Opcode. W 16. R377. -/
  opcode : Nat
  /-- Class. W 2. R377. -/
  cls : Nat
  /-- Request ID. W 64. R377. -/
  request : W64
  /-- When it completes with MEMBER_UNREACHABLE. W 64. R378. -/
  deadline : Nat
  deriving DecidableEq, Repr

/-- An open admission at the sponsor (R381). -/
structure Admission where
  /-- Joiner module ID. W 64. R381. -/
  joiner : W64
  /-- Identity key digest. W 384. R381. -/
  digest : Bytes
  /-- When it lapses. W 64. R381. -/
  deadline : Nat
  deriving DecidableEq, Repr

/-- Towpath, witness, basin and domain. -/
structure Towpath where
  /-- Pair state. W 3. R350. Reset unpaired [spec] -/
  pair : PairState := .unpaired
  /-- pair_id. W 64. R348. Reset the module ID, 1 [DC 4] -/
  pairId : W64 := 1
  /-- Partner module ID of the pair record, or 0. W 64. R352. Reset 0 [DC 4] -/
  partner : W64 := 0
  /-- Partner's identity key digest of the pair record. W 384. R352. Reset empty [DC 4] -/
  partnerDigest : Bytes := []
  /-- Link to the partner. W -. R354. Reset none [spec] -/
  link : Option PeerLink := none
  /-- Solo policy. W 1. R360. Reset 0 [spec] -/
  soloPolicy : Nat := 0
  /-- Term. W 64. R364. Reset 0 [spec] -/
  term : Nat := 0
  /-- Witness lease held. W 1. R364. Reset false [spec] -/
  lease : Bool := false
  /-- Time of the last BEAT answered, and of the last sent with its seq. W -. R364. Reset (0, 0, 0) [spec] -/
  beats : Nat × Nat × Nat := (0, 0, 0)
  /-- Times of the BEATs of the last 3 ms that no ANSWER has answered yet. W -. R364. Reset empty [spec] -/
  beatsOut : List Nat := []
  /-- Count of witness messages sent. W 32. R365. Reset 0 [DC 4] -/
  witnessSeq : Nat := 0
  /-- A CLAIM of this module is not answered yet. W 1. R368. Reset false [spec] -/
  claiming : Bool := false
  /-- Witness settings. W -. R363. Reset none [spec] -/
  witness : WitnessCfg := {}
  /-- HEALTH_IN level and since when. W -. R367. Reset low [DC 4] -/
  healthIn : Bool × Nat := (false, 0)
  /-- Slots copied while SYNCING. W 32. R389. Reset 0 [spec] -/
  syncDone : Nat := 0
  /-- A sync is under way toward this peer, as holder. W 1. R353. Reset false [spec] -/
  syncing : Bool := false
  /-- Number of the open epoch. W 64. R358. Reset 1 [DC 4] -/
  epoch : Nat := 1
  /-- Epochs not acknowledged, by number. W -. R358. Reset empty [spec] -/
  epochs : Map Epoch := []
  /-- Highest epoch acknowledged, TOW_EPOCH. W 64. R391. Reset 0 [spec] -/
  acked : Nat := 0
  /-- Epochs being received. W -. R358. Reset empty [spec] -/
  received : Map EpochRx := []
  /-- An access of the towpath mirror was refused: the segment it writes is not acknowledged. W 1. R406. Reset false [spec] -/
  mirrorRefused : Bool := false
  /-- Parts of a keeper record taken so far. W -. R356. Reset empty [spec] -/
  parts : Bytes := []
  /-- Responses held in SEEKING. W -. R361. Reset empty [spec] -/
  heldResponses : List HeldResponse := []
  /-- The module was serving when it entered SEEKING. W 1. R351. Reset false [spec] -/
  wasServing : Bool := false
  /-- A planned switchover is under way. W 1. R372. Reset false [spec] -/
  switchover : Bool := false
  /-- When the drain of a planned switchover ends. W 64. R372. Reset 0 [spec] -/
  switchDrain : Nat := 0
  /-- The PAIR_SWITCHOVER that waits. W -. R372. Reset none [spec] -/
  switchAnswer : Option Waiter := none
  /-- TOW_TAKEOVERS. W 32. R391. Reset 0 [spec] -/
  takeovers : W32 := 0
  /-- The take-over fence runs since. W 64. R369. Reset none [spec] -/
  fence : Option Nat := none
  /-- Channel 0. W -. R390. Reset 0 [spec] -/
  chan0 : TowChannel := {}
  /-- Channel 1. W -. R390. Reset 0 [spec] -/
  chan1 : TowChannel := {}
  /-- Audit position, range of 256 slots. W 8. R373. Reset 0 [spec] -/
  auditRange : Nat := 0
  /-- When the next audit frame is due, in ns of the monotonic clock. W 64. R373. Reset 0 [DC 4] -/
  auditAt : Nat := 0
  /-- Part whose standby tests run next. W 8. R373. Reset 0 [DC 4] -/
  katPart : Nat := 0
  /-- When the next standby test is due, in ns of the monotonic clock. W 64. R373. Reset 0 [DC 4] -/
  katAt : Nat := 0
  /-- When the interlink hellos go out again, in ns of the monotonic clock. W 64. R376. Reset 0 [DC 4] -/
  helloAt : Nat := 0
  /-- A standby test has failed. W 1. R373. Reset false [spec] -/
  katFailed : Bool := false
  /-- Slots whose partner copy has been asked for. W -. R127. Reset empty [spec] -/
  slotFetches : List Nat := []
  /-- Pairs this module is witness for, by pair_id. W -. R366. Reset empty [spec] -/
  witnessed : Map WitnessRec := []
  /-- Nothing is granted as witness before this time. W 64. R366. Reset 5,000,000 ns after reset [spec] -/
  witnessFrom : Nat := 5000000
  /-- Interlink peers. W -. R376. Reset empty [spec] -/
  links : List PeerLink := []
  /-- Basin ID, 0 for none. W 64. R374. Reset 0 [DC 4] -/
  basinId : W64 := 0
  /-- Gate pair_id. W 64. R374. Reset 0 [DC 4] -/
  gatePair : W64 := 0
  /-- Basin IPv6 and IPv4 addresses, 20 bytes. W 160. R374. Reset empty [DC 4] -/
  basinAddr : Bytes := []
  /-- Basin directory by slice. W -. R375. Reset empty [spec] -/
  directory : Map DirEntry := []
  /-- Anchors of the basin directory, by home pair and index. W -. R375. Reset empty [spec] -/
  dirAnchors : List ((W64 × Nat) × Bytes) := []
  /-- Forwarded barges by forward_tag. W -. R378. Reset empty [spec] -/
  forwards : Map Forward := []
  /-- Last forward_tag given. W 64. R377. Reset 0 [DC 4] -/
  forwardTag : Nat := 0
  /-- Barges forwarded here by a gate, by the number that stands for their session: gate module and forward_tag. W -. R377. Reset
  empty [spec] -/
  foreign : Map (W64 × Nat) := []
  /-- Last such number given, above 2^72; the model's own field. W 64. R377. Reset 0 [DC 7] -/
  foreignCount : Nat := 0
  /-- Registrar's pair_id. W 64. R379. Reset the module ID, 1 [DC 4] -/
  registrar : W64 := 1
  /-- Highest domain sequence applied. W 64. R379. Reset 0 [DC 4] -/
  domainSeq : Nat := 0
  /-- Domain records by sequence: type and body. W -. R379. Reset empty [spec] -/
  domainLog : Map (Nat × Bytes) := []
  /-- Admitted members other than this module. W -. R381. Reset empty [spec] -/
  members : List W64 := []
  /-- When the registrar sent each domain record, for TOW_ACKMAX. W -. R390. Reset empty [spec] -/
  domainSent : Map Nat := []
  /-- Highest sequence each member acknowledged. W -. R379. Reset empty [spec] -/
  memberAcks : List (W64 × Nat) := []
  /-- Expelled modules. W -. R381. Reset empty [spec] -/
  expelled : List W64 := []
  /-- Domain version floor. W 12. R385. Reset 0 [spec] -/
  floor : Nat := 0
  /-- Floor index. W 16. R386. Reset 0 [spec] -/
  floorIndex : Nat := 0
  /-- Admissions open. W -. R381. Reset empty [spec] -/
  admissions : List Admission := []
  /-- Join in progress: sponsor, admission ballot, P-384 and ML-KEM private keys. W -. R381. Reset none [spec] -/
  join : Option (W64 × W64 × Bytes × Bytes) := none
  /-- Share ledgers held as registrar. W -. R383. Reset empty [spec] -/
  ledgers : List Ledger := []
  /-- Units held: key tag, first value and last value of each. W -. R383. Reset empty [spec] -/
  units : List (W64 × Nat × Nat) := []
  /-- Keys whose units are all issued. W -. R383. Reset empty [spec] -/
  exhausted : List W64 := []
  /-- Claims for a unit that the registrar has not answered: key and time. W -. R383. Reset empty [spec] -/
  claims : List (W64 × Nat) := []
  /-- Interlink messages that wait until their epoch is mirrored: epoch, destination, kind and body. W -. R379. Reset empty [spec] -/
  outbox : List (Nat × W64 × Nat × Bytes) := []
  /-- The registrar's role came by DOMAIN_REGISTRAR. W 1. R379. Reset false [spec] -/
  inherited : Bool := false
  deriving DecidableEq, Repr

/-! ## Protection, leases, restart and control cores (chapter 13 of the spec) -/

/-- A region of a protection unit or an entry of the fall-back table (R397, R400). -/
structure Region where
  /-- ENABLE. W 1. R408. Reset chart [spec] -/
  enable : Bool := false
  /-- LOCK. W 1. R408. Reset false [spec] -/
  lock : Bool := false
  /-- WORLD: normal. W 1. R408. Reset chart [spec] -/
  normal : Bool := false
  /-- PERMS. W 6. R408. Reset chart [spec] -/
  perms : Nat := 0
  /-- First page. W 28. R408. Reset chart [spec] -/
  first : Nat := 0
  /-- Last page. W 28. R408. Reset chart [spec] -/
  last : Nat := 0
  deriving DecidableEq, Repr

/-- A violation queue (R407). -/
structure VQueue where
  /-- Reports, head first, 32 bytes each. W 256 each. R407. Reset empty [spec] -/
  reports : List Bytes := []
  /-- LOST. W 8. R409. Reset 0 [spec] -/
  lost : Nat := 0
  deriving DecidableEq, Repr

/-- Protection. -/
structure Protect where
  /-- Unit regions by 32 times unit plus region. W -. R397. Reset disabled until the chart loads [spec] -/
  regions : Map Region := []
  /-- Fall-back entries. W -. R400. Reset disabled until the chart loads [spec] -/
  fallback : Map Region := []
  /-- IXP_USTAT MISSES by unit. W 16 each. R408. Reset 0 [spec] -/
  misses : Map Nat := []
  /-- Owner records of hold pages. W 16 each. R402. Reset 0, kind free [DC 4] -/
  owners : Map Nat := []
  /-- Normal queue. W -. R407. Reset empty [spec] -/
  normalQueue : VQueue := {}
  /-- Secure queue. W -. R407. Reset empty [spec] -/
  secureQueue : VQueue := {}
  /-- Reports formed since reset. W 32. R407. Reset 0 [spec] -/
  seq : W32 := 0
  deriving DecidableEq, Repr

/-- A control core (R392, R449). -/
structure Core where
  /-- Kernel privilege. W 1. R392. Reset true [DC 4] -/
  kernel : Bool := true
  /-- Halted by a debug access. W 1. R450. Reset false [DC 4] -/
  halted : Bool := false
  /-- The 64 register words DBG_CORE reads. W 2048. R450. Reset zero [DC 4] -/
  words : Map W32 := []
  deriving DecidableEq, Repr

/-- A watchdog (R418, R424). -/
structure Watchdog where
  /-- LOCKED. W 1. R424. Reset false [spec] -/
  locked : Bool := false
  /-- PERIOD in ms. W 7. R424. Reset 10 [spec] -/
  period : Nat := 10
  /-- The next kick must be 0x0000_A5A5. W 1. R418. Reset false [spec] -/
  second : Bool := false
  /-- Time of the last kick. W 64. R418. Reset 0 [spec] -/
  kicked : Nat := 0
  deriving DecidableEq, Repr

/-- Control cores and restarts. -/
structure Cores where
  /-- Cores not at their reset value. W -. R392. Reset default [DC 4] -/
  cores : Map Core := []
  /-- Keeper watchdog. W -. R424. Reset default [spec] -/
  keeperDog : Watchdog := {}
  /-- Normal watchdog. W -. R424. Reset default [spec] -/
  normalDog : Watchdog := {}
  /-- CORE_SRSTAT RESTARTING. W 1. R424. Reset false [spec] -/
  restarting : Bool := false
  /-- CORE_SRSTAT PHASE. W 3. R424. Reset 0 [spec] -/
  phase : Nat := 0
  /-- CORE_SRSTAT COUNT. W 8. R424. Reset 0 [spec] -/
  count : Nat := 0
  /-- CORE_SRSTAT CAUSE. W 4. R424. Reset 0 [spec] -/
  cause : Nat := 0
  /-- Times of the secure restarts of the last 600 s. W -. R420. Reset empty [spec] -/
  restarts : List Nat := []
  /-- The normal world is restarting. W 1. R423. Reset false [spec] -/
  normalRestarting : Bool := false
  /-- HEALTH_OUT toggles at 1 kHz. W 1. R418. Reset false [DC 4] -/
  healthOut : Bool := false
  /-- Events held for the keeper during a restart: source and info. W -. R422. Reset empty [spec] -/
  heldEvents : List (Nat × W32) := []
  deriving DecidableEq, Repr

/-- Gating request actions (R413). -/
inductive GateAction
  | clockOff | powerOff
  deriving DecidableEq, Repr

/-- One power domain (R417). -/
structure PowerDomain where
  /-- PWR_GATE PWR_OFF. W 1. R417. Reset false [spec] -/
  powerOff : Bool := false
  /-- PWR_GATE CLK_OFF. W 1. R417. Reset false [spec] -/
  clockOff : Bool := false
  /-- Put down by the manager's own choice of power state: 0 no, 1 clock, 2 power, 3 retention. W 2. R508. Reset 0 [spec] -/
  down : Nat := 0
  /-- PWR_LEASE KEEPER. W 1. R417. Reset false [spec] -/
  keeper : Bool := false
  /-- Gating request queued and its ceiling. W -. R414. Reset none [spec] -/
  queued : Option (GateAction × Nat) := none
  /-- Ceiling shortened by a thermal emergency. W 1. R417. Reset false [spec] -/
  thermal : Bool := false
  /-- PWR_GATEREQ STATUS. W 2. R417. Reset 0 [spec] -/
  status : Nat := 0
  /-- PWR_GATEREQ ACTION. W 2. R417. Reset 0 [spec] -/
  action : Nat := 0
  /-- PWR_REVOKES. W 32. R417. Reset 0 [spec] -/
  revokes : W32 := 0
  deriving DecidableEq, Repr

/-! ## OTP, boot, life cycle and debug (chapter 14 of the spec) -/

/-- Life-cycle states (R15), ordinals 0 to 4. -/
inductive LifeCycle
  | blank | foundryTest | custody | returnTest | scrap
  deriving DecidableEq, Repr

/-- One slot of the transition ledger: three intent and three commit words (R425). -/
structure LedgerSlot where
  /-- Intent copies. W 96. R441. Reset zero [DC 11] -/
  intent : List W32 := [0, 0, 0]
  /-- Commit copies. W 96. R441. Reset zero [DC 11] -/
  commit : List W32 := [0, 0, 0]
  deriving DecidableEq, Repr

/-- One flash copy (R428, R430). -/
structure FlashCopy where
  /-- Header, signature block and images. W -. R428. Reset empty [DC 11] -/
  image : Bytes := []
  /-- Full chart kept with the image. W -. R194. Reset empty [DC 11] -/
  chart : Bytes := []
  /-- Foundry certificate, DER. W 16384. R425. Reset empty [DC 11] -/
  cert : Bytes := []
  /-- Boot record: three copies, each followed by its CRC-32. W 288. R430. Reset empty [DC 11] -/
  record : Bytes := []
  deriving DecidableEq, Repr

/-- A transition being written (R439). -/
structure LcWrite where
  /-- Target state. W 16. R439. -/
  target : LifeCycle
  /-- Ledger slot, none for the scrap slot. W 5. R439. -/
  slot : Option Nat
  /-- Response to release. W -. R439. -/
  answer : Option Waiter
  deriving DecidableEq, Repr

/-- The charter controller. -/
structure Charter where
  /-- The custody and vault regions of the MRAM as a start with secure debug in CUSTODY found them: none of what it does there is
  written. W -. R446. Reset none [spec] -/
  mram : Option (Custody × Vault) := none
  /-- Module ID. W 64. R425. Reset 1 [DC 4] -/
  moduleId : W64 := 1
  /-- ROM digest. W 384. R425. Reset empty [DC 11] -/
  romDigest : Bytes := []
  /-- SHA-384 of the boot ROM as it stands, what boot phase 2 finds. W 384. R432. Reset empty, equal to the ROM digest [DC 11] -/
  romHash : Bytes := []
  /-- Vendor key table: the digests of keys 0 to 7. W 3072. R425. Reset empty [DC 11] -/
  vendorKeys : List Bytes := []
  /-- Foundry key: P-384 private scalar. W 384. R425. Reset empty [DC 11] -/
  foundryKey : Bytes := []
  /-- Opcodes of the running firmware that stay dark below a floor: opcode and the floor that lights it. W -. R19. Reset empty [DC 14] -/
  dark : Map Nat := []
  /-- Revocation bits. W 8. R425. Reset 0 [DC 11] -/
  revoked : Nat := 0
  /-- Return tokens burned. W 3. R425. Reset 0 [DC 11] -/
  tokensUsed : Nat := 0
  /-- Transition ledger slots not blank. W 192 each. R425. Reset all blank [DC 11] -/
  ledger : Map LedgerSlot := []
  /-- Scrap slot. W 192. R425. Reset blank [DC 11] -/
  scrapSlot : LedgerSlot := {}
  /-- Life-cycle state resolved at the last start, CHT_LCSTATE CODE. W 16. R451. Reset BLANK [DC 11] -/
  state : LifeCycle := .blank
  /-- CHT_LCSTATE INCOMPLETE: the ledger slot of the uncommitted intent. W 1. R451. Reset none [DC 11] -/
  incomplete : Option Nat := none
  /-- CHT_LCSTATE WRITING. W 1. R451. Reset none [spec] -/
  writing : Option LcWrite := none
  /-- CHT_LCSTATE RECOVERY. W 1. R451. Reset false [spec] -/
  recovery : Bool := false
  /-- A full reset is due at this time. W 64. R439. Reset none [spec] -/
  resetAt : Option Nat := none
  /-- The two flash copies. W -. R428. Reset both empty [DC 11] -/
  copy0 : FlashCopy := {}
  /-- Flash copy 1. W -. R428. Reset empty [DC 11] -/
  copy1 : FlashCopy := {}
  /-- Bytes staged since the first chunk of an image. W 26. R445. Reset none [spec] -/
  staging : Option Nat := none
  /-- Digest of the staged image's header, once valid. W 384. R445. Reset none [spec] -/
  staged : Option Bytes := none
  /-- CHT_BOOTSTAT COPY. W 1. R451. Reset 0 [DC 4] -/
  booted : Nat := 0
  /-- CHT_BOOTSTAT TRIAL. W 1. R451. Reset false [DC 4] -/
  trial : Bool := false
  /-- CHT_BOOTSTAT CHECK0. W 3. R451. Reset 0 [DC 4] -/
  check0 : Nat := 0
  /-- CHT_BOOTSTAT CHECK1. W 3. R451. Reset 0 [DC 4] -/
  check1 : Nat := 0
  /-- CHT_BOOTSTAT SVN. W 12. R451. Reset 0 [DC 4] -/
  svn : Nat := 0
  /-- mr0. W 384. R434. Reset empty [DC 4] -/
  mr0 : Bytes := []
  /-- mr1. W 384. R434. Reset empty [DC 4] -/
  mr1 : Bytes := []
  /-- mr2. W 384. R434. Reset empty [DC 4] -/
  mr2 : Bytes := []
  /-- mr3. W 384. R434. Reset empty [DC 4] -/
  mr3 : Bytes := []
  /-- CHT_MR1BOOT. W 384. R435. Reset empty [DC 4] -/
  mr1Boot : Bytes := []
  /-- The trial start of the governing boot record has begun. W 1. R430. Reset false [DC 34] -/
  trialRun : Bool := false
  /-- The start has reached READY: its BOOT entry is written. W 1. R472. Reset false [spec] -/
  readySeen : Bool := false
  /-- Outcome last logged of each ledger slot. W 2 each. R472. Reset empty [DC 34] -/
  ledgerLog : Map Nat := []
  /-- The boot ROM has run since the release of reset. W 1. R432. Reset false [spec] -/
  bootDone : Bool := false
  /-- The boot ROM halted: its digest did not match. W 1. R432. Reset false [spec] -/
  romFault : Bool := false
  /-- Test root of the test states. W 256. R426. Reset empty [spec] -/
  testRoot : Bytes := []
  /-- Foundry endorsement. W 768. R436. Reset empty [spec] -/
  endorsement : Bytes := []
  /-- Identity statement, 708 bytes. W 5664. R436. Reset empty [spec] -/
  identity : Bytes := []
  /-- CHT_DBGSTAT NORMAL: the end of the normal enable. W 64. R451. Reset none [spec] -/
  dbgNormal : Option W64 := none
  /-- The end of the secure enable of this start. W 64. R451. Reset none [DC 4] -/
  dbgSecure : Option W64 := none
  /-- CHT_DBGSTAT ARMED: the certificate's end. W 64. R451. Reset none [spec] -/
  dbgArmed : Option W64 := none
  /-- CHT_DBGSTAT RIGHTS. W 10. R451. Reset 0 [spec] -/
  dbgRights : Nat := 0
  /-- Rights of the certificate that set the arm latch. W 10. R447. Reset 0 [spec] -/
  dbgArmedRights : Nat := 0
  /-- CHT_DBGSTAT SECURE: this start read the arm latch. W 1. R451. Reset false [DC 4] -/
  dbgStart : Bool := false
  /-- Debug challenge and its end. W -. R448. Reset none [spec] -/
  challenge : Option (Bytes × Nat) := none
  deriving DecidableEq, Repr

/-! ## Sentinel and evidence log (chapter 15 of the spec) -/

/-- State of one sensor or alarm (R452, R455, R479). -/
structure Sensor where
  /-- SNT_SENS CODE: the wide code of the configured level. W 16. R479. Reset the default level's code [DC 4] -/
  code : BitVec 16
  /-- Detector A reporting. W 1. R479. Reset false [DC 4] -/
  a : Bool := false
  /-- Detector B reporting. W 1. R479. Reset false [DC 4] -/
  b : Bool := false
  /-- Alarm condition present. W 1. R479. Reset false [DC 4] -/
  condition : Bool := false
  /-- FAULTS. W 8. R479. Reset 0 [spec] -/
  faults : Nat := 0
  /-- Alarms since power-up. W 16. R477. Reset 0 [spec] -/
  alarms : Nat := 0
  /-- Inverted shadow of CODE. W 16. R468. Reset the complement of CODE [DC 4] -/
  shadow : BitVec 16
  /-- Since when the condition has been clear. W 64. R453. Reset none [DC 4] -/
  clearSince : Option Nat := none
  deriving DecidableEq, Repr

/-- An evidence entry's fields before it has a sequence number (R471). -/
structure StagedEntry where
  /-- Timestamp. W 64. R471. -/
  time : W64
  /-- Kind. W 16. R472. -/
  kind : Nat
  /-- Life-cycle code. W 16. R471. -/
  lifecycle : BitVec 16
  /-- Coincidence group. W 32. R463. -/
  group : W32
  /-- eflags. W 8. R471. -/
  eflags : Nat
  /-- Staging number, 0 from the keeper. W 16. R474. -/
  stage : Nat
  /-- detail, 20 bytes. W 160. R472. -/
  detail : Bytes
  deriving DecidableEq, Repr

/-- The sentinel. -/
structure Sentinel where
  /-- Sensors and alarms by code. W -. R479. Reset the defaults [DC 4] -/
  sensors : Map Sensor
  /-- SNT_STAT ON_MAIN. W 1. R479. Reset true [DC 4] -/
  onMain : Bool := true
  /-- SNT_STAT CELL_A. W 1. R479. Reset true [DC 4] -/
  cellA : Bool := true
  /-- SNT_STAT CELL_B. W 1. R479. Reset true [DC 4] -/
  cellB : Bool := true
  /-- SNT_STAT HELD. W 1. R479. Reset false [spec] -/
  held : Bool := false
  /-- SNT_STAT LEVEL of a running response, none when RESPONDING is 0. W 3. R479. Reset none [spec] -/
  responding : Option Nat := none
  /-- SNT_STAT DEFERRED. W 1. R479. Reset false [DC 4] -/
  deferred : Bool := false
  /-- Times of the alarm-caused full resets of the last 3,600 s. W -. R459. Reset empty [DC 4] -/
  fullResets : List Nat := []
  /-- The next start is held until main power has been absent for 1 s. W 1. R459. Reset false [spec] -/
  locked : Bool := false
  /-- Entries staged, oldest first. W -. R474. Reset empty [DC 4] -/
  staged : List StagedEntry := []
  /-- SNT_STAGE OVERFLOW. W 16. R479. Reset 0 [DC 4] -/
  overflow : Nat := 0
  /-- Last staging number given. W 16. R474. Reset 0 [DC 4] -/
  stageCount : Nat := 0
  /-- SNT_GROUP. W 32. R479. Reset 0, so that the first group is 1 [spec] -/
  group : W32 := 0
  /-- Time the open coincidence group began. W 64. R463. Reset none [DC 4] -/
  groupStart : Option Nat := none
  /-- A SENT_POWER_LOSS entry is still to be staged. W 1. R469. Reset false [DC 4] -/
  powerLoss : Bool := false
  /-- Evidence entries held, oldest first: 64 bytes each. W 512 each. R470. Reset empty [spec] -/
  log : List Bytes := []
  /-- Next seq, SNT_LOGSEQ. W 64. R479. Reset 1 [spec] -/
  logSeq : Nat := 1
  /-- Chain value before the oldest held entry. W 128. R475. Reset 16 zero bytes [spec] -/
  chainBefore : Bytes := []
  /-- Export mark, SNT_LOGMARK. W 64. R479. Reset 0 [spec] -/
  logMark : Nat := 0
  /-- SNT_LOGLOST. W 32. R479. Reset 0 [spec] -/
  logLost : Nat := 0
  /-- Time SNT_LOG_HIGH was last raised. W 64. R475. Reset none [spec] -/
  logHigh : Option Nat := none
  /-- Source mode code. W 16. R468. Reset 0x5A3C, main [DC 4] -/
  mode : BitVec 16 := 0x5A3C
  /-- Inverted shadow of the source mode. W 16. R468. Reset 0xA5C3 [DC 4] -/
  modeShadow : BitVec 16 := 0xA5C3
  /-- ZEROISED latch code. W 16. R468. Reset 0x6C93, clear [DC 4] -/
  zeroisedCode : BitVec 16 := 0x6C93
  /-- Inverted shadow of the latch. W 16. R468. Reset 0x936C [DC 4] -/
  zeroisedShadow : BitVec 16 := 0x936C
  /-- Time of the next scan of the shadows. W 64. R468. Reset 0 [DC 4] -/
  scanAt : Nat := 0
  deriving DecidableEq, Repr

/-! ## Events, recorder, counters and time (chapter 16 of the spec) -/

/-- Routing of one event source (R483). -/
structure EventCfg where
  /-- RECORD. W 1. R483. Reset 1 for N sources, 0 for S sources [spec] -/
  record : Bool
  /-- CLUSTERS. W 8. R483. Reset lowest cluster of the source's world [spec] -/
  clusters : Nat
  deriving DecidableEq, Repr

/-- An event waiting for the recorder (R487). -/
structure QueuedEvent where
  /-- Source. W 9. R485. -/
  source : Nat
  /-- Info word. W 64. R481. -/
  info : W64
  /-- Asserted. W 1. R485. -/
  asserted : Bool
  /-- Happenings. W 8. R487. -/
  count : Nat := 1
  /-- Repeats merged. W 1. R487. -/
  merged : Bool := false
  /-- Timestamp at raising. W 64. R485. -/
  time : W64
  deriving DecidableEq, Repr

/-- One programmable counter (R491). -/
structure Counter48 where
  /-- PCFG but OVF. W 32. R491. Reset 0 [spec] -/
  cfg : W32 := 0
  /-- OVF, W1C. W 1. R491. Reset false [spec] -/
  ovf : Bool := false
  /-- Value. W 48. R491. Reset 0 [spec] -/
  value : BitVec 48 := 0
  /-- The level condition it is set to stood when it was last looked at. W 1. R492. Reset false [spec] -/
  stood : Bool := false
  deriving DecidableEq, Repr

/-- A programmable counter with its key: block, instance and number. -/
abbrev SiteCounter := (Nat × Nat × Nat) × Counter48

/-- Observability. -/
structure Observe where
  /-- Event routing not at its reset value, by source. W -. R483. Reset default [spec] -/
  events : Map EventCfg := []
  /-- Level conditions that stand: source, instance, detail; CORE_EVCFG ASSERTED. W -. R482. Reset empty [spec] -/
  conditions : List (Nat × Nat × Nat) := []
  /-- Events made pending at clusters: cluster and source. W -. R483. Reset empty [spec] -/
  interrupts : List (Nat × Nat) := []
  /-- Recorder queue, oldest first. W -. R487. Reset empty [spec] -/
  queue : List QueuedEvent := []
  /-- Events dropped since the last REC_GAP record. W 32. R487. Reset 0 [spec] -/
  dropped : Nat := 0
  /-- Records of the ring by slot, 32 bytes each. W 256 each. R485. Reset empty [spec] -/
  ring : Map Bytes := []
  /-- next_seq. W 64. R485. Reset 1 [spec] -/
  nextSeq : Nat := 1
  /-- clear_floor. W 64. R485. Reset 0 [spec] -/
  clearFloor : Nat := 0
  /-- gaps. W 32. R485. Reset 0 [spec] -/
  gaps : W32 := 0
  /-- Programmable counters by block, instance and number. W -. R491. Reset 0 [spec] -/
  counters : List SiteCounter := []
  /-- Cycles counted by island code up to `cycleFrom`; cycle counters count while the island runs. W 64 each. R490. Reset 0 [spec] -/
  cycleBase : Map Nat := []
  /-- Monotonic time from which an island's cycles are counted at its present clock. W 64 each. R490. Reset 0 [spec] -/
  cycleFrom : Map Nat := []
  /-- CORE_PSAMPLE by core. W 40 each. R491. Reset 0 [spec] -/
  psample : Map Nat := []
  deriving DecidableEq, Repr

/-- Clocks and calendar time (R495 to R498). -/
structure Clocks where
  /-- Monotonic clock in ns; it runs on over resets, so that times kept over a reset stay comparable. SNT_MONO is this less
  `startAt`. W 64. R498. Reset 0 [spec] -/
  mono : Nat := 0
  /-- Monotonic time of the release of this reset. W 64. R498. Reset 0 [spec] -/
  startAt : Nat := 0
  /-- Real-time clock in units of 2^-24 s at monotonic time 0. W 64. R495. Reset 0 [DC 4] -/
  rtcBase : Nat := 0
  /-- SNT_TIMESTAT VALID. W 1. R498. Reset false [DC 4] -/
  valid : Bool := false
  /-- SNT_TIMESTAT DISCIPLINED. W 1. R498. Reset false [spec] -/
  disciplined : Bool := false
  /-- SNT_TIMESTAT ON_RC. W 1. R498. Reset false [spec] -/
  onRc : Bool := false
  /-- SNT_TIMESTAT UTC_OFFSET. W 8. R498. Reset 37 [spec] -/
  utcOffset : Nat := 37
  /-- SNT_TIMESTAT OFFSET in ns, saturating. W 16. R498. Reset 0 [spec] -/
  offset : Int := 0
  /-- Time of the last step of the clock. W 64. R496. Reset none [spec] -/
  stepped : Option Nat := none
  /-- TIME_HOLDOVER asserted for a refused step. W 1. R496. Reset false [spec] -/
  holdover : Bool := false
  /-- Leap adjustment under way: seconds and the time it ends. W -. R497. Reset none [spec] -/
  leap : Option (Int × Nat) := none
  /-- Leap flagged by the grandmaster for the end of the day. W 2. R497. Reset 0 [spec] -/
  leapFlag : Int := 0
  deriving DecidableEq, Repr

/-! ## Power, start-up and hardware (chapter 17 of the spec) -/

/-- One cage's power and management state (R521). -/
structure CagePower where
  /-- PRESENT. W 1. R517. Reset false [spec] -/
  present : Bool := false
  /-- POWERED. W 1. R517. Reset false [spec] -/
  powered : Bool := false
  /-- OVER: held in low-power mode. W 1. R517. Reset false [spec] -/
  exceeds : Bool := false
  /-- When the feed is to be switched on. W 64. R521. Reset none [spec] -/
  onAt : Option Nat := none
  /-- Device status last read. W 8. R521. Reset 0 [DC 4] -/
  status : Nat := 0
  deriving DecidableEq, Repr

/-- The power and clock manager. -/
structure Power where
  /-- Power domains not at their reset value. W -. R417. Reset default [spec] -/
  domains : Map PowerDomain := []
  /-- The start sequence has completed. W 1. R515. Reset false [spec] -/
  started : Bool := false
  /-- PWR_STAT READY. W 1. R517. Reset false [spec] -/
  ready : Bool := false
  /-- PWR_STAT WARM. W 1. R517. Reset false [DC 4] -/
  warm : Bool := false
  /-- PWR_STAT THERMAL. W 1. R517. Reset false [spec] -/
  thermal : Bool := false
  /-- Time the thermal emergency began. W 64. R511. Reset 0 [spec] -/
  thermalAt : Nat := 0
  /-- Clock divisor of the thermal emergency: 1, 2 or 4. W 3. R511. Reset 1 [spec] -/
  divisor : Nat := 1
  /-- PWR_STAT HOLDUP_OK. W 1. R517. Reset false [spec] -/
  holdupOk : Bool := false
  /-- PWR_STAT INPUT_OK. W 1. R517. Reset false [spec] -/
  inputOk : Bool := false
  /-- PWR_STAT DIP, W1C. W 1. R517. Reset false [spec] -/
  dip : Bool := false
  /-- PWR_STAT OVERVOLT, W1C. W 1. R517. Reset false [spec] -/
  overvolt : Bool := false
  /-- PWR_STAT STATE. W 3. R517. Reset 0 [spec] -/
  state : Nat := 0
  /-- PWR_STAT START_MS. W 16. R517. Reset 0 [spec] -/
  startMs : Nat := 0
  /-- Input voltage in mV. W 16. R517. Reset 0 [spec] -/
  vin : Nat := 0
  /-- Input current in mA. W 16. R517. Reset 0 [spec] -/
  iin : Nat := 0
  /-- Cage power in 10 mW. W 16. R517. Reset 0 [spec] -/
  pcage : Nat := 0
  /-- Store voltage in mV. W 16. R517. Reset 0 [spec] -/
  holdup : Nat := 0
  /-- Inlet temperature in degrees C. W 8. R517. Reset 0 [spec] -/
  inlet : Int := 0
  /-- Highest junction temperature. W 8. R517. Reset 0 [spec] -/
  junction : Int := 0
  /-- Power stage thermistor. W 8. R517. Reset 0 [spec] -/
  stage : Int := 0
  /-- Domain power by domain, in 10 mW. W 16 each. R516. Reset 0 [spec] -/
  loads : Map Nat := []
  /-- Cages not at their reset value. W -. R517. Reset default [spec] -/
  cages : Map CagePower := []
  /-- Idle window announced: start and end. W 128. R510. Reset none [spec] -/
  idle : Option (Nat × Nat) := none
  /-- An outage began at this time, by overvoltage or not. W -. R502. Reset none [spec] -/
  outage : Option (Nat × Bool) := none
  /-- The active discharge is connected since. W 64. R503. Reset none [spec] -/
  discharge : Option Nat := none
  /-- SHORT_L is low. W 1. R519. Reset true [DC 4] -/
  shortL : Bool := true
  /-- A power-fail shutdown has run and the module is down. W 1. R504. Reset false [spec] -/
  shutDown : Bool := false
  /-- Time main power went. W 64. R459. Reset none [spec] -/
  downAt : Option Nat := none
  /-- STATUS_CML bits. W 8. R522. Reset 0 [spec] -/
  cml : Nat := 0
  /-- Address straps. W 3. R519. Reset 7, open [spec] -/
  straps : Nat := 7
  /-- Frames held in the P4 link buffer: cage and frame. W 16777216. R509. Reset empty [spec] -/
  linkBuffer : List (Nat × Bytes) := []
  /-- Timers armed by either world, as times. W -. R508. Reset empty [spec] -/
  timers : List Nat := []
  /-- Hold lines retired to the spare lines. W 11. R513. Reset 0 [DC 4] -/
  badLines : Nat := 0
  /-- The power stage holds a calibration of an earlier start. W 1. R512. Reset false [DC 4] -/
  calibrated : Bool := false
  /-- Main power came back within 60 s of the last shutdown. W 1. R512. Reset false [spec] -/
  resumed : Bool := false
  deriving DecidableEq, Repr

/-! ## The whole machine -/

/-- What the block has put out (log entry 6). -/
inductive Output
  /-- A frame or datagram on a cage: cage, destination (address and port, empty for the link), bytes. -/
  | frame (cage : Nat) (dest : Bytes) (bytes : Bytes)
  /-- An FGL-3 datagram or BEACON: cage, module port, destination, header and body in the clear, bytes on the wire. -/
  | datagram (cage : Nat) (port : Nat) (dest : Bytes) (header : Bytes) (body : Bytes) (wire : Bytes)
  /-- Bytes on a TLS stream of an FGL-1 or FGL-2 session. -/
  | stream (session : Nat) (bytes : Bytes)
  /-- A TCP reset toward a client. -/
  | tcpReset (cage : Nat) (dest : Bytes)
  /-- A towpath frame: kind and bytes. -/
  | towpath (kind : Nat) (bytes : Bytes)
  /-- An interlink datagram: peer, kind and bytes. -/
  | interlink (peer : W64) (kind : Nat) (bytes : Bytes)
  /-- A witness message: module port, 0 where the interlink carries it, destination port and address, type and bytes. -/
  | witness (port : Nat) (dest : Bytes) (kind : Nat) (bytes : Bytes)
  /-- The response to a barge as formed: session, request ID, opcode, status, payload, REPEAT. -/
  | response (session : Nat) (request : W64) (opcode : Nat) (status : W16) (payload : Bytes) (again : Bool)
  /-- The answer of a register access by a core, or of a fabric access. -/
  | access (master : Nat) (granted : Bool) (data : Bytes)
  /-- An interrupt or exception to a core. -/
  | interrupt (core : Nat) (cause : Nat)
  /-- A PMBus answer. -/
  | pmbus (command : Nat) (data : Bytes)
  deriving DecidableEq, Repr

/-- Why a command stops. No meaning of this model raises one: every command of the table has an
effect in the spec. Closed; safe. -/
inductive Fault
  /-- Raised by no command: kept so that the type has a value. Safe, since it is never reached. -/
  | unreachable
  deriving DecidableEq, Repr

/-- Why a command is refused. -/
inductive Refusal
  /-- Raised by an arm of Dispatch whose command has no meaning yet: the table's mnemonic. Safe. -/
  | notModelled (mnemonic : String)
  deriving DecidableEq, Repr

/-- The state of the block. -/
structure State where
  /-- Commands that wait, first in first out; the model's own field. W -. R34. Reset empty [DC 1] -/
  pending : List Instr
  /-- Draws taken so far, the argument of every free value; the model's own field. W 64. R334. Reset 0 [DC 3] -/
  draws : Nat
  /-- What the block has put out, oldest first; the model's own field. W -. R69. Reset empty [DC 6] -/
  out : List Output
  /-- Wharf. W -. R30. Reset its parts' -/
  whf : Wharf
  /-- Per-reader registers by reader number. W -. R27. Reset empty [spec] -/
  readers : Map ReaderRegs
  /-- Custody tables. W -. R83. Reset its parts' -/
  cus : Custody
  /-- Root, vault, hold keys. W -. R30. Reset its parts' -/
  vlt : Vault
  /-- Lock keeper and flights. W -. R30. Reset its parts' -/
  flt : Flights
  /-- Chart. W -. R174. Reset its parts' -/
  cht : Chart
  /-- Engines. W -. R30. Reset its parts' -/
  eng : Engines
  /-- Entropy unit. W -. R30. Reset its parts' -/
  ent : Entropy
  /-- Health report. W -. R345. Reset its parts' -/
  hlt : Health
  /-- Towpath, interlink, domain. W -. R30. Reset its parts' -/
  tow : Towpath
  /-- Protection. W -. R30. Reset its parts' -/
  ixp : Protect
  /-- Control cores. W -. R30. Reset its parts' -/
  cor : Cores
  /-- Charter controller. W -. R30. Reset its parts' -/
  ctr : Charter
  /-- Sentinel. W -. R30. Reset its parts' -/
  snt : Sentinel
  /-- Events, recorder, counters. W -. R30. Reset its parts' -/
  obs : Observe
  /-- Clocks. W -. R495. Reset its parts' -/
  clk : Clocks
  /-- Power and clock manager. W -. R30. Reset its parts' -/
  pwr : Power
  /-- Bytes of hold, MRAM, cluster SRAM and flash as the fabric addresses them. W 8 each. R394. Reset nothing listed: hold and SRAM
  read 0, MRAM and flash a free value [DC 5] -/
  mem : Map Byte
  deriving DecidableEq, Repr

/-! ## The state after reset -/

/-- The sensors and alarms at their default levels (R452, R455, R469). -/
def State.resetSensors : Map Sensor :=
  let at_ (k : Nat) (c : BitVec 16) : Nat × Sensor := (k, { code := c, shadow := ~~~c })
  [at_ 0x01 0xF069, at_ 0x02 0xF069, at_ 0x03 0xF069, at_ 0x04 0x960F, at_ 0x05 0xA5C3,
   at_ 0x06 0x960F, at_ 0x07 0x960F, at_ 0x08 0x960F, at_ 0x09 0xA5C3, at_ 0x0A 0x960F,
   at_ 0x0B 0xA5C3, at_ 0x0C 0xF069, at_ 0x20 0xF069, at_ 0x21 0xF069, at_ 0x22 0xF069,
   at_ 0x23 0xAA33, at_ 0x24 0xAA33, at_ 0x25 0xAA33, at_ 0x26 0xAA33, at_ 0x27 0x960F,
   at_ 0x28 0x960F]

/-- The sections of the default chart that the spec states: WORLDS (R179), FLIGHTS and POOLS
(R160, R181, R183) and LIMITS (R189). The other sections are empty (log entry 13). -/
def State.resetSections : Map (List Bytes) :=
  [(0x0001, [[0x03, 0, 0, 0]]),
   (0x0003,
    [[0, 0, 10, 8, 0, 1, 2, 3, 3, 4, 6, 7, 0, 0, 0, 0, 0, 0x18, 0, 0, 0, 0, 0, 0],
     [1, 10, 18, 6, 0, 1, 2, 3, 6, 7, 0, 0, 0, 0, 0, 0, 0, 0, 0, 0, 0, 0, 0, 0],
     [2, 28, 4, 10, 0, 1, 2, 2, 3, 4, 5, 5, 6, 7, 0, 0, 0, 0, 1, 0, 0, 0, 0, 0]]),
   (0x0005,
    [[1, 1, 0, 0, 0, 216, 0x02, 0], [1, 2, 0, 216, 0, 8, 0x05, 0], [2, 1, 0, 244, 0, 12, 0x04, 0],
     [3, 1, 0, 0, 0, 32, 0x07, 0], [4, 1, 0, 0, 0, 30, 0x07, 0], [5, 1, 0, 0, 0, 8, 0x07, 0],
     [6, 1, 0, 224, 0, 20, 0x01, 0]]),
   (0x0014, [[0, 0, 0x10, 0, 0, 0, 0x60, 0] ++ List.replicate 24 0])]

/-- The machine right after reset: every register at the value its docstring names, no command
waiting. -/
def State.reset : State :=
  { pending := [], draws := 0, out := [], whf := {}, readers := [], cus := {}, vlt := {}, flt := {},
    cht := { sections := State.resetSections }, eng := {}, ent := {}, hlt := {}, tow := {}, ixp := {},
    cor := {}, ctr := {}, snt := { sensors := State.resetSensors }, obs := {}, clk := {}, pwr := {},
    mem := [] }


end Sys2Proof.Machine
end

