-- ==== Sys2Proof/Machine/Flags.lean ====
section
/-! DEFINITION. Status codes (R19 to R22 and the codes later chapters add), state codes and
ordinals, and the event sources' fixed properties (R480). -/

namespace Sys2Proof.Machine

/-! ## Status codes -/

def stDone : W16 := 0x0000
def stBadFormat : W16 := 0x0101
def stReserved : W16 := 0x0102
def stVersion : W16 := 0x0103
def stIdemConflict : W16 := 0x0104
def stMismatch : W16 := 0x0201
def stNotAuthorised : W16 := 0x0202
def stQuorum : W16 := 0x0203
def stFrozen : W16 := 0x0204
def stQuorumUnreachable : W16 := 0x0205
def stBallotStale : W16 := 0x0206
def stQuota : W16 := 0x0207
def stRoleFull : W16 := 0x0208
def stAttrDenied : W16 := 0x0301
def stSlotBad : W16 := 0x0302
def stUsageExhausted : W16 := 0x0303
def stNonceExhausted : W16 := 0x0304
def stHandle : W16 := 0x0305
def stCacheMiss : W16 := 0x0306
def stCertPending : W16 := 0x0307
def stVaultFull : W16 := 0x0308
def stInputZero : W16 := 0x0401
def stNoncanonical : W16 := 0x0402
def stNotOnCurve : W16 := 0x0403
def stOperand : W16 := 0x0404
def stSigInvalid : W16 := 0x0405
def stFault : W16 := 0x0406
def stGuard : W16 := 0x0407
def stLmsExhausted : W16 := 0x0408
def stAuthFail : W16 := 0x0501
def stFormatCheck : W16 := 0x0502
def stAbortPower : W16 := 0x0601
def stAbortHost : W16 := 0x0602
def stAbortRestart : W16 := 0x0603
def stClassFull : W16 := 0x0701
def stRestarting : W16 := 0x0702
def stMirror : W16 := 0x0703
def stIneligible : W16 := 0x0704
def stNotPrimary : W16 := 0x0705
def stUnreachable : W16 := 0x0706
def stFloor : W16 := 0x0801
def stIncomplete : W16 := 0x0802
def stTokens : W16 := 0x0803
def stImage : W16 := 0x0804
def stCert : W16 := 0x0805
def stAccess : W16 := 0x0806

/-- Class of a status code: its high byte (R20). -/
def statusClass (c : W16) : Nat := c.toNat / 256

/-- Abort and admission codes, which leave no idempotency entry (R72). -/
def leavesNoEntry (c : W16) : Bool := statusClass c == 6 || statusClass c == 7

/-! ## Ordinals and codes -/

/-- Life-cycle ordinal (R15). -/
def LifeCycle.ord : LifeCycle → Nat
  | .blank => 0 | .foundryTest => 1 | .custody => 2 | .returnTest => 3 | .scrap => 4

/-- Life-cycle code (R15). -/
def LifeCycle.code : LifeCycle → Nat
  | .blank => 0x3C5A | .foundryTest => 0x5AA3 | .custody => 0x96E1
  | .returnTest => 0xA93C | .scrap => 0xE187

/-- The life-cycle state of a code. -/
def lifeCycleOf (c : Nat) : Option LifeCycle :=
  if c = 0x3C5A then some .blank else if c = 0x5AA3 then some .foundryTest
  else if c = 0x96E1 then some .custody else if c = 0xA93C then some .returnTest
  else if c = 0xE187 then some .scrap else none

/-- DX6100 four-state view (R15). -/
def LifeCycle.view : LifeCycle → Nat
  | .blank => 0 | .foundryTest => 1 | .custody => 2 | .returnTest => 1 | .scrap => 3

/-- Custodian state ordinal (R87). -/
def CustodianState.ord : CustodianState → Nat
  | .enrolled => 0 | .suspended => 1 | .revoked => 2

/-- The custodian state of an ordinal. -/
def custodianStateOf (n : Nat) : CustodianState := if n = 0 then .enrolled else if n = 1 then .suspended else .revoked

/-- Ballot state ordinal (R94). -/
def BallotState.ord : BallotState → Nat
  | .open_ => 0 | .armed => 1 | .executed => 2 | .void => 3 | .withdrawn => 4 | .expired => 5

/-- The ballot state of an ordinal. -/
def ballotStateOf (n : Nat) : BallotState :=
  if n = 0 then .open_ else if n = 1 then .armed else if n = 2 then .executed else if n = 3 then .void
  else if n = 4 then .withdrawn else .expired

/-- A ballot state that no event but its discard leaves (R94). -/
def BallotState.terminal : BallotState → Bool
  | .open_ => false | .armed => false
  | .executed => true | .void => true | .withdrawn => true | .expired => true

/-- Slice state ordinal (R100). -/
def SliceState.ord : SliceState → Nat
  | .absent => 0 | .active => 1 | .frozen => 2 | .resetting => 3 | .restoring => 4 | .retired => 5

/-- The slice state of an ordinal. -/
def sliceStateOf (n : Nat) : SliceState :=
  if n = 1 then .active else if n = 2 then .frozen else if n = 3 then .resetting
  else if n = 4 then .restoring else if n = 5 then .retired else .absent

/-- Slot state ordinal (R120). -/
def SlotState.ord : SlotState → Nat
  | .free => 0 | .active => 1 | .pending => 2 | .quarantined => 3 | .transit => 4 | .retired => 5

/-- The slot state of an ordinal. -/
def slotStateOf (n : Nat) : SlotState :=
  if n = 1 then .active else if n = 2 then .pending else if n = 3 then .quarantined
  else if n = 4 then .transit else if n = 5 then .retired else .free

/-- Pair state ordinal (R350). -/
def PairState.ord : PairState → Nat
  | .unpaired => 0 | .primary => 1 | .standby => 2 | .seeking => 3 | .solo => 4
  | .fenced => 5 | .syncing => 6

/-- A module in one of these states serves its slices (R350). -/
def PairState.serves : PairState → Bool
  | .unpaired => true | .primary => true | .solo => true
  | .standby => false | .seeking => false | .fenced => false | .syncing => false

/-- Chart state ordinal (R201). -/
def ChartMode.ord : ChartMode → Nat
  | .steady => 0 | .draining => 1 | .clocking => 2

/-- Source state code (R346). -/
def SourceState.ord : SourceState → Nat
  | .off => 0 | .startup => 1 | .running => 2 | .restarting => 3 | .latched => 4

/-! ## Event sources -/

/-- The assigned event sources (R480). -/
def eventSources : List Nat :=
  [0, 1, 2, 3, 4, 5, 32, 33, 64, 65, 66, 128, 129, 130, 160, 161, 162, 192, 193, 194, 195, 196,
   197, 198, 224, 225, 226, 227, 228, 229, 256, 257, 258, 259, 260] ++
  [288, 289, 320, 321, 322, 323, 352, 353, 354, 355, 356, 357, 384, 385, 386, 387, 388, 416, 417,
   418, 419, 420, 421, 422, 448, 449, 450, 480, 481, 482, 483, 484, 485]

/-- The secure sources (R480). -/
def eventSecure (n : Nat) : Bool := n == 321 || n == 448

/-- The level sources (R480). -/
def eventLevel (n : Nat) : Bool :=
  [5, 65, 129, 161, 193, 195, 196, 225, 226, 227, 259, 386, 388, 420, 485].contains n

end Sys2Proof.Machine
end

