-- ==== Sys2Proof/Machine/Ops.lean ====
section
/-! DEFINITION. The named operations every family shares: clocks, output, events, sessions and
responses, idempotency, epochs, and the running of a verb from its first check to its response. -/

namespace Sys2Proof.Machine

/-! ## Clocks, draws and output -/

/-- The monotonic clock (R498). -/
def State.now (s : State) : Nat := s.clk.mono

/-- Units of 2^-24 s by which a leap adjustment has held the clock back, up to one second over its
1,000 s; negative when the clock runs fast (R497). -/
def State.leapShift (s : State) : Int :=
  match s.clk.leap with
  | none => 0
  | some (d, e) => d * (((min (s.clk.mono + 1000000000000 - e) 1000000000000) * 16777216 / 1000000000000 : Nat) : Int)

/-- The timestamp of this moment (R7, R495). -/
def State.stamp (s : State) : W64 :=
  BitVec.ofInt 64 ((s.clk.rtcBase + s.clk.mono * 16777216 / 1000000000 : Nat) - s.leapShift)

/-- n free bytes, of a value the spec leaves open. -/
def State.freeBytes (s : State) (n : Nat) : Bytes × State :=
  (fit n (Config.random s.draws n), { s with draws := s.draws + 1 })

/-- A free number and the state after it is taken (log entry 3). -/
def State.freeNat (s : State) : Nat × State :=
  (Config.freeNat s.draws, { s with draws := s.draws + 1 })

/-- A free truth value. -/
def State.freeBool (s : State) : Bool × State := (Config.freeBool s.draws, { s with draws := s.draws + 1 })

/-- Put something out, uncounted; a module that has not booted since its reset is silent (R432, R458, R504). -/
def State.push (s : State) (o : Output) : State :=
  if s.ctr.bootDone then { s with out := s.out ++ [o] } else s

/-! ## The chart's tables -/

/-- The records of a running chart section. -/
def State.section_ (s : State) (t : Nat) : List Bytes := s.cht.sections.at [] t

/-- Secure clusters, bit n for CI_COREn (R179). -/
def State.secureClusters (s : State) : Nat :=
  match s.section_ 0x0001 with
  | r :: _ => fld r 0 1
  | [] => 0x03

/-- Does a core belong to the secure world (R41). -/
def State.coreSecure (s : State) (core : Nat) : Bool := s.secureClusters.testBit (core / 8)

/-- The settings item with a key prefix: its value bytes (R190). -/
def State.setting (s : State) (item : Nat) (key : Bytes) : Option Bytes :=
  ((s.section_ 0x0020).find? fun r =>
      fld r 0 2 == item && sl r 4 key.length == key && fld r 2 2 != 0).map
    fun r => sl r 4 (fld r 2 2)

/-- handshake_ms of TIMERS (R75, R190). -/
def State.handshakeMs (s : State) : Nat :=
  match s.setting 8 [] with
  | some v => fld v 0 2
  | none => 2000

/-- idle_s of TIMERS. -/
def State.idleS (s : State) : Nat :=
  match s.setting 8 [] with
  | some v => fld v 2 2
  | none => 60

/-- retention_s of TIMERS. -/
def State.retentionS (s : State) : Nat :=
  match s.setting 8 [] with
  | some v => fld v 4 2
  | none => 120

/-- FGL generations enabled (R190). -/
def State.fglEnabled (s : State) : Nat :=
  match s.setting 10 [] with
  | some v => fld v 0 1
  | none => 7

/-- The module's datagram limit (R190). -/
def State.datagramLimit (s : State) : Nat :=
  match s.setting 7 [] with
  | some v => fld v 0 2
  | none => 9146

/-- Quorum size M of a role (R85, R186). -/
def State.quorum (s : State) (role : Nat) : Nat :=
  match (s.section_ 0x0011).find? fun r => fld r 0 1 == role with
  | some r => fld r 1 1
  | none => 2

/-- Arming window W of a role in seconds (R85, R186). -/
def State.window (s : State) (role : Nat) : Nat :=
  match (s.section_ 0x0011).find? fun r => fld r 0 1 == role with
  | some r => fld r 2 2
  | none => 300

/-! ## Events (R480 to R487) -/

/-- Lowest set bit below 8, as a bitmap. -/
def lowestBit (m : Nat) : Nat :=
  match (List.range 8).find? fun i => m.testBit i with
  | some i => 2 ^ i
  | none => 0

/-- The reset routing of a source (R483). -/
def State.eventDefault (s : State) (n : Nat) : EventCfg :=
  if eventSecure n then { record := false, clusters := lowestBit s.secureClusters }
  else { record := true, clusters := lowestBit (255 - s.secureClusters % 256) }

/-- The routing of a source. -/
def State.eventCfg (s : State) (n : Nat) : EventCfg := s.obs.events.at (s.eventDefault n) n

/-- Put an event in the recorder queue (R487). -/
def recordEvent (o : Observe) (n : Nat) (info : W64) (asserted : Bool) (time : W64) : Observe :=
  let mergeable (q : QueuedEvent) : Bool :=
    q.source == n && q.info == info && q.count < 255 && !eventLevel n
  match o.queue.findIdx? mergeable with
  | some i =>
    { o with queue := o.queue.modify i fun q => { q with count := q.count + 1, merged := true } }
  | none =>
    if o.queue.length < 1024 then
      { o with queue := o.queue ++ [{ source := n, info := info, asserted := asserted, time := time }] }
    else { o with dropped := o.dropped + 1 }

/-- Does a cluster set of a source reach a cluster: an S event only secure clusters (R482). -/
def State.reaches (s : State) (n c : Nat) : Bool :=
  (s.eventCfg n).clusters.testBit c && (!eventSecure n || s.secureClusters.testBit c)

/-- Route one raised event: to its clusters and to the recorder queue (R482, R483). -/
def State.route (s : State) (n : Nat) (info : W64) (asserted : Bool) : State :=
  let targets := (List.range 8).filter fun c => s.reaches n c
  let pend := targets.map fun c => (c, n)
  let o := { s.obs with interrupts := s.obs.interrupts ++ pend.filter fun p => !s.obs.interrupts.contains p }
  let o := if (s.eventCfg n).record && !eventSecure n then recordEvent o n info asserted s.stamp else o
  { s with obs := o }

/-- An info word (R481). -/
def eventInfo (inst slice code detail : Nat) : W64 :=
  BitVec.ofNat 64 (inst % 65536 * 2 ^ 48 + slice % 65536 * 2 ^ 32 + code % 65536 * 65536 + detail % 65536)

/-- No instance, no slice. -/
def noInst : Nat := 0xFFFF

/-! ## Counter sites (R490 to R492, R494) -/

/-- A power domain. -/
def State.domain (s : State) (d : Nat) : PowerDomain := s.pwr.domains.at {} d

/-- The power domains that carry an island (R506). -/
def islandDomains (i : Nat) : List Nat :=
  if i = 0x01 then [6] else if i = 0x02 then [10, 11, 12, 13, 14] else if i = 0x03 then [15, 16, 17, 18]
  else if i = 0x04 then [22] else if i = 0x05 then [19, 20] else if i = 0x06 then [21]
  else if i = 0x07 then [5] else if i = 0x08 then [3] else if i = 0x09 then [4]
  else if 0x0A ≤ i ∧ i ≤ 0x11 then [23 + (i - 0x0A)] else if i = 0x12 then [2] else if i = 0x13 then [9]
  else if i = 0x14 then [1] else [0]

/-- A domain whose clock does not run. -/
def PowerDomain.stopped (d : PowerDomain) : Bool := d.powerOff || d.clockOff || d.down != 0

/-- Every domain of an island is stopped. -/
def State.islandStopped (s : State) (i : Nat) : Bool := (islandDomains i).all fun d => (s.domain d).stopped

/-- The bank and public-key pools have one block-wide set (R490). -/
def siteInstance (block inst : Nat) : Nat := if block = 4 ∨ block = 5 then 0 else inst

/-- The island whose cycles a site counts (R490). -/
def siteIsland (block inst : Nat) : Nat :=
  if block = 11 then 0x0A + inst / 8 else if block = 3 then 0x02 else if block = 1 then 0x01
  else if block = 4 then 0x03 else 0x05

/-- A counter n further, with OVF on a wrap (R491). -/
def Counter48.add (c : Counter48) (n : Nat) : Counter48 :=
  { c with value := BitVec.ofNat 48 (c.value.toNat + n), ovf := c.ovf || 2 ^ 48 ≤ c.value.toNat + n }

/-- The event a counter is set to. -/
def Counter48.event (c : Counter48) : Nat := bits c.cfg.toNat 9 0

/-- Does a programmable counter count each raising of an event (R491). -/
def Counter48.counts (c : Counter48) (n : Nat) : Bool := c.cfg.toNat.testBit 31 && !c.cfg.toNat.testBit 30 && c.event == n

/-- The overflows of counters that have wrapped: a core's own interrupt, with the address it stood at, or CNT_OVF (R494). -/
def State.overflows (s : State) (wrapped : List (Nat × Nat × Nat)) : State :=
  wrapped.foldl (fun s k =>
      if k.1 == 11 then
        let (addr, s) := s.freeNat
        ({ s with obs := { s.obs with psample := s.obs.psample.put k.2.1 (addr % 2 ^ 40) } }).push (.interrupt k.2.1 2)
      else s.route 481 (eventInfo k.2.1 0xFFFF 0 k.2.2) true) s

/-- Advance each counter by what a rule gives it, none while its site's island is stopped, and act on those that wrap with OVF_INT
(R490, R491, R494). -/
def State.tally (s : State) (by_ : SiteCounter → Nat) : State :=
  let n (e : SiteCounter) : Nat := if s.islandStopped (siteIsland e.1.1 e.1.2.1) then 0 else by_ e
  let count (e : SiteCounter) : SiteCounter := (e.1, e.2.add (n e))
  let wraps (e : SiteCounter) : Bool := 2 ^ 48 ≤ e.2.value.toNat + n e && e.2.cfg.toNat.testBit 29
  let wrapped := (s.obs.counters.filter wraps).map (·.1)
  ({ s with obs := { s.obs with counters := s.obs.counters.map count } }).overflows wrapped

/-- Count n happenings of a site event at a site: block and instance (R492). -/
def State.countSite (s : State) (block inst event n : Nat) : State :=
  s.tally fun e => if e.1.1 == block && e.1.2.1 == siteInstance block inst && e.2.counts event then n else 0

/-- Count one raising of an event source at every site that counts it (R491). -/
def State.countSource (s : State) (n : Nat) : State := s.tally fun e => if e.2.counts n then 1 else 0

/-- Site event that an output is: a frame sent by a wharf port, a response datagram among them, or an exception taken by a core. -/
def State.countOutput (s : State) (o : Output) : State :=
  match o with
  | .frame cage _ _ => s.countSite 1 cage 513 1
  | .datagram cage _ _ h _ _ => (s.countSite 1 cage 513 1).countSite 1 cage 516 (if fld h 1 1 = 0x11 then 1 else 0)
  | .tcpReset cage _ => s.countSite 1 cage 513 1
  | .stream sid _ => s.countSite 1 ((s.whf.sessions.find sid).map (·.cage)).toList.sum 513 1
  | .towpath _ _ => s.countSite 1 2 513 1
  | .interlink _ _ _ => s.countSite 1 1 513 1
  | .witness _ _ _ _ => s
  | .response _ _ _ _ _ _ => s
  | .access _ _ _ => s
  | .interrupt core _ => s.countSite 11 core 515 1
  | .pmbus _ _ => s

/-- Put something out, counted where a site counts it; a module that has not booted since its reset is silent (R432, R458, R492,
R504). -/
def State.emit (s : State) (o : Output) : State := if s.ctr.bootDone then (s.push o).countOutput o else s

/-! ## Raising events (R480 to R487) -/

/-- Raise an edge event (R482). A reserved source is never raised; an S event of a secure restart is
latched (R484). -/
def State.raise (s : State) (n : Nat) (inst slice code detail : Nat) : State :=
  if !eventSources.contains n then s else
  let info := eventInfo inst slice code detail
  let s := s.countSource n
  if eventSecure n && s.cor.restarting then
    { s with cor := { s.cor with heldEvents := s.cor.heldEvents ++ [(n, BitVec.ofNat 32 detail)] } }
  else s.route n info true

/-- A level condition of an instance begins or ends; nothing happens when it already stands so (R482). -/
def State.level (s : State) (n : Nat) (on : Bool) (inst slice code detail : Nat) : State :=
  let c := (n, inst, detail)
  if s.obs.conditions.contains c == on then s
  else
    let s := if on then s.countSource n else s
    let s := { s with obs := { s.obs with
        conditions := if on then s.obs.conditions ++ [c] else s.obs.conditions.filter (· != c) } }
    s.route n (eventInfo inst slice code detail) on

/-! ## Sources, generator pairs and DRBG instances (R332 to R337) -/

/-- A source by number: 0 the ring bank, 1 the latch array. -/
def State.source (s : State) (n : Nat) : Source := if n = 0 then s.ent.ring else s.ent.latch

/-- Replace a source. -/
def State.setSource (s : State) (n : Nat) (x : Source) : State :=
  if n = 0 then { s with ent := { s.ent with ring := x } } else { s with ent := { s.ent with latch := x } }

/-- A source is RUNNING. -/
def State.sourceRunning (s : State) : Bool := s.ent.ring.state == .running || s.ent.latch.state == .running

/-- Both cores of generator pair p pass (R336). -/
def pairPasses (genOk p : Nat) : Bool := genOk.testBit (2 * p) && genOk.testBit (2 * p + 1)

/-- Generator pairs in service. -/
def State.pairsServing (s : State) : Nat := ((List.range 4).filter fun p => pairPasses s.ent.genOk p).length

/-- A conditioned block of a source: SHA-384 over 1,024 raw bits, those gathered and as many more as it takes. The raw bits are free, and so
are the blocks that no reseed has taken and the bits gathered since (R332; log entry 28). -/
def State.conditioned (s : State) (n : Nat) : Bytes × State :=
  let x := s.source n
  let (more, s) := s.freeBytes (128 - x.raw.length)
  let (since, s) := s.freeBytes 127
  let (k, s) := s.freeNat
  (exact 48 (Config.sha384 (x.raw ++ more)),
   s.setSource n { x with raw := since.take (k % 128), blocks := x.blocks + BitVec.ofNat 32 (k / 128 + 1) })

/-- Seed material: the XOR of one conditioned block from each source, or one block of the source that runs (R334). -/
def State.seedMaterial (s : State) : Bytes × State :=
  if s.ent.ring.state == .running && s.ent.latch.state == .running then
    let (a, s) := s.conditioned 0
    let (b, s) := s.conditioned 1
    (xorBytes a b, s)
  else s.conditioned (if s.ent.ring.state == .running then 0 else 1)

/-- Output blocks of a CTR_DRBG from its key and counter block on (SP 800-90A). -/
def drbgBlocks (key v : Bytes) (n : Nat) : Bytes :=
  ((List.range n).map fun i => exact 16 (Config.aesEnc key (be 16 (num v + i + 1)))).flatten

/-- The update function of a CTR_DRBG over 48 bytes: key and counter block. -/
def drbgUpdate (key v data : Bytes) : Bytes × Bytes :=
  let t := xorBytes (drbgBlocks key v 3) data
  (t.take 32, t.drop 32)

/-- Seed an instance: instantiation with its personalisation string, or a reseed (R334). -/
def Drbg.seeded (d : Drbg) (material personal : Bytes) (now : Nat) : Drbg :=
  let kv := if d.key.isEmpty then drbgUpdate (zeros 32) (zeros 16) (xorBytes material (exact 48 personal)) else drbgUpdate d.key d.v material
  { d with key := kv.1, v := kv.2, requests := 0, due := false, stalled := false, reseeded := now }

/-- One request of 512 bits, into the output buffer (R335, R336). -/
def Drbg.request (d : Drbg) : Drbg :=
  let out := drbgBlocks d.key d.v 4
  let kv := drbgUpdate d.key (be 16 (num d.v + 4)) (zeros 48)
  { d with key := kv.1, v := kv.2, requests := d.requests + 1, buffer := d.buffer ++ out }

/-- An instance. -/
def State.instanceAt (s : State) (i : Nat) : Drbg := s.ent.drbg.at {} i

/-- Replace an instance. -/
def State.setInstance (s : State) (i : Nat) (d : Drbg) : State :=
  { s with ent := { s.ent with drbg := s.ent.drbg.put i d } }

/-- Requests and time after which an instance reseeds (R335). -/
def reseedPoint (i : Nat) : Nat × Nat := if i < 32 then (4096, 100000000) else (65536, 1000000000)

/-- One instance is instantiated or reseeds from the sources that run. -/
def State.reseed (s : State) (i : Nat) : State :=
  let was := (s.instanceAt i).stalled
  let first := (s.instanceAt i).key.isEmpty
  let (m, s) := s.seedMaterial
  let s := s.setInstance i ((s.instanceAt i).seeded m (be 8 s.ctr.moduleId.toNat ++ be 2 i) s.now)
  let s := if first then s else { s with ent := { s.ent with reseeds := s.ent.reseeds + 1 } }
  if was then s.level 226 false i 0xFFFF 0 0 else s

/-- A reseed falls due: from the sources that run; with none the instance goes on from its buffer alone (R337). -/
def State.reseedDue (s : State) (i : Nat) : State :=
  if s.sourceRunning then s.reseed i else s.setInstance i { s.instanceAt i with due := true }

/-- A generator core refills a buffer that is below half (R336): of an instance that is seeded, or is at its reseed point, once it has
reseeded. Without a pair in service, or a seed, it stays as it is. -/
def State.refill (s : State) (i : Nat) : State :=
  let d := s.instanceAt i
  if 64 ≤ d.buffer.length || s.pairsServing = 0 then s
  else
    let s := if d.key.isEmpty || (reseedPoint i).1 ≤ d.requests then s.reseedDue i else s
    let d := s.instanceAt i
    if d.due then s else s.setInstance i d.request

/-- Take n bytes from an instance through its buffer, which is refilled as often as it takes; none when it runs dry. -/
def State.takeOutput (s : State) (i : Nat) : Nat → Nat → Option Bytes × State
  | 0, _ => (none, s)
  | fuel + 1, n =>
    let s := s.refill i
    let d := s.instanceAt i
    let got := d.buffer.take n
    let s := s.setInstance i { d with buffer := d.buffer.drop n }
    if n ≤ got.length then (some got, s.refill i)
    else if got.isEmpty then (none, s)
    else
      match s.takeOutput i fuel (n - got.length) with
      | (some more, s) => (some (got ++ more), s)
      | (none, s) => (none, s)

/-- n random bytes of an instance (R334, R335). A draw that the instance cannot serve leaves it stalled where its reseed is due, and is
counted; its value is never used. -/
def State.drawFrom (s : State) (i n : Nat) : Bytes × State :=
  match s.takeOutput i (n / 64 + 2) n with
  | (some bs, t) => (fit n bs, { t with draws := t.draws + 1 })
  | (none, _) =>
    let d := s.instanceAt i
    let (bs, s) := s.freeBytes n
    let s := s.setInstance i { d with stalled := d.stalled || s.pairsServing != 0, due := d.due || s.pairsServing != 0 }
    (bs, { s with ent := { s.ent with short := s.ent.short + 1 } })

/-- n random bytes of the instance that serves the work at hand. -/
def State.draw (s : State) (n : Nat) : Bytes × State := s.drawFrom s.ent.drawer n

/-- Randomness of a scheme that its standard names, as a number of 256 bits. -/
def State.drawSeed (s : State) : Nat × State :=
  let (r, s) := s.draw 32
  (num r, s)

/-- The work at hand draws on an instance. -/
def State.drawAs (s : State) (i : Nat) : State := { s with ent := { s.ent with drawer := i } }

/-- Every draw is served: a source runs, a generator pair is in service and no instance waits for its seed. -/
def State.servesDraws (s : State) : Bool :=
  s.sourceRunning && 1 ≤ s.pairsServing && s.ent.drbg.all fun e => !e.2.due

/-- Work left undone for want of a draw: the instances it found dry are stalled, each raising its event once (R337). -/
def State.noteStalls (s t : State) : State :=
  (t.ent.drbg.filter fun e => e.2.stalled && !(s.instanceAt e.1).stalled).foldl (fun s e =>
    (s.setInstance e.1 { s.instanceAt e.1 with due := true, stalled := true }).level 226 true e.1 0xFFFF 0 0) s

/-! ## Tables of slices, slots and sessions -/

/-- A slice table entry. -/
def State.slice (s : State) (id : Nat) : Slice := s.cus.slices.at {} id

/-- Replace a slice table entry. -/
def State.setSlice (s : State) (id : Nat) (x : Slice) : State :=
  { s with cus := { s.cus with slices := s.cus.slices.put id x } }

/-- A vault slot. -/
def State.slot (s : State) (i : Nat) : Slot := s.vlt.slots.at {} i

/-- Replace a vault slot. -/
def State.setSlot (s : State) (i : Nat) (x : Slot) : State :=
  { s with vlt := { s.vlt with slots := s.vlt.slots.put i x } }

/-- The session of a number. -/
def State.session (s : State) (n : Nat) : Option Session := s.whf.sessions.find n

/-- Change a session that exists. -/
def State.modSession (s : State) (n : Nat) (f : Session → Session) : State :=
  { s with whf := { s.whf with sessions := s.whf.sessions.mod n f } }

/-- A cage's link. -/
def State.link (s : State) (cage : Nat) : Link := s.whf.links.at { cfg := 0xBF1 } cage

/-- Change a cage's link. -/
def State.modLink (s : State) (cage : Nat) (f : Link → Link) : State :=
  { s with whf := { s.whf with links := s.whf.links.put cage (f (s.link cage)) } }

/-- Change a power domain. -/
def State.modDomain (s : State) (d : Nat) (f : PowerDomain → PowerDomain) : State :=
  { s with pwr := { s.pwr with domains := s.pwr.domains.put d (f (s.domain d)) } }

/-- A flight. -/
def State.flight (s : State) (f : Nat) : Flight := s.flt.flights.at {} f

/-- Change a flight. -/
def State.modFlight (s : State) (n : Nat) (f : Flight → Flight) : State :=
  { s with flt := { s.flt with flights := s.flt.flights.put n (f (s.flight n)) } }

/-- Replace a barge record. -/
def State.setBarge (s : State) (n : Nat) (r : BargeRec) : State :=
  { s with flt := { s.flt with barges := s.flt.barges.put n r } }

/-- Remove a barge record. -/
def State.dropBarge (s : State) (n : Nat) : State :=
  { s with flt := { s.flt with barges := s.flt.barges.del n } }

/-! ## Flights and their power domains (R416, R506) -/

/-- Power domain of a flight (R506). -/
def flightDomain (f : Nat) : Nat := 11 + f / 8

/-- A domain that is gated, or for which a gating request waits, grants no new lease. -/
def PowerDomain.closed (d : PowerDomain) : Bool := d.powerOff || d.clockOff || d.queued.isSome

/-- A flight that the lock keeper may place barges in. -/
def State.flightUp (s : State) (f : Nat) : Bool := (s.flight f).inService && !(s.domain (flightDomain f)).closed

/-- Flights of a flight's group that are out of service, or gated (R416). -/
def State.flightsDown (s : State) (f : Nat) : Nat :=
  match (s.section_ 0x0003).find? fun r => fld r 1 1 ≤ f && f < fld r 1 1 + fld r 2 1 with
  | some r => ((List.range (fld r 2 1)).filter fun i => !s.flightUp (fld r 1 1 + i)).length
  | none => 0

/-! ## Key schedule functions of FGL-3 (R62, R112) -/

/-- HMAC-SHA-384; hash algorithm 2 of R324. -/
def hmac384 (k m : Bytes) : Bytes := Config.hmac 2 k m

/-- HKDF-Expand for outputs of at most 48 bytes (RFC 5869). -/
def hkdfExpand (s info : Bytes) (n : Nat) : Bytes := fit n (hmac384 s (info ++ [1]))

/-- HKDF-Extract (RFC 5869). -/
def hkdfExtract (salt ikm : Bytes) : Bytes := hmac384 salt ikm

/-- key(s) of R62. -/
def trafficKey (s : Bytes) : Bytes := hkdfExpand s (ascii "key") 32

/-- iv(s) of R62. -/
def trafficIv (s : Bytes) : Bytes := hkdfExpand s (ascii "iv") 12

/-- The nonce of a datagram (R59). -/
def datagramNonce (iv : Bytes) (pn : Nat) : Bytes := xorBytes iv (zeros 4 ++ be 8 pn)

/-- The SP 800-108 counter KDF with HMAC-SHA-384 (R112). -/
def kdf (k label context : Bytes) (nbits : Nat) : Bytes :=
  fit (nbits / 8) (((List.range ((nbits + 383) / 384)).map fun i =>
      hmac384 k (be 4 (i + 1) ++ label ++ [0] ++ context ++ be 4 nbits)).flatten)

/-! ## Interlink (R376) -/

/-- Kinds sent without a link key: hello, join request, refusal, and the join grant, which its envelope protects and
whose receiver has no link key yet (log entry 31). -/
def interlinkClear (kind : Nat) : Bool := kind == 0x01 || kind == 0x09 || kind == 0x0A || kind == 0x0D

/-- The link to a module. -/
def State.peer (s : State) (id : W64) : Option PeerLink := s.tow.links.find? fun l => l.peer == id

/-- Replace the link to a module, or add it. -/
def State.setPeer (s : State) (l : PeerLink) : State :=
  { s with tow := { s.tow with links := (s.tow.links.filter fun x => x.peer != l.peer) ++ [l] } }

/-- An interlink header. -/
def State.interlinkHeader (s : State) (kind len pn : Nat) : Bytes :=
  be 4 0x4458484E ++ be 1 kind ++ zeros 1 ++ be 2 s.tow.floor ++ be 2 s.tow.floorIndex ++ be 2 len ++ zeros 4 ++
    be 8 s.ctr.moduleId.toNat ++ be 8 pn

/-- Send an interlink datagram to a linked module. Kinds under the link key wait for a live link. -/
def State.sendInterlink (s : State) (id : W64) (kind : Nat) (body : Bytes) : State :=
  match s.peer id with
  | none => s
  | some l =>
    if !interlinkClear kind && !l.live then s
    else
      let pn := l.txPn + 1
      let h := s.interlinkHeader kind body.length pn
      let wire := if interlinkClear kind then h ++ body
        else h ++ Config.gcmSeal l.txKey (zeros 4 ++ be 8 pn) h body
      let s := s.setPeer { l with txPn := pn, sent := s.now }
      let s := { s with tow := { s.tow with chan1 := { s.tow.chan1 with tx := s.tow.chan1.tx + 1 } } }
      s.emit (.interlink id kind wire)

/-- The linked module that serves a pair, if one announces a serving state (R376). -/
def State.serverOf (s : State) (pair : W64) : Option W64 :=
  (s.tow.links.find? fun l => l.live && l.pairId == pair && (l.state == 0 || l.state == 1 || l.state == 4)).map (·.peer)

/-! ## Datagrams and responses (R57, R68, R69) -/

/-- An FGL-3 header (R57). -/
def fglHeader (type : Nat) (phase : Bool) (sid pn len : Nat) : Bytes :=
  be 1 3 ++ be 1 type ++ be 2 (bit01 phase) ++ be 8 sid ++ be 8 pn ++ be 2 len ++ be 2 0

/-- Send a datagram under the session's traffic key to a cage and address. -/
def State.sendSealed (s : State) (sid type : Nat) (body : Bytes) (cage : Nat) (dest : Bytes) : State :=
  match s.session sid with
  | none => s
  | some ss =>
    let pn := ss.sendPn + 1
    let h := fglHeader type ss.send.phase sid pn body.length
    let wire := h ++ Config.gcmSeal (trafficKey ss.send.secret) (datagramNonce (trafficIv ss.send.secret) pn) h body
    let s := s.modSession sid fun x => { x with sendPn := pn, send := { x.send with count := x.send.count + 1 } }
    s.emit (.datagram cage 4633 dest h body wire)

/-- Send a datagram in the clear, outside any session's count; a BEACON leaves from its own port (R54). -/
def State.sendClear (s : State) (type sid pn : Nat) (body : Bytes) (cage : Nat) (dest : Bytes) : State :=
  let h := fglHeader type false sid pn body.length
  s.emit (.datagram cage (if type = 0x20 then 4634 else 4633) dest h body (h ++ body))

/-- An ALERT body: status and two reserved bytes. -/
def alertBody (c : W16) : Bytes := be 2 c.toNat ++ zeros 2

/-- A response record (R68). -/
def responseRecord (opcode : Nat) (rid : W64) (r : Reply) (again : Bool) : Bytes :=
  be 2 opcode ++ be 2 r.status.toNat ++ be 8 rid.toNat ++ be 4 (bit01 again) ++
    be 2 r.payload.length ++ zeros 2 ++ pad4 r.payload

/-- Where the clear key material of a response stands in its payload: what crosses the seal port (R217, R326). -/
def sealFields (opcode : Nat) (payload : Bytes) : List (Nat × Nat) :=
  if opcode = 0x0401 then [(72, 32)]
  else if opcode = 0x0403 then [(8, 32)]
  else if opcode = 0x0405 then (List.range ((payload.length - 12) / 36)).map fun i => (16 + 36 * i, 32)
  else if opcode = 0x0603 ∨ opcode = 0x0606 ∨ opcode = 0x0630 ∨ opcode = 0x0631 then [(0, payload.length)]
  else []

/-- Where the clear key material of a request stands in its payload: the dek of DK_WRAP (R217, R224). -/
def requestSeal (opcode : Nat) : List (Nat × Nat) := if opcode = 0x0402 then [(32, 32)] else []

/-- A payload without fields, and the fields that were cut. -/
def cutFields (p : Bytes) (fs : List (Nat × Nat)) : Bytes × List (Nat × Bytes) :=
  (fs.foldl (fun p f => patch p f.1 (zeros f.2)) p, fs.map fun f => (f.1, sl p f.1 f.2))

/-- Put cut fields back in place. -/
def fillFields (p : Bytes) (fs : List (Nat × Bytes)) : Bytes := fs.foldl (fun p f => patch p f.1 f.2) p

/-- A response record as a wharf buffer holds it, and what the seal port gives the GCM pipeline for it (R217). -/
def splitSeal (rec : Bytes) : Bytes × List (Nat × Bytes) :=
  let n := fld rec 16 2
  let fs := if fld rec 2 2 = 0 then sealFields (fld rec 0 2) (sl rec 20 n) else []
  (fs.foldl (fun r f => patch r (20 + f.1) (zeros f.2)) rec, fs.map fun f => (f.1, sl rec (20 + f.1) f.2))

/-- The pipeline fills the fields of a record in place. -/
def joinSeal (rec : Bytes) (fs : List (Nat × Bytes)) : Bytes := fs.foldl (fun r f => patch r (20 + f.1) f.2) rec

/-- Bytes a response body takes with its batch header. -/
def bodyLength (records : List Bytes) : Nat := 12 + (records.map (·.length)).foldl (· + ·) 0

/-- The gather record of a request datagram. -/
def State.gather (s : State) (sid pn : Nat) : Option Gather :=
  (s.whf.gathers.find? fun e => e.1 == (sid, pn)).map (·.2)

/-- Replace, or remove with none, a gather record. -/
def State.setGather (s : State) (sid pn : Nat) (g : Option Gather) : State :=
  let rest := s.whf.gathers.filter fun e => e.1 != (sid, pn)
  { s with whf := { s.whf with gathers := match g with
      | some g => rest ++ [((sid, pn), g)]
      | none => rest } }

/-- Send the pending responses of a request datagram, LAST set when none is outstanding (R69). -/
def State.flush (s : State) (sid pn : Nat) : State :=
  match s.gather sid pn with
  | none => s
  | some g =>
    let last := g.outstanding == 0
    let s := s.setGather sid pn (if last then none else some { g with records := [], seals := [] })
    if g.records.isEmpty then s
    else s.sendSealed sid 0x11
      (be 1 g.records.length ++ be 1 (bit01 last) ++ zeros 2 ++ be 8 pn ++ (List.zipWith joinSeal g.records g.seals).flatten)
      g.cage g.source

/-- A completed response joins the pending set of its request datagram (R69). -/
def State.joinGather (s : State) (sid pn cls : Nat) (rec : Bytes) : State :=
  match s.session sid with
  | none => s
  | some ss =>
    let fresh : Gather := { outstanding := 1, source := ss.source, cage := ss.cage }
    let g := (s.gather sid pn).getD fresh
    let s := if ss.limit < 40 + bodyLength (g.records ++ [rec]) then s.flush sid pn else s
    let g := (s.gather sid pn).getD g
    let g := { g with outstanding := g.outstanding - 1, records := g.records ++ [(splitSeal rec).1],
                      seals := g.seals ++ [(splitSeal rec).2], oldest := if g.records.isEmpty then s.now else g.oldest }
    let s := s.setGather sid pn (some g)
    if cls == 0 || g.outstanding == 0 then s.flush sid pn else s

/-- The DX6100 command number an opcode of the DX6100 forms comes from (R80). -/
def commandOf (opcode : Nat) : Nat :=
  let off := opcode % 256 - 0x80
  match opcode / 256 with
  | 0x01 => off | 0x02 => 0x10 + off | 0x03 => 0x20 + off | 0x05 => 0x40 + off
  | 0x06 => 0x80 + off | 0x07 => 0x90 + off | 0x08 => 0x98 + off | 0x09 => 0xA0 + off
  | 0x0A => 0xA8 + off | _ => 0xFF

/-- The opcode a DX6100 command number forms, none from 0xB0 (R80). -/
def opcodeOf (command : Nat) : Option Nat :=
  if command < 0x10 then some (0x0180 + command)
  else if command < 0x20 then some (0x0280 + (command - 0x10))
  else if command < 0x40 then some (0x0380 + (command - 0x20))
  else if command < 0x80 then some (0x0580 + (command - 0x40))
  else if command < 0x90 then some (0x0680 + (command - 0x80))
  else if command < 0x98 then some (0x0780 + (command - 0x90))
  else if command < 0xA0 then some (0x0880 + (command - 0x98))
  else if command < 0xA8 then some (0x0980 + (command - 0xA0))
  else if command < 0xB0 then some (0x0A80 + (command - 0xA8))
  else none

/-- An FGL-1 response frame (R79). -/
def fgl1Response (command seq : Nat) (r : Reply) : Bytes :=
  be 2 (8 + r.payload.length) ++ be 1 command ++ be 1 (statusClass r.status) ++ be 4 seq ++
    be 2 r.status.toNat ++ r.payload

/-- An FGL-2 response frame (R79). -/
def fgl2Response (opcode : Nat) (rid : W64) (r : Reply) : Bytes :=
  be 4 (12 + r.payload.length) ++ be 2 opcode ++ be 2 r.status.toNat ++ be 8 rid.toNat ++ r.payload

/-- Put out the FGL-1 responses whose turn has come, in request order (R79). -/
def State.fgl1Flush (s : State) (sid : Nat) : Nat → State
  | 0 => s
  | n + 1 =>
    match s.session sid with
    | none => s
    | some ss =>
      match ss.order with
      | [] => s
      | q :: rest =>
        match ss.ready.find? fun e => e.1 == q with
        | none => s
        | some e =>
          let s := s.modSession sid fun x =>
            { x with order := rest, ready := x.ready.erase e }
          State.fgl1Flush (s.emit (.stream sid e.2)) sid n

/-- A barge record at a stage; the clear key fields of its request stand apart until it has a flight context (R217). -/
def State.addRecord (s : State) (b : Barge) (stage : BargeStage) : State :=
  let cage : Nat := match s.gather b.session b.pn, s.session b.session with
    | some g, _ => g.cage
    | none, some x => x.cage
    | none, none => 0
  let (p, cut) := cutFields b.payload (if b.payload.length < 64 then [] else requestSeal b.opcode)
  let r : BargeRec := { barge := { b with payload := p }, cut := cut, stage := stage, pn := b.pn, admitted := b.cls, cage := cage, arrived := s.now }
  ({ s with flt := { s.flt with barges := s.flt.barges.put s.flt.nextBarge r, nextBarge := s.flt.nextBarge + 1 } }).countSite 1 cage 515 1

/-- Change a barge record that exists. -/
def State.modBarge (s : State) (n : Nat) (f : BargeRec → BargeRec) : State :=
  { s with flt := { s.flt with barges := s.flt.barges.mod n f } }

/-- A barge enters the machine: its record waits for the lock keeper and its request_id is in progress. -/
def State.enter (s : State) (b : Barge) (stage : BargeStage) : State :=
  (s.addRecord b stage).modSession b.session fun x => { x with inProgress := x.inProgress ++ [(b.requestId, b.idem)] }

/-- Take one FGL-1 request frame, with its number in the session for its packet number: it becomes a C2 barge, or is answered
BAD_FORMAT where its command forms no opcode (R14, R79, R80). -/
def State.fgl1Accept (s : State) (sid : Nat) (frame : Bytes) : State :=
  match s.session sid with
  | none => s
  | some ss =>
    let seq := fld frame 4 4
    let command := fld frame 2 1
    let n := ss.requests + 1
    let s := s.modSession sid fun x => { x with requests := n, order := x.order ++ [n] }
    match opcodeOf command with
    | none =>
      (s.modSession sid fun x =>
        { x with ready := x.ready ++ [(n, fgl1Response command seq ⟨stBadFormat, []⟩)] }).fgl1Flush sid
          (ss.order.length + 1)
    | some op =>
      s.enter { session := sid, pn := n, slice := ss.slice, generation := ss.generation, cls := 2, opcode := op,
                requestId := BitVec.ofNat 64 seq, idem := 0, payload := frame.drop 8 } .arrived

/-- Take held FGL-1 requests while fewer than sixteen are outstanding (R79). -/
def State.fgl1Take (s : State) (sid : Nat) : Nat → State
  | 0 => s
  | n + 1 =>
    match s.session sid with
    | none => s
    | some ss =>
      match ss.held with
      | [] => s
      | f :: rest =>
        if ss.order.length < 16 then
          State.fgl1Take ((s.modSession sid fun x => { x with held := rest }).fgl1Accept sid f) sid n
        else s

/-- Does a response record fit the datagrams of a session (R69). -/
def Session.fits (x : Session) (payload : Bytes) : Bool := x.fgl != 3 || 20 + padded payload.length + 52 ≤ x.limit

/-- Emit the response to a barge: a forwarded one goes back to its gate (R377); it is discarded when its session has ended (R76),
held, whoever it goes to, while a module that was serving seeks its lease (R361). A stored result that a repeat finds too large for
its own session is answered BAD_FORMAT (R63, R69). -/
def State.respond (s : State) (sid pn opcode cls : Nat) (rid : W64) (r : Reply) (again : Bool) : State :=
  if s.tow.pair == .seeking && s.tow.wasServing then
    let (p, cut) := cutFields r.payload (if r.status = 0 then sealFields opcode r.payload else [])
    let h : HeldResponse := { session := sid, pn := pn, opcode := opcode, cls := cls, request := rid, reply := ⟨r.status, p⟩, cut := cut,
                              again := again }
    if (s.tow.foreign.find sid).isNone && (s.session sid).isNone then s
    else { s with tow := { s.tow with heldResponses := s.tow.heldResponses ++ [h] } }
  else
  match s.tow.foreign.find sid with
  | some (gate, tag) =>
    let s := { s with tow := { s.tow with foreign := s.tow.foreign.del sid } }
    (s.emit (.response sid rid opcode r.status r.payload again)).sendInterlink gate 0x03
      (be 8 tag ++ responseRecord opcode rid r again)
  | none =>
  match s.session sid with
  | none => s
  | some ss =>
    let (r, again) := if again && !ss.fits r.payload then (⟨stBadFormat, []⟩, false) else (r, again)
    let s := s.emit (.response sid rid opcode r.status r.payload again)
    let s := s.modSession sid fun x => { x with inProgress := x.inProgress.eraseP fun e => e.1 == rid }
    match ss.fgl with
    | 3 => s.joinGather sid pn cls (responseRecord opcode rid r again)
    | 2 => s.emit (.stream sid (fgl2Response opcode rid r))
    | _ =>
      let frame := fgl1Response (commandOf opcode) rid.toNat r
      if ss.order.contains pn then
        ((s.modSession sid fun x => { x with ready := x.ready ++ [(pn, frame)] }).fgl1Flush sid
          ss.order.length).fgl1Take sid ss.held.length
      else s.emit (.stream sid frame)

/-- A barge counts as in progress until its answer, which takes the first of its request_id away: an earlier barge of the same
request_id stays in progress (R71). -/
def State.busyWith (s : State) (b : Barge) : State :=
  s.modSession b.session fun x => { x with inProgress := (b.requestId, b.idem) :: x.inProgress }

/-- End a barge at once, before it has a record: its request_id is in progress until the answer. -/
def State.answerNow (s : State) (b : Barge) (r : Reply) : State :=
  (s.busyWith b).respond b.session b.pn b.opcode b.cls b.requestId r false

/-! ## Idempotency (R72, R73) -/

/-- The entry of a key, which is scoped to slice and generation. -/
def State.idemEntry (s : State) (slice : Nat) (gen : W32) (key : W64) : Option IdemEntry :=
  (s.whf.idem.find? fun e => e.1 == (slice, gen, key)).map (·.2)

/-- Replace, or remove with none, an entry. -/
def State.setIdem (s : State) (slice : Nat) (gen : W32) (key : W64) (e : Option IdemEntry) : State :=
  let rest := s.whf.idem.filter fun x => x.1 != (slice, gen, key)
  { s with whf := { s.whf with idem := match e with
      | some e => rest ++ [((slice, gen, key), e)]
      | none => rest } }

/-- Entries a slice holds. -/
def State.idemCount (s : State) (slice : Nat) : Nat :=
  (s.whf.idem.filter fun e => e.1.1 == slice).length

/-- The payload an idempotency entry keeps: that of a verb whose response carries dek is held without it (R218). -/
def idemStored (opcode : Nat) (r : Reply) : Bytes :=
  if r.status ≠ stDone then r.payload
  else if opcode = 0x0401 then r.payload.take 72
  else if opcode = 0x0403 then r.payload.take 8
  else if opcode = 0x0405 then
    r.payload.take 12 ++ (List.range ((r.payload.length - 12) / 36)).flatMap fun i => sl r.payload (12 + 36 * i) 4
  else r.payload

/-- What the digest of an idempotency entry covers: the payload, of a verb that fills its data key again without the blob it may
carry, so that a repeat may be sent with the blob (R72, R218; log entry 19). -/
def idemPayload (b : Barge) : Bytes :=
  let n := if b.opcode = 0x0401 then 32 else 96
  if (b.opcode = 0x0401 ∨ b.opcode = 0x0403) ∧ (b.payload.length = n ∨ b.payload.length = n + 96) then
    b.payload.take 28 ++ be 1 (fld b.payload 28 1 / 2 * 2) ++ sl b.payload 29 (n - 29)
  else b.payload

/-- Record the result of a barge under its key, or drop its entry for a class 0x06 or 0x07 code. -/
def State.recordIdem (s : State) (b : Barge) (result : Option Reply) (mirrored : Bool) : State :=
  if b.idem = 0 then s
  else
    let drop := match result with
      | some r => leavesNoEntry r.status
      | none => false
    let expiry := match s.idemEntry b.slice b.generation b.idem with
      | some e => e.expiry
      | none => s.now + s.retentionS * 1000000000
    s.setIdem b.slice b.generation b.idem
      (if drop then none
       else some { opcode := some b.opcode, digest := ((s.idemEntry b.slice b.generation b.idem).map (·.digest)).getD (Config.sha384 (idemPayload b)),
                   result := result.map fun r => (r.status, idemStored b.opcode r),
                   expiry := expiry, mirrored := mirrored })

/-- Repeats that wait for an original receive its result with REPEAT set (R72). -/
def State.answerRepeats (s : State) (b : Barge) (r : Reply) : State :=
  if b.idem = 0 then s
  else
    let waiting := s.flt.barges.filter fun e =>
      e.2.stage == .held && e.2.barge.idem == b.idem && e.2.barge.slice == b.slice &&
        e.2.barge.generation == b.generation
    waiting.foldl (fun s e =>
      (s.respond e.2.barge.session e.2.pn e.2.barge.opcode e.2.admitted e.2.barge.requestId r true).dropBarge e.1) s

/-! ## Device keys (R319) -/

/-- Scalar d of a device key with a label. -/
def State.deviceScalar (s : State) (label : String) : Bytes :=
  be 48 (num (kdf s.vlt.dis (ascii label) (be 8 s.ctr.moduleId.toNat) 448) % (Config.curveOrder 2 - 1) + 1)

/-- Private key of slot 1. -/
def State.identityKey (s : State) : Bytes := s.deviceScalar "DX8300 idkey"
/-- Private key of slot 2. -/
def State.attestKey (s : State) : Bytes := s.deviceScalar "DX8300 attest"
/-- Private key of slot 3. -/
def State.sessionKey (s : State) : Bytes := s.deviceScalar "DX8300 session"

/-- An ECDSA P-384 signature, 96 bytes (function 0x01, domain 0x02 of R302 and R325). -/
def State.sign384 (s : State) (key msg : Bytes) : Bytes := fit 96 (Config.sigSign 0x01 2 key msg s.draws)

end Sys2Proof.Machine
end

