-- ==== Sys2Proof/Machine/Mirror.lean ====
section
/-! DEFINITION. Records, epochs and prior images: what a key-changing barge sends to the partner and
how a lost partner undoes it (R38, R130, R349, R356 to R360). -/

namespace Sys2Proof.Machine

/-! ## Keeper records (R86, R90, R94, R104): a kind, then fields behind their lengths; the spec gives them no layout
(log entry 15). A time is carried as what is left of it, so that it runs on by the receiver's monotonic clock. -/

/-- A quota record (R99). -/
def quotaOf (q : Bytes) : Quota :=
  { vaultSlots := fld q 0 4, holdMib := fld q 4 4, sessions3 := fld q 8 2, sessions12 := fld q 10 2, idemEntries := fld q 12 4 }

/-- A quota record as bytes. -/
def quotaBytes (q : Quota) : Bytes :=
  be 4 q.vaultSlots ++ be 4 q.holdMib ++ be 2 q.sessions3 ++ be 2 q.sessions12 ++ be 4 q.idemEntries

/-- What is left until a time, in ns. -/
def left_ (now t : Nat) : Bytes := be 8 (t - now)

/-- A custodian entry as fields (R83, R86). -/
def custodianFields (now : Nat) (c : Custodian) : List Bytes :=
  [c.label, be 1 c.kinds, c.ecdsaKey, c.mldsaKey, be 1 c.roles, be 1 c.state.ord, be 1 c.fails,
   (c.holdOff.map (left_ now)).getD []]

/-- The custodian entry of fields. -/
def custodianOf (now : Nat) (f : Nat → Bytes) : Custodian :=
  { label := f 0, kinds := num (f 1), ecdsaKey := f 2, mldsaKey := f 3, roles := num (f 4),
    state := custodianStateOf (num (f 5)), fails := num (f 6),
    holdOff := if (f 7).isEmpty then none else some (now + num (f 7)) }

/-- A ballot as fields (R90 to R94). -/
def ballotFields (now : Nat) (x : Ballot) : List Bytes :=
  [be 2 x.opcode, be 2 x.target, be 4 x.generation.toNat, be 1 x.pflags, be 2 x.length, x.payload, x.bd, be 1 x.role, be 1 x.m,
   be 2 x.window, be 1 x.state.ord, be 8 x.proposer, left_ now x.expires,
   x.approvals.flatMap fun a => be 1 a.1 ++ left_ now a.2, left_ now x.dropAt, be 4 x.acts]

/-- The ballot of fields; it is no local ballot of the receiver. -/
def ballotOf (now : Nat) (f : Nat → Bytes) : Ballot :=
  { opcode := num (f 0), target := num (f 1), generation := BitVec.ofNat 32 (num (f 2)), pflags := num (f 3),
    length := num (f 4), payload := f 5, bd := f 6, role := num (f 7), m := num (f 8), window := num (f 9),
    state := ballotStateOf (num (f 10)), proposer := num (f 11), expires := now + num (f 12),
    approvals := (pieces 9 (f 13)).map fun a => (fld a 0 1, now + fld a 1 8), isLocal := false,
    dropAt := now + num (f 14), acts := num (f 15) }

/-- A slice entry as fields: what a reset or removal in progress still has to do goes with it (R99, R104). -/
def sliceFields (now : Nat) (x : Slice) : List Bytes :=
  [be 1 x.state.ord, be 4 x.generation.toNat, (x.carried.map fun g => be 4 g.toNat).getD [], quotaBytes x.quota,
   (x.drain.map fun d => be 1 (bit01 d.removal) ++ be 1 d.prior.ord ++ be 4 d.oldGeneration.toNat ++ left_ now d.deadline).getD [],
   x.handleMap.flatMap fun e => be 8 e.1.toNat ++ be 8 e.2.toNat, x.decTabs.flatMap fun e => be 1 e.1 ++ fit 8 e.2,
   x.spread.flatMap fun p => be 8 p.toNat, be 4 x.acts]

/-- A slice entry that takes the fields of a record and keeps what is the module's own. -/
def Slice.take (x : Slice) (now : Nat) (f : Nat → Bytes) : Slice :=
  let d := f 4
  { x with
    state := sliceStateOf (num (f 0)), generation := BitVec.ofNat 32 (num (f 1)),
    carried := if (f 2).isEmpty then none else some (BitVec.ofNat 32 (num (f 2))), quota := quotaOf (f 3),
    drain := if d.isEmpty then none else
      some { removal := fld d 0 1 == 1, prior := sliceStateOf (fld d 1 1), oldGeneration := BitVec.ofNat 32 (fld d 2 4),
             deadline := now + fld d 6 8, answer := none },
    handleMap := (pieces 16 (f 5)).map fun e => (BitVec.ofNat 64 (fld e 0 8), BitVec.ofNat 64 (fld e 8 8)),
    decTabs := (pieces 9 (f 6)).map fun e => (fld e 0 1, sl e 1 8),
    spread := (pieces 8 (f 7)).map fun p => BitVec.ofNat 64 (num p), acts := num (f 8) }

/-- A shred sequence as fields (R371, R532). -/
def shredFields (now : Nat) (q : ShredSeq) : List Bytes :=
  [be 8 q.handle.toNat, be 8 q.keyId.toNat, be 2 q.slice, be 4 q.generation.toNat, be 1 q.keyType, be 2 q.flags, q.fingerprint,
   q.derivatives.flatMap fun d => be 8 d.1.toNat ++ be 8 d.2.toNat, q.slots.flatMap fun i => be 2 i, be 2 q.floor, be 1 q.phase,
   left_ now q.deadline, q.awaiting.flatMap fun m => be 8 m.toNat, be 2 (q.members - if q.partner = 0 then 1 else 2)]

/-- The shred sequence of fields, as a module that takes it over runs it: alone, with the other members that have acknowledged, and no
answer to give (R145, R371). -/
def shredOf (now : Nat) (f : Nat → Bytes) : ShredSeq :=
  { handle := BitVec.ofNat 64 (num (f 0)), keyId := BitVec.ofNat 64 (num (f 1)), slice := num (f 2),
    generation := BitVec.ofNat 32 (num (f 3)), keyType := num (f 4), flags := num (f 5), fingerprint := f 6,
    derivatives := (pieces 16 (f 7)).map fun d => (BitVec.ofNat 64 (fld d 0 8), BitVec.ofNat 64 (fld d 8 8)),
    slots := (pieces 2 (f 8)).map num, floor := num (f 9), resumed := true, phase := min 3 (num (f 10)),
    deadline := now + num (f 11), members := 1 + num (f 13), awaiting := (pieces 8 (f 12)).map fun m => BitVec.ofNat 64 (num m),
    evidence := none, time := 0, waiting := [] }

/-- A record of the custody tables region that a touch writes, as its area and its place there: custodians, ballots, anchors,
bindings, slice table, shred register, custody and domain state, recorded sequences (R128). -/
def Touch.record : Touch → Option (Nat × Nat)
  | .custodian i _ => some (0, i)
  | .ballot i _ => some (1, i)
  | .anchor i _ => some (2, i)
  | .bindings _ => some (3, 0)
  | .slice i _ => some (4, i)
  | .generation i => some (4, i)
  | .shred t cls gen keyId => some (5, ((t * 256 + cls) * 2 ^ 32 + gen.toNat) * 2 ^ 64 + keyId.toNat)
  | .domain _ _ => some (6, 0)
  | .established => some (6, 0)
  | .sequence n => some (7, n)
  | .slot _ => none
  | .slotErased _ => none
  | .blob _ => none
  | .ledger _ => none
  | .directory _ => none
  | .dirAnchor _ _ => none

/-- A record carries the floor it is written at (R117, R128). -/
def State.mark (s : State) (r : Nat × Nat) : State :=
  { s with cus := { s.cus with marks := (s.cus.marks.filter fun e => e.1 != r) ++ [(r, s.tow.floor)] } }

/-- Mark the record that a touch writes. -/
def State.markTouch (s : State) (t : Touch) : State :=
  match t.record with
  | some r => s.mark r
  | none => s

/-- Records of the custody tables region that a barge reads: its slice's entry, and those its family 0x02 verb names (R117, R128). -/
def recordsRead (b : Barge) : List (Nat × Nat) :=
  let p := b.payload
  let op := b.opcode
  (4, b.slice) ::
    (if op / 256 = 2 then [(6, 0)] else []) ++
    (if 0x0201 ≤ op ∧ op ≤ 0x0205 then [(0, fld p 0 1)] else []) ++
    (if 0x0211 ≤ op ∧ op ≤ 0x0214 then [(1, fld p 0 8)] else []) ++
    (if op = 0x0211 then [(0, fld p 8 1)] else []) ++
    (if 0x0220 ≤ op ∧ op ≤ 0x022A ∧ op ≠ 0x0222 then [(4, fld p 0 2 % 4096)] else []) ++
    (if op = 0x0222 then [(3, 0), (2, fld p 1 1), (4, fld p 4 2 % 4096)] else []) ++
    (if op = 0x0230 ∨ op = 0x0231 then [(2, fld p 0 1), (3, 0)] else [])

/-- A record that a barge reads is marked above the running SVN (R117). -/
def State.recordsLocked (s : State) (b : Barge) : Bool :=
  s.cus.marks.any fun e => (recordsRead b).contains e.1 && decide (s.ctr.svn < e.2)

/-- An anchor of the basin directory. -/
def State.dirAnchor (s : State) (home : W64) (i : Nat) : Option Bytes :=
  (s.tow.dirAnchors.find? fun a => a.1 == (home, i)).map (·.2)

/-- Set an anchor of the basin directory, or remove it with none. -/
def State.setDirAnchor (s : State) (home : W64) (i : Nat) (c : Option Bytes) : State :=
  { s with tow := { s.tow with dirAnchors := (s.tow.dirAnchors.filter fun a => a.1 != (home, i)) ++ c.toList.map fun x => ((home, i), x) } }

/-- The keeper record of the custody object that a touch names; empty for a touch of another record type. -/
def State.keeperRecord (s : State) (t : Touch) : Bytes :=
  match t with
  | .custodian i _ =>
    packFields ([be 1 1, be 1 i, be 4 s.cus.custodySeq.toNat] ++
      ((s.cus.custodians.find i).map (custodianFields s.now)).getD [])
  | .ballot i _ =>
    packFields ([be 1 2, be 8 i, be 4 s.cus.moduleSeq.toNat] ++ ((s.cus.ballots.find i).map (ballotFields s.now)).getD [])
  | .bindings _ => packFields (be 1 3 :: s.cus.bindings.map fun x => be 1 x.anchor ++ be 2 x.slice ++ fit 16 x.principal)
  | .anchor i _ => packFields ([be 1 4, be 1 i] ++ (s.cus.anchors.find i).toList)
  | .slice i _ => packFields ([be 1 5, be 2 i] ++ sliceFields s.now (s.slice i))
  | .established => packFields [be 1 6, be 1 (bit01 s.cus.established)]
  | .slot _ => []
  | .slotErased _ => []
  | .blob _ => []
  | .generation _ => []
  | .shred _ _ _ _ => []
  | .domain _ _ => []
  | .ledger k =>
    packFields ([be 1 7, be 8 k.toNat] ++
      ((s.tow.ledgers.find? fun l => l.key == k).map fun l => [be 8 l.limit, be 8 l.issued, be 8 l.given]).getD [])
  | .sequence n =>
    packFields ([be 1 8, be 8 n] ++ (((s.vlt.shreds.find n).filter fun q => q.phase < 6).map (shredFields s.now)).getD [])
  | .directory t =>
    packFields ([be 1 9, be 2 t] ++ ((s.tow.directory.find t).map fun x =>
      [be 8 x.home.toNat, be 4 x.generation.toNat, x.bindings.flatMap fun b => be 1 b.1 ++ fit 16 b.2]).getD [])
  | .dirAnchor h i => packFields ([be 1 10, be 8 h.toNat, be 1 i] ++ (s.dirAnchor h i).toList)

/-- Put an option at a key, removing it for none. -/
def putOpt {α : Type} (m : Map α) (k : Nat) : Option α → Map α
  | some v => m.put k v
  | none => m.del k

/-- The record of the custody tables region that a keeper record writes. -/
def keeperMark (fs : List Bytes) : Option (Nat × Nat) :=
  let i := num (fs.getD 1 [])
  match num (fs.getD 0 []) with
  | 1 => some (0, i) | 2 => some (1, i) | 3 => some (3, 0) | 4 => some (2, i) | 5 => some (4, i) | 6 => some (6, 0) | 8 => some (7, i)
  | _ => none

/-- The custody tables after a whole keeper record is applied. -/
def State.applyWhole (s : State) (bs : Bytes) : State :=
  let fs := unpackFields bs.length bs
  let s := match keeperMark fs with
    | some r => s.mark r
    | none => s
  let f (k i : Nat) : Bytes := fs.getD (k + i) []
  let i := num (f 1 0)
  let c := s.cus
  match num (f 0 0) with
  | 1 =>
    { s with cus := { c with
        custodySeq := BitVec.ofNat 32 (num (f 2 0)),
        custodians := putOpt c.custodians i (if fs.length = 3 then none else some (custodianOf s.now (f 3))) } }
  | 2 =>
    { s with cus := { c with
        moduleSeq := BitVec.ofNat 32 (num (f 2 0)), ballotCount := max c.ballotCount (i % 2 ^ 48),
        ballots := putOpt c.ballots i (if fs.length = 3 then none else some (ballotOf s.now (f 3))) } }
  | 3 =>
    let bd (b : Bytes) : Binding := { anchor := fld b 0 1, slice := fld b 1 2, principal := sl b 3 16 }
    { s with cus := { c with bindings := (fs.drop 1).map bd } }
  | 4 => { s with cus := { c with anchors := putOpt c.anchors i (if fs.length = 2 then none else some (f 2 0)) } }
  | 5 => s.setSlice i ((s.slice i).take s.now (f 2))
  | 6 => { s with cus := { c with established := i == 1 } }
  | 7 =>
    let k : W64 := BitVec.ofNat 64 i
    { s with tow := { s.tow with ledgers := (s.tow.ledgers.filter fun l => l.key != k) ++
        (if fs.length = 2 then [] else [{ key := k, limit := num (f 2 0), issued := num (f 2 1), given := num (f 2 2) }]) } }
  | 8 =>
    { s with vlt := { s.vlt with shreds := putOpt s.vlt.shreds i (if fs.length = 2 then none else some (shredOf s.now (f 2))) } }
  | 9 =>
    let x : DirEntry := { home := BitVec.ofNat 64 (num (f 2 0)), generation := BitVec.ofNat 32 (num (f 2 1)),
                          bindings := (pieces 17 (f 2 2)).map fun b => (fld b 0 1, sl b 1 16) }
    { s with tow := { s.tow with directory := putOpt s.tow.directory i (if fs.length = 2 then none else some x) } }
  | 10 => s.setDirAnchor (BitVec.ofNat 64 i) (num (f 2 0)) (if fs.length = 3 then none else some (f 3 0))
  | _ => s

/-- The opening record of a full sync (log entry 31). -/
def syncOpens : Bytes := packFields [be 1 11]

/-- A keeper record is applied; of one sent in parts, the last part completes it (R356; log entry 16). -/
def State.applyKeeper (s : State) (bs : Bytes) : State :=
  let fs := unpackFields 3 bs
  if num (fs.getD 0 []) = 12 then
    let whole := s.tow.parts ++ fs.getD 2 []
    if num (fs.getD 1 []) = 1 then State.applyWhole { s with tow := { s.tow with parts := [] } } whole
    else { s with tow := { s.tow with parts := whole } }
  else s.applyWhole bs

/-! ## Slots as bytes (R120) -/

/-- Bytes 0 to 111 of a slot. -/
def slotBytes (x : Slot) : Bytes :=
  fit 64 x.material ++ be 8 x.attributes.toNat ++ be 4 (x.state.ord * 2 ^ 28 + x.epoch) ++ be 2 x.slice ++
    be 1 x.keyType ++ be 1 x.length ++ be 8 x.usageLimit.toNat ++ be 8 x.leaseTop.toNat ++
    be 8 x.keyId.toNat ++ be 8 x.lineage.toNat

/-- The slot that bytes 0 to 111 hold, with a tag. -/
def slotOfBytes (bs tag : Bytes) : Slot :=
  { material := sl bs 0 64, attributes := BitVec.ofNat 64 (fld bs 64 8),
    state := slotStateOf (fld bs 72 4 / 2 ^ 28), epoch := fld bs 72 4 % 2 ^ 20,
    slice := fld bs 76 2 % 4096, keyType := fld bs 78 1, length := fld bs 79 1,
    usageLimit := BitVec.ofNat 64 (fld bs 80 8), leaseTop := BitVec.ofNat 64 (fld bs 88 8),
    keyId := BitVec.ofNat 64 (fld bs 96 8), lineage := BitVec.ofNat 64 (fld bs 104 8), tag := tag }

/-- The integrity tag of a slot under vik (R125). -/
def State.slotTag (s : State) (i : Nat) (x : Slot) : Bytes :=
  Config.aesCmac s.vlt.vik (be 2 i ++ slotBytes x)

/-- msk at a floor: derived from rat[f] (R113, R119). -/
def ratchetStep (label : Bytes) (v : Nat) (k : Bytes) : Bytes := Config.sha384 (label ++ be 2 v ++ k)

/-- The ratchet value at v, stepping down n times from the value at v + n (R113, R116). -/
def ratchetDown (label : Bytes) (top : Bytes) (v : Nat) : Nat → Bytes
  | 0 => top
  | n + 1 => ratchetStep label v (ratchetDown label top (v + 1) n)

/-- rat[f] from rat[s] of the running SVN (R114, R117). -/
def State.ratAt (s : State) (f : Nat) : Bytes :=
  ratchetDown (ascii "DX8300 step") s.vlt.rat f (s.ctr.svn - f)

/-- dom[f] from dom[s] of the running SVN (R116, R117). -/
def State.domAt (s : State) (f : Nat) : Bytes :=
  ratchetDown (ascii "DX8300 dstep") s.vlt.dom f (s.ctr.svn - f)

/-- The module storage key at a floor (R119). -/
def State.msk (s : State) (f : Nat) : Bytes :=
  kdf (s.ratAt f) (ascii "DX8300 store") (be 8 s.ctr.moduleId.toNat) 256

/-- The image record of a slot, 136 bytes (R129). The spec gives the sealing no nonce: 12 zero bytes, DESIGN CHOICE (log entry 44). -/
def State.imageRecord (s : State) (i seq : Nat) (x : Slot) : Bytes :=
  let head := be 2 s.tow.floor ++ zeros 2 ++ be 4 seq
  let plain := match x.state with
    | .free | .retired => zeros 72 ++ sl (slotBytes x) 72 4 ++ zeros 36
    | _ => slotBytes x
  head ++ fit 128 (Config.sivSeal (s.msk s.tow.floor) (zeros 12) (be 2 i ++ head) plain)

/-- Is a slot a transit slot (R120). -/
def isTransit (i : Nat) : Bool := i ≥ 65408

/-- Write a vault slot with its tag, and its image record, which is read back: a mismatch is retried twice, and a third leaves the
slot with its prior contents (R125, R130 steps 1 and 2). -/
def State.writeSlot (s : State) (i : Nat) (x : Slot) : State :=
  let x := { x with tag := s.slotTag i x }
  if isTransit i then s.setSlot i x
  else if 3 ≤ s.vlt.badWrites then
    { s with vlt := { s.vlt with badWrites := s.vlt.badWrites - 3, imageFaults := s.vlt.imageFaults + 1 } }
  else
    let seq := fld (s.vlt.image.at [] i) 4 4 + s.vlt.badWrites + 1
    let s := s.setSlot i x
    { s with vlt := { s.vlt with image := s.vlt.image.put i (s.imageRecord i seq x), badWrites := 0 } }

/-! ## Records (R356) -/

/-- The mirrored record of a touch, as the state now stands. -/
def State.touchRecord (s : State) (t : Touch) : MirrorRec :=
  match t with
  | .slot i =>
    { kind := 1, destructive := (s.slot i).state == .free || (s.slot i).state == .retired,
      body := be 2 i ++ zeros 2 ++ slotBytes (s.slot i) }
  | .slotErased i => { kind := 1, destructive := true, body := be 2 i ++ zeros 2 ++ slotBytes (s.slot i) }
  | .blob i =>
    let bl := s.vlt.blobs.at [] i
    { kind := 6, destructive := false, body := sl (s.slot i).material 0 8 ++ be 4 0 ++ be 4 bl.length ++ bl }
  | .generation id =>
    { kind := 5, destructive := true,
      body := be 2 id ++ zeros 2 ++ be 4 (s.slice id).generation.toNat ++ be 1 (s.slice id).state.ord ++ zeros 3 }
  | .shred sl c g k =>
    { kind := 7, destructive := true, body := be 2 sl ++ be 1 c ++ zeros 1 ++ be 4 g.toNat ++ be 8 k.toNat }
  | .domain k b => { kind := 8, destructive := false, body := be 8 s.tow.domainSeq ++ be 1 k ++ zeros 3 ++ b }
  | .custodian i d => { kind := 2, destructive := d, body := s.keeperRecord (.custodian i d) }
  | .ballot i d => { kind := 2, destructive := d, body := s.keeperRecord (.ballot i d) }
  | .slice i d => { kind := 2, destructive := d, body := s.keeperRecord (.slice i d) }
  | .bindings d => { kind := 2, destructive := d, body := s.keeperRecord (.bindings d) }
  | .anchor i d => { kind := 2, destructive := d, body := s.keeperRecord (.anchor i d) }
  | .established => { kind := 2, destructive := false, body := s.keeperRecord .established }
  | .ledger k => { kind := 2, destructive := false, body := s.keeperRecord (.ledger k) }
  | .sequence n => { kind := 2, destructive := true, body := s.keeperRecord (.sequence n) }
  | .directory t => { kind := 2, destructive := false, body := s.keeperRecord (.directory t) }
  | .dirAnchor h i => { kind := 2, destructive := false, body := s.keeperRecord (.dirAnchor h i) }

/-- Bytes of a record's body that a frame has room for, as a copy record too (R355, R356; log entry 16). -/
def recordRoom : Nat := 9132

/-- A record too long for a frame goes as several: a blob by its offsets, a keeper record in parts (R355, R356; log entry 16). -/
def MirrorRec.split (r : MirrorRec) : List MirrorRec :=
  if r.body.length ≤ recordRoom then [r]
  else if r.kind = 6 then
    let ps := pieces 8192 (r.body.drop 16)
    (List.range ps.length).map fun i =>
      let p := ps.getD i []
      { r with body := sl r.body 0 8 ++ be 4 (8192 * i) ++ be 4 p.length ++ p }
  else if r.kind = 2 then
    let ps := pieces 8192 r.body
    (List.range ps.length).map fun i => { r with body := packFields [be 1 12, be 1 (bit01 (i + 1 == ps.length)), ps.getD i []] }
  else [r]

/-- The records of a touch; a domain record is mirrored by the registrar, which numbers it (R379). -/
def State.touchRecords (s : State) (t : Touch) : List MirrorRec :=
  match t with
  | .domain _ _ => if s.tow.registrar == s.tow.pairId then (s.touchRecord t).split else []
  | _ => (s.touchRecord t).split

/-- The domain state that a domain record changes, as it stands. -/
def State.domainPrior (s : State) : PriorImage := .domain s.tow.domainSeq s.tow.members s.tow.expelled

/-- The prior image a touch keeps (R360); what only erases keeps none. -/
def State.priorOf (s : State) (t : Touch) : Option PriorImage :=
  match t with
  | .slot i => some (.slot i (s.slot i) (s.vlt.image.at [] i))
  | .slotErased _ => none
  | .blob i => some (.blob i (s.vlt.blobs.find i))
  | .custodian i _ => some (.custodian i (s.cus.custodians.find i))
  | .ballot i _ => some (.ballot i (s.cus.ballots.find i))
  | .slice i _ => some (.slice i (s.slice i))
  | .bindings _ => some (.bindings s.cus.bindings)
  | .anchor i _ => some (.anchor i (s.cus.anchors.find i))
  | .established => some (.established s.cus.established)
  | .generation _ => none
  | .shred _ _ _ _ => none
  | .domain _ _ => some s.domainPrior
  | .ledger k => some (.ledger k (s.tow.ledgers.find? fun l => l.key == k))
  | .sequence _ => none
  | .directory t => some (.directory t (s.tow.directory.find t))
  | .dirAnchor _ _ => some (.dirAnchors s.tow.dirAnchors)

/-- Restore a prior image (R360). -/
def State.restorePrior (s : State) (p : PriorImage) : State :=
  match p with
  | .slot i x r => { s with vlt := { s.vlt with slots := s.vlt.slots.put i x,
                                                image := if r.isEmpty then s.vlt.image.del i else s.vlt.image.put i r } }
  | .custodian i c => { s with cus := { s.cus with custodians := putOpt s.cus.custodians i c } }
  | .ballot i x => { s with cus := { s.cus with ballots := putOpt s.cus.ballots i x } }
  | .slice i x => s.setSlice i x
  | .bindings x => { s with cus := { s.cus with bindings := x } }
  | .anchor i x => { s with cus := { s.cus with anchors := putOpt s.cus.anchors i x } }
  | .established x => { s with cus := { s.cus with established := x } }
  | .blob i x => { s with vlt := { s.vlt with blobs := putOpt s.vlt.blobs i x } }
  | .ledger k x => { s with tow := { s.tow with ledgers := (s.tow.ledgers.filter fun l => l.key != k) ++ x.toList } }
  | .directory t x => { s with tow := { s.tow with directory := putOpt s.tow.directory t x } }
  | .dirAnchors x => { s with tow := { s.tow with dirAnchors := x } }
  | .domain n ms es =>
    { s with tow := { s.tow with
        domainSeq := n, members := ms, expelled := es, domainLog := s.tow.domainLog.filter fun e => e.1 ≤ n,
        outbox := s.tow.outbox.filter fun m => m.2.2.1 != 0x04 || fld m.2.2.2 0 8 ≤ n } }

/-! ## Towpath frames (R355) -/

/-- A record as bytes (R356). -/
def recordBytes (r : MirrorRec) : Bytes := be 1 r.kind ++ zeros 1 ++ be 2 r.body.length ++ pad4 r.body

/-- Change the towpath's link. -/
def State.modTow (s : State) (f : PeerLink → PeerLink) : State := { s with tow := { s.tow with link := s.tow.link.map f } }

/-- Bytes 0 to 63 of a hello (log entry 31): module ID, pair_id, SVN, floor, floor index, pair state, reserved, term, nonce. -/
def State.helloFields (s : State) (nonce : Bytes) : Bytes :=
  be 8 s.ctr.moduleId.toNat ++ be 8 s.tow.pairId.toNat ++ be 2 s.ctr.svn ++ be 2 s.tow.floor ++ be 2 s.tow.floorIndex ++
    be 1 s.tow.pair.ord ++ zeros 1 ++ be 8 s.tow.term ++ fit 32 nonce

/-- A nonce for a new link, from the normal world's instance; without one no link begins (R335, R337). -/
def State.newLink (s0 : State) (peer : W64) : State :=
  let (n, s) := s0.drawFrom 112 32
  if s.ent.short != s0.ent.short then s0.noteStalls s else
  let old : PeerLink := match s.tow.link with
    | some l => if l.peer == peer then l else { peer := peer }
    | none => { peer := peer }
  { s with tow := { s.tow with link := some { old with nonce := n, live := false } } }

/-- Send this module's HELLO in the clear. -/
def State.sendHello (s : State) : State :=
  match s.tow.link with
  | none => s
  | some l =>
    let f := s.helloFields l.nonce
    let body := f ++ s.sign384 s.attestKey f
    let h := be 4 0x44585450 ++ be 1 1 ++ zeros 1 ++ be 2 s.tow.floor ++ be 2 s.tow.floorIndex ++ be 2 0 ++ be 4 0 ++
      be 8 s.tow.term ++ be 8 s.tow.acked ++ be 8 (l.txPn + 1)
    let s := s.modTow fun l => { l with txPn := l.txPn + 1, helloPn := l.txPn + 1, sent := s.now }
    ({ s with draws := s.draws + 1,
              tow := { s.tow with chan0 := { s.tow.chan0 with tx := s.tow.chan0.tx + 1 } } }).emit (.towpath 1 (h ++ body))

/-- Send a towpath frame of a kind to the partner: nothing leaves before its hello is complete, and after 2^32 frames under one key a
HELLO leaves in its place (R354). -/
def State.sendTowpath (s : State) (kind fflags : Nat) (records : List Bytes) (segment epoch : Nat) : State :=
  match s.tow.link with
  | none => s
  | some l =>
    if !l.live then s
    else if 2 ^ 32 ≤ l.txPn - l.helloPn then (s.newLink l.peer).sendHello
    else
    let pn := l.txPn + 1
    let h := be 4 0x44585450 ++ be 1 kind ++ be 1 fflags ++ be 2 s.tow.floor ++ be 2 s.tow.floorIndex ++
      be 2 records.length ++ be 4 segment ++ be 8 s.tow.term ++ be 8 epoch ++ be 8 pn
    let frame := h ++ Config.gcmSeal l.txKey (zeros 4 ++ be 8 pn) h records.flatten
    let s := { s with tow := { s.tow with
        link := some { l with txPn := pn, sent := s.now },
        chan0 := { s.tow.chan0 with tx := s.tow.chan0.tx + 1 } } }
    s.emit (.towpath kind frame)

/-! ## Epochs (R358) -/

/-- Bytes of records that one frame holds: 9,216 with its 18 bytes of 802.3 header and check, its 40 bytes of header and its tag
(R355; log entry 16). -/
def segmentRoom : Nat := 9142

/-- Records in segments, each filled as far as the next record allows. -/
def packSegments (open_ : List Bytes) : List Bytes → List (List Bytes)
  | [] => [open_]
  | r :: rs =>
    if open_.isEmpty || decide (open_.flatten.length + r.length ≤ segmentRoom) then packSegments (open_ ++ [r]) rs
    else open_ :: packSegments [r] rs

/-- The segments of an epoch (R355). -/
def Epoch.segments (e : Epoch) : List (List Bytes) :=
  packSegments [] ((e.mutations.map fun m => m.records.map recordBytes).flatten)

/-- Send the segments of an epoch, the last one flagged. -/
def State.sendEpoch (s : State) (n : Nat) : State :=
  let segs := (s.tow.epochs.at {} n).segments
  (List.range segs.length).foldl (fun s k => s.sendTowpath 2 (bit01 (k + 1 == segs.length)) (segs.getD k []) k n) s

/-- Close the open epoch and send it; an epoch without a mutation stays open. -/
def State.closeEpoch (s : State) : State :=
  match s.tow.epochs.find s.tow.epoch with
  | none => s
  | some e =>
    let n := s.tow.epoch
    let s := { s with tow := { s.tow with
        epochs := s.tow.epochs.put n { e with closed := true, sent := s.now }, epoch := n + 1 } }
    s.sendEpoch n

/-- Place a mutation in the current epoch, which it opens when none is open and closes at 256. -/
def State.mutate (s : State) (m : Mutation) : State :=
  let n := s.tow.epoch
  let e := (s.tow.epochs.find n).getD { opened := s.now }
  let e := { e with mutations := e.mutations ++ [m] }
  let s := { s with tow := { s.tow with epochs := s.tow.epochs.put n e } }
  if e.mutations.length ≥ 256 then s.closeEpoch else s

/-- The IDEM record of a key and its result, none for a result that leaves no entry (R72, R73, R356). -/
def State.idemRecord (s : State) (k : Nat × W32 × W64) (digest : Bytes) (r : Reply) : List MirrorRec :=
  if k.2.2 = 0 ∨ leavesNoEntry r.status then []
  else
    let left := match s.idemEntry k.1 k.2.1 k.2.2 with
      | some e => (e.expiry - s.now) / 1000000
      | none => s.retentionS * 1000
    [{ kind := 4, destructive := false,
       body := be 2 k.1 ++ be 4 k.2.1.toNat ++ be 8 k.2.2.toNat ++ fit 48 digest ++
         be 2 r.status.toNat ++ zeros 2 ++ be 4 left ++ r.payload }]

/-! ## Domain changes and directory updates (R375, R379, R382; log entries 18 and 31) -/

/-- Domain record types as a body: sequence, type, body (R379, R380). -/
def domainRecordBody (seq kind : Nat) (body : Bytes) : Bytes := be 8 seq ++ be 1 kind ++ zeros 3 ++ body

/-- Do mutations wait for the partner: a module that left PRIMARY for SEEKING still forms them (R38, R361). -/
def State.awaitsPartner (s : State) : Bool := s.tow.pair == .primary || s.tow.pair == .seeking

/-- Do mutations enter the epoch stream: toward a standby, and toward a joiner during its sync (R38, R353). -/
def State.mirrors (s : State) : Bool := s.awaitsPartner || (s.tow.pair == .solo && s.tow.syncing)

/-- Mirror what changed between two states, with no response to hold (R38). -/
def State.mirrorOnly (s s0 : State) (touch : List Touch) : State :=
  if s.mirrors then
    s.mutate { records := touch.flatMap s.touchRecords, prior := (touch.filterMap s0.priorOf).reverse, response := none,
               flight := 0, idem := (0, 0, 0), lease := none }
  else s

/-- The epoch that a mutation made now would enter, 0 where none is awaited. -/
def State.epochNow (s : State) : Nat := if s.awaitsPartner then s.tow.epoch else 0

/-- Has an epoch been acknowledged, or is none awaited (R38, R349, R360). -/
def State.epochDone (s : State) (n : Nat) : Bool := n == 0 || n ≤ s.tow.acked || !s.awaitsPartner

/-- Send the interlink messages whose epoch has been mirrored: domain records and share grants (R379, R383). -/
def State.sendMirrored (s : State) : State :=
  let due := s.tow.outbox.filter fun m => s.epochDone m.1
  let numbered := (due.filter fun m => m.2.2.1 == 0x04).map fun m => fld m.2.2.2 0 8
  let at_ := numbered.foldl (fun (t : Map Nat) n => t.put n s.now) s.tow.domainSent
  due.foldl (fun s m => s.sendInterlink m.2.1 m.2.2.1 m.2.2.2)
    { s with tow := { s.tow with outbox := s.tow.outbox.filter fun m => !s.epochDone m.1, domainSent := at_ } }

/-- Send interlink messages once the epoch of a number is mirrored. -/
def State.sendAfter (s : State) (epoch kind : Nat) (to_ : List W64) (body : Bytes) : State :=
  State.sendMirrored { s with tow := { s.tow with outbox := s.tow.outbox ++ to_.map fun m => (epoch, m, kind, body) } }

/-- A domain change: the registrar numbers it, keeps it, and sends it to every member once its epoch is mirrored; another member
proposes it to the registrar with sequence 0 (R379; log entry 18). -/
def State.numberChange (s : State) (kind : Nat) (body : Bytes) : State :=
  if s.tow.registrar == s.tow.pairId then
    let n := s.tow.domainSeq + 1
    let s := State.mark { s with tow := { s.tow with domainSeq := n, domainLog := s.tow.domainLog.put n (kind, body) } } (6, 0)
    s.sendAfter s.epochNow 0x04 s.tow.members (domainRecordBody n kind body)
  else
    match s.serverOf s.tow.registrar with
    | some m => s.sendInterlink m 0x04 (domainRecordBody 0 kind body)
    | none => s

/-- A domain change that the registrar mirrors as a mutation of its own; one that stands whatever becomes of the partner keeps no prior
image (R360, R379; log entry 31). -/
def State.domainChange (s0 : State) (kind : Nat) (body : Bytes) (stands : Bool) : State :=
  let s := s0.numberChange kind body
  if s.mirrors && s.tow.registrar == s.tow.pairId then
    s.mutate { records := (s.touchRecord (.domain kind body)).split, prior := if stands then [] else [s0.domainPrior], response := none,
               flight := 0, idem := (0, 0, 0), lease := none }
  else s

/-- Is the module in a domain with others. -/
def State.inDomain (s : State) : Bool := !s.tow.members.isEmpty || s.tow.registrar != s.tow.pairId

/-- Bindings of a slice as bytes: anchor and principal each. -/
def State.bindingBytes (s : State) (id : Nat) : List Bytes :=
  (s.cus.bindings.filter fun x => x.slice == id).map fun x => be 1 x.anchor ++ fit 16 x.principal

/-- Body of a spread slice record (log entry 31): slice, pairs, generation, state, removal, bindings. -/
def State.spreadBody (s : State) (id : Nat) : Bytes :=
  let x := s.slice id
  let bs := s.bindingBytes id
  let removal := match x.drain with
    | some d => d.removal
    | none => x.state == .absent
  be 2 id ++ be 2 x.spread.length ++ be 4 x.generation.toNat ++ be 1 x.state.ord ++ be 1 (bit01 removal) ++
    be 2 bs.length ++ (x.spread.map fun p => be 8 p.toNat).flatten ++ bs.flatten

/-- A basin directory entry of a slice of this pair. -/
def State.dirEntry (s : State) (id : Nat) : DirEntry :=
  { home := s.tow.pairId, generation := (s.slice id).generation,
    bindings := (s.cus.bindings.filter fun x => x.slice == id).map fun x => (x.anchor, x.principal) }

/-- Body of a directory update (log entry 31): slice, reserved, removed, generation, bindings. -/
def State.directoryBody (s : State) (id : Nat) : Bytes :=
  let bs := s.bindingBytes id
  be 2 id ++ zeros 1 ++ be 1 (bit01 ((s.slice id).state == .absent)) ++ be 4 (s.slice id).generation.toNat ++
    be 2 bs.length ++ zeros 2 ++ bs.flatten

/-- Body of a directory update of an anchor (log entry 31): reserved, form 1, removed, index, reserved, certificate. -/
def State.anchorBody (s : State) (i : Nat) : Bytes :=
  be 2 0 ++ be 1 1 ++ be 1 (bit01 (s.cus.anchors.find i).isNone) ++ be 1 i ++ zeros 3 ++ (s.cus.anchors.find i).getD []

/-- Send a directory update to the gate pair once the epoch that makes it is mirrored (R375). -/
def State.sendDirectory (s : State) (body : Bytes) : State :=
  match s.serverOf s.tow.gatePair with
  | some m => s.sendAfter s.epochNow 0x0B [m] body
  | none => s

/-- Tell the gate pair's directory of a slice: its own tables, or an update over the interlink (R375). -/
def State.tellDirectory (s : State) (id : Nat) : State :=
  if s.tow.basinId = 0 ∨ id = 0 then s
  else if s.tow.gatePair = s.tow.pairId then
    State.mirrorOnly { s with tow := { s.tow with directory :=
        if (s.slice id).state == .absent then s.tow.directory.del id else s.tow.directory.put id (s.dirEntry id) } } s [.directory id]
  else s.sendDirectory (s.directoryBody id)

/-- Tell the gate pair's directory of an anchor (R375). -/
def State.tellAnchor (s : State) (i : Nat) : State :=
  if s.tow.basinId = 0 then s
  else if s.tow.gatePair = s.tow.pairId then
    (s.setDirAnchor s.tow.pairId i (s.cus.anchors.find i)).mirrorOnly s [.dirAnchor s.tow.pairId i]
  else s.sendDirectory (s.anchorBody i)

/-- Tell the gate pair's directory of every slice and anchor. -/
def State.tellBasin (s : State) : State :=
  s.cus.slices.keys.foldl State.tellDirectory (s.cus.anchors.keys.foldl State.tellAnchor s)

/-- What a touch tells the domain and the basin: custodian changes, spread slices and the directory. -/
def State.publishTouch (s : State) (t : Touch) : State :=
  let spread (s : State) (id : Nat) (d : Bool) : State :=
    if (s.slice id).spread.isEmpty then s else s.domainChange 7 (s.spreadBody id) d
  match t with
  | .custodian i d => s.domainChange 1 (be 4 s.cus.custodySeq.toNat ++ s.keeperRecord (.custodian i d)) d
  | .generation id => (spread s id true).tellDirectory id
  | .bindings d => s.cus.slices.keys.foldl (fun s id => (spread s id d).tellDirectory id) s
  | .slice id _ => s.tellDirectory id
  | .anchor i _ => s.tellAnchor i
  | .domain k b => s.numberChange k b
  | .slot _ => s
  | .slotErased _ => s
  | .blob _ => s
  | .ballot _ _ => s
  | .established => s
  | .shred _ _ _ _ => s
  | .ledger _ => s
  | .sequence _ => s
  | .directory _ => s
  | .dirAnchor _ _ => s

/-- Publish every touch of a barge. -/
def State.publish (s : State) (ts : List Touch) : State := ts.foldl (fun s t => (s.markTouch t).publishTouch t) s

/-! ## What a verb answers -/

/-- The outcome of a verb's own work: the state, its reply, and what it changed for the partner. -/
structure Effect where
  /-- State after the work. -/
  st : State
  /-- Its reply. -/
  reply : Reply
  /-- What it changed (R38). -/
  touch : List Touch := []
  /-- The response is released later by another command, as under R102 and R144. -/
  later : Bool := false

/-- An image record that did not take after two retries ends its barge with FAULT_DETECTED (R130). -/
def Effect.readBack (e : Effect) (s0 : State) : Effect :=
  if e.later || e.st.vlt.imageFaults == s0.vlt.imageFaults then e else { e with reply := ⟨stFault, []⟩ }

/-- End with a status and a payload, changing nothing. -/
def refuse (s : State) (c : W16) (payload : Bytes) : Effect := { st := s, reply := ⟨c, payload⟩ }

/-- End with a status and no payload, changing nothing. -/
def fail (s : State) (c : W16) : Effect := refuse s c []

/-- End with DONE. -/
def done (s : State) (payload : Bytes) : Effect := { st := s, reply := ⟨stDone, payload⟩ }

/-- End with DONE, having changed what the partner must hold. -/
def doneWith (s : State) (payload : Bytes) (touch : List Touch) : Effect :=
  { st := s, reply := ⟨stDone, payload⟩, touch := touch }

/-- A STATE_MISMATCH reply (R107). -/
def mismatchReply (object present legal : Nat) : Reply :=
  ⟨stMismatch, be 1 object ++ zeros 1 ++ be 2 present ++ be 4 legal⟩

/-- End with STATE_MISMATCH. -/
def mismatch (s : State) (object present legal : Nat) : Effect :=
  { st := s, reply := mismatchReply object present legal }

/-- Release a response: its idempotency entry is completed, the repeats that waited are answered and
the response is emitted (R69, R72). -/
def State.settle (s : State) (b : Barge) (pn : Nat) (r : Reply) (mirrored : Bool) : State :=
  ((s.recordIdem b (some r) mirrored).respond b.session pn b.opcode b.cls b.requestId r false).answerRepeats b r

/-- Family 0x02 verbs that a module answers without serving (R351). -/
def ballotOpcodes : List Nat := [0x0205, 0x0210, 0x0211, 0x0212, 0x0213, 0x0214]

/-- Does a module that serves no more discard what a barge of an opcode did: only the serving module runs it (R351, R361, R370). -/
def State.discards (s : State) (opcode : Nat) (c : W16) : Bool :=
  !s.tow.pair.serves && s.tow.pair != .seeking && c == stDone && decide (0x0200 ≤ opcode) && decide (opcode < 0x0700) &&
    !ballotOpcodes.contains opcode

/-- Complete a barge: EMIT discards it on a generation difference (R40), and a module that is fenced discards what it served (R370). A
mutation of a primary, or of one that seeks its lease, waits for its epoch (R38, R361), and every other response is released at once
(R349, R360). -/
def State.completeWith (s : State) (prior : List PriorImage) (b : Barge) (pn flight : Nat) (e : Effect) : State :=
  if (s.slice b.slice).generation != b.generation || s.discards b.opcode e.reply.status then s
  else if e.later then s.recordIdem b none false
  else if e.touch.isEmpty then s.settle b pn e.reply false
  else
    let s := s.publish e.touch
    let recs := e.touch.flatMap s.touchRecords
    let m : Mutation :=
      { records := recs ++ s.idemRecord (b.slice, b.generation, b.idem) (Config.sha384 (idemPayload b)) e.reply, prior := prior,
        response := none, flight := flight, idem := (b.slice, b.generation, b.idem), lease := none }
    if s.awaitsPartner then
      (s.recordIdem b none true).mutate { m with response := some (b.session, pn, b.opcode, b.cls, b.requestId, e.reply) }
    else
      let t := s.settle b pn e.reply (s.tow.pair == .solo)
      if s.mirrors then t.mutate m else t

/-- Complete a verb that ran as one step. -/
def State.complete (s0 : State) (b : Barge) (pn flight : Nat) (e : Effect) : State :=
  e.st.completeWith (e.touch.filterMap s0.priorOf).reverse b pn flight (e.readBack s0)

/-- Undo an unacknowledged mutation (R360). -/
def State.revert (s : State) (m : Mutation) : State := m.prior.foldl State.restorePrior s

/-- A mutation with destructive records only, an IDEM record apart (R360). -/
def Mutation.destructive (m : Mutation) : Bool := m.records.all fun r => r.destructive || r.kind == 4

/-- Answer the repeats that waited for an idempotency key and drop them (R72). -/
def State.answerHeld (s : State) (k : Nat × W32 × W64) (rep : Reply) : State :=
  (s.flt.barges.filter fun e =>
    e.2.stage == .held && e.2.barge.idem == k.2.2 && e.2.barge.slice == k.1 && e.2.barge.generation == k.2.1).foldl
    (fun s e => (s.respond e.2.barge.session e.2.pn e.2.barge.opcode e.2.admitted e.2.barge.requestId rep true).dropBarge e.1) s

/-- Release, or replace, the response a mutation holds. -/
def State.releaseMutation (s : State) (m : Mutation) (r : Option Reply) : State :=
  match m.response with
  | none => s
  | some (sid, pn, op, cls, rid, reply) =>
    let rep := r.getD reply
    let k := m.idem
    let s := match s.idemEntry k.1 k.2.1 k.2.2 with
      | none => s
      | some e =>
        s.setIdem k.1 k.2.1 k.2.2
          (if leavesNoEntry rep.status then none else some { e with result := some (rep.status, rep.payload) })
    let s := s.respond sid pn op cls rid rep false
    if k.2.2 = 0 then s else s.answerHeld k rep

/-! ## Responses that come later (R102, R130, R144) -/

/-- What names the response of a barge until a later command releases it. -/
def waiterOf (b : Barge) : Waiter :=
  { session := b.session, pn := b.pn, opcode := b.opcode, cls := b.cls, request := b.requestId,
    idem := (b.slice, b.generation, b.idem) }

/-- The reply a waiter receives, after its head when it is DONE. -/
def Waiter.reply (w : Waiter) (r : Reply) : Reply := if r.status = stDone then ⟨stDone, w.head ++ r.payload⟩ else r

/-- The entry of a key has gone, or will go, to the partner (R73). -/
def State.markMirrored (s : State) (k : Nat × W32 × W64) : State :=
  match s.idemEntry k.1 k.2.1 k.2.2 with
  | some e => s.setIdem k.1 k.2.1 k.2.2 (some { e with mirrored := true })
  | none => s

/-- Answer a waiter: a primary's response waits for the open epoch with its records, every other is released at once, and where a partner
is being synced its records follow (R38, R73, R130, R353). A module that serves no more discards it (R370). -/
def State.answer (s : State) (w : Waiter) (r : Reply) (touch : List Touch) (prior : List PriorImage := []) : State :=
  let s := s.publish touch
  let digest := match s.idemEntry w.idem.1 w.idem.2.1 w.idem.2.2 with
    | some e => e.digest
    | none => []
  let m : Mutation :=
    { records := touch.flatMap s.touchRecords ++ s.idemRecord w.idem digest (w.reply r), prior := prior,
      response := some (w.session, w.pn, w.opcode, w.cls, w.request, w.reply r), flight := 0, idem := w.idem, lease := none }
  if s.discards w.opcode r.status then s
  else if touch.isEmpty && w.idem.2.2 == 0 then s.releaseMutation m none
  else if s.awaitsPartner then (s.markMirrored w.idem).mutate m
  else if s.tow.pair == .solo then
    let s := (s.markMirrored w.idem).releaseMutation m none
    if s.mirrors then s.mutate { m with response := none } else s
  else s.releaseMutation m none

end Sys2Proof.Machine
end

