-- ==== Sys2Proof/Machine/Verbs.lean ====
section
/-! DEFINITION. A verb as data, its checks in the order of R22 and its run from request to response
(R36, R38, R40, R69 to R73, R90, R101, R107, R118, R351, R360, R421, R423, R431, R443). -/

namespace Sys2Proof.Machine

/-- Where a verb runs (R36). -/
inductive World
  /-- In a flight alone, by its lock program. -/
  | flight
  | secure
  | normal
  deriving DecidableEq, Repr

/-- One verb of the opcode families. -/
structure Verb where
  /-- Opcode. -/
  opcode : Nat
  /-- World that serves it (R36). -/
  world : World := .secure
  /-- Bytes of its largest response payload (R69). -/
  maxReply : Nat := 0
  /-- Format and reserved-field checks of the payload (R5, R22). -/
  fmt : Barge → State → Option W16 := fun _ _ => none
  /-- May this slice send it. -/
  sender : Barge → State → Bool := fun _ _ => true
  /-- The role a ballot must have approved it under, none when it is sent directly (R84). -/
  role : Barge → State → Option Nat := fun _ _ => none
  /-- Object states that refuse it (R107). -/
  state : Barge → State → Option Reply := fun _ _ => none
  /-- KEY_CHANGING (R38, R156). -/
  changing : Bool := false
  /-- Its records are all destructive (R360). -/
  destructive : Barge → State → Bool := fun _ _ => false
  /-- Recovery mode answers it (R431). -/
  recovery : Barge → Bool := fun _ => false
  /-- A module that waits for a RETURN_TEST commit answers it (R443). -/
  incomplete : Barge → Bool := fun _ => false
  /-- A module that does not serve answers it (R351). -/
  anyPair : Bool := false
  /-- Custody may be unestablished (R88). -/
  unestablished : Bool := true
  /-- A frozen slice may send it (R101). -/
  frozenOk : Bool := false
  /-- Its charge in units, 70 when it is firmware-assisted (R158). -/
  charge : Nat := 70
  /-- It leaves no idempotency entry: its results pass the seal port (R326). -/
  noIdem : Bool := false
  /-- What a repeat of its stored result answers (R72, R218). -/
  refill : Barge → State → Reply → Reply := fun _ _ r => r
  /-- Its effect with its own key, operand and verification checks. -/
  run : Barge → State → Effect

/-- The first check that fails. -/
def firstFail : List (Option Reply) → Option Reply
  | [] => none
  | some r :: _ => some r
  | none :: t => firstFail t

/-- A reply with no payload when a check fails. -/
def must (ok : Bool) (c : W16) : Option Reply := if ok then none else some ⟨c, []⟩

/-- The payload has exactly n bytes. -/
def lenIs (b : Barge) (n : Nat) : Option W16 := if b.payload.length = n then none else some stBadFormat

/-- Did a barge come by an FGL-1 session. -/
def State.byFgl1 (s : State) (b : Barge) : Bool := (s.session b.session).any fun ss => ss.fgl == 1

/-- A reserved field is zero, but for FGL-1, which ignores it (R5). -/
def reservedZero (b : Barge) (s : State) (zero : Bool) : Option W16 := if s.byFgl1 b || zero then none else some stReserved

/-- Reserved bytes are zero (R5). -/
def reserved (b : Barge) (s : State) (off len : Nat) : Option W16 := reservedZero b s (allZero (sl b.payload off len))

/-- Reserved bits [hi:lo] of the field at off are zero (R5). -/
def reservedBits (b : Barge) (s : State) (off len hi lo : Nat) : Option W16 :=
  reservedZero b s (bits (fld b.payload off len) hi lo == 0)

/-- The bits of a mask are zero in the attribute word at off (R5). -/
def reservedMask (b : Barge) (s : State) (off mask : Nat) : Option W16 := reservedZero b s (fld b.payload off 8 &&& mask == 0)

/-- BAD_FORMAT when a condition fails. -/
def wellFormed (ok : Bool) : Option W16 := if ok then none else some stBadFormat

/-- The first failing format check. -/
def firstCode : List (Option W16) → Option W16
  | [] => none
  | some c :: _ => some c
  | none :: t => firstCode t

/-! ## Handles (R11, R12, R142) -/

/-- The check over bits [63:16] of a handle or cache reference. -/
def State.handleCheck (s : State) (top48 : Nat) : Nat := fld (Config.aesCmac s.vlt.hck (be 6 top48)) 0 2

/-- A handle from its fields (R11). -/
def State.handleOf (s : State) (slice epoch index : Nat) : W64 :=
  let top := slice % 4096 * 2 ^ 36 + epoch % 2 ^ 20 * 65536 + index % 65536
  BitVec.ofNat 64 (top * 65536 + s.handleCheck top % 65536)

/-- The handle of a slot as it stands. -/
def State.slotHandle (s : State) (i : Nat) : W64 := s.handleOf (s.slot i).slice (s.slot i).epoch i

/-- HANDLE_INVALID. -/
def badHandle : Reply := ⟨stHandle, []⟩

/-- A handle that names a present key: its slot, whatever its slice (R12). -/
def State.live (s : State) (h : Nat) : Option Nat :=
  let i := h / 65536 % 65536
  let x := s.slot i
  if h % 65536 = s.handleCheck (h / 65536) % 65536 ∧ h / 2 ^ 32 % 2 ^ 20 = x.epoch ∧ h / 2 ^ 52 = x.slice ∧
      (x.state = .active ∨ x.state = .pending ∨ x.state = .quarantined) then some i else none

/-- A handle that a slice may name (R142). -/
def State.owned (s : State) (slice h : Nat) : Except Reply Nat :=
  match s.live h with
  | some i => if (s.slot i).slice = slice then .ok i else .error badHandle
  | none => .error badHandle

/-- A key of a slice that POLICY accepts: an ACTIVE slot, or a QUARANTINED one, which KEYFETCH then refuses (R120, R126). -/
def State.named (s : State) (slice h : Nat) : Except Reply Nat :=
  match s.owned slice h with
  | .error r => .error r
  | .ok i =>
    match (s.slot i).state with
    | .active => .ok i
    | .quarantined => .ok i
    | .pending => .error (mismatchReply 6 2 2)
    | .free => .error badHandle
    | .transit => .error badHandle
    | .retired => .error badHandle

/-! ## The field table of a program (R147, R182) -/

/-- A field entry of a record. -/
structure FieldEntry where
  offset : Nat
  size : Nat
  rule : Nat
  limit : Nat
  deriving DecidableEq, Repr

/-- The field entries of a record. -/
def fieldsOf (r : Bytes) : List FieldEntry :=
  (List.range (fld r 5 1)).map fun k =>
    { offset := fld r (8 + 8 * k) 2, size := fld r (10 + 8 * k) 2, rule := fld r (12 + 8 * k) 1, limit := fld r (14 + 8 * k) 2 }

/-- One entry of a program's field table against a payload (R147, R182): the field lies inside it, a reserved one is zero, but for FGL-1
(R5), and a limited one stands at or below its limit. -/
def FieldEntry.fails (x : FieldEntry) (b : Barge) (s : State) : Option W16 :=
  firstCode
    [wellFormed (x.offset + x.size ≤ b.payload.length),
     if x.rule = 1 then reserved b s x.offset x.size else none,
     if x.rule = 2 then wellFormed (fld b.payload x.offset x.size ≤ x.limit) else none]

/-- PARSE by a record's field table, in the table's order. -/
def parseTable (rec : Bytes) (b : Barge) (s : State) : Option Reply :=
  (firstCode ((fieldsOf rec).map fun x => x.fails b s)).map fun c => ⟨c, []⟩

/-- POLICY of the key handles of a record's field table: each names a key of the barge's slice. -/
def policyTable (rec : Bytes) (b : Barge) (s : State) : Option Reply :=
  firstFail (((fieldsOf rec).filter fun x => x.rule == 3).map fun x =>
    match s.named b.slice (fld b.payload x.offset 8) with
    | .ok _ => none
    | .error reply => some reply)

/-- The running chart's record of an opcode's program. -/
def State.runningRecord (s : State) (opcode : Nat) : Option Bytes :=
  (s.section_ 0x0004).find? fun r => fld r 0 2 == opcode && fld r 3 1 != 0

/-! ## The checks -/

/-- The session, or none for a barge whose session has ended, refuses a response record larger than
limit_agreed less 52 bytes (R69). -/
def sizeFail (v : Verb) (b : Barge) (s : State) : Option Reply :=
  match s.session b.session with
  | some ss => must (ss.fgl != 3 || 20 + padded v.maxReply + 52 ≤ ss.limit) stBadFormat
  | none => none

/-- A full session, or a request_id still in progress in it, but for a repeat under the same key (R71, R74, R79). -/
def intakeFail (b : Barge) (s : State) : Option Reply :=
  match s.session b.session with
  | some ss =>
    firstFail [must (ss.fgl != 3 || ss.inProgress.length < 4096) stClassFull,
               must (ss.fgl != 2 || ss.inProgress.length < 256) stClassFull,
               must (ss.fgl == 1 || !ss.inProgress.any fun e => e.1 == b.requestId && !(b.idem != 0 && e.2 == b.idem)) stBadFormat]
  | none => none

/-- A barge that must go to a world under restart ends at once (R421, R423). -/
def restartFail (v : Verb) (s : State) : Option Reply :=
  match v.world with
  | .secure => must (!s.cor.restarting) stRestarting
  | .normal => must (!s.cor.normalRestarting) stRestarting
  | .flight => none

/-- The format checks of PARSE. -/
def parseFail (v : Verb) (b : Barge) (s : State) : Option Reply :=
  firstFail [sizeFail v b s, (v.fmt b s).map fun c => ⟨c, []⟩]

/-- The opcode stays dark below a floor the domain has not reached (R19). -/
def darkFail (opcode : Nat) (s : State) : Option Reply :=
  match s.ctr.dark.find opcode with
  | some f => must (f ≤ s.tow.floor) stFloor
  | none => none

/-- Family of an opcode. -/
def family (opcode : Nat) : Nat := opcode / 256

/-- A module that does not serve refuses families 0x02 to 0x06 (R351). -/
def primaryFail (v : Verb) (s : State) : Option Reply :=
  must (s.tow.pair.serves || v.anyPair || !(2 ≤ family v.opcode && family v.opcode ≤ 6)) stNotPrimary

/-- Recovery mode and an uncommitted RETURN_TEST intent serve only their own lists (R431, R443). -/
def modeFail (v : Verb) (b : Barge) (s : State) : Option Reply :=
  firstFail
    [if s.ctr.recovery && !v.recovery b then some (mismatchReply 1 s.ctr.state.code 0) else none,
     if s.ctr.incomplete.isSome && !v.incomplete b then
       some (if v.opcode = 0x0802 then mismatchReply 1 s.ctr.state.code 8 else ⟨stIncomplete, []⟩)
     else none]

/-- While custody is UNESTABLISHED family 0x02 and every dual-controlled verb are refused (R88). -/
def custodyFail (v : Verb) (b : Barge) (s : State) : Option Reply :=
  if !s.cus.established && !(v.unestablished && (v.role b s).isNone) &&
      (family v.opcode == 2 || (v.role b s).isSome) && v.opcode != 0x0206 then
    some (mismatchReply 2 0 2)
  else none

/-- A dual-controlled verb sent directly (R107). -/
def quorumFail (v : Verb) (b : Barge) (s : State) : Option Reply :=
  match v.role b s with
  | some r => some ⟨stQuorum, be 1 r ++ be 1 (s.quorum r) ++ zeros 2⟩
  | none => none

/-- A frozen, resetting, restoring or retired slice (R101); an absent one has no barge to serve. -/
def frozenFail (v : Verb) (b : Barge) (s : State) : Option Reply :=
  must (v.frozenOk || (s.slice b.slice).state == .active) stFrozen

/-- The vault stays locked above the running SVN (R118); a custody record that the barge reads and that is marked above it is
refused (R117; log entry 5). -/
def lockedFail (b : Barge) (s : State) : Option Reply :=
  must (!(s.vlt.floorLocked && b.slice != 0 && 3 ≤ family b.opcode && family b.opcode ≤ 6) &&
    !s.recordsLocked b) stFloor

/-- SOLO under policy 0 refuses a mutation that is not destructive (R360). -/
def soloFail (v : Verb) (b : Barge) (s : State) : Option Reply :=
  must (!(s.tow.pair == .solo && s.tow.soloPolicy == 0 && v.changing && !v.destructive b s)) stMirror

/-- The checks of POLICY that come before a verb's own, in the order of R22. -/
def policyFail (v : Verb) (b : Barge) (s : State) : Option Reply :=
  firstFail
    [darkFail b.opcode s, lockedFail b s, primaryFail v s, modeFail v b s, v.state b s, custodyFail v b s,
     must (v.sender b s) stNotAuthorised, quorumFail v b s, frozenFail v b s, soloFail v b s]

/-- Every check before a verb's own work: those of the verb, and those of its running program's field table (R22, R182). -/
def gate (v : Verb) (b : Barge) (s : State) : Option Reply :=
  let rec_ := s.runningRecord b.opcode
  firstFail [restartFail v s, rec_.bind fun r => parseTable r b s, parseFail v b s, policyFail v b s, rec_.bind fun r => policyTable r b s]

/-! ## Running -/

/-- A verb's work, with the random values of one instance. -/
def Verb.workFrom (v : Verb) (b : Barge) (i : Nat) (s : State) : Effect :=
  let e := v.run b (s.drawAs i)
  { e with st := e.st.drawAs s.ent.drawer }

/-- Verbs that make a key draw on a flight's instance, whatever world serves them (R335). -/
def makesKeys (opcode : Nat) : Bool := opcode == 0x0301 || opcode == 0x0410

/-- The instance that the work of a verb draws on for a barge of a flight: that flight's, the keeper's or the normal world's (R335). -/
def Verb.drawerIn (v : Verb) (flight : Nat) : Nat :=
  if v.world = .flight || makesKeys v.opcode then 39 + flight else if v.world = .normal then 112 else 111

/-- The instance that the work of a verb's own row draws on: the row names no flight, and its work is that of the first (log entry 42). -/
def Verb.drawer (v : Verb) : Nat := v.drawerIn 0

/-- A verb's work once its checks have passed. -/
def runVerb (v : Verb) (b : Barge) (s : State) : Effect :=
  match gate v b s with
  | some r => { st := s, reply := r }
  | none => v.workFrom b v.drawer s

/-- What an idempotency key decides: a barge to run, an answer, or a wait for the original (R72, R99). -/
inductive IdemOutcome
  | run
  | answer (r : Reply) (again : Bool)
  | wait
  deriving DecidableEq, Repr

/-- The outcome of a key for a barge (R72, R99). -/
def idemOutcome (b : Barge) (s : State) : IdemOutcome :=
  if b.idem = 0 then .run
  else
    match s.idemEntry b.slice b.generation b.idem with
    | some e =>
      if (e.opcode.any fun o => o != b.opcode) || e.digest != Config.sha384 (idemPayload b) then .answer ⟨stIdemConflict, []⟩ false
      else
        match e.result with
        | some (c, p) => .answer ⟨c, p⟩ true
        | none => .wait
    | none =>
      if s.whf.idem.length ≥ 4194304 then .answer ⟨stClassFull, []⟩ false
      else if s.idemCount b.slice ≥ (s.slice b.slice).quota.idemEntries then
        .answer ⟨stQuota, be 1 12 ++ zeros 3⟩ false
      else .run

/-- Admission is held: by the take-over fence or a planned switchover, and by a SEEKING module that was serving for the
barges it would otherwise refuse (R171, R351, R372). -/
def State.holdsAdmission (s : State) (opcode : Nat) : Bool :=
  s.flt.held || (s.tow.pair == .seeking && s.tow.wasServing && 2 ≤ family opcode && family opcode ≤ 6 &&
    !ballotOpcodes.contains opcode)

/-- Verbs whose results pass the seal port: they leave no idempotency entry (R326). -/
def sealPortOpcodes : List Nat := [0x0603, 0x0606, 0x0630, 0x0631]

/-- Verbs whose stored result a repeat fills again, which the lock keeper's admission does (R218). -/
def refillOpcodes : List Nat := [0x0401, 0x0403, 0x0405]

/-- Take in a barge from a datagram or a gate: a refusal, an answer, a wait for its original, or a record for the lock keeper
(R71, R72, R74). -/
def State.takeIn (s : State) (b0 : Barge) : State :=
  let b := { b0 with idem := if sealPortOpcodes.contains b0.opcode then 0 else b0.idem }
  match intakeFail b s with
  | some r => s.answerNow b r
  | none =>
    match idemOutcome b s with
    | .answer r again =>
      if again && refillOpcodes.contains b.opcode then s.enter b .arrived
      else (s.busyWith b).respond b.session b.pn b.opcode b.cls b.requestId r again
    | .wait => s.enter b .held
    | .run => (s.enter b .arrived).recordIdem b none false

/-- Take in a barge: an answer at once, a wait as a held record, or work to do (R71, R72, R74). -/
def intake (b : Barge) (s : State) (refill : Reply → Reply) (work : State → State) : State :=
  match intakeFail b s with
  | some r => s.answerNow b r
  | none =>
    match idemOutcome b s with
    | .answer r again => (s.busyWith b).respond b.session b.pn b.opcode b.cls b.requestId (if again then refill r else r) again
    | .wait => s.enter b .held
    | .run => if s.holdsAdmission b.opcode then (s.enter b .arrived).recordIdem b none false else work (s.busyWith b)

/-- What stays of work that ends for want of a lease block or a unit: the blocks it reserved and the units it claimed (R137,
R383). -/
def State.keepClaims (s s1 : State) : State :=
  { s with
    draws := s1.draws, out := s1.out, tow := s1.tow,
    eng := { s.eng with counters := s1.eng.counters, kekCounters := s1.eng.kekCounters, drawClock := s1.eng.drawClock },
    vlt := { s.vlt with slots := s1.vlt.slots, image := s1.vlt.image, reservations := s1.vlt.reservations,
                        reservedTo := s1.vlt.reservedTo, badWrites := s1.vlt.badWrites, imageFaults := s1.vlt.imageFaults } }

/-- Does a verb's work end for want of a lease block or a unit: its barge then waits at POLICY (R137, R216). -/
def Effect.waits (e : Effect) : Bool := e.reply.status == stMirror && !e.later

/-- Work that a stalled instance left without a random value: none of it stands (R337). -/
def Effect.starved (e : Effect) (s : State) : Bool := e.st.ent.short != s.ent.short

/-- Finish a verb that ran as one step. A barge that must wait for a lease block, a unit or a random value becomes a record instead, which
waits at POLICY or at its draw (R137, R216, R337). -/
def State.finish (s : State) (v : Verb) (b : Barge) : State :=
  let e := runVerb v b s
  if e.starved s then ((s.noteStalls e.st).addRecord b .arrived).recordIdem b none false
  else if (gate v b s).isNone && e.waits then
    (((s.keepClaims e.st).addRecord b .arrived).modBarge s.flt.nextBarge fun r => { r with taken := e.st.eng.taken }).recordIdem b none false
  else s.complete b b.pn 0 e

/-- A verb from its request to its response, as one step (log entry 8). -/
def serve (v : Verb) (b : Barge) (s : State) : State :=
  let b := { b with opcode := v.opcode, idem := if v.noIdem then 0 else b.idem }
  intake b s (v.refill b s) fun s => s.finish v b

/-- The command of a verb row: it always answers a next state. -/
def verbStep (v : Verb) (b : Barge) (s : State) : Host.Outcome State Fault Refusal := .next (serve v b s)

end Sys2Proof.Machine
end

