-- ==== Sys2Proof/Machine/Groups.lean ====
section
/-! DEFINITION. The flight groups of the chart, and the group in which the program of an opcode stands (R155, R160, R181, R200). -/

namespace Sys2Proof.Machine

/-! ## Groups (R181) -/

/-- A flight group. -/
structure Group where
  code : Nat
  first : Nat
  count : Nat
  /-- Lock codes by position (R147). -/
  locks : List Nat
  /-- Bit i set: position i is an attached CIPHER lock. -/
  attached : Nat
  /-- It serves firmware-assisted barges. -/
  assisted : Bool
  deriving DecidableEq, Repr

/-- The group of a FLIGHTS record. -/
def groupOf (r : Bytes) : Group :=
  { code := fld r 0 1, first := fld r 1 1, count := fld r 2 1,
    locks := (sl r 4 (fld r 3 1)).map (·.toNat), attached := fld r 16 2, assisted := fld r 18 1 % 2 == 1 }

/-- The groups of the running chart. -/
def State.groups (s : State) : List Group := (s.section_ 0x0003).map groupOf

/-- A group by code. -/
def State.group (s : State) (g : Nat) : Option Group := s.groups.find? fun x => x.code == g

/-- The flights of a group. -/
def Group.flights (g : Group) : List Nat := (List.range g.count).map (g.first + ·)

/-- The group of a flight. -/
def State.groupOfFlight (s : State) (f : Nat) : Option Group :=
  s.groups.find? fun g => g.first ≤ f && f < g.first + g.count

/-- The group that serves firmware-assisted barges (R155). -/
def State.assistedGroup (s : State) : Nat :=
  match s.groups.find? fun g => g.assisted with
  | some g => g.code
  | none => 0

/-! ## The group of an opcode (R155, R160) -/

/-- The tables a program is judged by: the FLIGHTS, POOLS and PROGRAMS records, and whether the programs of the default
chart, whose records the spec does not give, stand beside them. -/
structure ProgramSet where
  flights : List Bytes
  pools : List Bytes
  records : List Bytes
  byDefault : Bool

/-- Group of the default chart that holds an opcode's program (R160): family 0x05 without its firmware-assisted verbs,
family 0x04 without those and KEY_ATTR_READ, family 0x06. -/
def defaultGroup (opcode : Nat) : Option Nat :=
  if opcode / 256 = 5 then if [0x0540, 0x0541, 0x0550, 0x0590, 0x0591].contains opcode then none else some 0
  else if opcode / 256 = 4 then if [0x0410, 0x0411, 0x0414].contains opcode then none else some 1
  else if opcode = 0x0305 ∨ opcode = 0x0380 then some 1
  else if opcode / 256 = 6 then some 2
  else none

/-- The PROGRAMS record of an opcode. -/
def ProgramSet.record (p : ProgramSet) (opcode : Nat) : Option Bytes :=
  p.records.find? fun r => fld r 0 2 == opcode && fld r 3 1 != 0

/-- A record that removes the opcode's program: that of a default program is kept, since there is no record to take away. -/
def ProgramSet.removed (p : ProgramSet) (opcode : Nat) : Bool := p.records.any fun r => fld r 0 2 == opcode && fld r 3 1 == 0

/-- Does an opcode run the default chart's program. -/
def ProgramSet.isDefault (p : ProgramSet) (opcode : Nat) : Bool :=
  p.byDefault && (p.record opcode).isNone && !p.removed opcode

/-- The group of an opcode's program, none for an opcode without one: it is firmware-assisted (R155). -/
def ProgramSet.group (p : ProgramSet) (opcode : Nat) : Option Nat :=
  match p.record opcode with
  | some r => some (fld r 2 1)
  | none => if p.isDefault opcode then defaultGroup opcode else none

/-- The program set in force for a barge bound to a program bank (R200). -/
def State.programs (s : State) (bank : Nat) : ProgramSet :=
  { flights := s.section_ 0x0003, pools := s.section_ 0x0005,
    records := if bank = s.cht.bank then s.section_ 0x0004 else s.cht.oldPrograms, byDefault := s.cht.defaultPrograms }

/-- The group that serves an opcode: that of its program, or the one for firmware assistance (R155). -/
def State.groupFor (s : State) (bank opcode : Nat) : Nat :=
  match (s.programs bank).group opcode with
  | some g => g
  | none => s.assistedGroup

/-- A barge that is bound to a flight: in its pound, a context or a core queue. -/
def BargeRec.bound (r : BargeRec) : Bool := r.stage == .pound || r.stage == .context || r.stage == .coreQueue

end Sys2Proof.Machine
end

