-- ==== Sys2Proof/Machine/Islands.lean ====
section
/-! DEFINITION. Clock islands, power domains and the cycle counters that follow them (R31, R180,
R490, R506). -/

namespace Sys2Proof.Machine

/-- Maximum clock of an island in kHz, by the chart's island codes; CI_HOLD and CI_SENT run only at theirs, CI_SENT's logic on the
8 MHz RC beside the crystal that keeps its time (R31, R180). -/
def islandKhz (i : Nat) : Nat :=
  if i = 0x03 then 1200000 else if i = 0x04 then 1200000 else if i = 0x07 then 500000
  else if i = 0x09 then 1066500 else if 0x0A ≤ i ∧ i ≤ 0x11 then 1600000 else if i = 0x14 then 400000
  else if i = 0x15 then 8000 else 1000000

/-- Maximum clock of an island in MHz, below which the chart sets it (R31). -/
def islandMax (i : Nat) : Nat := islandKhz i / 1000

/-- A thermal emergency lowers these islands (R511). -/
def islandThermal (i : Nat) : Bool := (3 ≤ i && i ≤ 6) || (0x0A ≤ i && i ≤ 0x11)

/-- The clock in force on an island in kHz (R31, R180, R511). -/
def State.clockKhz (s : State) (i : Nat) : Nat :=
  if i = 0x09 ∨ i = 0x15 then islandKhz i
  else s.cht.clocks.at (islandMax i) i * 1000 / (if islandThermal i then s.pwr.divisor else 1)

/-- Cycles an island has counted (R490). -/
def State.cycles (s : State) (i : Nat) : Nat :=
  s.obs.cycleBase.at 0 i +
    (if s.islandStopped i then 0 else (s.now - s.obs.cycleFrom.at 0 i) * s.clockKhz i / 1000000)

/-- The islands in code order (R180). -/
def islandCodes : List Nat := (List.range 0x15).map (· + 1)

/-- Bring the cycle counts up to now, before a clock or a gate changes. -/
def State.rebase (s : State) : State :=
  { s with obs := { s.obs with
      cycleBase := islandCodes.map fun i => (i, s.cycles i),
      cycleFrom := islandCodes.map fun i => (i, s.now) } }

/-! ## Level conditions of the counter sites (R490 to R492) -/

/-- Responses in the epoch hold of a flight (R153). -/
def State.epochHold (s : State) (f : Nat) : Nat :=
  (s.tow.epochs.vals.flatMap fun e => e.mutations.filter fun m => m.response.isSome && m.flight == f).length

/-- Barges in a context that a predicate picks. -/
def State.anyContext (s : State) (p : BargeRec → Bool) : Bool := s.flt.barges.any fun e => e.2.stage == .context && p e.2

/-- A barge stands at a pooled step and has no engine of a kind yet. -/
def BargeRec.awaits (r : BargeRec) (k : EngineKind → Bool) : Bool := r.job.isNone && r.nextPool.any k

/-- A level condition that a counter of a site counts (R492); the level sources are every site's (R491). -/
def State.siteLevel (s : State) (block inst event : Nat) : Bool :=
  if event < 512 then s.obs.conditions.any fun c => c.1 == event
  else
    match block, event with
    | 3, 514 => 16 ≤ (s.flt.barges.filter fun e => e.2.stage == .context && e.2.flight == inst).length
    | 3, 515 => s.anyContext fun r => r.flight == inst && r.nextLock == 2
    | 3, 516 => s.anyContext fun r => r.flight == inst && r.admitted == 0
    | 3, 517 => s.epochHold inst != 0
    | 3, 518 => s.anyContext fun r => r.flight == inst && r.awaits fun _ => true
    | 4, 514 => s.anyContext fun r => r.awaits fun k => k == .shuffled || k == .masked
    | 5, 515 => s.anyContext fun r => r.awaits fun k => k == .publicKey
    | _, _ => false

/-- What a counter counts of a level condition over a span of time: in MODE 1 the site's cycles while it stands, in MODE 0 one for a site
condition that has begun since it was last looked at (R491). -/
def State.levelCount (s s0 : State) (e : SiteCounter) : Nat :=
  let c := e.2
  let island := siteIsland e.1.1 e.1.2.1
  if !c.cfg.toNat.testBit 31 || !s0.siteLevel e.1.1 e.1.2.1 c.event then 0
  else if c.cfg.toNat.testBit 30 then s.cycles island - s0.cycles island
  else if 512 ≤ c.event && !c.stood then 1 else 0

/-- Count the level conditions that stood while time passed from a state to this one. -/
def State.sampleSites (s s0 : State) : State :=
  let s := s.tally fun e => s.levelCount s0 e
  let look (e : SiteCounter) : SiteCounter := (e.1, { e.2 with stood := s0.siteLevel e.1.1 e.1.2.1 e.2.event })
  { s with obs := { s.obs with counters := s.obs.counters.map look } }

/-! ## The C0 conditions, and the passing of time (R168, R170) -/

/-- Flights out of service, or gated, in the group of a barge: that of its flight, or before it has one that of its opcode. -/
def State.groupDown (s : State) (r : BargeRec) : Nat :=
  if r.bound then s.flightsDown r.flight
  else
    match s.group (s.groupFor s.cht.bank r.barge.opcode) with
    | some g => s.flightsDown g.first
    | none => 0

/-- Conditions 2 to 8 of R168 as they stand now. -/
def State.c0Holds (s : State) (r : BargeRec) : Bool :=
  (s.tow.foreign.find r.barge.session).isNone && (s.link r.cage).mode ≤ 3 && s.pwr.state ≤ 1 && s.cht.mode != .clocking &&
    !s.pwr.thermal && s.snt.responding.isNone && s.tow.fence.isNone && !s.cor.restarting &&
    s.groupDown r ≤ 1

/-- Keep the judgement of R170 of every C0 barge up to date. -/
def State.judgeAll (s : State) : State :=
  { s with flt := { s.flt with barges := s.flt.barges.map fun e =>
      if e.2.admitted = 0 then (e.1, { e.2 with onTime := e.2.onTime && s.c0Holds e.2 }) else e } }

/-- Time passes up to a deadline that has come: the clock never runs back (log entry 8). The conditions of R168 that stood while it
passed are judged first, so each holds over the whole of a barge's life or is seen to fail (R170), and the counters of level
conditions count. -/
def State.upTo (s : State) (t : Nat) : State :=
  let s0 := s.judgeAll
  let s := { s0 with clk := { s0.clk with mono := max s0.clk.mono t } }
  s.sampleSites s0

/-! ## Power states and domains -/

/-- Every block that a power state has put down is up again. -/
def State.upAll (s : State) : State :=
  let s := s.rebase
  let g (e : Nat × PowerDomain) : Nat × PowerDomain := (e.1, { e.2 with down := 0 })
  { s with pwr := { s.pwr with state := 0, domains := s.pwr.domains.map g } }

/-- Power domain of a cipher core. -/
def bankDomain (c : Nat) : Nat := if c < 112 then 15 else if c < 224 then 16 else 17

/-- Power domain of an engine. -/
def engineDomain : EngineKind → Nat → Nat
  | .shuffled, n => bankDomain n
  | .masked, n => bankDomain n
  | .hash, _ => 22
  | .publicKey, n => if n < 16 then 19 else 20
  | .lattice, _ => 21

/-- Domains that the registers of a block stand in, for its selected instance (R30, R506); those of the sentinel and of the off-die
controller are never gated. -/
def blockDomains (block inst : Nat) : List Nat :=
  match block with
  | 1 => [6] | 2 => [10] | 3 => [flightDomain inst] | 4 => [bankDomain inst] | 5 => [engineDomain .publicKey inst]
  | 6 => [21] | 7 => [22] | 8 => [5] | 9 => [3] | 10 => [4] | 11 => [23 + inst / 8] | 12 => [2] | 13 => [9] | 15 => [1] | _ => []

/-- Domains the normal world may gate (R413, R506). -/
def State.normalGateable (s : State) (d : Nat) : Bool :=
  (11 ≤ d && d ≤ 16) || (19 ≤ d && d ≤ 21) || (23 ≤ d && d ≤ 30 && !s.secureClusters.testBit (d - 23))

end Sys2Proof.Machine
end

