-- ==== Sys2Proof/Machine/Links.lean ====
section
/-! DEFINITION. Signatures (R319), the end of a session (R76) and the share envelope (R140). -/

namespace Sys2Proof.Machine

/-! ## Signatures (R319) -/

/-- Does an ECDSA P-384 signature verify (function 0x02). -/
def verify384 (key msg sig : Bytes) : Bool := Config.sigVerify 0x02 2 key msg sig

/-- The public key of a P-384 private key, 97 bytes. -/
def public384 (key : Bytes) : Bytes := fit 97 (Config.publicOf 0x11 key)

/-- A message with its context string as ML-DSA-65 signs it (R314); an empty context for approvals (R91). -/
def mldsaMessage (ctx msg : Bytes) : Bytes := be 1 ctx.length ++ ctx ++ msg

/-- Does an ML-DSA-65 signature with an empty context verify (function 0x33, domain 0x21 of R302). -/
def verifyMldsa (key msg sig : Bytes) : Bool := Config.sigVerify 0x33 0x21 key (mldsaMessage [] msg) sig

/-! ## Sessions (R74, R76) -/

/-- Established sessions of a generation set. -/
def State.sessionCount (s : State) (p : Session → Bool) : Nat := (s.whf.sessions.filter fun e => p e.2).length

/-- A session ends: its barges run on and their responses are discarded; its copies of the selection
registers go with it (R27, R76). -/
def State.endSession (s : State) (sid : Nat) : State :=
  { s with
    whf := { s.whf with sessions := s.whf.sessions.del sid,
                        gathers := s.whf.gathers.filter fun e => e.1.1 != sid },
    readers := s.readers.del (sid + 256) }

/-- End every session that a test picks out. -/
def State.endSessions (s : State) (p : Session → Bool) : State :=
  ((s.whf.sessions.filter fun e => p e.2).map (·.1)).foldl State.endSession s

/-! ## The share envelope (R140) -/

/-- Key of an envelope: the two shared secrets, a label and a context. -/
def envelopeKey (zEc zKem label context : Bytes) : Bytes := kdf (zEc ++ zKem) label context 256

end Sys2Proof.Machine
end

