-- ==== Sys2Proof/Machine/Evidence.lean ====
section
/-! DEFINITION. The evidence log: entries, their chain, the ring's capacity and its marks (R470 to R476). -/

namespace Sys2Proof.Machine

/-- Blocks of the ring that hold entries and certificates (R475). -/
def logCapacity : Nat := 49151

/-- Blocks an entry takes with its certificate blocks. -/
def entryBlocks (e : Bytes) : Nat := 1 + fld e 25 1

/-- Blocks the held entries take. -/
def logBlocks (log : List Bytes) : Nat := (log.map entryBlocks).foldl (· + ·) 0

/-- An entry's kinds that carry a certificate. -/
def shredKind (kind : Nat) : Bool := kind == 0x20 || kind == 0x21

/-- Chain value of an entry over the one before (R473). -/
def chainNext (prev entry48 : Bytes) : Bytes := sl (Config.sha384 (ascii "DX8300 chain" ++ prev ++ entry48)) 0 16

/-- The newest chain value, that before the oldest entry when none is held. -/
def Sentinel.chainLast (t : Sentinel) : Bytes :=
  match t.log.getLast? with
  | some e => sl e 48 16
  | none => fit 16 t.chainBefore

/-- Overwrite the oldest entries until a number of blocks is free (R475). -/
def State.makeRoom (s : State) (need : Nat) : Nat → State
  | 0 => s
  | n + 1 =>
    match s.snt.log with
    | [] => s
    | e :: rest =>
      if logBlocks s.snt.log + need ≤ logCapacity then s
      else
        let lost := if s.snt.logMark < fld e 0 8 then 1 else 0
        let s := { s with
          snt := { s.snt with log := rest, chainBefore := sl e 48 16, logLost := sat 0xFFFFFFFF (s.snt.logLost + lost) },
          vlt := { s.vlt with certs := s.vlt.certs.del (fld e 0 8) } }
        State.makeRoom s need n

/-- Blocks that are free or hold entries at or below the mark. -/
def State.exportedBlocks (s : State) : Nat :=
  logCapacity - logBlocks (s.snt.log.filter fun e => s.snt.logMark < fld e 0 8)

/-- Raise SNT_LOG_HIGH when fewer than a quarter of the blocks are exported or free, once a minute. -/
def State.checkLogHigh (s : State) : State :=
  let due : Bool := match s.snt.logHigh with
    | none => true
    | some t => t + 60000000000 ≤ s.now
  if 4 * s.exportedBlocks < logCapacity && due then
    { (s.raise 387 noInst 0xFFFF 0 0) with snt := { s.snt with logHigh := some s.now } }
  else s

/-- Write an entry with the next sequence number and its chain value; not in BLANK or SCRAP (R476). -/
def State.logEntry (s : State) (time : W64) (kind lifecycle : Nat) (group : W32) (eflags stage : Nat)
    (detail : Bytes) : State :=
  if s.ctr.state == .blank || s.ctr.state == .scrap then s
  else
    let blocks := if shredKind kind then 75 else 0
    let s := s.makeRoom (1 + blocks) s.snt.log.length
    let head := be 8 s.snt.logSeq ++ be 8 time.toNat ++ be 2 kind ++ be 2 lifecycle ++ be 4 group.toNat ++
      be 1 eflags ++ be 1 blocks ++ be 2 stage ++ fit 20 detail
    ({ s with snt := { s.snt with
        log := s.snt.log ++ [head ++ chainNext s.snt.chainLast head], logSeq := s.snt.logSeq + 1 } }).checkLogHigh

/-- An entry from the keeper or the charter controller, at this moment. -/
def State.evidence (s : State) (kind : Nat) (detail : Bytes) : State :=
  s.logEntry s.stamp kind s.ctr.state.code 0 0 0 detail

end Sys2Proof.Machine
end

