-- ==== Sys2Proof/Machine/Pools.lean ====
section
/-! DEFINITION. The chart's flight groups, pools and programs as the machine reads them, the engines they
name, and READY (R147 to R160, R181 to R187, R340, R343, R515). -/

namespace Sys2Proof.Machine

/-! ## Pools (R159, R183) -/

/-- A pool record. -/
structure PoolPart where
  kind : Nat
  part : Nat
  first : Nat
  count : Nat
  groups : Nat
  reserve : Nat
  deriving DecidableEq, Repr

/-- The pool part of a POOLS record. -/
def poolOf (r : Bytes) : PoolPart :=
  { kind := fld r 0 1, part := fld r 1 1, first := fld r 2 2, count := fld r 4 2, groups := fld r 6 1,
    reserve := fld r 7 1 }

/-- The pool parts of the running chart, bound cores included as kind 6. -/
def State.pools (s : State) : List PoolPart := (s.section_ 0x0005).map poolOf

/-- Record kind of an engine kind (R183). -/
def kindCode : EngineKind → Nat
  | .shuffled => 1 | .masked => 2 | .hash => 3 | .publicKey => 4 | .lattice => 5

/-- Engines of a kind: first number and count (R299 and the bank's cores 0 to 255). -/
def kindRange : EngineKind → Nat × Nat
  | .shuffled => (0, 224) | .masked => (224, 32) | .hash => (0, 32) | .publicKey => (0, 32) | .lattice => (0, 8)

/-- The kind of a cipher core. -/
def coreKind (core : Nat) : EngineKind := if core < 224 then .shuffled else .masked

/-- The block that holds engines of a kind. -/
def State.block (s : State) : EngineKind → EngineBlock
  | .shuffled => s.eng.bank | .masked => s.eng.bank | .hash => s.eng.hash
  | .publicKey => s.eng.pke | .lattice => s.eng.lattice

/-- Replace the block that holds engines of a kind. -/
def State.setBlock (s : State) (k : EngineKind) (b : EngineBlock) : State :=
  match k with
  | .shuffled => { s with eng := { s.eng with bank := b } }
  | .masked => { s with eng := { s.eng with bank := b } }
  | .hash => { s with eng := { s.eng with hash := b } }
  | .publicKey => { s with eng := { s.eng with pke := b } }
  | .lattice => { s with eng := { s.eng with lattice := b } }

/-- An engine. -/
def State.engine (s : State) (k : EngineKind) (n : Nat) : Engine := (s.block k).engines.at {} n

/-- Change an engine. -/
def State.modEngine (s : State) (k : EngineKind) (n : Nat) (f : Engine → Engine) : State :=
  let b := s.block k
  s.setBlock k { b with engines := b.engines.put n (f (b.engines.at {} n)) }

/-- The pool record that names an engine: kind 6 records name masked cores. -/
def State.recordOf (s : State) (k : EngineKind) (n : Nat) : Option PoolPart :=
  s.pools.find? fun p =>
    (p.kind == kindCode k || (k == .masked && p.kind == 6)) && p.first ≤ n && n < p.first + p.count

/-- An engine no pool record names (R183). -/
def State.isSpare (s : State) (k : EngineKind) (n : Nat) : Bool := (s.recordOf k n).isNone

/-- The pool part an engine works for: its record's, or for a mapped spare that of the engine it
stands in for (R343). -/
def State.partOf (s : State) (k : EngineKind) (n : Nat) : Option PoolPart :=
  match s.recordOf k n with
  | some p => some p
  | none => (s.engine k n).standsFor.bind fun m => s.recordOf k m

/-- An engine serves: in service and in a pool or a binding (R345). -/
def State.serves (s : State) (k : EngineKind) (n : Nat) : Bool :=
  (s.engine k n).inService && !(s.engine k n).lockedOut && (s.partOf k n).isSome

/-- The engines of a kind by number. -/
def kindNumbers (k : EngineKind) : List Nat := (List.range (kindRange k).2).map ((kindRange k).1 + ·)

/-- Engines of a kind that serve. -/
def State.servingCount (s : State) (k : EngineKind) : Nat := ((kindNumbers k).filter fun n => s.serves k n).length

/-- An engine has done n more of what its kind counts. -/
def State.countOps (s : State) (k : EngineKind) (n count : Nat) : State :=
  s.modEngine k n fun e => { e with ops := e.ops + BitVec.ofNat 32 count }

/-- Engines of a kind have worked for the keeper or the handshake firmware: how many jobs each that serves committed is free (log entry
43). -/
def State.firmwareJobs (s : State) (k : EngineKind) : State :=
  ((kindNumbers k).filter (s.serves k)).foldl (fun s n =>
    let (count, s) := s.freeNat
    s.countOps k n count) s

/-- Flights in service. -/
def State.flightsServing (s : State) : Nat := ((List.range 32).filter fun f => (s.flight f).inService).length

/-- The engine kind of a pool record, none for an unassigned code; bound cores are masked. -/
def kindOfCode (c : Nat) : Option EngineKind :=
  if c = 1 then some .shuffled else if c = 2 ∨ c = 6 then some .masked else if c = 3 then some .hash
  else if c = 4 then some .publicKey else if c = 5 then some .lattice else none

/-- A lock-out: the lowest-numbered spare of the kind that is in service and unmapped takes the engine's
place (R343). -/
def State.mapSpare (s : State) (k : EngineKind) (n : Nat) : State :=
  match if s.isSpare k n then (s.engine k n).standsFor else some n with
  | none => s
  | some place =>
    let s := if s.isSpare k n then s.modEngine k n fun e => { e with standsFor := none } else s
    match (kindNumbers k).find? fun m =>
        s.isSpare k m && (s.engine k m).inService && !(s.engine k m).lockedOut && (s.engine k m).standsFor.isNone with
    | none => s
    | some m => (s.modEngine k m fun e => { e with standsFor := some place }).raise 229 m 0xFFFF place 0

/-- Locked-out engines that no spare stands in for take one, in number order (R343, R344). -/
def State.fillPlaces (s : State) (k : EngineKind) : State :=
  ((kindNumbers k).filter fun n => (s.engine k n).lockedOut && !((kindNumbers k).any fun m => (s.engine k m).standsFor == some n)).foldl
    (fun s n => s.mapSpare k n) s

/-- An engine whose job has left it: a spare that was to move stands in for nothing then (R344). -/
def Engine.idle (e : Engine) : Engine :=
  { e with busy := false, seedless := none, standsFor := if e.moves then none else e.standsFor, moves := false }

/-! ## READY (R338, R340, R515) -/

/-- Every pool part and flight group holds one engine or flight in service (R340). -/
def State.partsOk (s : State) : Bool :=
  (s.pools.all fun p =>
    match kindOfCode p.kind with
    | none => true
    | some k => (List.range p.count).any fun i =>
        ((s.engine k (p.first + i)).inService && !(s.engine k (p.first + i)).lockedOut) ||
          (kindNumbers k).any fun m => (s.engine k m).standsFor == some (p.first + i) && (s.engine k m).inService && !(s.engine k m).lockedOut) &&
  (s.groups.all fun g => g.flights.any fun f => (s.flight f).inService)

/-- The conditions of READY. -/
def State.readyOk (s : State) : Bool :=
  s.pwr.started && !s.pwr.shutDown && 1 ≤ s.pairsServing && s.sourceRunning && s.ent.readyAt.isNone && s.partsOk &&
    s.pwr.holdupOk && !s.snt.held && !s.ctr.recovery && s.ctr.incomplete.isNone && s.ctr.state != .blank &&
    s.ctr.state != .scrap

/-- A boot record: sequence, preferred copy, trial mark and two reserved bytes, in three copies followed by a CRC-32 each (R430). -/
def bootRecord (seq pref : Nat) (trial : Bool) : Bytes :=
  let r := be 4 seq ++ be 1 pref ++ be 1 (bit01 trial) ++ zeros 2
  let c := r ++ be 4 (Config.crc32 r)
  c ++ c ++ c

/-- What a boot record says: a copy counts when its CRC verifies, the record when two copies agree. -/
def FlashCopy.boot (x : FlashCopy) : Option (Nat × Nat × Bool) :=
  let part (i : Nat) : Option Bytes :=
    let c := sl x.record (12 * i) 12
    if 12 * i + 12 ≤ x.record.length && sl c 8 4 == be 4 (Config.crc32 (sl c 0 8)) then some (sl c 0 8) else none
  let agreed : Option Bytes := match part 0, part 1, part 2 with
    | some a, some b, c => if a = b then some a else c.filter fun c => c == a || c == b
    | some a, none, some c => if a = c then some a else none
    | none, some b, some c => if b = c then some b else none
    | _, _, _ => none
  agreed.map fun r => (fld r 0 4, fld r 4 1 % 2, fld r 5 1 == 1)

/-- The boot record that governs, the one with the higher sequence: the copy it lies in, its sequence, the copy it prefers and
its trial mark (R430). -/
def Charter.governing (c : Charter) : Option (Nat × Nat × Nat × Bool) :=
  match c.copy0.boot, c.copy1.boot with
  | none, none => none
  | some r, none => some (0, r)
  | none, some r => some (1, r)
  | some r, some q => if r.1 < q.1 then some (1, q) else some (0, r)

/-- A flash copy. -/
def Charter.copy (c : Charter) (n : Nat) : FlashCopy := if n = 0 then c.copy0 else c.copy1

/-- Replace a flash copy. -/
def Charter.setCopy (c : Charter) (n : Nat) (x : FlashCopy) : Charter :=
  if n = 0 then { c with copy0 := x } else { c with copy1 := x }

/-- The governing record's trial mark is cleared. -/
def Charter.clearTrial (c : Charter) : Charter :=
  match c.governing with
  | some (n, seq, pref, true) => { (c.setCopy n { c.copy n with record := bootRecord seq pref false }) with trialRun := false }
  | some (_, _, _, false) => c
  | none => c

/-- The first READY of a start: its BOOT entry is written and the trial mark cleared (R430, R472). -/
def State.firstReady (s : State) : State :=
  let s := s.evidence 0x14 (be 2 s.ctr.svn ++ be 1 s.ctr.booted ++ be 1 (bit01 s.ctr.trial) ++ be 4 s.cht.version.toNat)
  { s with ctr := { s.ctr.clearTrial with readySeen := true } }

/-- Bring READY up to date. -/
def State.refreshReady (s : State) : State :=
  let s := { s with pwr := { s.pwr with ready := s.readyOk } }
  if s.pwr.ready && !s.ctr.readySeen then s.firstReady else s

/-! ## Health (R345) -/

/-- Engines of a kind that the chart names. -/
def State.chartCount (s : State) (k : EngineKind) : Nat := ((kindNumbers k).filter fun n => (s.recordOf k n).isSome).length

/-- hflags of a health report: a class is low below its rated count, or below the chart's full count of it. -/
def State.hflags (s : State) : Nat :=
  let one := (s.ent.ring.state == .running) != (s.ent.latch.state == .running)
  let below (k : EngineKind) : Bool := s.servingCount k < s.chartCount k
  let low := s.servingCount .shuffled < 216 || s.servingCount .publicKey < 30 || below .masked || below .lattice || below .hash ||
    s.flightsServing < (s.groups.map fun g => g.flights.length).sum
  flag s.pwr.ready 0 + flag s.cor.restarting 1 + flag one 2 + flag (!s.sourceRunning) 3 + flag low 4 +
    flag (s.hlt.powerOnFail || s.tow.katFailed) 5 + flag s.pwr.thermal 6

/-- A list of times cut to those within a span before now. -/
def within (now span : Nat) (ts : List Nat) : List Nat := ts.filter fun t => now < t + span

/-- Count an engine, core or flight fault for the health report. -/
def State.countFault (s : State) : State :=
  { s with hlt := { s.hlt with faults := within s.now 3600000000000 s.hlt.faults ++ [s.now], lastFault := s.stamp } }

/-- The health report's 64 bytes with a sequence number. -/
def State.healthBytes (s : State) (seq : Nat) : Bytes :=
  be 4 0x4458484C ++ be 2 1 ++ be 2 s.hflags ++ be 8 s.ctr.moduleId.toNat ++ be 8 s.stamp.toNat ++ be 4 seq ++
    be 2 s.ctr.svn ++ be 2 s.tow.floor ++ be 2 (s.servingCount .shuffled) ++ be 1 (s.servingCount .masked) ++
    be 1 (s.servingCount .publicKey) ++ be 1 (s.servingCount .lattice) ++ be 1 (s.servingCount .hash) ++
    be 1 s.flightsServing ++
    be 1 (flag (s.ent.ring.state == .running) 0 + flag (s.ent.latch.state == .running) 1 +
      4 * ((List.range 8).filter fun i => s.ent.genOk.testBit i).length) ++
    be 4 (within s.now 3600000000000 s.hlt.faults).length ++ be 1 (s.eng.lmsPos / 2 ^ 30) ++ be 1 s.pwr.state ++
    zeros 2 ++ be 8 s.hlt.lastFault.toNat ++ zeros 8

/-- Form a health report (R345). -/
def State.formReport (s : State) : State :=
  let n := s.hlt.seq + 1
  { s with hlt := { s.hlt with report := s.healthBytes n.toNat, seq := n, formed := s.now } }

end Sys2Proof.Machine
end

