-- ==== Sys2Proof/Machine/Bank.lean ====
section
/-! DEFINITION. The datapath of a cipher core: its local generator, what a shuffled core draws for a block, the shares of a masked core,
and save RAM (R272 to R276, R287, R288; log entry 42). -/

namespace Sys2Proof.Machine

/-- Cipher cores of either kind. -/
def isCipher (k : EngineKind) : Bool := k == .shuffled || k == .masked

/-! ## Local generators (R276) -/

/-- The stream that seeds a core: a masked core has its own, 32 shuffled cores share one (R335). -/
def streamOf (k : EngineKind) (core : Nat) : Nat := if k = .masked then core - 224 else 32 + core / 32

/-- A core at its reseed point or at a key load takes a seed of 256 or 128 bits; without one it stops before its next block. -/
def State.seedCore (s : State) (k : EngineKind) (core : Nat) : State :=
  let (seed, t) := s.drawFrom (streamOf k core) (if k = .masked then 32 else 16)
  if t.ent.short != s.ent.short then (s.noteStalls t).modEngine k core fun e => { e with seedless := some (e.seedless.getD (s.now + 100000)) }
  else t.modEngine k core fun e =>
    { e with generator := exact 32 (Config.localSeed e.generator seed), reseeds := e.reseeds + 1, seedless := none }

/-- Bytes of a core's local generator. -/
def State.localDraw (s : State) (k : EngineKind) (core n : Nat) : Bytes × State :=
  let g := (s.engine k core).generator
  (exact n (Config.localOut g n), s.modEngine k core fun e => { e with generator := exact 32 (Config.localNext g n) })

/-- Work that a core could not go on with for want of a seed is not done; what stays of it is the stalled stream and the wait (R276). -/
def State.copySeeds (s t : State) (k : EngineKind) (core : Nat) : State :=
  (s.noteStalls t).modEngine k core fun e => { e with seedless := (t.engine k core).seedless }

/-- Block operations after which a core reseeds. -/
def reseedBlocks (k : EngineKind) : Nat := if k = .shuffled then 1024 else 64

/-- Reseed points that n more block operations reach. -/
def reseedsIn (k : EngineKind) (before n : Nat) : Nat := (before + n) / reseedBlocks k - before / reseedBlocks k

/-! ## Shuffled cores (R274) -/

/-- The ballast count: the first 3-bit value below 7. -/
def ballastOf (x : Nat) : Nat := (((List.range 42).map fun i => x / 8 ^ i % 8).find? (· < 7)).getD 0

/-- A permutation by Fisher and Yates: n picks from what is left, each by the next digit of a number. -/
def drawOrder : Nat → Nat → List Nat → List Nat
  | 0, _, _ => []
  | n + 1, x, xs => xs.getD (x % xs.length) 0 :: drawOrder n (x / xs.length) (xs.eraseIdx (x % xs.length))

/-- Real and ballast slots in an arrangement that a number picks; the real slots keep their order. -/
def placeSlots : Nat → Nat → Nat → Nat → List Bool
  | 0, _, _, _ => []
  | n + 1, real, ballast, x =>
    let all := real + ballast
    if x % all < real then true :: placeSlots n (real - 1) ballast (x / all) else false :: placeSlots n real (ballast - 1) (x / all)

/-- What a shuffled core draws for a block with a fixed number of ballast slots. -/
def State.drawShuffle (s : State) (core fixed : Nat) : ShuffledBlock × State :=
  let (a, s) := s.localDraw .shuffled core 16
  let (b, s) := s.localDraw .shuffled core 8
  let (c, s) := s.localDraw .shuffled core 4
  let (d, s) := s.localDraw .shuffled core 32
  let ballast := ballastOf (num a)
  ({ ballast := ballast, order := drawOrder 16 (num b) (List.range 16),
     slots := placeSlots (14 + ballast) (14 - fixed) (fixed + ballast) (num c), dummy := d }, s)

/-! ## Masked cores (R275) -/

/-- A value as three shares whose XOR it is. -/
def shareOf (v a b : Bytes) : List Bytes := [a, b, xorBytes v (xorBytes a b)]

/-- The value that three shares carry. -/
def joinShares : List Bytes → Bytes
  | [a, b, c] => xorBytes c (xorBytes a b)
  | _ => []

/-- Share a value with randomness of a core's generator. -/
def State.share (s : State) (core : Nat) (v : Bytes) : List Bytes × State :=
  let (a, s) := s.localDraw .masked core v.length
  let (b, s) := s.localDraw .masked core v.length
  (shareOf v a b, s)

/-- Refresh three shares: the value they carry stays. -/
def refreshShares (xs : List Bytes) (a b : Bytes) : List Bytes :=
  [xorBytes (xs.getD 0 []) a, xorBytes (xs.getD 1 []) b, xorBytes (xs.getD 2 []) (xorBytes a b)]

/-- The 14 slots of a masked block: the S-boxes in shared form with 384 bits, then every byte refreshed with 256. -/
def State.maskedSlots (s : State) (core : Nat) : State :=
  (List.range 14).foldl (fun s i =>
    let (rnd, s) := s.localDraw .masked core 80
    s.modEngine .masked core fun e =>
      let xs := (List.range 3).map fun j => exact 16 (Config.sharedSlot i e.path.roundKeys e.path.shares (rnd.take 48) j)
      { e with path := { e.path with shares := refreshShares xs (sl rnd 48 16) (sl rnd 64 16) } }) s

/-! ## What a job does (R274, R276, R277) -/

/-- The work of a cipher job: block operations, the fixed ballast slots of all of them on a shuffled core, and key loads. -/
structure JobWork where
  blocks : Nat
  ballast : Nat := 0
  loads : Nat := 1
  deriving DecidableEq, Repr

/-- Fixed ballast slots of a block operation by key type (R272). -/
def typeBallast (type : Nat) : Nat := if type = 1 then 4 else if type = 3 then 0 else 2

/-- A core has done a job, or a part of one, whose key it has loaded once already: its counters advance, a shuffled core's by the ballast
drawn as well, and it reseeds at every point it has reached and at every further key load (R274, R276, R297). -/
def State.countBlocks (s : State) (k : EngineKind) (core : Nat) (w : JobWork) : State :=
  let (c, s) := s.freeNat
  let seeds := (if k = .masked then w.loads - 1 else 0) + reseedsIn k (s.engine k core).ops.toNat w.blocks
  let s := s.modEngine k core fun e =>
    { e with
      ops := e.ops + BitVec.ofNat 32 w.blocks,
      aux := if k = .shuffled then e.aux + BitVec.ofNat 32 (w.ballast + c % (6 * w.blocks + 1)) else e.aux }
  ((List.range seeds).foldl (fun s _ => s.seedCore k core) s).countSite 4 0 512 w.blocks

/-- Work that is no barge's CIPHER step runs on one of some shuffled cores; which one is free (R214, R236). -/
def State.shuffledJob (s : State) (cores : List Nat) (w : JobWork) : State :=
  let (a, s) := s.freeNat
  match cores[a % cores.length]? with
  | some c => s.countBlocks .shuffled c w
  | none => s

/-- A hash unit has formed an HMAC for the keeper or the cache loader; which one, and its compressions, are free (log entry 43). -/
def State.hmacJob (s : State) : State :=
  let units := (kindNumbers .hash).filter (s.serves .hash)
  let (a, s) := s.freeNat
  let (n, s) := s.freeNat
  match units[a % units.length]? with
  | some u => s.countOps .hash u n
  | none => s

/-! ## Keys and blocks (R273, R275) -/

/-- Load a job's key into a cipher core. A shuffled core takes it from its second key port where it stands there already; a masked one is
seeded, forms the shares of its round keys with 2,048 bits and erases the port. -/
def State.loadKey (s : State) (k : EngineKind) (core : Nat) (key : Bytes) (barge : Nat) : State :=
  if k = .masked then
    let s := (s.modEngine k core fun e => { e with path := { e.path with keyPort := key } }).seedCore k core
    if (s.engine k core).seedless.isSome then s
    else
      let (rnd, s) := s.localDraw k core 256
      let rk := Config.roundKeys key
      let mask (b : Bool) : Bytes := exact rk.length (Config.scheduleMask rk.length rnd b)
      s.modEngine k core fun e => { e with path := { e.path with keyPort := [], roundKeys := shareOf rk (mask false) (mask true) } }
  else if k = .shuffled then
    s.modEngine k core fun e =>
      if e.path.nextFor = some barge then
        { e with path := { e.path with keyPort := e.path.nextPort, nextPort := [], nextFor := none } }
      else { e with path := { e.path with keyPort := key } }
  else s

/-- Set a core up with the block its job computes on: a masked core shares it with 256 bits, a shuffled one draws its parameters. -/
def State.loadBlock (s : State) (k : EngineKind) (core fixed : Nat) (block : Bytes) : State :=
  if k = .masked then
    let (xs, s) := s.share core block
    s.modEngine k core fun e => { e with path := { e.path with shares := xs, output := [] } }
  else
    let (d, s) := s.drawShuffle core fixed
    s.modEngine k core fun e => { e with path := { e.path with block := block, shuffle := some d, output := [] } }

/-- Set a core up for a job: its key first, and its block unless it lacks the seed of a key load. -/
def State.setUp (s : State) (k : EngineKind) (core fixed : Nat) (key block : Bytes) (barge : Nat) : State :=
  let s := s.loadKey k core key barge
  if (s.engine k core).seedless.isSome then s else s.loadBlock k core fixed block

/-- The last slot is done: a masked core's shares are joined in the output register and nowhere else. -/
def State.joinOutput (s : State) (k : EngineKind) (core : Nat) : State :=
  let s := if k = .masked then s.maskedSlots core else s
  s.modEngine k core fun e =>
    { e with path := { e.path with
        output := if k = .masked then joinShares e.path.shares else exact 16 (Config.cipherBlock e.path.keyPort e.path.block) } }

/-- A barge's key stands in no second key port any more. -/
def State.unstage (s : State) (barge : Nat) : State :=
  let b := s.eng.bank
  let clear (e : Engine) : Engine := if e.path.nextFor = some barge then { e with path := { e.path with nextPort := [], nextFor := none } } else e
  { s with eng := { s.eng with bank := { b with engines := b.engines.map fun e => (e.1, clear e.2) } } }

/-- What a core keeps when its job leaves it: save RAM, the key of its next job and, until that starts, its output register (R273). -/
def Datapath.erased (p : Datapath) : Datapath := { saveRam := p.saveRam, nextPort := p.nextPort, nextFor := p.nextFor, output := p.output }

/-! ## Save RAM (R287, R288) -/

/-- Mode of a job in its clear image. -/
def jobMode (opcode : Nat) (payload : Bytes) : Nat :=
  if [0x0530, 0x0531, 0x0588, 0x0589].contains opcode then
    (if fld payload 8 1 = 1 then 10 else if fld payload 8 1 = 3 then 11 else 6)
  else if opcode / 256 = 4 then (if fld payload 26 1 = 2 then 5 else 8)
  else if opcode = 0x0670 ∨ opcode = 0x0671 then 12 else 1

/-- A masked core saves the clear image of its job: key type, mode, phase, bytes held, step and handle as they are, and fields 16 to 111 in
three shares, the state first. How far the mode has come is free (log entry 42). -/
def State.saveJob (s : State) (core type mode : Nat) (handle : W64) : State :=
  let (a, s) := s.freeNat
  let (rest, s) := s.freeBytes 80
  let (xs, s) := s.share core rest
  let head := be 1 type ++ be 1 mode ++ be 1 (a % 3) ++ be 1 (a / 3 % 16) ++ be 4 (a / 48) ++ be 8 handle.toNat
  s.modEngine .masked core fun e =>
    let part (j : Nat) : Bytes := fit 16 (e.path.shares.getD j []) ++ xs.getD j []
    { e with busy := false, suspended := true, path := { saveRam := [head, part 0, part 1, part 2, zeros 16] } }

/-- The shares of the state that save RAM holds. -/
def savedShares (ram : List Bytes) : List Bytes := (List.range 3).map fun j => fit 16 (ram.getD (j + 1) [])

end Sys2Proof.Machine
end

