-- ==== Sys2Proof/Machine/Barges.lean ====
section
/-! DEFINITION. Reservation buckets and the removal of barges that never ran (R102, R162, R171, R187). -/

namespace Sys2Proof.Machine

/-! ## Reservations (R162, R187) -/

/-- A reservation. -/
structure Reservation where
  /-- ρ, charge units per ms. -/
  rate : Nat
  /-- β, charge units. -/
  depth : Nat
  overflow : Bool
  deriving DecidableEq, Repr

/-- The reservation of a RESERVATIONS record. -/
def reservationOf (r : Bytes) : Reservation :=
  { rate := fld r 4 4, depth := fld r 8 4, overflow := fld r 12 1 % 2 == 1 }

/-- Key of a record: slice, group and class. -/
def reservationKey (r : Bytes) : Nat × Nat × Nat := (fld r 0 2 % 4096, fld r 2 1, fld r 3 1)

/-- The running chart's reservation of a slice, group and class. -/
def State.classRight (s : State) (k : Nat × Nat × Nat) : Option Reservation :=
  ((s.section_ 0x0012).find? fun r => reservationKey r == k).map reservationOf

/-- Level of a bucket now in units times 10^6: it starts full and fills at ρ up to β. -/
def State.bucketLevel (s : State) (k : Nat × Nat × Nat) (v : Reservation) : Nat :=
  match s.flt.buckets.find? fun e => e.1 == k with
  | none => v.depth * 1000000
  | some (_, l, t) => min (v.depth * 1000000) (l + (s.now - t) * v.rate)

/-- Set the level of a bucket. -/
def State.setBucket (s : State) (k : Nat × Nat × Nat) (level : Nat) : State :=
  { s with flt := { s.flt with buckets := (s.flt.buckets.filter fun e => e.1 != k) ++ [(k, level, s.now)] } }

/-- The bucket a barge drew on at admission: its own class, since an overflow draws on none. -/
def State.drawnOn (s : State) (r : BargeRec) : Nat × Nat × Nat :=
  (r.barge.slice, (match s.groupOfFlight r.flight with
    | some g => g.code
    | none => 0), r.admitted)

/-- A barge removed without execution returns its charge (R162). -/
def State.returnCharge (s : State) (r : BargeRec) : State :=
  let k := s.drawnOn r
  match s.classRight k with
  | some v =>
    if r.bucket then s.setBucket k (min (v.depth * 1000000) (s.bucketLevel k v + r.charge * 1000000)) else s
  | none => s

/-- A barge in its pound that has not run; a firmware-assisted barge that comes back to its pound has (R153, R162). -/
def BargeRec.notExecuted (r : BargeRec) : Bool := r.stage == .pound && r.reply.isNone

/-- A barge that has no flight context yet. -/
def BargeRec.notStarted (r : BargeRec) : Bool := r.stage == .arrived || r.notExecuted || r.stage == .held

/-- Phase 1 of R102: barges of a generation that have not started are removed without a response, and their
charges return (R171). -/
def State.removeWaiting (s : State) (slice : Nat) (gen : W32) : State :=
  (s.flt.barges.filter fun e =>
      e.2.barge.slice == slice && e.2.barge.generation == gen && e.2.notStarted).foldl
    (fun s e => (if e.2.notExecuted then s.returnCharge e.2 else s).dropBarge e.1) s

end Sys2Proof.Machine
end

