-- ==== Sys2Proof/Machine/Observability.lean ====
section
/-! DEFINITION. The recorder, the performance counters, calendar time and the family 0x0A verbs other
than the register accesses (R484 to R499). -/

namespace Sys2Proof.Machine

/-! ## The recorder (R485 to R489) -/

/-- Records the ring holds (R485). -/
def ringSize : Nat := 65536

/-- One record as bytes, its valid mark included (R485). -/
def recordBytes32 (seq : Nat) (time : W64) (source rflags count : Nat) (info : W64) : Bytes :=
  be 8 seq ++ be 8 time.toNat ++ be 2 source ++ be 1 rflags ++ be 1 count ++ be 8 info.toNat ++
    be 4 (2 ^ 32 - 1 - seq % 2 ^ 32)

/-- Write one record in the ring and advance next_seq (R486). -/
def Observe.write (o : Observe) (time : W64) (source rflags count : Nat) (info : W64) : Observe :=
  { o with ring := o.ring.put (o.nextSeq % ringSize) (recordBytes32 o.nextSeq time source rflags count info),
           nextSeq := o.nextSeq + 1 }

/-- REC_GAP is raised with its count: it reaches counters and clusters as any event does, and its record is the one the recorder
itself writes (R482, R483, R487). -/
def State.raiseGap (s : State) (dropped : Nat) : State :=
  let pend := ((List.range 8).filter fun c => s.reaches 480 c).map fun c => (c, 480)
  let s := s.countSource 480
  let info := BitVec.ofNat 64 (0xFFFFFFFF * 2 ^ 32 + dropped % 2 ^ 32)
  { s with obs := { s.obs.write s.stamp 480 0 1 info with
      interrupts := s.obs.interrupts ++ pend.filter fun p => !s.obs.interrupts.contains p,
      dropped := 0, gaps := s.obs.gaps + BitVec.ofNat 32 dropped } }

/-- The recorder drains one event: a gap record first when events were dropped (R486, R487). -/
def recorderDrain (s : State) : State :=
  if s.cor.normalRestarting then s
  else
    let o := s.obs
    if o.dropped ≠ 0 && o.queue.length < 1024 then
      s.raiseGap o.dropped
    else
      match o.queue with
      | [] => s
      | q :: rest =>
        { s with obs := { o.write q.time q.source
                            (flag (q.asserted && eventLevel q.source) 0 + flag q.merged 1) q.count q.info with
                            queue := rest } }

/-- RECORDER_WRITE (R486). -/
def execRecorderWrite (s : State) : Host.Outcome State Fault Refusal := .next (recorderDrain s)

/-- The snapshot of R488 from a wanted sequence number: the records kept, the number lost. -/
def Observe.snapshot (o : Observe) (first n : Nat) : List Bytes × Nat :=
  let rs := ((List.range n).map fun i => (first + i, o.ring.at [] ((first + i) % ringSize)))
  let ok (e : Nat × Bytes) : Bool :=
    fld e.2 28 4 == 2 ^ 32 - 1 - e.1 % 2 ^ 32 && e.2.length == 32 && fld e.2 0 8 == e.1
  ((rs.filter ok).map (·.2), (rs.filter fun e => !ok e).length)

/-- REC_READ: the snapshot, as many records as were asked for (R488, R499). -/
def recReadVerb : Verb where
  opcode := 0x0A10
  world := .normal
  maxReply := 3216
  fmt b s := firstCode [lenIs b 12, reserved b s 9 3, wellFormed (1 ≤ fld b.payload 8 1 && fld b.payload 8 1 ≤ 100)]
  run b s :=
    let o := s.obs
    let first := max (max (fld b.payload 0 8) o.clearFloor) (max (o.nextSeq - ringSize) 1)
    let n := min (fld b.payload 8 1) (o.nextSeq - first)
    let (kept, lost) := o.snapshot first n
    done s (be 8 o.nextSeq ++ be 4 lost ++ be 1 kept.length ++ zeros 3 ++ kept.flatten)

/-- REC_READ. -/
def execRecRead (b : Barge) (s : State) : Host.Outcome State Fault Refusal := verbStep recReadVerb b s

/-- REC_CLEAR sets clear_floor to next_seq (R489). -/
def recClearVerb : Verb where
  opcode := 0x0A11
  world := .normal
  maxReply := 8
  fmt b s := firstCode [lenIs b 4, reserved b s 0 4]
  run _ s := done ({ s with obs := { s.obs with clearFloor := s.obs.nextSeq } }) (be 8 s.obs.nextSeq)

/-- REC_CLEAR. -/
def execRecClear (b : Barge) (s : State) : Host.Outcome State Fault Refusal := verbStep recClearVerb b s

/-- HEALTH_READ: the latest health report (R345, R499). -/
def healthReadVerb : Verb where
  opcode := 0x0A20
  world := .normal
  maxReply := 64
  fmt b _ := lenIs b 0
  run _ s := done s (fit 64 s.hlt.report)

/-- HEALTH_READ. -/
def execHealthRead (b : Barge) (s : State) : Host.Outcome State Fault Refusal := verbStep healthReadVerb b s

/-! ## Performance counters (R490 to R494) -/

/-- Block number of a counter site (R490). -/
def siteBlock (site : Nat) : Nat :=
  if site = 1 then 11 else if site = 2 then 3 else if site = 3 then 1 else if site = 4 then 4 else 5

/-- Instances of a site (R490). -/
def siteInstances (site : Nat) : Nat :=
  if site = 1 then 64 else if site = 2 then 32 else if site = 3 then 3 else if site = 4 ∨ site = 5 then 1 else 0

/-- Programmable counters of a block's site; 0 for a block without a site (R490). -/
def blockCounters (block : Nat) : Nat :=
  if block = 11 then 6 else if block = 3 ∨ block = 1 then 8 else if block = 4 ∨ block = 5 then 4 else 0

/-- A programmable counter. -/
def State.counter (s : State) (block inst n : Nat) : Counter48 :=
  match s.obs.counters.find? fun e => e.1 == (block, siteInstance block inst, n) with
  | some e => e.2
  | none => {}

/-- Replace a programmable counter. -/
def State.setCounter (s : State) (block inst n : Nat) (c : Counter48) : State :=
  let k := (block, siteInstance block inst, n)
  { s with obs := { s.obs with counters := (s.obs.counters.filter fun e => e.1 != k) ++ [(k, c)] } }

/-- PCFG as read, OVF included (R491). -/
def Counter48.pcfg (c : Counter48) : Nat := c.cfg.toNat + flag c.ovf 28

/-- COUNTER_READ: the cycle counter and every programmable counter of a site (R499); zeros for a
secure-world core (R411). -/
def counterReadVerb : Verb where
  opcode := 0x0A30
  world := .normal
  maxReply := 104
  fmt b s := firstCode [lenIs b 4, reserved b s 2 2, wellFormed (fld b.payload 1 1 < siteInstances (fld b.payload 0 1))]
  sender b _ := b.slice == 0
  run b s :=
    let block := siteBlock (fld b.payload 0 1)
    let inst := fld b.payload 1 1
    let n := blockCounters block
    if block == 11 && s.coreSecure inst then done s (zeros (8 + 12 * n))
    else
      done s (be 8 (s.cycles (siteIsland block inst)) ++
        ((List.range n).map fun k =>
          let c := s.counter block inst k
          be 4 c.pcfg ++ be 8 c.value.toNat).flatten)

/-- COUNTER_READ. -/
def execCounterRead (b : Barge) (s : State) : Host.Outcome State Fault Refusal := verbStep counterReadVerb b s

/-- COUNTER_WRAP: the counter wraps to 0 and sets OVF; with OVF_INT a core site interrupts its core
and any other site raises CNT_OVF (R491, R494). -/
def execCounterWrap (block site counter : Nat) (s : State) : Host.Outcome State Fault Refusal :=
  if counter < blockCounters block then
    let c := s.counter block site counter
    let s := s.setCounter block site counter { c with value := 0, ovf := true }
    if c.cfg.toNat.testBit 29 then
      if block = 11 then
        let (addr, s) := s.freeNat
        .next (({ s with obs := { s.obs with psample := s.obs.psample.put site (addr % 2 ^ 40) } }).emit
          (.interrupt site 2))
      else .next (s.raise 481 (siteInstance block site) 0xFFFF 0 counter)
    else .next s
  else .next s

/-! ## Calendar time (R495 to R498) -/

/-- SNT_TIMESTAT (R498). -/
def State.timestat (s : State) : Nat :=
  flag s.clk.valid 31 + flag s.clk.disciplined 30 + flag s.clk.onRc 29 + s.clk.utcOffset % 256 * 65536 +
    (BitVec.ofInt 16 (max (-32767) (min 32767 s.clk.offset))).toNat

/-- TIME_STATUS (R499). -/
def timeStatusVerb : Verb where
  opcode := 0x0A40
  world := .normal
  maxReply := 24
  fmt b _ := lenIs b 0
  run _ s := done s (be 8 s.stamp.toNat ++ be 8 (s.now - s.clk.startAt) ++ be 4 s.timestat ++ zeros 4)

/-- TIME_STATUS. -/
def execTimeStatus (b : Barge) (s : State) : Host.Outcome State Fault Refusal := verbStep timeStatusVerb b s

/-- A staged evidence entry joins the sentinel's area (R471, R474). An entry of another kind that finds the area full counts in OVERFLOW as
an alarm does (DESIGN CHOICE, log entry 25). -/
def State.stage (s : State) (time : W64) (kind eflags : Nat) (group : W32) (detail : Bytes) : State :=
  if s.ctr.state == .blank then s
  else if s.snt.staged.length ≥ 64 then { s with snt := { s.snt with overflow := sat 65535 (s.snt.overflow + 1) } }
  else
    let n := s.snt.stageCount % 65535 + 1
    { s with snt := { s.snt with
        stageCount := n,
        staged := s.snt.staged ++ [{ time := time, kind := kind, lifecycle := BitVec.ofNat 16 s.ctr.state.code,
                                     group := group, eflags := eflags, stage := n, detail := fit 20 detail }] } }

/-- Stage the SENT_POWER_LOSS entry that a total loss left to stage (R469). -/
def State.stagePowerLoss (s : State) : State :=
  if s.snt.powerLoss then
    ({ s with snt := { s.snt with powerLoss := false } }).stage s.stamp 4 0 0 []
  else s

/-- The clock base that makes the timestamp t now. -/
def State.baseFor (s : State) (t : Nat) : Nat :=
  (t % 2 ^ 64 + 2 ^ 64 - s.clk.mono * 16777216 / 1000000000 % 2 ^ 64) % 2 ^ 64

/-- Set the clock so that the timestamp is t now: VALID is set, TIME_SET is raised, and the entry of
a total loss is staged (R469, R496). -/
def State.setTime (s : State) (t : Nat) : State :=
  (({ s with clk := { s.clk with rtcBase := s.baseFor t, valid := true, leap := none } }).stagePowerLoss).raise
    482 noInst 0xFFFF 0 0

/-- TIME_SET: direct while the clock is not VALID, else under role 4 (R496). -/
def timeSetVerb : Verb where
  opcode := 0x0A41
  world := .normal
  fmt b _ := lenIs b 8
  sender b _ := b.slice == 0
  role _ s := if s.clk.valid then some 4 else none
  run b s := done (s.setTime (fld b.payload 0 8)) []

/-- TIME_SET. -/
def execTimeSet (b : Barge) (s : State) : Host.Outcome State Fault Refusal := verbStep timeSetVerb b s

/-- TIME_LEAP: the flagged adjustment begins and runs for 1,000 s, slow for a leap second inserted and
fast for one removed; a finished earlier adjustment is folded into the base (R497). -/
def execTimeLeap (s : State) : Host.Outcome State Fault Refusal :=
  if s.clk.leapFlag = 0 then .next s
  else
    let s := { s with clk := { s.clk with
        rtcBase := s.baseFor s.stamp.toNat, leap := some (s.clk.leapFlag, s.now + 1000000000000), leapFlag := 0 } }
    .next (s.raise 484 noInst 0xFFFF 0 0)

end Sys2Proof.Machine
end

