-- ==== Sys2Proof/Machine/Wharf.lean ====
section
/-! DEFINITION. The host ports: link states, frames, the answers the wharf gives in hardware, the beacon and
PTP (R46 to R56, R81, R82, R496, R497, R509). -/

namespace Sys2Proof.Machine

/-! ## Links (R46 to R50, R56) -/

/-- Clause 73 advertisement of a link. -/
def Link.modeEn (l : Link) : Nat := bits l.cfg.toNat 9 4
/-- FORCE_MODE. -/
def Link.forceMode (l : Link) : Nat := bits l.cfg.toNat 3 1
/-- AN_EN. -/
def Link.anEn (l : Link) : Bool := l.cfg.toNat.testBit 0
/-- FORCE_FEC. -/
def Link.forceFec (l : Link) : Bool := l.cfg.toNat.testBit 11

/-- The mode and FEC a link comes up with, none where resolution finds no common mode or the forced mode is 6 or 7 (R46 to
R50, R56). -/
def Link.resolve (l : Link) (cage : Nat) (p : LinkPartner) : Option (Nat × Nat) :=
  let fec (m : Nat) (rs : Bool) : Nat :=
    if m = 0 ∨ m = 1 ∨ m = 3 then 2 else if m = 2 then 1 else if m = 4 then bit01 rs else 0
  if cage = 2 then some (1, 2)
  else if l.anEn then
    match (List.range 6).find? fun m => l.modeEn.testBit m && p.modes.testBit m with
    | some m => some (m, fec m p.fec)
    | none => none
  else if l.forceMode ≤ 5 then some (l.forceMode, fec l.forceMode l.forceFec)
  else none

/-- The port stays down: TRAIN_FAIL is set, raised, and where the port negotiates, auto-negotiation restarts after 1 s (R48). -/
def State.trainFail (s : State) (cage : Nat) : State :=
  (s.modLink cage fun l =>
    { l with up := false, anDone := false, trainFail := true,
             anRestart := if l.anEn then some (s.now + 1000000000) else none }).raise 2 cage 0xFFFF 0 0

/-- A link comes up in a mode with its FEC, and the first BEACON of a host port is due at once (R56, R81). -/
def State.linkUp (s : State) (cage m f : Nat) : State :=
  (s.modLink cage fun l =>
    { l with up := true, anDone := l.anEn, mode := m, fec := f, anRestart := none, beaconAt := s.now }).raise 0 cage 0xFFFF 0 m

/-- HOST_LINK_UP: the link of a cage held in low-power mode stays down (R521), and so does a forced mode 6 or 7 (R56). -/
def execHostLinkUp (cage : Nat) (partner : LinkPartner) (s : State) : Host.Outcome State Fault Refusal :=
  if 2 < cage ∨ (s.pwr.cages.at {} cage).exceeds then .next s
  else
    match (s.link cage).resolve cage partner with
    | none => .next (if (s.link cage).anEn then s.trainFail cage else s)
    | some (m, f) => .next (s.linkUp cage m f)

/-- The PTP lock of a port ends with its link (R82). -/
def State.ptpUnlock (s : State) (cage : Nat) : State :=
  let s := { s with whf := { s.whf with
      ptp := s.whf.ptp.mod cage fun p => { p with locked := false, best := none, sync := none, last := none },
      ptpBest := if s.whf.ptpBest == some cage then none else s.whf.ptpBest } }
  let on := s.whf.ptp.vals.any fun p => p.locked
  ({ s with clk := { s.clk with disciplined := on } }).level 5 false cage 0xFFFF 0 0

/-- A link goes down (R48, R56). -/
def State.linkDown (s : State) (cage : Nat) : State :=
  let was := (s.link cage).up
  let s := (s.modLink cage fun l => { l with up := false, anDone := false }).ptpUnlock cage
  if was then s.raise 1 cage 0xFFFF 0 0 else s

/-- HOST_LINK_DOWN. -/
def execHostLinkDown (cage : Nat) (trainFail : Bool) (s : State) : Host.Outcome State Fault Refusal :=
  if 2 < cage then .next s
  else if trainFail then .next ((s.linkDown cage).trainFail cage) else .next (s.linkDown cage)

/-- AN_RESTART_TIMEOUT: 1 s after the failure, auto-negotiation runs again. -/
def execAnRestartTimeout (cage : Nat) (s : State) : Host.Outcome State Fault Refusal :=
  match (s.link cage).anRestart with
  | none => .next s
  | some t => .next ((s.upTo t).modLink cage fun l => { l with anRestart := none, anDone := false })

/-! ## Addresses (R54, R55, R190) -/

/-- Key of a frame's VLAN on a host port: 0xFF untagged, 0 to 3 a configured index, none unconfigured. -/
def State.vlanIndex (s : State) (cage : Nat) (vlan : Option Nat) : Option Nat :=
  match vlan with
  | none =>
    match s.setting 2 (be 1 cage) with
    | some v => if fld v 1 1 = 0 then none else some 0xFF
    | none => some 0xFF
  | some v => (List.range 4).find? fun i =>
      match s.setting 1 (be 1 cage ++ be 1 i) with
      | some r => fld r 2 2 == v && v != 0
      | none => false

/-- The interlink VLAN, 0 for none. -/
def State.interlinkVlan (s : State) : Nat :=
  match s.setting 3 [] with
  | some v => fld v 0 2
  | none => 0

/-- Is an address one that the wharf answers for on a port and VLAN: configured, the link-local address of the port where no
ADDR_V6 is, or a basin address on the gate pair's serving module (R53, R190, R374). -/
def State.answersFor (s : State) (cage : Nat) (vlan : Option Nat) (target : Bytes) : Bool :=
  match s.vlanIndex cage vlan with
  | none => false
  | some i =>
    let key := be 1 cage ++ be 1 i
    let v6 (r : Bytes) : Bool := fld r 0 2 == 5 && fld r 2 2 != 0 && sl r 4 2 == key
    let own := (target.length == 16 && !(s.section_ 0x0020).any v6 && target == Config.linkLocal cage) ||
      (s.section_ 0x0020).any fun r =>
      (fld r 0 2 == 4 && fld r 2 2 != 0 && sl r 4 2 == key && sl r 8 4 == target && target.length == 4) ||
      (v6 r && sl r 8 16 == target && target.length == 16)
    let basin := s.tow.basinId != 0 && s.tow.gatePair == s.tow.pairId && s.tow.pair.serves &&
      (target == sl s.tow.basinAddr 0 16 || (target == sl s.tow.basinAddr 16 4 && !allZero target)) && target.length != 0
    cage < 2 && (own || basin)

/-! ## Frames (R51, R52, R55, R509) -/

/-- Where a frame's EtherType stands and its VLAN: none where it carries a second tag. -/
def frameType (f : Bytes) : Option (Nat × Option Nat × Nat) :=
  let t := fld f 12 2
  if t = 0x8100 then
    let u := fld f 16 2
    if u = 0x8100 ∨ u = 0x88A8 then none else some (u, some (fld f 14 2 % 4096), 18)
  else if t = 0x88A8 then none
  else some (t, none, 14)

/-- Does the wharf accept a frame (R51), with its VLAN. -/
def acceptFrame (f : HostFrame) : Option (Option Nat) :=
  if !f.fcsOk || f.bytes.length < 64 || 9216 < f.bytes.length then none
  else
    match frameType f.bytes with
    | none => none
    | some (t, v, off) =>
      if t = 0x0800 then
        if fld f.bytes off 1 % 16 = 5 ∧ fld f.bytes (off + 6) 2 % 0x4000 = 0 then some v else none
      else if t = 0x86DD then
        let h := fld f.bytes (off + 6) 1
        if h = 17 ∨ h = 6 ∨ h = 58 then some v else none
      else if t = 0x0806 ∨ t = 0x88F7 then some v
      else none

/-- PAUSE and priority flow control frames are ignored (R52). -/
def isPause (f : Bytes) : Bool :=
  match frameType f with
  | some (t, _, _) => t == 0x8808
  | none => false

/-- Count a dropped frame. -/
def State.dropFrame (s : State) (cage : Nat) : State :=
  s.modLink cage fun l => { l with dropFrame := l.dropFrame + 1 }

/-- The transport of an accepted IP frame and where it begins, none for another EtherType. -/
def frameTransport (f : Bytes) : Option (Nat × Nat) :=
  match frameType f with
  | some (t, _, off) =>
    if t = 0x0800 then some (fld f (off + 9) 1, off + 20) else if t = 0x86DD then some (fld f (off + 6) 1, off + 40) else none
  | none => none

/-- Has an accepted frame of a host VLAN a receiver: ARP, PTP, an echo request or a neighbour solicitation, and the ports of
R54; every other ICMP and ICMPv6 message is dropped (R53), and so is a datagram or segment for another port (log entry 10). -/
def hasReceiver (f : Bytes) : Bool :=
  match frameTransport f with
  | none => true
  | some (1, at_) => fld f at_ 1 == 8
  | some (58, at_) => fld f at_ 1 == 128 || fld f at_ 1 == 135
  | some (6, at_) => fld f (at_ + 2) 2 == 4630 || fld f (at_ + 2) 2 == 4632
  | some (17, at_) =>
    fld f (at_ + 2) 2 == 4633 || fld f (at_ + 2) 2 == 319 || fld f (at_ + 2) 2 == 320 || fld f (at_ + 2) 2 == 4636
  | some _ => false

/-- Hand an accepted frame on: 0 to the sessions, PTP, the witness and the hardware answers, 1 to the towpath and
interlink subsystem. A VLAN configured for neither has no receiver. -/
def State.handOn (s : State) (cage : Nat) (vlan : Option Nat) (f : Bytes) : State :=
  let passOn (c : Nat) : State :=
    { s with whf := { s.whf with accepted := s.whf.accepted ++ [(cage, vlan, c, f)] } }
  if cage == 1 && vlan.isSome && vlan == some s.interlinkVlan && s.interlinkVlan != 0 then passOn 1
  else if (s.vlanIndex cage vlan).isSome && hasReceiver f then passOn 0
  else s

/-- Wake from P4: the frames in the link buffer are processed in arrival order (R509). -/
def State.wake (s : State) : State :=
  if s.pwr.state = 4 then
    let held := s.pwr.linkBuffer
    let s := s.upAll
    let s := { s with pwr := { s.pwr with linkBuffer := [] } }
    held.foldl (fun s e =>
      match acceptFrame { cage := e.1, bytes := e.2, fcsOk := true } with
      | some v => s.handOn e.1 v e.2
      | none => s) (s.raise 450 noInst 0xFFFF 0 0)
  else s

/-- Is an accepted frame one that wakes the module: FGL, PTP, ARP or neighbour solicitation (R509). -/
def wakesModule (f : Bytes) : Bool :=
  match frameTransport f with
  | none => true
  | some (58, at_) => fld f at_ 1 == 135
  | some (6, at_) => fld f (at_ + 2) 2 == 4630 || fld f (at_ + 2) 2 == 4632
  | some (17, at_) => fld f (at_ + 2) 2 == 4633 || fld f (at_ + 2) 2 == 319 || fld f (at_ + 2) 2 == 320
  | some _ => false

/-- Count the FEC codewords that came with a frame, where the link has an FEC (R47, R56, R492). -/
def State.countFec (s : State) (f : HostFrame) : State :=
  if (s.link f.cage).fec = 0 then s
  else
    (s.modLink f.cage fun l =>
      { l with fecCorr := l.fecCorr + BitVec.ofNat 32 f.corrected,
               fecUncorr := l.fecUncorr + BitVec.ofNat 32 f.uncorrectable }).countSite 1 f.cage 517 f.corrected

/-- HOST_FRAME_RX: on the towpath cage only the FEC counts; its frames are the towpath's own commands. -/
def execHostFrameRx (f : HostFrame) (s : State) : Host.Outcome State Fault Refusal :=
  if 2 < f.cage then .next s
  else
    let s := (s.countFec f).countSite 1 f.cage 512 1
    if f.cage = 2 ∨ isPause f.bytes then .next s
    else
      match acceptFrame f with
      | none => .next (s.dropFrame f.cage)
      | some v =>
        if s.pwr.state = 4 then
          let used := (s.pwr.linkBuffer.map fun e => e.2.length).foldl (· + ·) 0
          if 2097152 < used + f.bytes.length then .next (s.dropFrame f.cage)
          else
            let s := { s with pwr := { s.pwr with linkBuffer := s.pwr.linkBuffer ++ [(f.cage, f.bytes)] } }
            .next (if wakesModule f.bytes then s.wake else s)
        else .next (s.handOn f.cage v f.bytes)

/-- ARP_REQUEST: a reply of operation 2 with the address asked for, to the sender (R53). -/
def execArpRequest (q : AddrQuery) (s : State) : Host.Outcome State Fault Refusal :=
  let s := s.wake
  if q.target.length == 4 && s.answersFor q.cage q.vlan q.target then
    .next (s.emit (.frame q.cage q.sender (be 2 2 ++ q.target ++ q.sender)))
  else .next s

/-- NEIGHBOUR_SOLICITATION: an advertisement, ICMPv6 type 136 (R53). -/
def execNeighbourSolicitation (q : AddrQuery) (s : State) : Host.Outcome State Fault Refusal :=
  let s := s.wake
  if q.target.length == 16 && s.answersFor q.cage q.vlan q.target then
    .next (s.emit (.frame q.cage q.sender (be 1 136 ++ q.target ++ q.sender)))
  else .next s

/-- ECHO_REQUEST: an echo reply with the request's data, up to 1,000 a second and port (R53). -/
def execEchoRequest (q : AddrQuery) (s : State) : Host.Outcome State Fault Refusal :=
  if s.answersFor q.cage q.vlan q.target then
    let sec := s.now / 1000000000
    let l := s.link q.cage
    let n := if l.echoSecond = sec then l.echoes else 0
    let s := s.modLink q.cage fun l => { l with echoSecond := sec, echoes := min 1000 (n + 1) }
    if n < 1000 then
      .next (s.emit (.frame q.cage q.sender (be 1 (if q.target.length = 4 then 0 else 129) ++ q.target ++ q.data)))
    else .next s
  else .next s

/-! ## Beacon (R81) -/

/-- state_flags of the beacon. -/
def State.beaconFlags (s : State) : Nat := flag s.pwr.ready 0 + flag s.cor.restarting 1

/-- BEACON_TIMER: a signed beacon to the configured destination, once a second from the moment the link is up; each port counts
its own beacons (log entry 10). -/
def execBeaconTimer (cage : Nat) (s : State) : Host.Outcome State Fault Refusal :=
  match s.setting 6 (be 1 cage) with
  | none => .next s
  | some dest =>
    if (s.link cage).up && cage < 2 then
      let pn := (s.link cage).beaconPn + 1
      let s := s.upTo (s.link cage).beaconAt
      let s := s.modLink cage fun l => { l with beaconPn := pn, beaconAt := s.now + 1000000000 }
      let body := be 8 s.ctr.moduleId.toNat ++ be 8 s.stamp.toNat ++ be 2 s.ctr.state.code ++ be 1 s.ctr.state.view ++
        be 1 s.beaconFlags ++ be 4 s.ctr.svn ++ be 1 s.fglEnabled ++ zeros 3
      let h := fglHeader 0x20 false 0 pn (body.length + 96)
      let sig := s.sign384 s.sessionKey (h ++ body)
      let (_, s) := s.freeNat
      .next (s.sendClear 0x20 0 pn (body ++ sig) cage (sl dest 4 16 ++ sl dest 2 2))
    else .next s

/-! ## PTP (R82, R496, R497) -/

/-- The PTP settings: domain, ports and delay mechanism. -/
def State.ptpSetting (s : State) : Nat × Nat × Nat :=
  match s.setting 11 [] with
  | some v => (fld v 0 1, fld v 1 1, fld v 2 1)
  | none => (0, 3, 0)

/-- Dataset order: does a come before b. -/
def datasetLess : List Nat → List Nat → Bool
  | [], [] => false
  | [], _ :: _ => true
  | _ :: _, [] => false
  | a :: as, b :: bs => a < b || (a == b && datasetLess as bs)

/-- The locked port with the best dataset (R82). -/
def State.bestPort (s : State) : Option Nat :=
  let locked := s.whf.ptp.filter fun e => e.2.locked
  locked.foldl (fun b e =>
    match b with
    | none => some e.1
    | some k => if datasetLess (e.2.best.getD []) ((s.whf.ptp.at {} k).best.getD []) then some e.1 else some k) none

/-- A PTP port. -/
def State.ptpPort (s : State) (cage : Nat) : PtpPort := s.whf.ptp.at {} cage

/-- Change a PTP port. -/
def State.modPtp (s : State) (cage : Nat) (f : PtpPort → PtpPort) : State :=
  { s with whf := { s.whf with ptp := s.whf.ptp.put cage (f (s.ptpPort cage)) } }

/-- Nanoseconds of a difference in units of 2^-24 s. -/
def unitsToNs (d : Int) : Int := d * 1000000000 / 16777216

/-- Move the clock by a difference in units of 2^-24 s. -/
def State.moveClock (s : State) (d : Int) : State :=
  { s with clk := { s.clk with rtcBase := (((s.clk.rtcBase : Int) + d) % (2 ^ 64 : Nat)).toNat } }

/-- Clock discipline by a measured offset, the module's time less the timeTransmitter's, in units of 2^-24 s,
after a span of ns since the last measurement (R496). -/
def State.discipline (s : State) (theta : Int) (span : Nat) : State :=
  let ns := unitsToNs theta
  let s := { s with clk := { s.clk with disciplined := true, offset := max (-32767) (min 32767 ns) } }
  if !s.clk.valid then s.setTime (s.stamp.toNat + (((2 ^ 64 : Nat) : Int) - theta).toNat)
  else
    let limit : Int := ((span * 200 / 1000000 : Nat) : Int) * 16777216 / 1000000000
    let slew := max (-limit) (min limit (-theta))
    let within1 := ns.natAbs ≤ 1000000000
    let s := if within1 && s.clk.holdover then
        ({ s with clk := { s.clk with holdover := false } }).level 485 s.clk.onRc noInst 0xFFFF 0 0
      else s
    if ns.natAbs ≤ 1000000 then s.moveClock slew
    else if within1 then
      let may := match s.clk.stepped with
        | none => true
        | some t => t + 3600000000000 ≤ s.now
      if may then
        let s := s.moveClock (-theta)
        { s with clk := { s.clk with stepped := some s.now } }
      else s.moveClock slew
    else
      let s := (s.raise 483 noInst 0xFFFF 0 0).level 485 true noInst 0xFFFF 0 0
      { s with clk := { s.clk with holdover := true } }

/-- UTC of a TAI time in units of 2^-24 s: TAI less the stored currentUtcOffset (R7, R497). -/
def State.utcOf (s : State) (tai : Nat) : Int := (tai : Int) - s.clk.utcOffset * 16777216

/-- A Sync is measured on a port: its lock, the best port and the discipline of the clock. -/
def State.measure (s : State) (cage origin ingress : Nat) : State :=
  let p := s.ptpPort cage
  let span := match p.last with
    | some (_, t) => (unitsToNs ((ingress : Int) - t)).toNat
    | none => 0
  let s := s.modPtp cage fun p => { p with locked := true, sync := none, last := some (origin, ingress) }
  let best := s.bestPort
  let s := ({ s with whf := { s.whf with ptpBest := best } }).level 5 true cage 0xFFFF 0 0
  if best == some cage then s.discipline ((ingress : Int) - s.utcOf origin - p.delay) span else s

/-- The module's own Delay_Req or Pdelay_Req goes out after a Sync, on the transport it came by; its egress time is kept
(log entry 10). -/
def State.delayRequest (s : State) (cage transport seq : Nat) : State :=
  (s.modPtp cage fun p => { p with req := some (seq, s.stamp.toNat) }).emit
    (.frame cage [] (be 1 transport ++ be 1 (if s.ptpSetting.2.2 = 1 then 2 else 1) ++ be 2 seq))

/-- The path delay that a response gives: by request and response from the Sync before it, or by the peer's own times of receipt
and sending (R82). -/
def pathDelay (peer : Bool) (m : PtpMessage) (egress ingress : Nat) (last : Option (Nat × Nat)) : Option Int :=
  if peer then some (((ingress : Int) - egress - ((m.egress : Int) - m.origin)) / 2)
  else last.map fun (o, i) => (((i : Int) - o) + ((m.origin : Int) - egress)) / 2

/-- PTP_MESSAGE. -/
def execPtpMessage (m : PtpMessage) (s : State) : Host.Outcome State Fault Refusal :=
  let (dom, ports, peer) := s.ptpSetting
  let s := s.wake.countSite 1 m.cage 518 1
  if 1 < m.cage ∨ m.domain ≠ dom ∨ !ports.testBit m.cage then .next s
  else
    let p := s.ptpPort m.cage
    let t := s.stamp.toNat
    match m.kind with
    | .announce =>
      let take := p.best.isNone || p.master == m.source || datasetLess m.quality (p.best.getD [])
      if take then
        let s := s.modPtp m.cage fun p => { p with best := some m.quality, master := m.source }
        if s.whf.ptpBest == some m.cage || s.whf.ptpBest.isNone then
          .next { s with clk := { s.clk with
              utcOffset := if m.utcOffsetValid then m.utcOffset % 256 else s.clk.utcOffset,
              leapFlag := if m.leap61 then 1 else if m.leap59 then -1 else 0 } }
        else .next s
      else .next s
    | .sync =>
      if p.master != m.source || p.best.isNone then .next s
      else if m.twoStep then
        .next ((s.modPtp m.cage fun p => { p with sync := some (m.sequence, t) }).delayRequest m.cage m.transport m.sequence)
      else .next ((s.measure m.cage m.origin t).delayRequest m.cage m.transport m.sequence)
    | .followUp =>
      match p.sync with
      | some (seq, ingress) =>
        if seq = m.sequence ∧ p.master = m.source then .next (s.measure m.cage m.origin ingress) else .next s
      | none => .next s
    | .delayReq =>
      if peer = 1 then .next (s.emit (.frame m.cage m.source (be 1 m.transport ++ be 1 3 ++ be 2 m.sequence ++ be 8 t))) else .next s
    | .delayResp =>
      match p.req with
      | none => .next s
      | some (seq, egress) =>
        match pathDelay (peer = 1) m egress t p.last with
        | some d => if seq = m.sequence then .next (s.modPtp m.cage fun p => { p with req := none, delay := d }) else .next s
        | none => .next s

end Sys2Proof.Machine
end

