-- ==== Sys2Proof/Machine/Sessions.lean ====
section
/-! DEFINITION. FGL-3 handshakes and datagrams, FGL-1 and FGL-2, session timers and the family 0x01 verbs
(R57 to R80, R510, R526). -/

namespace Sys2Proof.Machine

/-! ## Receiving a datagram (R57 to R61, R77) -/

/-- Header fields of a datagram. -/
def dgType (d : Datagram) : Nat := fld d.bytes 1 1
/-- session_id. -/
def dgSession (d : Datagram) : Nat := fld d.bytes 4 8
/-- packet_number. -/
def dgPn (d : Datagram) : Nat := fld d.bytes 12 8
/-- The 24 header bytes. -/
def dgHeader (d : Datagram) : Bytes := sl d.bytes 0 24
/-- Everything after the header. -/
def dgBody (d : Datagram) : Bytes := d.bytes.drop 24
/-- The header's reserved fields are zero. -/
def dgClean (d : Datagram) : Bool := fld d.bytes 2 2 < 2 && fld d.bytes 22 2 == 0
/-- Version, type and length as an encrypted datagram of a type has them. -/
def dgShape (d : Datagram) (type : Nat) : Bool :=
  24 ≤ d.bytes.length && fld d.bytes 0 1 == 3 && dgType d == type && d.bytes.length == 24 + fld d.bytes 20 2 + 16

/-- A RESET_HINT for an unknown session, at most 100 a second and port (R77). -/
def State.resetHint (s : State) (d : Datagram) : State :=
  let sec := s.now / 1000000000
  let l := s.link d.cage
  let n := if l.hintSecond = sec then l.hints else 0
  let s := s.modLink d.cage fun l => { l with hintSecond := sec, hints := min 100 (n + 1) }
  if n < 100 then s.sendClear 0x3E (dgSession d) 0 (be 8 (dgSession d)) d.cage d.source else s

/-- Does the receive window accept a packet number (R60). -/
def Session.admits (x : Session) (pn : Nat) : Bool :=
  pn != 0 && !(pn + 1024 ≤ x.highest) && !x.seen.contains pn

/-- The keys a receiver tries for a datagram: the secret, and the key state once it has authenticated
(R61). -/
def TrafficKey.tries (k : TrafficKey) (phase : Bool) (now : Nat) : List (Bytes × TrafficKey) :=
  if phase == k.phase then [(k.secret, { k with count := k.count + 1 })]
  else
    let next := hkdfExpand k.secret (ascii "upd") 48
    let moved : TrafficKey :=
      { secret := next, phase := phase, since := now, count := 1, prev := some (k.secret, now + 2000000000), prevCount := k.count }
    (next, moved) ::
      (match k.prev with
       | some (p, t) => if now < t then [(p, { k with prevCount := k.prevCount + 1 })] else []
       | none => [])

/-- Open a datagram with the first key that authenticates it. -/
def openWith (d : Datagram) : List (Bytes × TrafficKey) → Option (Bytes × TrafficKey)
  | [] => none
  | (sec, k) :: t =>
    match Config.gcmOpen (trafficKey sec) (datagramNonce (trafficIv sec) (dgPn d)) (dgHeader d) (dgBody d) with
    | some body => some (body, k)
    | none => openWith d t

/-- A datagram fails authentication: counted and raised (R56, R480). -/
def State.dropAuth (s : State) (cage : Nat) : State :=
  (s.modLink cage fun l => { l with dropAuth := l.dropAuth + 1 }).raise 3 cage 0xFFFF 0 1

/-- The session state after a datagram has authenticated, from which on a changed idle time applies (R60, R61, R69, R75, R200). -/
def Session.accept (x : Session) (d : Datagram) (k : TrafficKey) (now idle : Nat) : Session :=
  let hi := max x.highest (dgPn d)
  { x with recv := k, highest := hi, idle := idle, seen := (dgPn d :: x.seen).filter (fun p => hi < p + 1024),
           lastHeard := now, source := d.source, cage := d.cage, heardSinceFlip := true }

/-- Authenticate a datagram of a type for an established session: its body, or none where it is dropped
or answered already. -/
def State.openDatagram (s : State) (type : Nat) (d : Datagram) : State × Option Bytes :=
  if !dgShape d type then (s, none)
  else
    match s.session (dgSession d) with
    | none => (s.resetHint d, none)
    | some x =>
      if x.fgl ≠ 3 then (s.resetHint d, none)
      else if x.limit < d.bytes.length then (s, none)
      else if !x.admits (dgPn d) then
        (s.modLink d.cage fun l => { l with dropReplay := l.dropReplay + 1 }, none)
      else
        match openWith d (x.recv.tries (fld d.bytes 2 2 % 2 == 1) s.now) with
        | none => (s.dropAuth d.cage, none)
        | some (body, k) =>
          let s := (s.modSession (dgSession d) fun x => x.accept d k s.now s.idleS).countSite 1 d.cage 514 1
          if 2 ^ 31 ≤ k.count ∨ 2 ^ 31 ≤ k.prevCount then
            ((s.sendSealed (dgSession d) 0x30 (alertBody stAuthFail) d.cage d.source).endSession (dgSession d), none)
          else (s, some body)

/-! ## REQUEST (R66, R67, R71, R377) -/

/-- One barge record of a REQUEST. -/
structure RequestRecord where
  opcode : Nat
  cls : Nat
  clean : Bool
  requestId : W64
  idem : W64
  payload : Bytes
  /-- The record as sent, padding included. -/
  raw : Bytes
  deriving DecidableEq, Repr

/-- Split n records that fill a body exactly, with zero padding (R66, R67). -/
def splitRecords : Nat → Bytes → Option (List RequestRecord)
  | 0, bs => if bs.isEmpty then some [] else none
  | n + 1, bs =>
    let len := fld bs 20 2
    let all := 24 + padded len
    if bs.length < 24 ∨ bs.length < all then none
    else if !allZero (sl bs (24 + len) (all - 24 - len)) then none
    else
      (splitRecords n (bs.drop all)).map fun t =>
        { opcode := fld bs 0 2, cls := fld bs 2 1, clean := fld bs 3 1 == 0 && fld bs 22 2 == 0,
          requestId := BitVec.ofNat 64 (fld bs 4 8), idem := BitVec.ofNat 64 (fld bs 12 8), payload := sl bs 24 len,
          raw := sl bs 0 all } :: t

/-- The records of a REQUEST body, none where the whole datagram is rejected (R67). -/
def requestRecords (body : Bytes) : Option (List RequestRecord) :=
  let n := fld body 0 1
  if body.length < 4 ∨ n = 0 ∨ 32 < n then none else splitRecords n (body.drop 4)

/-- The home pair of a session's slice when it is not this pair: a forwarded session (R375). -/
def State.forwardHome (s : State) (slice : Nat) : Option W64 :=
  if s.tow.basinId != 0 && s.tow.gatePair == s.tow.pairId then
    match s.tow.directory.find slice with
    | some e => if e.home == s.tow.pairId then none else some e.home
    | none => none
  else none

/-- A barge inside an announced idle window ends the window (R510). -/
def State.endIdle (s : State) : State :=
  match s.pwr.idle with
  | some (a, e) => if a ≤ s.now ∧ s.now < e then { s with pwr := { s.pwr with idle := none } } else s
  | none => s

/-- CLOSE: the peer's CLOSE ends the session (R76). -/
def execClose (d : Datagram) (s : State) : Host.Outcome State Fault Refusal :=
  let (s, opened) := s.wake.openDatagram 0x30 d
  match opened with
  | some _ => .next (s.endSession (dgSession d))
  | none => .next s

/-- PING: the value comes back in a PONG (R75); a body that is no 8-byte value is not answered (log entry 10). A PONG of the host
comes in by this row too: it authenticates, which resets the idle timer, and is not answered (R58). -/
def execPing (d : Datagram) (s : State) : Host.Outcome State Fault Refusal :=
  let (s, opened) := s.wake.openDatagram (if dgType d = 0x32 then 0x32 else 0x31) d
  match if dgType d = 0x32 then none else opened with
  | some body => .next (if body.length = 8 then s.sendSealed (dgSession d) 0x32 body d.cage d.source else s)
  | none => .next s

/-! ## The handshake (R62 to R65, R74) -/

/-- A cookie for an address at a time in ns (R64; log entry 17). -/
def cookieFor (source : Bytes) (t : Nat) : Bytes := be 8 t ++ fit 24 (Config.cookieMac source t)

/-- A cookie is valid for 10 s, from the same address and port (R64). -/
def cookieValid (source cookie : Bytes) (now : Nat) : Bool :=
  fld cookie 0 8 ≤ now && now < fld cookie 0 8 + 10000000000 && cookie == cookieFor source (fld cookie 0 8)

/-- Handshakes completed in the present second (R62). -/
def State.handshakesNow (s : State) : Nat :=
  if s.whf.handshakeSecond = s.now / 1000000000 then s.whf.handshakes else 0

/-- A pre-session ALERT. -/
def State.alertClear (s : State) (d : Datagram) (c : W16) : State :=
  s.sendClear 0x3F 0 0 (alertBody c) d.cage d.source

/-- The module's certificate chain, at most 2,560 bytes (R62; log entry 17). -/
def State.chain (s : State) : Bytes := (Config.moduleChain s.ctr.identity).take 2560

/-- The stream of the lowest engine of a kind that serves (R335). -/
def State.streamFor (s : State) (k : EngineKind) : Nat :=
  (if k = .lattice then 103 else 71) + ((kindNumbers k).find? (s.serves k)).getD 0

/-- Answer a well-formed HELLO_C with HELLO_M (R62): its randoms from the normal world's instance, that of the encapsulation from a lattice
stream. Where one of them stalls no answer leaves (R335, R337). -/
def State.helloM (s0 : State) (d : Datagram) (body : Bytes) : State :=
  let (rand, s) := s0.drawFrom 112 32
  let (idBytes, s) := s.drawFrom 112 8
  let (own, s) := s.drawFrom 112 32
  let (coin, s) := s.drawFrom (s.streamFor .lattice) 32
  if s.ent.short != s0.ent.short then s0.noteStalls s else
  let used := s.whf.sessions.keys ++ s.whf.halfOpen.keys
  let sid := firstFree used (max 1 (num idBytes)) 70000
  let priv := Config.newPrivate 0x11 384 (num own)
  let kem := Config.kemEncaps (sl body 165 1184) (num coin)
  let s := (s.firmwareJobs .publicKey).firmwareJobs .lattice
  let limit := min (fld body 32 2) s.datagramLimit
  let clear := rand ++ public384 priv ++ fit 1088 kem.1 ++ be 2 limit ++ zeros 1
  let th1 := Config.sha384 (body ++ clear)
  let hs := hkdfExtract (ascii "FGL3 hybrid") (fit 48 (Config.agree 2 priv (sl body 68 97)) ++ fit 32 kem.2)
  let cHs := hkdfExpand hs (ascii "c hs" ++ th1) 48
  let mHs := hkdfExpand hs (ascii "m hs" ++ th1) 48
  let chain := s.chain
  let th2 := Config.sha384 (th1 ++ chain)
  let sig := s.sign384 s.sessionKey th2
  let s := { s with draws := s.draws + 1 }
  let th3 := Config.sha384 (th2 ++ sig)
  let fin := hmac384 (hkdfExpand mHs (ascii "fin") 48) th3
  let plain := be 2 chain.length ++ chain ++ sig ++ fin
  let h := fglHeader 0x02 false sid 1 (clear.length + plain.length)
  let wire := h ++ clear ++ Config.gcmSeal (trafficKey mHs) (datagramNonce (trafficIv mHs) 1) h plain
  let o : HalfOpen := { cage := d.cage, source := d.source, limit := limit, hs := hs, cHs := cHs, mHs := mHs,
                        stem := th3 ++ fin, deadline := s.now + s.handshakeMs * 1000000 }
  ({ s with whf := { s.whf with halfOpen := s.whf.halfOpen.put sid o } }).emit
    (.datagram d.cage 4633 d.source h (clear ++ plain) wire)

/-- Would HELLO_M exceed three times the bytes received (R64). -/
def State.amplifies (s : State) (d : Datagram) : Bool :=
  3 * d.bytes.length < 24 + 1220 + 2 + s.chain.length + 96 + 48 + 16

/-- HELLO_C. One of version 3 whose body is not that of R62 is dropped, for which the spec names no answer; an address that a valid cookie
validates is answered with HELLO_M however many handshakes are half-open (R64; DESIGN CHOICES, log entry 17). FGL-3 turned off draws
an ALERT (R200). -/
def execHelloC (d : Datagram) (s : State) : Host.Outcome State Fault Refusal :=
  let s := s.wake
  let body := dgBody d
  if d.bytes.length < 24 ∨ dgType d ≠ 0x01 then .next s
  else if fld d.bytes 0 1 ≠ 3 then .next (s.alertClear d stVersion)
  else if s.cor.normalRestarting then .next s
  else if !s.fglEnabled.testBit 2 then .next (s.alertClear d stVersion)
  else if body.length ≠ 1349 ∨ fld d.bytes 20 2 ≠ 1349 then .next s
  else if fld body 32 2 < 4096 ∨ 9146 < fld body 32 2 then .next (s.alertClear d stBadFormat)
  else
    let cookie := sl body 36 32
    let validated := cookieValid d.source cookie s.now
    if !allZero cookie && !validated then .next s
    else if 65536 ≤ s.sessionCount (fun x => x.fgl == 3) then
      .next ((s.raise 4 d.cage 0xFFFF stClassFull.toNat 0).alertClear d stClassFull)
    else if 8000 ≤ s.handshakesNow then .next (s.alertClear d stClassFull)
    else if !validated && (s.amplifies d || 4096 < s.whf.halfOpen.length) then
      .next (s.sendClear 0x06 0 0 (cookieFor d.source s.now) d.cage d.source)
    else if !Config.onCurve 2 (sl body 68 97) then .next (s.alertClear d stNotOnCurve)
    else if !Config.kemKeyOk (sl body 165 1184) then .next (s.alertClear d stNoncanonical)
    else .next (s.helloM d body)

/-- Trust anchors and slice 0 principals of the chart's CUSTODY section (R185). -/
def State.chartCustody (s : State) : Map Bytes × List Binding :=
  let rs := s.section_ 0x0010
  let anchors := (rs.filter fun r => fld r 0 1 == 1).map fun r => sl r 4 (fld r 2 2)
  let b (r : Bytes) : Binding := { anchor := fld r 4 1, principal := sl r 8 16, slice := 0 }
  ((List.range anchors.length).zip anchors, (rs.filter fun r => fld r 0 1 == 2).map b)

/-- The anchors and bindings in force: a module that waits for a RETURN_TEST commit takes those of the chart's CUSTODY section (R443). -/
def State.trust (s : State) : Map Bytes × List Binding :=
  if s.ctr.incomplete.isSome then s.chartCustody else (s.cus.anchors, s.cus.bindings)

/-- The binding that the basin directory gives a principal: under an anchor of the slice's home that the chain verifies against (R375). -/
def State.directoryBinding (s : State) (chain principal : Bytes) : Option (Nat × Bytes × Nat) :=
  let good (e : DirEntry) (b : Nat × Bytes) : Bool := b.2 == principal && (s.dirAnchor e.home b.1).any fun a => Config.chainOk chain a
  (s.tow.directory.find? fun e => e.2.bindings.any (good e.2)).bind fun e =>
    (e.2.bindings.find? (good e.2)).map fun b => (b.1, principal, e.1)

/-- Anchors and principals a chain may speak for: each anchor it verifies against, own or of the basin
directory, with the slice bound to its principal (R65, R97, R375). -/
def State.bindingOf (s : State) (chain : Bytes) : Option (Nat × Bytes × Nat) :=
  let principal := sl (Config.sha384 (Config.leafSubject chain)) 0 16
  let (anchors, bindings) := s.trust
  let good := anchors.filter fun a => Config.chainOk chain a.2
  let own := bindings.find? fun b => good.any (fun a => a.1 == b.anchor) && b.principal == principal
  match own with
  | some b => some (b.anchor, principal, b.slice)
  | none => s.directoryBinding chain principal

/-- May a new session bind to a slice: it is ACTIVE, or homed elsewhere in the basin (R65, R101, R375). -/
def State.sliceOpen (s : State) (slice : Nat) : Bool :=
  (s.forwardHome slice).isSome || (s.slice slice).state == .active

/-- The generation a session of a slice carries. -/
def State.sessionGeneration (s : State) (slice : Nat) : W32 :=
  match s.forwardHome slice with
  | some _ => (match s.tow.directory.find slice with
      | some e => e.generation
      | none => 0)
  | none => (s.slice slice).generation

/-- An ALERT under the module handshake key ends a handshake, and no state stays (R65). -/
def State.alertHandshake (s : State) (sid : Nat) (o : HalfOpen) (c : W16) : State :=
  let body := alertBody c
  let h := fglHeader 0x3F false sid 2 body.length
  let wire := h ++ Config.gcmSeal (trafficKey o.mHs) (datagramNonce (trafficIv o.mHs) 2) h body
  ({ s with whf := { s.whf with halfOpen := s.whf.halfOpen.del sid } }).emit (.datagram o.cage 4633 o.source h body wire)

/-- What a FINISH_C proves, in the order of R65. One that finds 65,536 sessions established ends with CLASS_FULL (R74; log
entry 10). -/
def State.finishChecks (s : State) (o : HalfOpen) (plain : Bytes) : Except W16 (Nat × Bytes × Nat × Bytes) :=
  let n := fld plain 0 2
  let chain := sl plain 2 n
  let sig := sl plain (2 + n) 96
  let fin := sl plain (98 + n) 48
  let th4 := Config.sha384 (o.stem ++ chain)
  let th5 := Config.sha384 (th4 ++ sig)
  if plain.length ≠ 146 + n ∨ 2560 < n then .error stAuthFail
  else if !((s.trust.1.any fun a => Config.chainOk chain a.2) || s.tow.dirAnchors.any fun a => Config.chainOk chain a.2) then .error stAuthFail
  else if !verify384 (Config.leafKey chain) th4 sig then .error stAuthFail
  else if fin != hmac384 (hkdfExpand o.cHs (ascii "fin") 48) th5 then .error stAuthFail
  else
    match s.bindingOf chain with
    | none => .error stNotAuthorised
    | some (a, p, slice) =>
      if !s.sliceOpen slice then .error stNotAuthorised
      else if (s.forwardHome slice).isNone &&
          (s.slice slice).quota.sessions3 ≤ s.sessionCount (fun x => x.fgl == 3 && x.slice == slice) then
        .error stQuota
      else if 65536 ≤ s.sessionCount (fun x => x.fgl == 3) then .error stClassFull
      else .ok (a, p, slice, Config.sha384 (th5 ++ fin))

/-- The session a finished handshake opens, and its ESTABLISHED (R62). -/
def State.establish (s : State) (sid : Nat) (o : HalfOpen) (d : Datagram) (a : Nat) (p : Bytes) (slice : Nat)
    (th6 : Bytes) : State :=
  let ms := hkdfExtract o.hs th6
  let x : Session :=
    { fgl := 3, slice := slice, generation := s.sessionGeneration slice, anchor := a, principal := p, limit := o.limit,
      cage := d.cage, source := d.source, lastHeard := s.now,
      idle := s.idleS, recv := { secret := hkdfExpand ms (ascii "c ap") 48, since := s.now },
      send := { secret := hkdfExpand ms (ascii "m ap") 48, since := s.now },
      sendPn := 1, highest := 1, seen := [1] }
  let s := { s with whf := { s.whf with
      halfOpen := s.whf.halfOpen.del sid, sessions := s.whf.sessions.put sid x,
      handshakes := s.handshakesNow + 1, handshakeSecond := s.now / 1000000000 } }
  s.sendSealed sid 0x04 (be 2 slice ++ be 4 x.generation.toNat ++ be 2 s.idleS ++ be 8 2) d.cage d.source

/-- FINISH_C. -/
def execFinishC (d : Datagram) (s : State) : Host.Outcome State Fault Refusal :=
  let s := s.wake
  if !dgShape d 0x03 ∨ s.cor.normalRestarting then .next s
  else
    let sid := dgSession d
    match s.whf.halfOpen.find sid with
    | none => .next (if (s.session sid).isSome then s else s.resetHint d)
    | some o =>
      match Config.gcmOpen (trafficKey o.cHs) (datagramNonce (trafficIv o.cHs) 1) (dgHeader d) (dgBody d) with
      | none => .next (s.dropAuth d.cage)
      | some plain =>
        let s := (s.countSite 1 d.cage 514 1).firmwareJobs .publicKey
        match s.finishChecks o plain with
        | .error c => .next (s.alertHandshake sid o c)
        | .ok (a, p, slice, th6) => .next (s.establish sid o d a p slice th6)

/-! ## Timers (R75) -/

/-- RESPONSE_GATHER_TIMEOUT; a module that seeks its lease holds what it has gathered (R361). -/
def execResponseGatherTimeout (session pn : Nat) (s : State) : Host.Outcome State Fault Refusal :=
  match s.gather session pn with
  | none => .next s
  | some g => .next (if g.records.isEmpty || (s.tow.pair == .seeking && s.tow.wasServing) then s else (s.upTo (g.oldest + 20000)).flush session pn)

/-- HANDSHAKE_TIMEOUT. -/
def execHandshakeTimeout (session : Nat) (s : State) : Host.Outcome State Fault Refusal :=
  match s.whf.halfOpen.find session with
  | none => .next s
  | some o =>
    let s := s.upTo o.deadline
    .next { s with whf := { s.whf with halfOpen := s.whf.halfOpen.del session } }

/-- SESSION_IDLE_TIMEOUT: by the idle time that the session's last datagram set (R75, R200). -/
def execSessionIdleTimeout (session : Nat) (s : State) : Host.Outcome State Fault Refusal :=
  match s.session session with
  | none => .next s
  | some x => .next ((s.upTo (x.lastHeard + x.idle * 1000000000)).endSession session)

/-- SEND_KEY_UPDATE: at 2^30 datagrams, else at 24 h (R61). -/
def execSendKeyUpdate (session : Nat) (s : State) : Host.Outcome State Fault Refusal :=
  match s.session session with
  | none => .next s
  | some x =>
    if x.fgl = 3 ∧ x.heardSinceFlip then
      let s := if 2 ^ 30 ≤ x.send.count then s else s.upTo (x.send.since + 86400000000000)
      .next (s.modSession session fun x =>
        { x with heardSinceFlip := false,
                 send := { secret := hkdfExpand x.send.secret (ascii "upd") 48, phase := !x.send.phase, since := s.now } })
    else .next s

/-- PREV_KEY_DISCARD. -/
def execPrevKeyDiscard (session : Nat) (s : State) : Host.Outcome State Fault Refusal :=
  match s.session session with
  | none => .next s
  | some x =>
    match x.recv.prev with
    | none => .next s
    | some (_, t) =>
      .next ((s.upTo t).modSession session fun x => { x with recv := { x.recv with prev := none } })

/-- IDEM_ENTRY_EXPIRE (R72). -/
def execIdemEntryExpire (slice : Nat) (generation : W32) (key : W64) (s : State) : Host.Outcome State Fault Refusal :=
  match s.idemEntry slice generation key with
  | none => .next s
  | some e => .next ((s.upTo e.expiry).setIdem slice generation key none)

/-! ## FGL-1 and FGL-2 (R78, R79) -/

/-- The parameters of R78, by their numbers in TLS (log entry 19). -/
def tlsParams (h : TlsHello) : Bool :=
  if h.fgl = 1 then h.suite == 0xC02C && h.group == 24 && h.extendedMaster
  else if h.fgl = 2 then h.suite == 0x1302 && h.group == 24 && h.sigAlg == 0x0503
  else false

/-- The TCP session of a cage and client address that stands. -/
def State.tcpSession (s : State) (cage : Nat) (source : Bytes) : Option (Nat × Session) :=
  s.whf.sessions.find? fun e => e.2.fgl != 3 && e.2.cage == cage && e.2.source == source

/-- The next TLS 1.3 application traffic secret (log entry 19). -/
def tlsNext (secret : Bytes) : Bytes := hkdfExpand secret (be 2 48 ++ be 1 17 ++ ascii "tls13 traffic upd" ++ be 1 0) 48

/-- KeyUpdate of an FGL-2 connection: the client's key moves on, and the module's too where the client asks for it (R78). -/
def State.tlsKeyUpdate (s : State) (cage : Nat) (source : Bytes) (requested : Bool) : State :=
  match s.tcpSession cage source with
  | none => s
  | some (n, x) =>
    if x.fgl ≠ 2 then s
    else s.modSession n fun x =>
      { x with recv := { x.recv with secret := tlsNext x.recv.secret, since := s.now }, lastHeard := s.now, idle := s.idleS,
               send := if requested then { x.send with secret := tlsNext x.send.secret, since := s.now } else x.send }

/-- A full TLS handshake: a session, or a reset connection (R74, R78, R446). -/
def State.tlsFull (s : State) (h : TlsHello) : State :=
  let refuse := s.emit (.tcpReset h.cage h.source)
  if s.cor.normalRestarting ∨ s.ctr.dbgNormal.isSome ∨ !s.fglEnabled.testBit (h.fgl - 1) ∨ !tlsParams h then refuse
  else if 4096 ≤ s.sessionCount (fun x => x.fgl != 3) then
    (s.raise 4 h.cage 0xFFFF stClassFull.toNat 0).emit (.tcpReset h.cage h.source)
  else if !verify384 (Config.leafKey h.chain) h.transcript h.signature then refuse
  else
    match s.bindingOf h.chain with
    | none => refuse
    | some (a, p, slice) =>
      if !s.sliceOpen slice ||
          (s.slice slice).quota.sessions12 ≤ s.sessionCount (fun x => x.fgl != 3 && x.slice == slice) then refuse
      else
        let secret (module : Bool) : Bytes := if h.fgl = 2 then fit 48 (Config.tlsSecret h.transcript module) else []
        let x : Session :=
          { fgl := h.fgl, slice := slice, generation := s.sessionGeneration slice, anchor := a, principal := p, limit := 0,
            cage := h.cage, source := h.source, lastHeard := s.now, idle := s.idleS, recv := { secret := secret false, since := s.now },
            send := { secret := secret true, since := s.now } }
        let n := s.whf.nextTcp
        { s with whf := { s.whf with sessions := s.whf.sessions.put n x, nextTcp := n + 1 } }

/-- TLS_HANDSHAKE. Resumption, a pre-shared key and early data are never granted: a client that asks for them runs the full
handshake, and its early data is not taken. A renegotiation on a connection that stands is refused and the connection goes on;
KeyUpdate moves the keys of an FGL-2 connection (R78; log entry 10). -/
def execTlsHandshake (h : TlsHello) (s : State) : Host.Outcome State Fault Refusal :=
  match h.ask with
  | .full => .next ((s.wake.firmwareJobs .publicKey).tlsFull h)
  | .resumption => .next ((s.wake.firmwareJobs .publicKey).tlsFull h)
  | .preShared => .next ((s.wake.firmwareJobs .publicKey).tlsFull h)
  | .earlyData => .next ((s.wake.firmwareJobs .publicKey).tlsFull h)
  | .renegotiation => .next s.wake
  | .keyUpdate requested => .next (s.wake.tlsKeyUpdate h.cage h.source requested)

/-- The connection closes and the session ends (R79). -/
def State.closeTcp (s : State) (sid : Nat) (x : Session) : State :=
  (s.emit (.tcpReset x.cage x.source)).endSession sid

/-! ## Family 0x01 verbs (R526) -/

/-- SESSION_INFO. -/
def sessionInfoVerb : Verb where
  opcode := 0x0101
  world := .normal
  maxReply := 24
  fmt b _ := lenIs b 0
  recovery _ := true
  anyPair := true
  run b s :=
    match s.session b.session with
    | none => done s (zeros 24)
    | some x =>
      done s (be 8 (if x.fgl = 3 then b.session else 0) ++ be 2 b.slice ++ be 1 x.fgl ++ zeros 1 ++
        be 4 (s.slice b.slice).generation.toNat ++ be 2 x.limit ++ be 2 x.idle ++ be 2 x.inProgress.length ++ zeros 2)

/-- SESSION_INFO. -/
def execSessionInfo (b : Barge) (s : State) : Host.Outcome State Fault Refusal := verbStep sessionInfoVerb b s

/-- The 24 bytes of MODULE_INFO. -/
def State.moduleInfoBytes (s : State) : Bytes :=
  be 8 s.ctr.moduleId.toNat ++ be 2 s.ctr.state.code ++ be 1 s.ctr.state.view ++
    be 1 (s.beaconFlags + flag s.ctr.recovery 2) ++ be 2 (if s.ctr.recovery then 0 else s.ctr.svn) ++ be 2 s.tow.floor ++
    be 1 s.fglEnabled ++ zeros 3 ++ be 4 (if s.ctr.recovery then 0 else s.cht.version.toNat)

/-- MODULE_INFO. -/
def moduleInfoVerb : Verb where
  opcode := 0x0102
  world := .normal
  maxReply := 24
  fmt b _ := lenIs b 0
  recovery _ := true
  run _ s := done s s.moduleInfoBytes

/-- MODULE_INFO. -/
def execModuleInfo (b : Barge) (s : State) : Host.Outcome State Fault Refusal := verbStep moduleInfoVerb b s

/-- The DX6100 form of MODULE_INFO. -/
def moduleInfoDx6100Verb : Verb where
  opcode := 0x0180
  world := .normal
  maxReply := 16
  fmt b _ := lenIs b 0
  recovery _ := true
  run _ s := done s (sl s.moduleInfoBytes 0 16)

/-- MODULE_INFO, DX6100 form. -/
def execModuleInfoDx6100 (b : Barge) (s : State) : Host.Outcome State Fault Refusal := verbStep moduleInfoDx6100Verb b s

/-- IDLE_ANNOUNCE (R510). -/
def idleAnnounceVerb : Verb where
  opcode := 0x0130
  world := .normal
  fmt b _ := firstCode [lenIs b 8, wellFormed (1 ≤ fld b.payload 4 4 && fld b.payload 4 4 ≤ 600000)]
  sender b _ := b.slice == 0
  run b s :=
    let a := s.now + fld b.payload 0 4 * 1000
    done ({ s with pwr := { s.pwr with idle := some (a, a + fld b.payload 4 4 * 1000000) } }) []

/-- IDLE_ANNOUNCE. -/
def execIdleAnnounce (b : Barge) (s : State) : Host.Outcome State Fault Refusal := verbStep idleAnnounceVerb b s

end Sys2Proof.Machine
end

