-- ==== Sys2Proof/Machine/Keys.lean ====
section
/-! DEFINITION. Handles, slots and key material, the counter table with its lease blocks and share units, KEK
blobs and the key cache (R11 to R13, R112, R119 to R138, R206 to R216, R283 to R286, R383, R528). -/

namespace Sys2Proof.Machine

/-! ## Handles (R11, R12, R142) -/

/-- The handle check key (R119). -/
def State.hck (s : State) : Bytes :=
  kdf (s.domAt 0) (ascii "DX8300 handle") (be 8 s.vlt.domainId.toNat ++ be 8 s.tow.pairId.toNat) 128

/-- The vault controller takes the handle check key of the domain and pair; it holds it through a secure restart. -/
def State.formHck (s : State) : State := { s with vlt := { s.vlt with hck := s.hck } }

/-- A usable key of a slice: an ACTIVE slot; QUARANTINED ends with SLOT_BAD (R120, R126). -/
def State.usable (s : State) (slice h : Nat) : Except Reply Nat :=
  match s.named slice h with
  | .error r => .error r
  | .ok i => if (s.slot i).state = .quarantined then .error ⟨stSlotBad, []⟩ else .ok i

/-! ## Attributes (R121, R122) -/

/-- KEY_CLASS. -/
def keyClass (a : W64) : Nat := bits a.toNat 19 16
/-- SCOPE. -/
def scopeOf (a : W64) : Nat := bits a.toNat 21 20
/-- Every bit of a mask is set. -/
def allows (a : W64) (mask : Nat) : Bool := a.toNat &&& mask == mask

/-- Attribute bits by name. -/
def atEncrypt : Nat := 1
def atDecrypt : Nat := 2
def atWrap : Nat := 4
def atUnwrap : Nat := 8
def atSign : Nat := 16
def atVerify : Nat := 32
def atMacGen : Nat := 64
def atMacVerify : Nat := 128
def atDerive : Nat := 256
def atAgree : Nat := 512
def atPinEncrypt : Nat := 1024
def atPinTranslate : Nat := 2048
def atPinVerify : Nat := 4096
def atCardVerify : Nat := 8192
def atEmvDerive : Nat := 16384
def atDukptBase : Nat := 32768
def atLocal : Nat := 2 ^ 22
def atExportable : Nat := 2 ^ 23
def atEverExported : Nat := 2 ^ 24
def atNeverExportable : Nat := 2 ^ 25
def atHoldResident : Nat := 2 ^ 26
def atCounterNonce : Nat := 2 ^ 27
def atShredCert : Nat := 2 ^ 28
def atFrozen : Nat := 2 ^ 29

/-- RO and reserved bits a request may not set. -/
def attrReserved : Nat := atLocal + atEverExported + atNeverExportable + atHoldResident + atCounterNonce + 3 * 2 ^ 30 + 255 * 2 ^ 56

/-- KEY_ATTR_DENIED. -/
def attrDenied : Reply := ⟨stAttrDenied, []⟩

/-- Length of a key of a type, none for an unassigned code; HMAC takes the stated length (R120). -/
def keyLength (type stated modBits : Nat) : Option Nat :=
  if type = 0x01 ∨ type = 0x04 then some 16 else if type = 0x02 ∨ type = 0x05 then some 24
  else if type = 0x03 ∨ type = 0x10 ∨ type = 0x13 ∨ type = 0x14 then some 32
  else if type = 0x08 then (if 16 ≤ stated ∧ stated ≤ 64 then some stated else none)
  else if type = 0x11 then some 48 else if type = 0x12 then some 66 else if type = 0x15 then some 56
  else if type = 0x16 then some 57
  else if type = 0x20 then
    (if 2048 ≤ modBits ∧ modBits ≤ 8192 ∧ modBits % 256 = 0 then some (modBits / 8 * 9 / 2 + 4) else none)
  else if type = 0x30 then some 2400 else if type = 0x31 then some 4032 else none

/-- Types held in the hold (R120). -/
def holdType (type : Nat) : Bool := type == 0x12 || type == 0x20 || type == 0x30 || type == 0x31

/-- The format of key_type, length and modulus_bits in a request. -/
def keyShapeOk (type stated modBits : Nat) : Bool :=
  (keyLength type stated modBits).isSome && (type == 0x08 || stated == 0) && (type == 0x20 || modBits == 0)

/-- The rules of R122 for an attribute word and key type. -/
def attrRules (a : W64) (type : Nat) : Bool :=
  let c := keyClass a
  c < 9 && c != 5 && scopeOf a != 3 && (!(c == 3 || c == 4) || (1 ≤ type && type ≤ 5)) &&
    (!(c == 1 || c == 2) || a.toNat &&& (atEncrypt + atDecrypt + atSign + atPinEncrypt + atPinTranslate + atPinVerify) == 0) &&
    (scopeOf a == 0 || (1 ≤ type && type ≤ 5) || type == 8)

/-- The attribute word a new key carries: RO bits as the module sets them (R121). -/
def newAttributes (a : W64) (type : Nat) (isLocal : Bool) : W64 :=
  BitVec.ofNat 64 (a.toNat + (if isLocal then atLocal else 0) +
    (if allows a atExportable then 0 else atNeverExportable) + (if holdType type then atHoldResident else 0) +
    (if scopeOf a = 0 then atCounterNonce else 0))

/-! ## Material (R120, R125, R126, R132) -/

/-- Key check value of a key (R142). -/
def kcvOf (type : Nat) (key : Bytes) : Bytes :=
  if 1 ≤ type ∧ type ≤ 3 then fit 3 (Config.aesCmac key (zeros 16))
  else if type = 4 ∨ type = 5 then fit 3 (Config.tdesEnc key (zeros 8)) else zeros 3

/-- Fingerprint of a key (R142). -/
def fingerprintOf (key : Bytes) (keyId : W64) : Bytes := fit 48 (hmac384 key (ascii "DX8300 fp" ++ be 8 keyId.toNat))

/-- The blob of a hold-resident key (R132). -/
def blobOf (type modBits : Nat) (handle : W64) (nonce blobKey key : Bytes) : Bytes :=
  let h := be 4 0x44584B42 ++ be 1 type ++ zeros 1 ++ be 2 modBits ++ be 8 handle.toNat ++ fit 12 nonce ++ be 4 key.length
  h ++ fit (key.length + 16) (Config.gcmSeal blobKey (fit 12 nonce) h key)

/-- The material of a hold-resident slot: its hold reference, which is the slot's own handle (R42, log entry 22), the key of its blob and
the digest's first 24 bytes (R133). -/
def State.holdMaterial (s : State) (i : Nat) (blobKey blob : Bytes) : Bytes :=
  be 8 (s.slotHandle i).toNat ++ fit 32 blobKey ++ sl (Config.sha384 blob) 0 24

/-- The key in a slot: its material, or its blob opened; none for an absent blob. -/
def State.keyIn (s : State) (i : Nat) : Option Bytes :=
  let x := s.slot i
  if allows x.attributes atHoldResident then
    (s.vlt.blobs.find i).bind fun b =>
      Config.gcmOpen (sl x.material 8 32) (sl b 16 12) (sl b 0 32) (b.drop 32)
  else some (sl x.material 0 x.length)

/-- Quarantine a slot (R126). -/
def State.quarantine (s : State) (i : Nat) : State :=
  let x := s.slot i
  (s.setSlot i { x with state := .quarantined, tag := s.slotTag i { x with state := .quarantined } }).raise 260 noInst
    x.slice 0 0

/-- The tag check of a slot at KEYFETCH: SLOT_BAD for a quarantined slot, and for one that a mismatch quarantines (R125, R126). -/
def State.checkTag (s : State) (i : Nat) : State × Bool :=
  let x := s.slot i
  if x.state = .quarantined then (s, false)
  else if x.tag != s.slotTag i x then (s.quarantine i, false)
  else (s, true)

/-- KEYFETCH of a slot: the tag check, then the key (R125, R126, R133). -/
def State.fetch (s : State) (i : Nat) : State × Except Reply Bytes :=
  match s.checkTag i with
  | (s, false) => (s, .error ⟨stSlotBad, []⟩)
  | (s, true) =>
    match s.keyIn i with
    | some k => (s, .ok k)
    | none => (s, .error ⟨stCacheMiss, []⟩)

/-- POLICY of a key: its handle, then its attribute bits (R12, R124). -/
def State.permit (s : State) (slice h mask : Nat) : Except Reply Nat :=
  match s.named slice h with
  | .error r => .error r
  | .ok i => if allows (s.slot i).attributes mask then .ok i else .error attrDenied

/-- Resolve a handle, check its attribute bits and fetch its key (R12, R124, R126). -/
def State.useKey (s : State) (slice h mask : Nat) : State × Except Reply (Nat × Slot × Bytes) :=
  match s.permit slice h mask with
  | .error r => (s, .error r)
  | .ok i =>
    match s.fetch i with
    | (s, .ok k) => (s, .ok (i, s.slot i, k))
    | (s, .error r) => (s, .error r)

/-! ## Placing and erasing (R13, R99, R528) -/

/-- Slots of the slice 0 reserve (R99, R189). -/
def State.slice0Slots (s : State) : Nat :=
  match s.section_ 0x0014 with
  | r :: _ => fld r 0 4
  | [] => 4096

/-- Slots a slice occupies, RETIRED apart (R13). -/
def State.slotsUsed (s : State) (slice : Nat) : Nat :=
  (s.vlt.slots.filter fun e =>
    e.2.slice == slice && e.2.state != .free && e.2.state != .retired && !isTransit e.1).length

/-- The lowest FREE slot from i that can be reused, within n slots. -/
def State.scanFree (s : State) (i : Nat) : Nat → Option Nat
  | 0 => none
  | n + 1 =>
    if (s.slot i).state = .free ∧ (s.slot i).epoch < 0xFFFFF then some i else s.scanFree (i + 1) n

/-- A slot for a new key of a slice: quota first, then a reusable FREE slot in or outside the slice 0
reserve (R99, R528; log entry 23). -/
def State.pickSlot (s : State) (slice : Nat) : Except Reply Nat :=
  let top := s.slice0Slots - 128
  if slice ≠ 0 ∧ (s.slice slice).quota.vaultSlots ≤ s.slotsUsed slice then .error ⟨stQuota, zeros 4⟩
  else
    match if slice = 0 then s.scanFree 4 (top - 4) else s.scanFree top (65408 - top) with
    | some i => .ok i
    | none => .error ⟨stVaultFull, []⟩

/-- The class default of R136: 2^32, or what the chart sets for the key's class (R189). -/
def State.classDefault (s : State) (c : Nat) : Nat :=
  match s.section_ 0x0014 with
  | r :: _ => if fld r (8 + c) 1 = 0 then 2 ^ 32 else 2 ^ fld r (8 + c) 1
  | [] => 2 ^ 32

/-- The limit L of a SCOPE 1 or 2 key from what was stated (R136). -/
def State.limitOf (s : State) (c stated : Nat) : Nat :=
  let d := s.classDefault c
  if stated = 0 then d else min stated d

/-- Take a slot into use for a key: epoch one further, fields set, no counter entry (R120, R283). -/
def State.placeKey (s : State) (i slice : Nat) (state : SlotState) (attrs : W64) (type len : Nat) (usage : W64)
    (keyId lineage : W64) (material : Bytes) : State :=
  let x := s.slot i
  let s := { s with eng := { s.eng with counters := s.eng.counters.del i },
                    vlt := { s.vlt with reservedTo := s.vlt.reservedTo.del i, prints := s.vlt.prints.del i } }
  s.writeSlot i { material := fit 64 material, attributes := attrs, state := state, epoch := x.epoch + 1,
                  slice := slice, keyType := type, length := len, usageLimit := usage, leaseTop := 0, keyId := keyId,
                  lineage := lineage }

/-- Erase a slot: FREE at its epoch, or RETIRED at the last epoch; it wins over a restore that is running (R13, R120, R127). -/
def State.eraseSlot (s : State) (i : Nat) : State :=
  let x := s.slot i
  let s := { s with vlt := { s.vlt with blobs := s.vlt.blobs.del i, blobLoads := s.vlt.blobLoads.del i,
                                        pendingKeys := s.vlt.pendingKeys.del i, reservedTo := s.vlt.reservedTo.del i,
                                        prints := s.vlt.prints.del i },
                    eng := { s.eng with counters := s.eng.counters.del i },
                    tow := { s.tow with slotFetches := s.tow.slotFetches.filter (· != i) } }
  s.writeSlot i { state := if x.epoch = 0xFFFFF then .retired else .free, epoch := x.epoch }

/-- Register the share ledger of a SCOPE 1 or 2 key at the registrar (R136, R383). -/
def State.openLedger (s : State) (key : W64) (limit : Nat) : State :=
  { s with tow := { s.tow with ledgers := (s.tow.ledgers.filter fun l => l.key != key) ++ [{ key := key, limit := limit, issued := 0 }] } }

/-! ## Counters, lease blocks and share units (R135 to R138, R283 to R286, R383) -/

/-- What a counter belongs to. -/
inductive KeyRef
  | slot (index : Nat)
  | kek (tag : W64)
  deriving DecidableEq, Repr

/-- Key of a counter in the table of highest blocks. -/
def KeyRef.code : KeyRef → Nat
  | .slot i => i
  | .kek t => 65536 + t.toNat

/-- The counter table entry of a key. -/
def State.counterOf (s : State) : KeyRef → Option Counter
  | .slot i => s.eng.counters.find i
  | .kek t => s.eng.kekCounters.find t.toNat

/-- The KEK tag (R216). -/
def kekTag (slice : Nat) (gen : W32) (keyId : W64) : W64 :=
  BitVec.ofNat 64 (fld (Config.sha384 (be 2 slice ++ be 4 gen.toNat ++ be 8 keyId.toNat)) 0 8)

/-- KEK tags that a barge in progress is drawing from: those of the entries it has fetched (R283). -/
def State.drawingTags (s : State) : List Nat :=
  s.flt.barges.vals.flatMap fun r => r.keks.map fun e => (kekTag e.slice e.generation e.keyId).toNat

/-- The KEK entry of the counter table that gives way: the least recently used one that no barge is drawing from (R283). -/
def State.lruCounter (s : State) : Option Nat :=
  let pick (m : Option (Nat × Counter)) (e : Nat × Counter) : Option (Nat × Counter) :=
    match m with
    | none => some e
    | some x => if e.2.drawn < x.2.drawn then some e else some x
  ((s.eng.kekCounters.filter fun e => !s.drawingTags.contains e.1).foldl pick none).map (·.1)

/-- Replace a counter table entry; a new KEK entry beyond 16,384 takes the place of the least recently used (R283). -/
def State.putCounter (s : State) (k : KeyRef) (c : Counter) : State :=
  match k with
  | .slot i => { s with eng := { s.eng with counters := s.eng.counters.put i c } }
  | .kek t =>
    let full : Bool := decide (16384 ≤ s.eng.kekCounters.length) && (s.eng.kekCounters.find t.toNat).isNone
    let m := match if full then s.lruCounter else none with
      | some old => s.eng.kekCounters.del old
      | none => s.eng.kekCounters
    { s with eng := { s.eng with kekCounters := m.put t.toNat { c with drawn := s.eng.drawClock }, drawClock := s.eng.drawClock + 1 } }

/-- The towpath is up. -/
def State.linkLive (s : State) : Bool :=
  match s.tow.link with
  | some l => l.live
  | none => false

/-- A reservation record (R138). -/
def State.reservation (s : State) (key : W64) (block : Nat) : Bytes :=
  let r := be 8 key.toNat ++ be 8 block ++ be 2 s.tow.floor ++ zeros 2
  r ++ be 4 (Config.crc32 r)

/-- The block number of a reservation record: a SCOPE 0 block's own number. A block of a SCOPE 1 or 2 key may end anywhere within its unit,
and is named by its last value with bit 63 set (R137, R138; log entry 48). -/
def blockNumber (scope a b : Nat) : Nat := if scope = 0 then a / 65536 else 2 ^ 63 + b

/-- The first value above the block that a block number names for a key; none for a share unit, which is no block (R383; log entry 48). -/
def aboveBlock (scope n : Nat) : Option Nat :=
  if 2 ^ 63 ≤ n then some (n - 2 ^ 63 + 1) else if scope = 0 then some ((n + 1) * 65536) else none

/-- SCOPE of the key a counter belongs to: a KEK has at least 1 (R207, R216). -/
def State.scopeOfRef (s : State) : KeyRef → Nat
  | .slot i => scopeOf (s.slot i).attributes
  | .kek _ => 1

/-- Write a reservation record to the ring of 43,690 records and hand it to the partner as a LEASE record
in the open epoch (R137, R138, R285). -/
def State.reserve (s : State) (k : KeyRef) (key : W64) (block : Nat) (lease : Bool) : State :=
  let r := s.reservation key block
  let ring := s.vlt.reservations ++ [r]
  let s := { s with vlt := { s.vlt with reservations := ring.drop (ring.length - 43690) } }
  if s.mirrors then
    s.mutate { records := [{ kind := 3, destructive := false, body := r }], prior := [], response := none, flight := 0,
               idem := (0, 0, 0), lease := if lease then some ((match k with | .slot _ => false | .kek _ => true), k.code) else none }
  else s

/-- Is a block ready without the partner (R137, R349). -/
def State.leaseAlone (s : State) : Bool := !s.awaitsPartner

/-- A unit in hand: the slot's usage_limit grows by it, in the vault and in the image (R136). -/
def State.addUnit (s : State) (k : KeyRef) (key : W64) (a b : Nat) : State :=
  let s := { s with tow := { s.tow with units := s.tow.units ++ [(key, a, b)] } }
  match k with
  | .kek _ => s
  | .slot i => s.writeSlot i { s.slot i with usageLimit := (s.slot i).usageLimit + BitVec.ofNat 64 (b + 1 - a) }

/-- A claim is under way: it is made again once the longest round trip of a grant, 5 ms, is past (R383; log entry 31). -/
def State.claiming (s : State) (key : W64) : Bool := s.tow.claims.any fun c => c.1 == key && decide (s.now < c.2 + 5000000)

/-- The next unit of a ledger, cut from the limit it stands at now: first and last value, and the ledger after it; none where every unit is
issued. The last unit holds the remainder (R189, R383). -/
def Ledger.cut (l : Ledger) (limit : Nat) : Option (Nat × Nat × Ledger) :=
  let units := if l.limit < 1024 then 1 else 1024
  let m := min l.limit limit
  let n := max 1 (m / units + if l.issued + 1 = units then m % units else 0)
  if units ≤ l.issued then none
  else some (l.given, l.given + n - 1, { l with issued := l.issued + 1, given := l.given + n })

/-- The ledger of a key at the registrar. One whose role came by DOMAIN_REGISTRAR resumes above the highest unit that any member reports,
which is free here but for its own units: the spec gives no message that carries a report (R379; log entry 31). -/
def State.ledgerFor (s : State) (key : W64) (limit : Nat) : Ledger × State :=
  match s.tow.ledgers.find? fun l => l.key == key with
  | some l => (l, s)
  | none =>
    if s.tow.inherited then
      let (n, s) := s.freeNat
      let units := if limit < 1024 then 1 else 1024
      let each := max 1 (limit / units)
      let own := ((s.tow.units.filter fun u => u.1 == key).map fun u => (u.2.2 + each) / each).foldl max 0
      let issued := max own (n % (units + 1))
      ({ key := key, limit := limit, issued := issued, given := issued * each }, s)
    else ({ key := key, limit := limit, issued := 0 }, s)

/-- Claim the next share unit of a key from the registrar's ledger: local when this pair is the
registrar, else asked for over the interlink (R383). -/
def State.claimUnit (s : State) (k : KeyRef) (key : W64) (limit : Nat) : State :=
  if s.tow.exhausted.contains key then s
  else if s.tow.registrar == s.tow.pairId then
    let (l, s) := s.ledgerFor key limit
    match l.cut limit with
    | none => { s with tow := { s.tow with exhausted := s.tow.exhausted ++ [key] } }
    | some (a, b, l1) =>
      let s := s.reserve k key l.issued false
      let s : State := { s with tow := { s.tow with ledgers := (s.tow.ledgers.filter fun x => x.key != key) ++ [l1] } }
      s.addUnit k key a b
  else if s.claiming key then s
  else
    match s.serverOf s.tow.registrar with
    | some m =>
      let s : State := { s with tow := { s.tow with claims := (s.tow.claims.filter fun c => c.1 != key) ++ [(key, s.now)] } }
      s.sendInterlink m 0x07 (be 8 key.toNat ++ be 8 limit)
    | none => s

/-- The first value from a start that a key's scope admits, with the last value of its block (R137, R383). -/
def State.blockFrom (s : State) (scope : Nat) (key : W64) (start : Nat) : Option (Nat × Nat) :=
  if scope = 0 then some (max 1 start, start / 65536 * 65536 + 65535)
  else
    match s.tow.units.find? fun u => u.1 == key && start ≤ u.2.2 with
    | none => none
    | some (_, a, b) =>
      let v := max start a
      some (v, min b (v / 65536 * 65536 + 65535))

/-- Reserve a block: its reservation record, the value above the highest block, and the slot's lease_top (R120, R137, R138). -/
def State.takeBlock (s : State) (k : KeyRef) (key : W64) (scope a b : Nat) : State :=
  let s := s.reserve k key (blockNumber scope a b) true
  let s := { s with vlt := { s.vlt with reservedTo := s.vlt.reservedTo.put k.code (b + 1) } }
  match k with
  | .kek _ => s
  | .slot i => s.writeSlot i { s.slot i with leaseTop := BitVec.ofNat 64 b }

/-- Where issue starts when the table has no entry: above the highest block reserved (R138). -/
def State.resumeAt (s : State) (k : KeyRef) : Nat := s.vlt.reservedTo.at 0 k.code

/-- Ready the next block of a key from a value: claim a unit where none holds it, then reserve. -/
def State.readyBlock (s : State) (k : KeyRef) (key : W64) (scope limit start : Nat) : State × Option (Nat × Nat) :=
  let s := match s.blockFrom scope key start with
    | some _ => s
    | none => s.claimUnit k key limit
  match s.blockFrom scope key start with
  | none => (s, none)
  | some (a, b) => (s.takeBlock k key scope a b, some (a, b))

/-- The block of a counter that is reserved ahead of the one in use. -/
def Counter.waiting (c : Counter) : Option (Nat × Nat × Bool) := c.ahead.filter fun x => c.top < x.1 && x.1 ≤ x.2.1

/-- The next block of a counter from a value: the one readied ahead, or one readied now. None where there is no further value, and
while the partner has not acknowledged the block (R137). A block readied ahead stands above the one in use, so no value is issued
twice. -/
def State.nextBlock (s : State) (k : KeyRef) (key : W64) (scope limit : Nat) (c : Counter) (start : Nat) : State × Option Counter :=
  match c.waiting with
  | some (a, b, ready) => (s, if ready then some { c with next := a, low := a, top := b, ahead := none } else none)
  | none =>
    match s.readyBlock k key scope limit start with
    | (s, none) => (s, none)
    | (s, some (a, b)) =>
      if s.leaseAlone then (s, some { c with next := a, low := a, top := b })
      else (s.putCounter k { c with ahead := some (a, b, false) }, none)

/-- The counter with a block in use from which to issue: its own, or the next one (R137, R138). -/
def State.blockInUse (s : State) (k : KeyRef) (key : W64) (scope limit : Nat) : State × Option Counter :=
  match s.counterOf k with
  | none => s.nextBlock k key scope limit { next := 1, top := 0 } (s.resumeAt k)
  | some c => if c.next ≤ c.top then (s, some c) else s.nextBlock k key scope limit c (c.top + 1)

/-- A draw past a stated usage limit, or past the last counter value, of a SCOPE 0 key: its refusal (R286). -/
def drawRefused (scope limit : Nat) (c : Counter) : Option W16 :=
  if scope = 0 ∧ limit ≠ 2 ^ 64 - 1 ∧ limit < c.next then some stUsageExhausted
  else if scope = 0 ∧ 2 ^ 48 ≤ c.next then some stNonceExhausted
  else none

/-- Values of a key's units up to a value: a usage count counts every value it has skipped (R138). -/
def State.spentOf (s : State) (key : W64) (v : Nat) : Nat :=
  ((s.tow.units.filter fun u => u.1 == key).map fun u => min (u.2.2 + 1) (v + 1) - u.2.1).foldl (· + ·) 0

/-- Once the unit of a value is half spent, and no later one is in hand, the next unit is claimed (R383). -/
def State.claimAhead (s : State) (k : KeyRef) (key : W64) (scope limit v : Nat) : State :=
  let half (u : W64 × Nat × Nat) : Bool := u.1 == key && decide (u.2.1 ≤ v ∧ v ≤ u.2.2 ∧ (u.2.2 + 1 - u.2.1) / 2 ≤ v - u.2.1)
  if scope ≠ 0 && s.tow.units.any half && !(s.tow.units.any fun u => u.1 == key && decide (v < u.2.1)) then s.claimUnit k key limit
  else s

/-- Issue the next value of a counter; from the middle of its block on the next block is readied ahead (R137, R383). -/
def State.issueNext (s : State) (k : KeyRef) (key : W64) (salt : Bytes) (scope limit : Nat) (c : Counter) : State :=
  let v := c.next
  let c := { c with salt := salt, next := v + 1, used := if scope = 0 then v else s.spentOf key v }
  let s := s.claimAhead k key scope limit v
  if c.ahead.isNone && (c.top + 1 - c.low) / 2 ≤ v - c.low then
    match s.readyBlock k key scope limit (c.top + 1) with
    | (s, some (a, b)) => s.putCounter k { c with ahead := some (a, b, s.leaseAlone) }
    | (s, none) => s.putCounter k c
  else s.putCounter k c

/-- A reservation record of a key is marked above the running SVN, so the module cannot read where issue resumes (R117, R138). -/
def State.reservationLocked (s : State) (key : W64) : Bool :=
  s.vlt.reservations.any fun r => fld r 0 8 == key.toNat && fld r 16 2 != 0xFFFF && decide (s.ctr.svn < fld r 16 2)

/-- Issue one value: the draw of R284 with the lease rules of R137. A barge whose block is not ready ends here with
MIRROR_UNAVAILABLE, which POLICY makes a wait. A draw that R286 refuses takes nothing. -/
def State.issue (s : State) (k : KeyRef) (key : W64) (salt : Bytes) (scope limit : Nat) : State × Except W16 Nat :=
  match (s.counterOf k).bind (drawRefused scope limit) with
  | some c => (s, .error c)
  | none =>
    if (s.counterOf k).isNone && s.reservationLocked key then (s, .error stFloor)
    else
    match s.blockInUse k key scope limit with
    | (s, none) =>
      let ahead : Bool := (s.counterOf k).any fun c => c.waiting.isSome
      (s, .error (if s.tow.exhausted.contains key && !ahead then stUsageExhausted else stMirror))
    | (s, some c) =>
      match drawRefused scope limit c with
      | some e => (s, .error e)
      | none => (s.issueNext k key salt scope limit c, .ok c.next)

/-- The limit that share units of a key of a class are cut from now: its ledger's, or the class default where the chart has lowered it
since (R136, R189). -/
def State.shareLimit (s : State) (key : W64) (cls : Nat) : Nat :=
  let d := s.classDefault cls
  match s.tow.ledgers.find? fun l => l.key == key with
  | some l => min l.limit d
  | none => d

/-- Count one invocation of a slot's key and form its nonce: salt and counter for SCOPE 0, random
otherwise (R135, R136). -/
def State.countSlot (s : State) (i : Nat) (key : Bytes) : State × Except Reply Bytes :=
  let x := s.slot i
  let scope := scopeOf x.attributes
  let salt := kdf key (ascii "DX8300 salt") (be 8 x.keyId.toNat) 48
  let h := s.slotHandle i
  let limit := if scope = 0 then x.usageLimit.toNat
    else s.shareLimit h (keyClass x.attributes)
  match s.issue (.slot i) h salt scope limit with
  | (s, .error c) => (s, .error ⟨c, []⟩)
  | (s, .ok v) =>
    if scope = 0 then (s, .ok (fit 6 salt ++ be 6 v))
    else
      let (n, s) := s.draw 12
      (s, .ok n)

/-- Count one invocation of a KEK (R216, R223). -/
def State.countKek (s : State) (e : CacheEntry) : State × Except Reply Unit :=
  let t := kekTag e.slice e.generation e.keyId
  match s.issue (.kek t) t [] (max 1 (scopeOf e.attributes)) (s.shareLimit t (keyClass e.attributes)) with
  | (s, .error c) => (s, .error ⟨c, []⟩)
  | (s, .ok _) => (s, .ok ())

/-! ## KEK blobs (R119, R209 to R211) -/

/-- The slice wrapping key at a floor (R119). -/
def State.swk (s : State) (f slice : Nat) (gen : W32) : Bytes :=
  kdf (s.domAt f) (ascii "DX8300 slice") (be 2 slice ++ be 4 gen.toNat) 256

/-- The KEK blob key (R119). -/
def State.kbk (s : State) (f slice : Nat) (gen : W32) (keyId : W64) : Bytes :=
  kdf (s.swk f slice gen) (ascii "DX8300 kekblob") (be 8 keyId.toNat) 256

/-- The CMAC KDF (R208). -/
def ckdf (k : Bytes) (label : Nat) (context : Bytes) : Bytes :=
  fit 32 (([1, 2].map fun i =>
    fit 16 (Config.aesCmac k (be 1 i ++ be 1 label ++ zeros 1 ++ fit 11 context ++ be 2 256))).flatten)

/-- The 96 bytes of a KEK blob, written at the present floor: the key of a tenant, or the seed of a
bucket (R210). -/
def State.kekBlob (s : State) (cls : Nat) (keyId attrs lineage : W64) (slice : Nat) (gen : W32) (secret : Bytes) : Bytes :=
  let f := s.tow.floor
  let h := be 4 0x44584B45 ++ be 1 cls ++ be 1 3 ++ be 2 f ++ be 8 keyId.toNat ++ be 8 attrs.toNat ++ be 8 lineage.toNat ++
    be 2 slice ++ zeros 2 ++ be 4 gen.toNat
  h ++ fit 56 (Config.kwpWrap (s.kbk f slice gen keyId) (fit 32 secret ++ sl (Config.sha384 h) 0 16))

/-- PARSE checks of a blob that a request carries (R210). -/
def blobParse (bl : Bytes) : Option W16 :=
  if fld bl 0 4 ≠ 0x44584B45 ∨ (fld bl 4 1 ≠ 1 ∧ fld bl 4 1 ≠ 2) ∨ fld bl 5 1 ≠ 3 then some stBadFormat
  else if fld bl 34 2 ≠ 0 ∨ 4096 ≤ fld bl 32 2 then some stReserved else none

/-- Fields of a blob. -/
def blobKeyId (bl : Bytes) : W64 := BitVec.ofNat 64 (fld bl 8 8)
def blobAttrs (bl : Bytes) : W64 := BitVec.ofNat 64 (fld bl 16 8)
def blobLineage (bl : Bytes) : W64 := BitVec.ofNat 64 (fld bl 24 8)
def blobSlice (bl : Bytes) : Nat := fld bl 32 2
def blobGen (bl : Bytes) : W32 := BitVec.ofNat 32 (fld bl 36 4)

/-- Does the shred register void a key of a slice and generation (R232). -/
def State.shredded (s : State) (slice : Nat) (gen : W32) (keyId : W64) : Bool :=
  s.vlt.shredRegister.any fun e => e.1 == slice && e.2.2.1 == gen && e.2.2.2 == keyId

/-- Entries whose generation is neither the present nor the carried generation of their slice leave the
register, on a module whose slice table has the slice: another member cannot tell (R232). -/
def State.pruneRegister (s : State) : State :=
  { s with vlt := { s.vlt with shredRegister := s.vlt.shredRegister.filter fun e =>
      (s.cus.slices.find e.1).isNone || (s.slice e.1).generation == e.2.2.1 || (s.slice e.1).carried == some e.2.2.1 } }

/-- Enter a key in the shred register; one that is full is pruned first. None where no room is left (R232). -/
def State.enterShred (s : State) (e : Nat × Nat × W32 × W64) : Option State :=
  if s.vlt.shredRegister.contains e then some s
  else
    let s := if 16384 ≤ s.vlt.shredRegister.length then s.pruneRegister else s
    if 16384 ≤ s.vlt.shredRegister.length then none
    else some { s with vlt := { s.vlt with shredRegister := s.vlt.shredRegister ++ [e] } }

/-- The secret in a blob: the tests of R211, R117, R210 and R232 in turn. -/
def State.openBlob (s : State) (slice : Nat) (bl : Bytes) : Except Reply Bytes :=
  let f := fld bl 6 2
  let x := s.slice slice
  if blobSlice bl ≠ slice ∨ (blobGen bl ≠ x.generation ∧ some (blobGen bl) ≠ x.carried) then .error badHandle
  else if s.ctr.svn < f then .error ⟨stFloor, []⟩
  else
    match Config.kwpUnwrap (s.kbk f slice (blobGen bl) (blobKeyId bl)) (sl bl 40 56) with
    | none => .error ⟨stAuthFail, []⟩
    | some p =>
      if p.length ≠ 48 ∨ sl p 32 16 ≠ sl (Config.sha384 (sl bl 0 40)) 0 16 then .error ⟨stAuthFail, []⟩
      else if s.shredded slice (blobGen bl) (blobKeyId bl) || s.shredded slice (blobGen bl) (blobLineage bl) then
        .error badHandle
      else .ok (sl p 0 32)

/-! ## The key cache (R134, R212 to R215) -/

/-- CACHE_MISS for a KEK (R213). -/
def cacheMiss (keyId : W64) (cls : Nat) : Reply := ⟨stCacheMiss, be 8 keyId.toNat ++ be 1 cls ++ zeros 3⟩

/-- A reference's check verifies (R212). -/
def State.refOk (s : State) (ref : Nat) : Bool := ref % 65536 == s.handleCheck (ref / 65536) % 65536

/-- Entry index of a cache reference. -/
def refIndex (ref : W64) : Nat := ref.toNat / 65536 % 2 ^ 28

/-- Hold bytes a slice's operand buffers take, in units of 4 KiB (R303). -/
def State.opBufHold (s : State) (slice : Nat) : Nat :=
  ((s.eng.opBufs.filter fun e => e.2.slice == slice).map fun e =>
    match e.2.bytes with
    | some b => (b.length + 4095) / 4096 * 4096
    | none => 0).foldl (· + ·) 0

/-- First hold page of the operand buffers: all 262,144 of them lie within the hold. -/
def bufferArea : Nat := Config.bufferBase % 3145729

/-- The operand buffer that holds a byte of the hold, with the byte's offset in it (R42, R303). -/
def State.bufferAt (s : State) (a : Nat) : Option (Nat × OpBuf × Bytes × Nat) :=
  let off := a - bufferArea * 4096
  match s.eng.opBufs.find (off / 65536) with
  | none => none
  | some x =>
    match x.bytes with
    | none => none
    | some bs =>
      if bufferArea * 4096 ≤ a ∧ off % 65536 < bs.length then some (off / 65536, x, bs, off % 65536) else none

/-- The owner record of a hold page: the page of an operand buffer belongs to its slice, KIND 3 (R42, R402). -/
def State.ownerOf (s : State) (page : Nat) : Nat :=
  match s.bufferAt (page * 4096) with
  | some (_, x, _, _) => 0xC000 + x.slice % 4096
  | none => s.ixp.owners.at 0 page

/-- Room for a slice's entries of 192 bytes, beside its operand buffers (R134, R303). -/
def State.cacheRoom (s : State) (slice : Nat) : Nat :=
  (1048576 * (s.slice slice).quota.holdMib - s.opBufHold slice) / 192

/-- The entries of a slice. -/
def State.cacheOf (s : State) (slice : Nat) : List CacheEntry := s.vlt.cache.filter fun e => e.slice == slice

/-- Is an entry a tenant that a bucket entry was loaded through, or that a load is reading (R215). -/
def State.parentInUse (s : State) (e : CacheEntry) : Bool :=
  (s.vlt.cache.any fun b => b.parent.any fun p => p.1 == e.ref) || s.vlt.loads.any fun l => l.2.2.2 == some e.ref

/-- The shred register voids an entry: its own key, or for a bucket the tenant it was loaded through (R232, R233). -/
def State.voided (s : State) (e : CacheEntry) : Bool :=
  s.shredded e.slice e.generation e.keyId || s.shredded e.slice e.generation e.lineage ||
    e.parent.any fun p => s.shredded e.slice p.2 e.lineage

/-- Free marked entries that nothing holds any more; a tenant goes with the last of its buckets (R215). -/
def State.sweepCache (s : State) : State :=
  let sweep (s : State) : State :=
    { s with vlt := { s.vlt with cache := s.vlt.cache.filter fun e => !(e.marked && e.pins == 0 && !s.parentInUse e) } }
  sweep (sweep s)

/-- The least recently used entry of a slice that may be evicted: none that is pinned, as those a load is reading (R215). -/
def State.lruEntry (s : State) (slice : Nat) (reading : List W64) : Option CacheEntry :=
  ((s.cacheOf slice).filter fun e => e.pins == 0 && !reading.contains e.ref && !s.parentInUse e).foldl (fun m e =>
    match m with
    | none => some e
    | some x => if e.used < x.used then some e else some x) none

/-- A live entry of a slice by key_id: unmarked, and not voided by a shred. -/
def State.cached (s : State) (slice : Nat) (keyId : W64) : Option CacheEntry :=
  s.vlt.cache.find? fun e => e.slice == slice && e.keyId == keyId && !e.marked && !s.voided e

/-- The wrapped form of a cache entry: AES-KWP under kbk of the KEK and the entry's own reference (R34, R134; log entry 23). -/
def State.wrapKek (s : State) (slice : Nat) (gen : W32) (keyId ref : W64) (kek : Bytes) : Bytes :=
  Config.kwpWrap (s.kbk s.tow.floor slice gen keyId) (fit 32 kek ++ be 8 ref.toNat)

/-- The KEK of an entry, when it verifies (R134). -/
def State.openEntry (s : State) (e : CacheEntry) : Option Bytes :=
  (Config.kwpUnwrap (s.kbk e.floor e.slice e.generation e.keyId) e.kek).bind fun p =>
    if p.length = 40 ∧ sl p 32 8 = be 8 e.ref.toNat then some (sl p 0 32) else none

/-- The KEK of an entry: as a transit slot holds it, else unwrapped (R134, R213). -/
def State.kekIn (s : State) (e : CacheEntry) : Option Bytes :=
  match s.vlt.transit.find? fun t => t.2 == e.ref with
  | some t => some (sl (s.slot t.1).material 0 32)
  | none => s.openEntry e

/-- The KEK of an entry that has been resolved. -/
def State.kekOf (s : State) (e : CacheEntry) : Bytes := (s.kekIn e).getD []

/-- Write a new entry in wrapped form, evicting the least recently used where the slice's room is full; the epoch of its index goes
one further at each use (R134, R212, R215). -/
def State.cacheWrite (s : State) (slice : Nat) (gen : W32) (keyId attrs lineage : W64) (kek : Bytes) (tenant : Option CacheEntry)
    (held : List CacheEntry) : State × Except Reply CacheEntry :=
  let full : Bool := s.cacheRoom slice ≤ (s.cacheOf slice).length
  let old := if full then s.lruEntry slice ((tenant.toList ++ held).map (·.ref)) else none
  if full && old.isNone then (s, .error ⟨stQuota, be 1 4 ++ zeros 3⟩)
  else
    let i := match old with
      | some o => refIndex o.ref
      | none => firstFree ((s.cacheOf slice).map fun e => refIndex e.ref) 0 (s.vlt.cache.length + 1)
    let n := slice % 4096 * 2 ^ 28 + i
    let ep := (s.vlt.cacheEpochs.at 0 n + 1) % 256
    let top := slice % 4096 * 2 ^ 36 + ep * 2 ^ 28 + i
    let ref : W64 := BitVec.ofNat 64 (top * 65536 + s.handleCheck top % 65536)
    let e : CacheEntry := { ref := ref, slice := slice, generation := gen, keyId := keyId, attributes := attrs, lineage := lineage,
                            kek := s.wrapKek slice gen keyId ref kek, floor := s.tow.floor, used := s.vlt.cacheClock + 1,
                            parent := tenant.map fun t => (t.ref, t.generation) }
    ({ s with vlt := { s.vlt with
        cache := (s.vlt.cache.filter fun x => !(old.any fun o => o.ref == x.ref)) ++ [e],
        cacheEpochs := s.vlt.cacheEpochs.put n ep, cacheClock := s.vlt.cacheClock + 1 } }, .ok e)

/-- The tenant entry for the load of a bucket blob: the one the load has read, else a live one by key_id (R213, R215). -/
def State.tenantFor (s : State) (slice : Nat) (lineage : W64) (read : Option W64) : Option CacheEntry :=
  match read.bind fun ref => s.vlt.cache.find? fun e => e.ref == ref && e.slice == slice && e.keyId == lineage && !s.voided e with
  | some t => some t
  | none => s.cached slice lineage

/-- Load a blob into the cache: a tenant's key as it is, a bucket's formed under its tenant's entry. The entries that the barge holds stay
(R209, R213, R214, R215, R222). -/
def State.loadBlob (s : State) (slice : Nat) (bl : Bytes) (read : Option W64) (held : List CacheEntry) :
    State × Except Reply CacheEntry :=
  match s.openBlob slice bl with
  | .error r => (s, .error r)
  | .ok secret =>
    if fld bl 4 1 = 1 then
      s.cacheWrite slice (blobGen bl) (blobKeyId bl) (blobAttrs bl) (blobLineage bl) secret none held
    else
      match (s.tenantFor slice (blobLineage bl) read).bind fun t => (s.kekIn t).map fun k => (t, k) with
      | none => (s, .error (cacheMiss (blobLineage bl) 1))
      | some (t, tk) =>
        if keyClass t.attributes ≠ 1 || !allows t.attributes (atDerive + atUnwrap) then (s, .error attrDenied)
        else
          s.cacheWrite slice (blobGen bl) (blobKeyId bl) (blobAttrs bl) (blobLineage bl)
            (xorBytes secret (ckdf tk 0x42 (be 8 (blobKeyId bl).toNat ++ zeros 3))) (some t) held

/-- Mark an entry as just used. -/
def State.touchEntry (s : State) (e : CacheEntry) : State :=
  { s with vlt := { s.vlt with
      cacheClock := s.vlt.cacheClock + 1,
      cache := s.vlt.cache.map fun x => if x.ref == e.ref then { x with used := s.vlt.cacheClock + 1 } else x } }

/-- Steps 1, 3 and 4 of R213 for a selector whose reference names no live entry: an entry the barge holds already, the blob it
carries, or CACHE_MISS. -/
def State.missKek (s : State) (slice : Nat) (keyId : W64) (blob : Option Bytes) (cls : Nat) (held : List CacheEntry) :
    State × Except Reply CacheEntry :=
  match held.find? fun e => e.keyId == keyId with
  | some e => (s, .ok e)
  | none =>
    match blob with
    | none => (s, .error (cacheMiss keyId cls))
    | some bl => if blobKeyId bl = keyId then s.loadBlob slice bl none held else (s, .error badHandle)

/-- Resolve a KEK selector of 16 bytes with the blob a barge carries, if any, its class, and the entries the barge holds already
(R213). An entry that does not verify is dropped and counts as a miss (log entry 23). -/
def State.selectKek (s : State) (slice : Nat) (sel : Bytes) (blob : Option Bytes) (cls : Nat) (held : List CacheEntry) :
    State × Except Reply CacheEntry :=
  let ref := fld sel 0 8
  let keyId : W64 := BitVec.ofNat 64 (fld sel 8 8)
  if ref ≠ 0 ∧ !s.refOk ref then (s, .error badHandle)
  else
    match s.vlt.cache.find? fun e => e.ref.toNat == ref && e.slice == slice && !e.marked with
    | some e =>
      if e.keyId ≠ keyId || s.voided e then (s, .error badHandle)
      else if (s.kekIn e).isSome then (s.touchEntry e, .ok e)
      else
        State.missKek { s with vlt := { s.vlt with cache := s.vlt.cache.filter fun x => x.ref != e.ref } } slice keyId blob cls held
    | none => s.missKek slice keyId blob cls held

/-- A selected KEK of a class with attribute bits (R222). -/
def State.useKek (s : State) (slice : Nat) (sel : Bytes) (blob : Option Bytes) (cls mask : Nat) (held : List CacheEntry) :
    State × Except Reply CacheEntry :=
  match s.selectKek slice sel blob cls held with
  | (s, .error r) => (s, .error r)
  | (s, .ok e) => if keyClass e.attributes = cls && allows e.attributes mask then (s, .ok e) else (s, .error attrDenied)

end Sys2Proof.Machine
end

