-- ==== Sys2Proof/Machine/Shred.lean ====
section
/-! DEFINITION. Mirroring what the keeper changes by itself, and the shred sequence from phase 1 to its
certificate (R38, R143 to R146, R233, R234, R384, R531, R532). -/

namespace Sys2Proof.Machine

/-- Mirror what the keeper changed between two states, with no response to hold (R38). -/
def State.mirror (s s0 : State) (touch : List Touch) : State :=
  (s.publish touch).mirrorOnly s0 touch

/-- Slots whose lineage is one of a set of handles. -/
def State.children (s : State) (hs : List W64) : List Nat :=
  (s.vlt.slots.filter fun e =>
    hs.contains e.2.lineage && e.2.lineage != 0 && (e.2.state == .active || e.2.state == .pending || e.2.state == .quarantined)).map (·.1)

/-- Close a set of slots under lineage, n levels deep (R143). -/
def State.descend (s : State) (found : List Nat) (hs : List W64) : Nat → List Nat
  | 0 => found
  | n + 1 =>
    match (s.children hs).filter fun i => !found.contains i with
    | [] => found
    | i :: rest => s.descend (found ++ (i :: rest)) ((i :: rest).map s.slotHandle) n

/-- The derivative slots of a key, in ascending handle order (R143, R145). -/
def State.derivatives (s : State) (i : Nat) : List Nat :=
  ((s.descend [i] [s.slotHandle i] s.vlt.slots.length).filter (· != i)).mergeSort
    fun a b => (s.slotHandle a).toNat ≤ (s.slotHandle b).toNat

/-- Advance the epoch of a slot, or retire it (R13, R144). -/
def State.advanceEpoch (s : State) (i : Nat) : State :=
  let x := s.slot i
  if x.epoch = 0xFFFFF then s.eraseSlot i else s.writeSlot i { x with epoch := x.epoch + 1 }

/-- The number of the next shred sequence. -/
def State.nextShred (s : State) : Nat := (s.vlt.shreds.keys.foldl max 0) + 1

/-- The fingerprint of a key to be shredded, as returned at creation. Of a hold-resident key whose blob is absent it is the one kept
since the key was made here; a module that only mirrors the key has no value for it, and it is a free value (R133, R145; log entry
3). -/
def State.shredPrint (s : State) (i : Nat) : Bytes :=
  match s.keyIn i with
  | some k => fingerprintOf k (s.slot i).keyId
  | none =>
    match s.vlt.prints.find i with
    | some p => p
    | none => fit 48 (Config.random s.draws 48)

/-- The admitted members that acknowledge a domain-wide shred by a domain record: the partner acknowledges its epoch. -/
def State.otherMembers (s : State) : List W64 := s.tow.members.filter fun m => !(s.awaitsPartner && m == s.tow.partner)

/-- Phase 1 of a key shred (R144): epochs advance and the mutation enters the current epoch. -/
def State.shredKey (s0 : State) (i : Nat) (w : Waiter) : State :=
  let x := s0.slot i
  let ds := s0.derivatives i
  let h := s0.slotHandle i
  let domain := scopeOf x.attributes == 2 && s0.inDomain
  let q : ShredSeq :=
    { handle := h, keyId := x.keyId, slice := x.slice, generation := (s0.slice x.slice).generation, keyType := x.keyType,
      flags := flag (!ds.isEmpty) 0 + flag (allows x.attributes atEverExported) 1 + flag domain 2,
      fingerprint := s0.shredPrint i, derivatives := ds.map fun d => (s0.slotHandle d, (s0.slot d).keyId),
      slots := i :: ds, phase := 1, deadline := s0.now + 50000000, members := if s0.awaitsPartner then 2 else 1,
      partner := if s0.awaitsPartner then s0.tow.partner else 0,
      awaiting := if domain then s0.otherMembers else [], evidence := none, time := 0, waiting := [w],
      floor := s0.tow.floor, epoch := s0.epochNow }
  let s := (i :: ds).foldl State.advanceEpoch s0
  let n := s0.nextShred
  let s := { s with draws := s.draws + 1, vlt := { s.vlt with shreds := s.vlt.shreds.put n q } }
  let s := s.mirror s0 ((i :: ds).map Touch.slotErased ++ [.sequence n])
  if domain then s.domainChange 3 (be 4 x.slice ++ be 4 q.generation.toNat ++ be 8 x.keyId.toNat) true else s

/-- A KEK's own entry, or the entry of a bucket loaded through it, at whatever generation the bucket's blob was written (R233). -/
def kekEntry (slice : Nat) (gen : W32) (keyId : W64) (e : CacheEntry) : Bool :=
  e.slice == slice && ((e.generation == gen && (e.keyId == keyId || e.lineage == keyId)) ||
    (e.lineage == keyId && e.parent.any fun p => p.2 == gen))

/-- Drop every copy of a KEK and of the buckets loaded through it from the cache (R143, R233). -/
def State.dropKek (s : State) (slice : Nat) (gen : W32) (keyId : W64) : State :=
  { s with vlt := { s.vlt with cache := s.vlt.cache.filter fun e => !kekEntry slice gen keyId e } }

/-- Phases 2 and 3: no barge that fetched the keys runs any more, and every copy is erased; the partner's acknowledgement of the
erased slots is what phase 4 waits for (R144). -/
def State.shredErase (s0 : State) (n : Nat) (q : ShredSeq) : State :=
  let s := q.slots.foldl (fun s i => if (s.slot i).state == .retired then s else s.eraseSlot i) s0
  let s := if q.handle = 0 then s.dropKek q.slice q.generation q.keyId else s
  let s := { s with vlt := { s.vlt with shreds := s.vlt.shreds.put n { q with phase := 3, epoch := s0.epochNow } } }
  s.mirror s0 (q.slots.map Touch.slotErased ++ [.sequence n])

/-- Entries still free in the shred register (R232). -/
def State.registerFree (s : State) : Nat := 16384 - s.vlt.shredRegister.length

/-- Phase 4 ends on a module that serves; a sequence that a reset cut waits for the towpath of the pair (R371, R532). -/
def State.mayVouch (s : State) (q : ShredSeq) : Bool :=
  s.tow.pair.serves && (!q.resumed || q.partner == 0 || s.linkLive)

/-- Phases 4 and 5: once every module has acknowledged, the evidence entry is written, the waiting
barges are answered and the certificate goes to the signer (R144, R146, R531). -/
def State.shredAdvance (s : State) (n : Nat) : State :=
  match s.vlt.shreds.find n with
  | none => s
  | some q =>
    if q.phase = 3 ∧ q.awaiting.isEmpty ∧ s.epochDone q.epoch ∧ s.mayVouch q then
      let seq := s.snt.logSeq
      let t := s.stamp
      let s := if q.handle = 0 then
          s.evidence 0x21 (be 2 q.slice ++ zeros 2 ++ be 4 q.generation.toNat ++ be 8 q.keyId.toNat)
        else s.evidence 0x20 (be 8 q.handle.toNat ++ be 8 q.keyId.toNat ++ be 4 q.derivatives.length)
      let s := { s with
        vlt := { s.vlt with shreds := s.vlt.shreds.put n { q with phase := 5, evidence := some seq, time := t, waiting := [] } },
        eng := { s.eng with lmsQueue := s.eng.lmsQueue ++ [.cert n] } }
      q.waiting.foldl (fun s w =>
        s.answer w ⟨stDone, be 8 seq ++ (if q.handle = 0 then be 4 s.registerFree else [])⟩ []) s
    else s

/-- Does a barge in progress still use a key of the sequence, fetched before phase 1 (R144). -/
def shredInUse (q : ShredSeq) (r : BargeRec) : Bool :=
  r.fetched.any q.slots.contains || r.pinned.any q.refs.contains

/-- SHRED_DRAIN_DONE: when no barge that fetched the keys is left, phases 2 to 5 run as far as they can. -/
def execShredDrainDone (shred : Nat) (s : State) : Host.Outcome State Fault Refusal :=
  match s.vlt.shreds.find shred with
  | none => .next s
  | some q =>
    if !s.tow.pair.serves then .next s
    else if q.phase < 3 then
      if s.flt.barges.vals.any (shredInUse q) then .next s
      else .next ((s.shredErase shred q).shredAdvance shred)
    else .next (s.shredAdvance shred)

/-- Shred sequences that a reset or the failure of the serving module cut short go on: phases 2 and 3, then as far as they can
(R371, R464, R532). -/
def State.resumeShred (s : State) (e : Nat × ShredSeq) : State :=
  let s := if e.2.phase < 3 then s.shredErase e.1 e.2 else s
  if e.2.phase = 5 then { s with eng := { s.eng with lmsQueue := s.eng.lmsQueue ++ [.cert e.1] } } else s.shredAdvance e.1

/-- Bytes 0 to 183 of an erasure certificate (R145, R234). -/
def State.certificateHead (s : State) (q : ShredSeq) : Bytes :=
  let pairs := (q.derivatives.map fun d => be 8 d.1.toNat ++ be 8 d.2.toNat).flatten
  be 4 0x44584543 ++ be 2 1 ++ be 2 q.flags ++ be 8 s.ctr.moduleId.toNat ++ be 8 q.partner.toNat ++
    be 8 s.vlt.domainId.toNat ++ be 8 q.handle.toNat ++ be 8 q.keyId.toNat ++ be 2 q.slice ++ be 1 q.keyType ++ zeros 1 ++
    be 4 q.generation.toNat ++ be 4 q.derivatives.length ++ be 2 q.floor ++ be 2 q.members ++
    be 8 (q.evidence.getD 0) ++ be 8 q.time.toNat ++ fit 48 q.fingerprint ++ fit 48 (Config.sha384 pairs) ++ zeros 8

end Sys2Proof.Machine
end

