-- ==== Sys2Proof/Machine/Engines.lean ====
section
/-! DEFINITION. Jobs on engines: how they end, engine faults and returns, island resets and releases, and
the sentinel's alarm lines (R279 to R282, R310 to R313, R342, R343). -/

namespace Sys2Proof.Machine

/-! ## Jobs -/

/-- Is a job on an engine. -/
def Job.on (j : Job) (k : EngineKind) (n : Nat) : Bool := kindCode j.kind == kindCode k && (j.engine == n || j.more.contains n)

/-- Barges whose job is on an engine, running or suspended. -/
def State.jobsOn (s : State) (k : EngineKind) (n : Nat) : List Nat :=
  (s.flt.barges.filter fun e =>
    match e.2.job with
    | some j => j.on k n
    | none => false).map (·.1)

/-- The engine of a job that leaves it, erased: its save RAM after a suspended job, the engine after a running one (R273, R280). -/
def State.freeEngine (s : State) (j : Job) : State :=
  let moved := (j.engine :: j.more).any fun n => (s.engine j.kind n).moves
  let s := j.more.foldl (fun s n => s.modEngine j.kind n fun e => { e.idle with path := {} }) s
  let s := s.modEngine j.kind j.engine fun e =>
    if j.suspended then { e with suspended := false, path := { e.path with saveRam := [] } }
    else { e.idle with path := { saveRam := e.path.saveRam } }
  if moved then s.fillPlaces j.kind else s

/-- A barge gives up its chamber, any image it has claimed and a second key port that holds its key (R273, R290, R292). -/
def State.releaseHolds (s : State) (n : Nat) : State :=
  let s := s.unstage n
  { s with eng := { s.eng with
      chambers := s.eng.chambers.filter fun c => c.2.owner != n,
      parked := s.eng.parked.map fun p => if p.2.claim == some n then (p.1, { p.2 with claim := none }) else p } }

/-- Undo what a barge has written: slots and image records, custody tables, operand buffers that stand as it left them and parked jobs;
counter and usage values stay consumed, and results that wait for its commit are never written (R166, R280, R311). -/
def State.undoBarge (s : State) (r : BargeRec) : State :=
  let s := r.prior.foldl State.restorePrior s
  let s := r.undo.foldl (fun s u => s.restorePrior (.slot u.1 u.2.1 u.2.2)) s
  { s with eng := { s.eng with
      opBufs := r.undoBufs.foldl (fun m u => if m.find u.1 == u.2.2 then putOpt m u.1 u.2.1 else m) s.eng.opBufs,
      parked := r.undoParked.foldl (fun m u => putOpt m u.1 u.2) s.eng.parked } }

/-- A job ends before commit: nothing is written or released, and the barge ends with the cause's status
(R280, R311). -/
def State.endJob (s : State) (n : Nat) (c : W16) : State :=
  match s.flt.barges.find n with
  | none => s
  | some r =>
    match r.job with
    | none => s
    | some j =>
      (((s.undoBarge r).freeEngine j).releaseHolds n).modBarge n fun r =>
        { r with
          job := none, reply := some ⟨c, []⟩, touch := [], prior := [], undo := [], results := [], undoBufs := [], undoParked := [] }

/-- End every job on an engine. -/
def State.endJobs (s : State) (k : EngineKind) (n : Nat) (c : W16) : State :=
  (s.jobsOn k n).foldl (fun s b => s.endJob b c) s

/-! ## Alarms -/

/-- An island or the keeper raises a logic alarm line to the sentinel, which answers it within the command that raised it
(R281, R312, R455; log entry 25). -/
def State.alarmLine (s : State) (code : Nat) : State :=
  { s with snt := { s.snt with sensors := s.snt.sensors.mod code fun x => { x with condition := true, clearSince := none } } }

/-! ## Engine faults (R279, R281, R310, R312) -/

/-- Events of an engine kind: fault, out of service, island reset. -/
def engineEvents : EngineKind → Nat × Nat × Nat
  | .shuffled => (128, 129, 130) | .masked => (128, 129, 130) | .publicKey => (160, 161, 162)
  | .lattice => (192, 193, 197) | .hash => (194, 195, 198)

/-- Escalation alarm of an engine kind. -/
def engineAlarm : EngineKind → Nat
  | .shuffled => 0x23 | .masked => 0x23 | .publicKey => 0x24 | .lattice => 0x25 | .hash => 0x26

/-- The island of an engine kind, by the chart's codes. -/
def engineIsland : EngineKind → Nat
  | .shuffled => 0x03 | .masked => 0x03 | .hash => 0x04 | .publicKey => 0x05 | .lattice => 0x06

/-- FAULT bit of a cause: GUARD, CONTROL, and MASKGEN, TWIN or RELEASE (R297, R329). -/
def causeBit : EngineCause → W32
  | .guard => 1 | .control => 2 | .third => 4

/-- Status of a cause. -/
def causeStatus : EngineCause → W16
  | .guard => stGuard | .control => stFault | .third => stFault

/-- Take an engine out of service for a fault with FAULT bits: its jobs end, the third fault since reset locks it
out and maps a spare, and the third of its island within 1 s raises the escalation alarm. -/
def State.faultEngine (s : State) (k : EngineKind) (n : Nat) (faultBit : W32) (status : W16) : State :=
  let s := s.endJobs k n status
  let s := s.modEngine k n fun e =>
    { e.idle with
      inService := false, suspended := false, path := {}, faultBits := e.faultBits ||| faultBit, faultCount := sat 15 (e.faultCount + 1) }
  let s := (s.countFault).raise (engineEvents k).1 n 0xFFFF status.toNat faultBit.toNat
  let s := if 3 ≤ (s.engine k n).faultCount && !(s.engine k n).lockedOut then
      ((s.modEngine k n fun e => { e with lockedOut := true }).level (engineEvents k).2.1 true n 0xFFFF 0 0).mapSpare k n
    else s
  let b := s.block k
  let w := within s.now 1000000000 b.window ++ [s.now]
  let s := s.setBlock k { b with window := w }
  (if w.length = 3 then s.alarmLine (engineAlarm k) else s).refreshReady

/-- A self-test decides whether an engine that is not locked out returns to service. -/
def State.returnEngine (s : State) (k : EngineKind) (n : Nat) (pass : Bool) : State :=
  if pass && !(s.engine k n).lockedOut then (s.modEngine k n fun e => { e with inService := true }).refreshReady else s

/-- BNK_CORE_RETURN (R279). -/
def execBnkCoreReturn (core : Nat) (pass : Bool) (s : State) : Host.Outcome State Fault Refusal :=
  .next (s.returnEngine (coreKind core) core pass)

/-- ENGINE_RETURN (R310). -/
def execEngineReturn (kind : EngineKind) (engine : Nat) (pass : Bool) (s : State) : Host.Outcome State Fault Refusal :=
  .next (s.returnEngine kind engine pass)

/-- Engines of a pool part that are free: they serve and run no job. -/
def State.freeInPart (s : State) (k : EngineKind) (p : PoolPart) : Nat :=
  ((kindNumbers k).filter fun n => s.partOf k n == some p && s.serves k n && !(s.engine k n).busy).length

/-- May an engine be taken for its known answers: it is in service and idle; a pooled one only while its part holds more free engines than
its C0 reserve plus one, and one bound to an attached lock not at all (R342). -/
def State.katMayRun (s : State) (k : EngineKind) (n : Nat) : Bool :=
  (kindNumbers k).contains n && (s.engine k n).inService && !(s.engine k n).lockedOut && !(s.engine k n).busy &&
    match s.partOf k n with
    | none => true
    | some p => p.kind != 6 && p.reserve + 1 < s.freeInPart k p

/-! ## Island resets (R281, R312) -/

/-- Engine kinds of an island. -/
def islandKinds (i : Nat) : List EngineKind :=
  if i = 0x03 then [.shuffled, .masked] else if i = 0x04 then [.hash] else if i = 0x05 then [.publicKey]
  else if i = 0x06 then [.lattice] else []

/-- End the jobs on every engine of a kind with FAULT_DETECTED. -/
def State.endKindJobs (s : State) (k : EngineKind) : State := (kindNumbers k).foldl (fun s n => s.endJobs k n stFault) s

/-- The barge whose opening a chamber holds ends with FAULT_DETECTED, and nothing of it is released (R282). -/
def State.voidChamber (s : State) (n : Nat) : State :=
  match s.flt.barges.find n with
  | none => s
  | some r =>
    (s.undoBarge r).modBarge n fun r =>
      { r with reply := some ⟨stFault, []⟩, touch := [], prior := [], undo := [], results := [], undoBufs := [], undoParked := [] }

/-- The DRBG instances of an island's engines lose their state (R312, R335). -/
def islandStreams (i : Nat) : List Nat :=
  if i = 0x05 then (List.range 32).map (71 + ·) else if i = 0x06 then (List.range 8).map (103 + ·) else []

/-- Phases 1 and 2 of an island reset of CI_BANK, CI_PKE, CI_LAT or CI_HASH. -/
def State.islandReset (s : State) (i : Nat) : State :=
  match islandKinds i with
  | [] => s
  | k :: ks =>
    let s := (k :: ks).foldl State.endKindJobs s
    let s := if i = 0x03 then s.eng.chambers.foldl (fun s c => s.voidChamber c.2.owner) s else s
    let s := (islandStreams i).foldl (fun s n => s.setInstance n {}) s
    let b := s.block k
    let s := s.setBlock k { b with
      resetting := true, islandResets := sat 255 (b.islandResets + 1),
      engines := b.engines.map fun e => (e.1, { e.2.idle with suspended := false, path := {} }) }
    let s := if i = 0x03 then
        { s with eng := { s.eng with counters := [], kekCounters := [], contextKey := [], parked := [], chambers := [] } }
      else if i = 0x04 then { s with eng := { s.eng with lmsSeed := false } } else s
    s.raise (engineEvents k).2.2 noInst 0xFFFF 0 0

/-- ISLAND_RELEASE: the engines pass their self-test, the fault window is empty, and CI_BANK has a new context key while its images of this
start go on being counted (R289); CI_HASH has its LMS seed again. -/
def execIslandRelease (island : Nat) (s : State) : Host.Outcome State Fault Refusal :=
  match islandKinds island with
  | [] => .next s
  | k :: _ =>
    let b := s.block k
    if !b.resetting then .next s
    else
      let s := s.setBlock k { b with
        resetting := false, window := [],
        engines := b.engines.map fun e => (e.1, { e.2 with inService := !e.2.lockedOut }) }
      let s := if island = 0x03 then
          let (key, s) := s.drawFrom 111 32
          { s with eng := { s.eng with contextKey := key } }
        else if island = 0x04 then { s with eng := { s.eng with lmsSeed := true } } else s
      .next s.refreshReady

/-- PARKED_JOB_EXPIRE: 3,600 s after the last parking (R290). -/
def execParkedJobExpire (job : Nat) (s : State) : Host.Outcome State Fault Refusal :=
  match s.eng.parked.find job with
  | none => .next s
  | some p =>
    let s := s.upTo p.expiry
    .next { s with eng := { s.eng with parked := s.eng.parked.del job } }

end Sys2Proof.Machine
end

