-- ==== Sys2Proof/Machine/KeyStore.lean ====
section
/-! DEFINITION. The key store verbs of family 0x03 and the vault's own steps (R120 to R146, R528 to R531). -/

namespace Sys2Proof.Machine

/-- The response record of n payload bytes fits the session's limit (R69). -/
def fitsSession (b : Barge) (s : State) (n : Nat) : Bool :=
  match s.session b.session with
  | some ss => ss.fgl != 3 || 20 + padded n + 52 ≤ ss.limit
  | none => true

/-- A lineage names a live handle of the slice, or is 0 (R142). -/
def State.lineageOk (s : State) (slice h : Nat) : Bool :=
  h == 0 || (match s.owned slice h with
    | .ok _ => true
    | .error _ => false)

/-- The response of KEY_GENERATE (R142). -/
def generateReply (handle : W64) (type blobLen : Nat) (key : Bytes) (keyId : W64) (blob : Bytes) : Bytes :=
  be 8 handle.toNat ++ kcvOf type key ++ zeros 1 ++ be 4 blobLen ++ fingerprintOf key keyId ++ blob

/-- A fresh key of a type (R334, R341). -/
def State.newKey (s : State) (type len modBits : Nat) : Bytes × State :=
  if 0x10 ≤ type then
    let (r, s) := s.drawSeed
    (fit len (Config.newPrivate type modBits r), s)
  else s.draw len

/-- Place a key in a slot, in its blob form when it is hold-resident; its handle and blob length. -/
def State.installKey (s : State) (i slice : Nat) (attrs : W64) (type : Nat) (usage : Nat) (keyId lineage : W64)
    (key : Bytes) (modBits : Nat) : State × W64 × Nat :=
  let h := s.handleOf slice ((s.slot i).epoch + 1) i
  let use : W64 := if scopeOf attrs = 0 then (if usage = 0 then BitVec.ofNat 64 (2 ^ 64 - 1) else BitVec.ofNat 64 usage) else 0
  let s := if scopeOf attrs = 0 then s else s.openLedger h (s.limitOf (keyClass attrs) usage)
  if holdType type then
    let (blobKey, s) := s.draw 32
    let (nonce, s) := s.draw 12
    let blob := blobOf type modBits h nonce blobKey key
    let m := be 8 h.toNat ++ blobKey ++ sl (Config.sha384 blob) 0 24
    let s := s.placeKey i slice .active attrs type 64 use keyId lineage m
    ({ s with vlt := { s.vlt with blobs := s.vlt.blobs.put i blob, prints := s.vlt.prints.put i (fingerprintOf key keyId) } }, h, blob.length)
  else (s.placeKey i slice .active attrs type key.length use keyId lineage key, h, 0)

/-- What the partner must hold of a new key: its slot, and its blob when it has one (R132, R356). -/
def newKeyTouch (i type : Nat) : List Touch := if holdType type then [.slot i, .blob i] else [.slot i]

/-- A key_id stands in the shred register at the present or the carried generation of its slice (R228). -/
def State.shreddedNow (s : State) (slice : Nat) (keyId : W64) : Bool :=
  s.shredded slice (s.slice slice).generation keyId || ((s.slice slice).carried.any fun g => s.shredded slice g keyId)

/-- Create a KEK of class 1 as a blob; what the partner receives of it is its share ledger (R38, R134, R142, R207, R228). -/
def createTenant (b : Barge) (s : State) (attrs : W64) (usage : Nat) (keyId : W64) : Effect :=
  let g := (s.slice b.slice).generation
  if s.shreddedNow b.slice keyId then fail s stAttrDenied
  else
    let (key, s) := s.draw 32
    let s := s.openLedger (kekTag b.slice g keyId) (s.limitOf 1 usage)
    let blob := s.kekBlob 1 keyId (newAttributes attrs 3 true) 0 b.slice g key
    doneWith s (generateReply 0 3 96 key keyId blob) [.ledger (kekTag b.slice g keyId)]

/-- The pairwise consistency test of a generated key pair: it fails only where hardware does, so whether it passes is free. A failure stores
nothing and counts as a fault of an engine of the kind that made the key (R341; log entry 28). -/
def State.pairwise (s : State) (type : Nat) (key : Bytes) : Except State Unit :=
  if type < 0x10 || Config.pairwiseOk type key s.draws then .ok ()
  else
    let k : EngineKind := if 0x30 ≤ type then .lattice else .publicKey
    .error (({ s with draws := s.draws + 1 } : State).faultEngine k (Config.freeNat s.draws % (kindNumbers k).length) 0 stFault)

/-- KEY_GENERATE. -/
def keyGenerateVerb : Verb where
  opcode := 0x0301
  maxReply := 160
  changing := true
  fmt b s := firstCode
    [lenIs b 36, wellFormed (keyShapeOk (fld b.payload 0 1) (fld b.payload 1 1) (fld b.payload 2 2)),
     reservedMask b s 4 attrReserved]
  run b s :=
    let p := b.payload
    let type := fld p 0 1
    let a : W64 := BitVec.ofNat 64 (fld p 4 8)
    let keyId : W64 := BitVec.ofNat 64 (fld p 20 8)
    if !s.lineageOk b.slice (fld p 28 8) then fail s stHandle
    else if !attrRules a type || keyClass a = 2 || (keyClass a = 1 && (type ≠ 3 || scopeOf a = 0)) then fail s stAttrDenied
    else if keyClass a = 1 then createTenant b s a (fld p 12 8) keyId
    else
      match s.pickSlot b.slice with
      | .error r => { st := s, reply := r }
      | .ok i =>
        let len := (keyLength type (fld p 1 1) (fld p 2 2)).getD 0
        let (key, s) := s.newKey type len (fld p 2 2)
        match s.pairwise type key with
        | .error s => fail s stFault
        | .ok _ =>
        let (s, h, n) := s.installKey i b.slice (newAttributes a type true) type (fld p 12 8) keyId
          (BitVec.ofNat 64 (fld p 28 8)) key (fld p 2 2)
        doneWith s (generateReply h type n key keyId []) (newKeyTouch i type)

/-- KEY_GENERATE. -/
def execKeyGenerate (b : Barge) (s : State) : Host.Outcome State Fault Refusal := verbStep keyGenerateVerb b s

/-- The check of an EC private key on import: public from private under R306. -/
def importScalar (type : Nat) (key : Bytes) : Option W16 :=
  if 0x10 ≤ type ∧ type ≤ 0x12 then
    if num key = 0 then some stInputZero
    else if Config.curveOrder (type - 0x0F) ≤ num key then some stNoncanonical else none
  else none

/-- KEY_IMPORT_WRAPPED (R529). For a wrapping key whose type is not 0x01 to 0x03 the spec names no status: KEY_ATTR_DENIED, DESIGN
CHOICE (log entry 23). -/
def keyImportWrappedVerb : Verb where
  opcode := 0x0302
  maxReply := 64
  changing := true
  fmt b s := firstCode
    [wellFormed (48 ≤ b.payload.length), wellFormed (24 ≤ fld b.payload 44 2 && fld b.payload 44 2 ≤ 4624),
     lenIs b (48 + padded (fld b.payload 44 2)),
     wellFormed (keyShapeOk (fld b.payload 8 1) (fld b.payload 9 1) (fld b.payload 10 2)), reserved b s 46 2,
     reserved b s (48 + fld b.payload 44 2) (padded (fld b.payload 44 2) - fld b.payload 44 2),
     reservedMask b s 12 attrReserved]
  run b s0 :=
    let p := b.payload
    let type := fld p 8 1
    let a : W64 := BitVec.ofNat 64 (fld p 12 8)
    let keyId : W64 := BitVec.ofNat 64 (fld p 28 8)
    match s0.useKey b.slice (fld p 0 8) atUnwrap with
    | (s, .error r) => { st := s, reply := r }
    | (s, .ok (_, x, kek)) =>
      if x.keyType < 1 ∨ 3 < x.keyType then fail s stAttrDenied
      else if !s.lineageOk b.slice (fld p 36 8) then fail s stHandle
      else if !attrRules a type || keyClass a = 1 || keyClass a = 2 then fail s stAttrDenied
      else
        match s.pickSlot b.slice with
        | .error r => { st := s, reply := r }
        | .ok i =>
          match Config.kwpUnwrap kek (sl p 48 (fld p 44 2)) with
          | none => fail s stAuthFail
          | some key =>
            if some key.length ≠ keyLength type (fld p 9 1) (fld p 10 2) then fail s stAuthFail
            else
              match importScalar type key with
              | some c => fail s c
              | none =>
                let (s, h, n) := s.installKey i b.slice (newAttributes a type false) type (fld p 20 8) keyId
                  (BitVec.ofNat 64 (fld p 36 8)) key (fld p 10 2)
                doneWith s (generateReply h type n key keyId []) (newKeyTouch i type)

/-- KEY_IMPORT_WRAPPED. -/
def execKeyImportWrapped (b : Barge) (s : State) : Host.Outcome State Fault Refusal := verbStep keyImportWrappedVerb b s

/-- Response of KEY_COMPONENT (R530). -/
def componentReply (handle : W64) (state : SlotState) (kcv tail : Bytes) : Bytes :=
  be 8 handle.toNat ++ be 1 state.ord ++ zeros 3 ++ kcv ++ zeros 1 ++ tail

/-- Bytes 8 to 35 of a component request, its index apart (R530). -/
def componentHead (p : Bytes) : Bytes := sl p 8 2 ++ sl p 11 25

/-- KEY_COMPONENT (R530); its barge's slice is the ballot's target slice. -/
def keyComponentVerb : Verb where
  opcode := 0x0303
  maxReply := 64
  changing := true
  role _ _ := some 2
  fmt b s := firstCode
    [lenIs b 72, wellFormed (1 ≤ fld b.payload 8 1 && fld b.payload 8 1 ≤ 5),
     wellFormed (fld b.payload 9 1 == 2 || fld b.payload 9 1 == 3),
     wellFormed (1 ≤ fld b.payload 10 1 && fld b.payload 10 1 ≤ fld b.payload 9 1),
     wellFormed (allZero ((sl b.payload 36 32).drop ((keyLength (fld b.payload 8 1) 0 0).getD 0))),
     reserved b s 11 1, reserved b s 71 1,
     reservedMask b s 12 attrReserved]
  run b s :=
    let p := b.payload
    let type := fld p 8 1
    let len := (keyLength type 0 0).getD 0
    let comp := sl p 36 len
    let a : W64 := BitVec.ofNat 64 (fld p 12 8)
    let keyId : W64 := BitVec.ofNat 64 (fld p 28 8)
    let kcvOk := sl p 68 3 == kcvOf type comp
    if fld p 0 8 = 0 then
      if !attrRules a type || keyClass a = 1 || keyClass a = 2 then fail s stAttrDenied
      else
        match s.pickSlot b.slice with
        | .error r => { st := s, reply := r }
        | .ok i =>
          if !kcvOk then fail s stAuthFail
          else
            let h := s.handleOf b.slice ((s.slot i).epoch + 1) i
            let use : W64 := if scopeOf a = 0 then (if fld p 20 8 = 0 then BitVec.ofNat 64 (2 ^ 64 - 1) else BitVec.ofNat 64 (fld p 20 8)) else 0
            let s := if scopeOf a = 0 then s else s.openLedger h (s.limitOf (keyClass a) (fld p 20 8))
            let s := s.placeKey i b.slice .pending (newAttributes a type false) type len use keyId 0 comp
            let k : PendingKey := { head := componentHead p, count := fld p 9 1, got := [fld p 10 1], deadline := s.now + 3600000000000 }
            let s := { s with vlt := { s.vlt with pendingKeys := s.vlt.pendingKeys.put i k } }
            doneWith s (componentReply h .pending (kcvOf type comp) []) [.slot i]
    else
      match s.owned b.slice (fld p 0 8) with
      | .error r => { st := s, reply := r }
      | .ok i =>
        match (s.slot i).state == .pending, s.vlt.pendingKeys.find i with
        | true, some k =>
          if k.head ≠ componentHead p || k.got.contains (fld p 10 1) then fail s stBadFormat
          else if !kcvOk then fail s stAuthFail
          else
            let x := s.slot i
            let key := xorBytes (sl x.material 0 len) comp
            let got := fld p 10 1 :: k.got
            let last := got.length == k.count
            let s := s.writeSlot i { x with material := fit 64 key, state := if last then .active else .pending }
            let s := { s with vlt := { s.vlt with
                pendingKeys := if last then s.vlt.pendingKeys.del i else s.vlt.pendingKeys.put i { k with got := got } } }
            doneWith s (componentReply (s.slotHandle i) (s.slot i).state (kcvOf type (if last then key else comp))
              (if last then fingerprintOf key keyId else [])) [.slot i]
        | _, _ => mismatch s 6 (s.slot i).state.ord 4

/-- KEY_COMPONENT. -/
def execKeyComponent (b : Barge) (s : State) : Host.Outcome State Fault Refusal := verbStep keyComponentVerb b s

/-- KEY_DELETE of the handle at the head of a payload (R120, R142). -/
def deleteKey (b : Barge) (s : State) : Effect :=
  match s.owned b.slice (fld b.payload 0 8) with
  | .error r => { st := s, reply := r }
  | .ok i =>
    if (s.slot i).state = .pending then mismatch s 6 2 10
    else if allows (s.slot i).attributes atShredCert then fail s stAttrDenied
    else doneWith (s.eraseSlot i) [] [.slotErased i]

/-- KEY_DELETE. -/
def keyDeleteVerb : Verb where
  opcode := 0x0304
  changing := true
  destructive _ _ := true
  fmt b _ := lenIs b 8
  run b s := deleteKey b s

/-- KEY_DELETE. -/
def execKeyDelete (b : Barge) (s : State) : Host.Outcome State Fault Refusal := verbStep keyDeleteVerb b s

/-- KEY_DELETE, DX6100 form: the handle and four ignored bytes. -/
def keyDeleteDx6100Verb : Verb where
  opcode := 0x0382
  changing := true
  destructive _ _ := true
  fmt b _ := lenIs b 12
  run b s := deleteKey b s

/-- KEY_DELETE, DX6100 form. -/
def execKeyDeleteDx6100 (b : Barge) (s : State) : Host.Outcome State Fault Refusal := verbStep keyDeleteDx6100Verb b s

/-- The 52 bytes of KEY_ATTR_READ (R142). -/
def State.attrBytes (s : State) (i : Nat) : Bytes :=
  let x := s.slot i
  let used := match s.eng.counters.find i with
    | some c => c.used
    | none =>
      if scopeOf x.attributes = 0 then s.resumeAt (.slot i) - 1 else s.spentOf (s.slotHandle i) (s.resumeAt (.slot i) - 1)
  be 1 x.keyType ++ be 1 x.state.ord ++ zeros 2 ++ be 8 x.attributes.toNat ++ be 8 x.usageLimit.toNat ++ be 8 used ++
    be 8 x.keyId.toNat ++ be 8 x.lineage.toNat ++
    (if x.state = .active then kcvOf x.keyType ((s.keyIn i).getD []) else zeros 3) ++ zeros 1 ++ be 4 x.epoch

/-- KEY_ATTR_READ of the handle at the head of a payload, with its tag check: slice 0 reads any (R126, R142, R160). -/
def readAttributes (b : Barge) (s : State) : Effect :=
  match s.live (fld b.payload 0 8) with
  | some i =>
    if b.slice = 0 ∨ (s.slot i).slice = b.slice then
      match s.checkTag i with
      | (s, true) => done s (s.attrBytes i)
      | (s, false) => fail s stSlotBad
    else fail s stHandle
  | none => fail s stHandle

/-- KEY_ATTR_READ. -/
def keyAttrReadVerb : Verb where
  opcode := 0x0305
  world := .flight
  charge := 12
  maxReply := 52
  fmt b _ := lenIs b 8
  run b s := readAttributes b s

/-- KEY_ATTR_READ. -/
def execKeyAttrRead (b : Barge) (s : State) : Host.Outcome State Fault Refusal := verbStep keyAttrReadVerb b s

/-- KEY_ATTR_READ, DX6100 form. -/
def keyAttrReadDx6100Verb : Verb where
  opcode := 0x0380
  world := .flight
  charge := 12
  maxReply := 52
  fmt b _ := lenIs b 12
  run b s := readAttributes b s

/-- KEY_ATTR_READ, DX6100 form. -/
def execKeyAttrReadDx6100 (b : Barge) (s : State) : Host.Outcome State Fault Refusal := verbStep keyAttrReadDx6100Verb b s

/-- KEY_ATTR_RESTRICT. -/
def keyAttrRestrictVerb : Verb where
  opcode := 0x0306
  changing := true
  fmt b _ := lenIs b 24
  run b s :=
    let clr := fld b.payload 8 8
    let set := fld b.payload 16 8
    match s.usable b.slice (fld b.payload 0 8) with
    | .error r => { st := s, reply := r }
    | .ok i =>
      let x := s.slot i
      if allows x.attributes atFrozen || clr &&& (65535 + atExportable) ≠ clr || set &&& (atShredCert + atFrozen) ≠ set then
        fail s stAttrDenied
      else
        let a : W64 := (x.attributes &&& ~~~(BitVec.ofNat 64 clr)) ||| BitVec.ofNat 64 set
        doneWith (s.writeSlot i { x with attributes := a }) [] [.slot i]

/-- KEY_ATTR_RESTRICT. -/
def execKeyAttrRestrict (b : Barge) (s : State) : Host.Outcome State Fault Refusal := verbStep keyAttrRestrictVerb b s

/-- POLICY of an export: the subject key, then the wrapping key, before either is fetched (R124, R529). -/
def State.exportGrant (s : State) (b : Barge) : Option Reply :=
  match s.permit b.slice (fld b.payload 0 8) atExportable, s.permit b.slice (fld b.payload 8 8) atWrap with
  | .error r, _ => some r
  | .ok _, .error r => some r
  | .ok _, .ok j => if (s.slot j).keyType < 1 ∨ 3 < (s.slot j).keyType then some attrDenied else none

/-- KEY_EXPORT_WRAPPED (R529). -/
def keyExportWrappedVerb : Verb where
  opcode := 0x0307
  changing := true
  fmt b _ := lenIs b 16
  run b s0 :=
    match s0.exportGrant b with
    | some r => { st := s0, reply := r }
    | none =>
      match s0.useKey b.slice (fld b.payload 0 8) atExportable with
      | (s, .error r) => { st := s, reply := r }
      | (s, .ok (i, x, key)) =>
        match s.useKey b.slice (fld b.payload 8 8) atWrap with
        | (s, .error r) => { st := s, reply := r }
        | (s, .ok (j, _, kek)) =>
          match s.countSlot j kek with
          | (s, .error r) => { st := s, reply := r }
          | (s, .ok _) =>
            let out := Config.kwpWrap kek key
            let body := be 2 out.length ++ zeros 2 ++ pad4 out
            if !fitsSession b s body.length then fail s stBadFormat
            else if allows x.attributes atEverExported then done s body
            else
              doneWith (s.writeSlot i { s.slot i with attributes := x.attributes ||| BitVec.ofNat 64 atEverExported }) body
                [.slot i]

/-- KEY_EXPORT_WRAPPED. -/
def execKeyExportWrapped (b : Barge) (s : State) : Host.Outcome State Fault Refusal := verbStep keyExportWrappedVerb b s

/-- KEY_BLOB_READ (R133, R142). -/
def keyBlobReadVerb : Verb where
  opcode := 0x0308
  fmt b s := firstCode [lenIs b 16, wellFormed (1 ≤ fld b.payload 12 2 && fld b.payload 12 2 ≤ 3584), reserved b s 14 2,
    wellFormed (fitsSession b s (fld b.payload 12 2))]
  run b s :=
    match s.usable b.slice (fld b.payload 0 8) with
    | .error r => { st := s, reply := r }
    | .ok i =>
      if !allows (s.slot i).attributes atHoldResident then fail s stAttrDenied
      else
        match s.vlt.blobs.find i with
        | none => fail s stCacheMiss
        | some bl =>
          if bl.length ≤ fld b.payload 8 4 then fail s stBadFormat
          else done s (sl bl (fld b.payload 8 4) (fld b.payload 12 2))

/-- KEY_BLOB_READ. -/
def execKeyBlobRead (b : Barge) (s : State) : Host.Outcome State Fault Refusal := verbStep keyBlobReadVerb b s

/-- KEY_BLOB_LOAD: chunks in order; the final one takes effect when the digest matches the slot (R133, R142). The spec names no
status for a chunk out of order (here BAD_FORMAT), a digest that differs (AUTH_FAIL) and a key that is not hold-resident
(KEY_ATTR_DENIED): DESIGN CHOICE (log entry 23). -/
def keyBlobLoadVerb : Verb where
  opcode := 0x0309
  fmt b s := firstCode [wellFormed (16 ≤ b.payload.length),
    wellFormed (1 ≤ fld b.payload 12 2 && fld b.payload 12 2 ≤ 3584), lenIs b (16 + fld b.payload 12 2), reserved b s 14 2]
  run b s :=
    match s.usable b.slice (fld b.payload 0 8) with
    | .error r => { st := s, reply := r }
    | .ok i =>
      if !allows (s.slot i).attributes atHoldResident then fail s stAttrDenied
      else
        let off := fld b.payload 8 4
        let have_ := if off = 0 then [] else s.vlt.blobLoads.at [] i
        if have_.length ≠ off then fail s stBadFormat
        else
          let bl := have_ ++ b.payload.drop 16
          let total := 48 + fld bl 28 4
          let drop : State := { s with vlt := { s.vlt with blobLoads := s.vlt.blobLoads.del i } }
          if bl.length < 32 ∨ bl.length < total then
            done ({ s with vlt := { s.vlt with blobLoads := s.vlt.blobLoads.put i bl } }) []
          else if bl.length = total ∧ sl (Config.sha384 bl) 0 24 = sl (s.slot i).material 40 24 then
            done ({ drop with vlt := { drop.vlt with blobs := drop.vlt.blobs.put i bl } }) []
          else fail drop stAuthFail

/-- KEY_BLOB_LOAD. -/
def execKeyBlobLoad (b : Barge) (s : State) : Host.Outcome State Fault Refusal := verbStep keyBlobLoadVerb b s

/-! ## Shred and certificates (R144 to R146, R531) -/

/-- Add a barge to a shred sequence under way, or answer it when phase 5 is past (R146). -/
def joinShred (b : Barge) (s : State) (n : Nat) (q : ShredSeq) : Effect :=
  match q.evidence with
  | some e => done s (be 8 e ++ (if q.handle = 0 then be 4 s.registerFree else []))
  | none =>
    { st := { s with vlt := { s.vlt with shreds := s.vlt.shreds.put n { q with waiting := q.waiting ++ [waiterOf b] } } },
      reply := ⟨stDone, []⟩, later := true }

/-- KEY_SHRED. -/
def keyShredVerb : Verb where
  opcode := 0x030A
  maxReply := 8
  changing := true
  destructive _ _ := true
  fmt b _ := lenIs b 8
  run b s :=
    let h : W64 := BitVec.ofNat 64 (fld b.payload 0 8)
    match s.vlt.shreds.find? fun e => e.2.handle == h && e.2.slice == b.slice && h != 0 with
    | some (n, q) => joinShred b s n q
    | none =>
      match s.owned b.slice h.toNat with
      | .error r => { st := s, reply := r }
      | .ok i =>
        if (s.slot i).state = .pending then mismatch s 6 2 10
        else { st := s.shredKey i (waiterOf b), reply := ⟨stDone, []⟩, later := true }

/-- KEY_SHRED. -/
def execKeyShred (b : Barge) (s : State) : Host.Outcome State Fault Refusal := verbStep keyShredVerb b s

/-- CERT_READ. -/
def certReadVerb : Verb where
  opcode := 0x030B
  fmt b s := firstCode [lenIs b 16, wellFormed (1 ≤ fld b.payload 12 2 && fld b.payload 12 2 ≤ 3584), reserved b s 14 2,
    wellFormed (fld b.payload 8 4 < 4752), wellFormed (fitsSession b s (fld b.payload 12 2))]
  run b s :=
    let n := fld b.payload 0 8
    match s.snt.log.find? fun e => fld e 0 8 == n && shredKind (fld e 16 2) with
    | none => fail s stHandle
    | some _ =>
      match s.vlt.certs.find n with
      | some c => done s (sl c (fld b.payload 8 4) (fld b.payload 12 2))
      | none =>
        if s.vlt.shreds.vals.any fun q => q.evidence == some n then
          fail s (if 2 ^ 37 ≤ s.eng.lmsPos then stLmsExhausted else stCertPending) else fail s stHandle

/-- CERT_READ. -/
def execCertRead (b : Barge) (s : State) : Host.Outcome State Fault Refusal := verbStep certReadVerb b s

/-! ## The domain key (R139 to R141) -/

/-- Install DK and a domain ID in slot 0, with the ratchet at the running SVN; a DK that came from elsewhere is not LOCAL (R116,
R121, R139). -/
def State.installDk (s : State) (dk : Bytes) (domainId : W64) (isLocal : Bool) : State :=
  let top := kdf dk (ascii "DX8300 dratchet") (be 8 domainId.toNat) 384
  let s := ({ s with vlt := { s.vlt with
      domainId := domainId, dom := ratchetDown (ascii "DX8300 dstep") top s.ctr.svn (4095 - s.ctr.svn) } }).formHck
  let a := newAttributes (BitVec.ofNat 64 (5 * 65536 + atDerive)) 3 isLocal
  let x := s.slot 0
  s.writeSlot 0 { x with material := fit 64 dk, attributes := a, state := .active, keyType := 3, length := 32,
                         slice := 0, usageLimit := BitVec.ofNat 64 (2 ^ 64 - 1) }

/-- DK as slot 0 holds it. -/
def State.dk (s : State) : Bytes := sl (s.slot 0).material 0 32

/-- No slice other than slice 0 holds a key (R139, R141, R352). -/
def State.noSliceKeys (s : State) : Bool :=
  s.vlt.slots.all fun e => e.2.slice == 0 || isTransit e.1 || e.2.state == .free || e.2.state == .retired

/-- No slice holds a key, slice 0 included; DK and the device keys in slots 0 to 3 are no slice's (R141). -/
def State.noKeys (s : State) : Bool :=
  s.vlt.slots.all fun e => e.1 ≤ 3 || isTransit e.1 || e.2.state == .free || e.2.state == .retired

/-- The check value of DK (R140). -/
def dkCheck (dk : Bytes) : Bytes := sl (Config.sha384 (ascii "DX8300 dk check" ++ dk)) 0 8

/-- A sealed envelope to a recipient: ECDH share, ML-KEM ciphertext, ciphertext with tag (R140). -/
def State.envelope (s : State) (ecPub kemPub label context plain : Bytes) : Bytes × State :=
  let (p, s) := s.drawSeed
  let (m, s) := s.drawSeed
  let priv := Config.newPrivate 0x11 384 p
  let kem := Config.kemEncaps kemPub m
  let k := envelopeKey (fit 48 (Config.agree 2 priv ecPub)) (fit 32 kem.2) label context
  (public384 priv ++ fit 1088 kem.1 ++ fit (plain.length + 16) (Config.gcmSeal k (zeros 12) [] plain), s)

/-- Open an envelope with the private halves (R140). -/
def openEnvelope (ecKey kemKey label context env : Bytes) : Option Bytes :=
  let k := envelopeKey (fit 48 (Config.agree 2 ecKey (sl env 0 97))) (fit 32 (Config.kemDecaps kemKey (sl env 97 1088)))
    label context
  Config.gcmOpen k (zeros 12) [] (env.drop 1185)

/-- Recipients of a backup: P-384 key (97), three reserved bytes, ML-KEM key (1,184) each (log entry 20). -/
def backupRecipient (p : Bytes) (i : Nat) : Bytes × Bytes := (sl p (4 + 1284 * i) 97, sl p (104 + 1284 * i) 1184)

/-- Seal the shares of the domain key to their recipients, one envelope each. -/
def State.sealShares (s : State) (p : Bytes) (k seed : Nat) : List Nat → Bytes × State
  | [] => ([], s)
  | i :: is =>
    let r := backupRecipient p i
    let plain := be 1 (i + 1) ++ be 1 k ++ be 2 s.tow.floor ++ be 8 s.vlt.domainId.toNat ++
      fit 32 (Config.shamirShare s.dk k seed (i + 1)) ++ dkCheck s.dk
    let (e, s) := s.envelope r.1 r.2 (ascii "DX8300 share") (be 8 s.vlt.domainId.toNat ++ be 1 (i + 1)) plain
    let (es, s) := s.sealShares p k seed is
    (e ++ es, s)

/-- DOMAIN_BACKUP. -/
def domainBackupVerb : Verb where
  opcode := 0x0310
  sender b _ := b.slice == 0
  role _ _ := some 2
  fmt b s := firstCode
    [wellFormed (4 ≤ b.payload.length),
     wellFormed (2 ≤ fld b.payload 0 1 && fld b.payload 0 1 ≤ fld b.payload 1 1 && fld b.payload 1 1 ≤ 16),
     lenIs b (4 + 1284 * fld b.payload 1 1), reserved b s 2 2]
  run b s :=
    let k := fld b.payload 0 1
    let n := fld b.payload 1 1
    let (seed, s1) := s.drawSeed
    let (out, s1) := s1.sealShares b.payload k seed (List.range n)
    if fitsSession b s out.length then done s1 out else fail s stBadFormat

/-- DOMAIN_BACKUP. -/
def execDomainBackup (b : Barge) (s : State) : Host.Outcome State Fault Refusal := verbStep domainBackupVerb b s

/-- The conditions of R141: custody UNESTABLISHED and no key of a slice. -/
def State.restorable (s : State) : Bool := !s.cus.established && s.noKeys

/-- SHARE_IMPORT_KEY: P-384 key (97), ML-KEM key (1,184) and signature (96) over both. -/
def shareImportKeyVerb : Verb where
  opcode := 0x0311
  maxReply := 1377
  fmt b _ := lenIs b 0
  sender b _ := b.slice == 0
  state _ s := if s.restorable then none else some (mismatchReply 2 (bit01 s.cus.established) 1)
  run _ s :=
    let (p, s) := s.drawSeed
    let (m, s) := s.drawSeed
    let ec := Config.newPrivate 0x11 384 p
    let kem := fit 2400 (Config.newPrivate 0x30 0 m)
    let pub := public384 ec ++ fit 1184 (Config.publicOf 0x30 kem)
    let sig := s.sign384 s.attestKey pub
    let i : ShareImport := { ecKey := ec, kemKey := kem, keyEnd := s.now + 3600000000000 }
    done ({ s with draws := s.draws + 1, vlt := { s.vlt with shareImport := some i } }) (pub ++ sig)

/-- SHARE_IMPORT_KEY. -/
def execShareImportKey (b : Barge) (s : State) : Host.Outcome State Fault Refusal := verbStep shareImportKeyVerb b s

/-- Length of the signatures that kinds call for. -/
def sigLength (kinds : Nat) : Nat := (if kinds.testBit 0 then 96 else 0) + (if kinds.testBit 1 then 3309 else 0)

/-- Do a custodian's signatures, one of each of its kinds, verify over a message (R83, R91). -/
def custodianSigned (c : Custodian) (msg sigs : Bytes) : Bool :=
  let e := c.kinds.testBit 0
  (!e || verify384 c.ecdsaKey msg (sl sigs 0 96)) &&
    (!c.kinds.testBit 1 || verifyMldsa c.mldsaKey msg (sl sigs (if e then 96 else 0) 3309))

/-- The shares that still count: they go when 600 s have passed since the first (R141). -/
def ShareImport.present (im : ShareImport) (now : Nat) : ShareImport :=
  if !im.shares.isEmpty && im.windowEnd < now then { im with shares := [], windowEnd := 0 } else im

/-- DOMAIN_SHARE_IMPORT: custodian (1), kinds (1), share index (1), reserved (1), domain_id (8), envelope
(1,253), signatures (log entry 20). -/
def domainShareImportVerb : Verb where
  opcode := 0x0312
  changing := true
  fmt b s := firstCode
    [wellFormed (12 ≤ b.payload.length), wellFormed (fld b.payload 0 1 < 64 && fld b.payload 1 1 < 4),
     lenIs b (1265 + sigLength (fld b.payload 1 1)), reserved b s 3 1]
  sender b _ := b.slice == 0
  state _ s := if s.restorable then none else some (mismatchReply 2 (bit01 s.cus.established) 1)
  run b s :=
    let p := b.payload
    match s.vlt.shareImport.map fun im => im.present s.now, s.cus.custodians.find (fld p 0 1) with
    | some im, some c =>
      if im.keyEnd ≤ s.now then fail s stAuthFail
      else if c.state ≠ .enrolled || !c.roles.testBit 2 then fail s stNotAuthorised
      else if c.kinds ≠ fld p 1 1 then fail s stBadFormat
      else if !custodianSigned c (sl p 12 1253) (p.drop 1265) then fail s stAuthFail
      else
        match openEnvelope im.ecKey im.kemKey (ascii "DX8300 share") (sl p 4 8 ++ be 1 (fld p 2 1)) (sl p 12 1253) with
        | none => fail s stAuthFail
        | some sh =>
          if sh.length ≠ 52 ∨ fld sh 0 1 ≠ fld p 2 1 ∨ sl sh 4 8 ≠ sl p 4 8 then fail s stAuthFail
          else
            let shares := im.shares.put (fld sh 0 1) sh
            let common := shares.vals.filter fun x => sl x 4 8 == sl sh 4 8
            let windowEnd := if im.shares.isEmpty then s.now + 600000000000 else im.windowEnd
            if common.length < fld sh 1 1 then
              done ({ s with vlt := { s.vlt with shareImport := some { im with shares := shares, windowEnd := windowEnd } } }) []
            else
              let dk := fit 32 (Config.shamirCombine (common.map fun x => (fld x 0 1, sl x 12 32)))
              if dkCheck dk = sl sh 44 8 then
                let s := { s with vlt := { s.vlt with shareImport := none },
                                  tow := { s.tow with floor := max s.tow.floor (fld sh 2 2) } }
                doneWith (s.installDk dk (BitVec.ofNat 64 (fld sh 4 8)) false) [] [.slot 0]
              else
                fail ({ s with vlt := { s.vlt with shareImport := some { im with shares := [], windowEnd := 0 } } }) stAuthFail
    | none, _ => mismatch s 2 (bit01 s.cus.established) 1
    | some _, none => fail s stNotAuthorised

/-- DOMAIN_SHARE_IMPORT. -/
def execDomainShareImport (b : Barge) (s : State) : Host.Outcome State Fault Refusal := verbStep domainShareImportVerb b s

/-- SHARE_WINDOW_EXPIRE: the collection window ends and the shares go, or the import key ends (R141). -/
def execShareWindowExpire (s : State) : Host.Outcome State Fault Refusal :=
  match s.vlt.shareImport with
  | none => .next s
  | some im =>
    if !im.shares.isEmpty && im.windowEnd < im.keyEnd then
      let s := s.upTo im.windowEnd
      .next { s with vlt := { s.vlt with shareImport := some { im with shares := [], windowEnd := 0 } } }
    else
      let s := s.upTo im.keyEnd
      .next { s with vlt := { s.vlt with shareImport := none } }

/-! ## The vault's own steps (R120, R125 to R127) -/

/-- PENDING_SLOT_EXPIRE: 3,600 s without a final component. -/
def execPendingSlotExpire (slot : Nat) (s : State) : Host.Outcome State Fault Refusal :=
  match s.vlt.pendingKeys.find slot with
  | none => .next s
  | some k =>
    if (s.slot slot).state = .pending then
      let s := s.upTo k.deadline
      .next ((s.eraseSlot slot).mirror s [.slotErased slot])
    else .next s

/-- Check one occupied slot in a scrub pass, with the guard errors met on its read path. -/
def State.scrubSlot (s : State) (i errors : Nat) : State :=
  let x := s.slot i
  if x.state == .free || x.state == .retired || x.state == .quarantined then s
  else if 2 ≤ errors then s.quarantine i
  else
    let s := if errors = 1 then s.raise 256 noInst x.slice 0 i else s
    if x.tag != s.slotTag i x then s.quarantine i else s

/-- VAULT_SCRUB_PASS: the pass ends 10 s after it began (R125, R126). -/
def execVaultScrubPass (guardErrors : List (Nat × Nat)) (s : State) : Host.Outcome State Fault Refusal :=
  let s := s.upTo (s.clk.startAt + (s.vlt.scrubs.toNat + 1) * 10000000000)
  let errs (i : Nat) : Nat := match guardErrors.find? fun e => e.1 == i with
    | some e => e.2
    | none => 0
  let s := s.vlt.slots.keys.foldl (fun s i => s.scrubSlot i (errs i)) s
  .next { s with vlt := { s.vlt with scrubs := s.vlt.scrubs + 1 } }

/-- The slot that a local image record holds, when it verifies (R127, R129). -/
def State.imageSlot (s : State) (i : Nat) : Option Slot :=
  match s.vlt.image.find i with
  | none => none
  | some r =>
    if s.ctr.svn < fld r 0 2 then none
    else
      (Config.sivOpen (s.msk (fld r 0 2)) (zeros 12) (be 2 i ++ sl r 0 8) (sl r 8 128)).map fun p => slotOfBytes p []

/-- A restored slot takes its copy with a fresh tag, and VLT_RESTORED is raised. -/
def State.restoreSlot (s : State) (i : Nat) (x : Slot) : State :=
  let s := s.setSlot i { x with tag := s.slotTag i x }
  (s.raise 257 noInst x.slice 0 i).level 259 false noInst x.slice 0 i

/-- VLT_LOST stands while a quarantined slot has no copy that verifies (R127). -/
def State.lostSlot (s : State) (i : Nat) : State := s.level 259 true noInst (s.slot i).slice 0 i

/-- VAULT_SLOT_RESTORE: the local image first, then the partner's copy (R127). -/
def execVaultSlotRestore (slot : Nat) (s : State) : Host.Outcome State Fault Refusal :=
  let x := s.slot slot
  if x.state ≠ .quarantined then .next s
  else
    let fromPartner : State :=
      if s.linkLive then
        { (s.sendTowpath 5 0 [be 2 slot ++ zeros 2] 0 0) with
          tow := { (s.sendTowpath 5 0 [be 2 slot ++ zeros 2] 0 0).tow with slotFetches := s.tow.slotFetches ++ [slot] } }
      else s.lostSlot slot
    match s.imageSlot slot with
    | some y => if y.epoch = x.epoch ∧ y.state = .active then .next (s.restoreSlot slot y) else .next fromPartner
    | none => .next fromPartner

end Sys2Proof.Machine
end

