-- ==== Sys2Proof/Machine/Images.lean ====
section
/-! DEFINITION. Wrapped context images and the parked job table (R287 to R290). -/

namespace Sys2Proof.Machine

/-! ## Images (R287 to R290) -/

/-- A wrapped image of a job (R289). -/
def State.wrapImage (s : State) (slice : Nat) (gen : W32) (seq job : Nat) (clear : Bytes) : State × Bytes :=
  let n := s.eng.imageCount + 1
  let nonce := zeros 4 ++ be 8 n
  let h := be 4 0x44584358 ++ be 2 slice ++ zeros 2 ++ be 4 gen.toNat ++ be 4 seq ++ be 8 job ++ nonce
  ({ s with eng := { s.eng with imageCount := n } },
   h ++ fit 144 (Config.gcmSeal s.eng.contextKey nonce h (fit 128 clear)) ++ zeros 12)

/-- Restore a wrapped image: the checks of R290 in order. -/
def State.restoreImageOf (s : State) (b : Barge) (im : Bytes) : Except Reply (Nat × Nat × Bytes) :=
  if fld im 0 4 ≠ 0x44584358 then .error ⟨stAuthFail, []⟩
  else
    match Config.gcmOpen s.eng.contextKey (sl im 24 12) (sl im 0 36) (sl im 36 144) with
    | none => .error ⟨stAuthFail, []⟩
    | some clear =>
      match s.eng.parked.find (fld im 16 8) with
      | none => .error badHandle
      | some p =>
        if fld im 4 2 % 4096 ≠ b.slice || fld im 8 4 ≠ b.generation.toNat then .error badHandle
        else if fld im 12 4 ≠ p.seq || p.claim.isSome then .error ⟨stAuthFail, []⟩
        else .ok (fld im 16 8, p.seq, clear)

/-- Park a job's image in the table, CLASS_FULL beyond 65,536 jobs. -/
def State.park (s : State) (b : Barge) (job seq : Nat) (clear : Bytes) : Except Reply (State × Bytes) :=
  if 65536 ≤ s.eng.parked.length && (s.eng.parked.find job).isNone then .error ⟨stClassFull, []⟩
  else
    let (s, im) := s.wrapImage b.slice b.generation seq job clear
    let p : Parked := { slice := b.slice, generation := b.generation, seq := seq, expiry := s.now + 3600000000000 }
    .ok ({ s with eng := { s.eng with parked := s.eng.parked.put job p } }, im)

/-- A job leaves the parked job table. -/
def State.unpark (s : State) (job : Nat) : State := { s with eng := { s.eng with parked := s.eng.parked.del job } }

/-! ## The keeper's use: the whole-image MAC of a slice image (R105, R290) -/

/-- The clear image of the MAC over a slice image: GCM with an AES-256 key, in its data phase, 18 bytes of AAD and what has passed
so far. -/
def macImage (key image : Bytes) (n : Nat) : Bytes :=
  let p := sl image 18 (n - 18)
  fit 16 (be 1 3 ++ be 1 4 ++ be 1 1 ++ be 1 (p.length % 16) ++ be 4 (p.length / 16)) ++
    patch (exact 96 (Config.gcmContext key (zeros 12) (image.take 18) p)) 64 (be 8 18 ++ be 8 p.length) ++ zeros 16

/-- The MAC of a slice image goes on over its first n bytes: its job is parked for the slice under the next position, a new one first. -/
def State.carryMac (s : State) (t : Nat) (was : Option Transfer) (key image : Bytes) (n : Nat) : Except Reply (State × Nat × Bytes) :=
  let b : Barge := { session := 0, pn := 0, slice := t, generation := (s.slice t).generation, cls := 0, opcode := 0, requestId := 0,
                     idem := 0, payload := [] }
  let on : Except Reply (State × Nat × Nat) :=
    match was with
    | none => .ok ({ s with eng := { s.eng with jobCount := s.eng.jobCount + 1 } }, s.eng.jobCount + 1, 1)
    | some tr =>
      match s.restoreImageOf b tr.context with
      | .error r => .error r
      | .ok (job, seq, _) => .ok (s, job, seq + 1)
  match on with
  | .error r => .error r
  | .ok (s, job, seq) =>
    match s.park b job seq (macImage key image n) with
    | .error r => .error r
    | .ok (s, im) => .ok (s, job, im)

end Sys2Proof.Machine
end

