-- ==== Sys2Proof/Machine/Custody.lean ====
section
/-! DEFINITION. Custodians, approvals and ballots' own steps, trust anchors, and slices with their reset,
removal, save and restore (R83 to R106). BALLOT_PROPOSE and BALLOT_EXECUTE are in Ballots.lean. -/

namespace Sys2Proof.Machine

/-- A refusal to which the spec gives no status code: the code is a free value (log entry 3). -/
def failOpen (s : State) : Effect :=
  fail { s with draws := s.draws + 1 } (BitVec.ofNat 16 (1 + Config.freeNat s.draws % 65535))

/-! ## Custodians (R83 to R89) -/

/-- The custodian entry of an index. -/
def State.custodian (s : State) (i : Nat) : Option Custodian := s.cus.custodians.find i

/-- State ordinal of an index: REVOKED where it holds no entry (R87). -/
def State.custodianOrd (s : State) (i : Nat) : Nat :=
  match s.custodian i with
  | some c => c.state.ord
  | none => 2

/-- N of a role: the ENROLLED custodians that hold it (R85). -/
def State.holders (s : State) (role : Nat) : Nat :=
  (s.cus.custodians.filter fun e => e.2.state == .enrolled && e.2.roles.testBit role).length

/-- The lowest role of a bitmap that a test picks out. -/
def firstRole (roles : Nat) (p : Nat → Bool) : Option Nat :=
  (List.range 7).find? fun r => roles.testBit r && p r

/-- The first role of a bitmap that would exceed 16 holders (R85). -/
def State.roleOverfull (s : State) (roles : Nat) : Option Nat := firstRole roles fun r => 16 ≤ s.holders r

/-- The first role of a bitmap that would fall below its quorum with one holder fewer (R85). -/
def State.roleShort (s : State) (roles : Nat) : Option Nat := firstRole roles fun r => s.holders r < s.quorum r + 1

/-- A refusal that names a role (R107). -/
def roleReply (c : W16) (role : Nat) : Reply := ⟨c, be 1 role ++ zeros 3⟩

/-- Set a custodian entry. -/
def State.setCustodian (s : State) (i : Nat) (c : Option Custodian) : State :=
  { s with cus := { s.cus with custodians := putOpt s.cus.custodians i c } }

/-- Advance the custody sequence (R90). -/
def State.custodyStep (s : State) : State := { s with cus := { s.cus with custodySeq := s.cus.custodySeq + 1 } }

/-! ## Ballots (R90 to R95) -/

/-- Approvals of a ballot that stand now (R92). -/
def Ballot.standing (x : Ballot) (now : Nat) : Map Nat := x.approvals.filter fun a => now < a.2

/-- Approvals that count now: those of ENROLLED custodians that hold the ballot's role (R87, R92). -/
def Ballot.counting (x : Ballot) (cs : Map Custodian) (now : Nat) : Map Nat :=
  (x.standing now).filter fun a => match cs.find a.1 with
    | some c => c.state == .enrolled && c.roles.testBit x.role
    | none => false

/-- OPEN or ARMED as the approvals that count decide (R92, R94). -/
def Ballot.settled (x : Ballot) (cs : Map Custodian) (now : Nat) : Ballot :=
  if x.state.terminal then x
  else { x with approvals := x.standing now, state := if x.m ≤ (x.counting cs now).length then .armed else .open_ }

/-- The earliest end among approvals. -/
def earliest (l : Map Nat) : Option Nat :=
  l.foldl (fun m a =>
    match m with
    | none => some a.2
    | some t => some (min t a.2)) none

/-- The status layout of R96: next_expiry in seconds, rounded up. -/
def ballotReply (id : Nat) (x : Ballot) (cs : Map Custodian) (now : Nat) : Bytes :=
  let l := if x.state.terminal then [] else x.counting cs now
  let next := match earliest l with
    | some t => (t - now + 999999999) / 1000000000
    | none => 0
  be 8 id ++ be 1 x.state.ord ++ be 1 l.length ++ be 1 x.m ++ zeros 1 ++ be 4 next

/-- A ballot as it stands now. -/
def State.ballot (s : State) (id : Nat) : Option Ballot := (s.cus.ballots.find id).map fun x => x.settled s.cus.custodians s.now

/-- Replace a ballot. -/
def State.setBallot (s : State) (id : Nat) (x : Ballot) : State :=
  { s with cus := { s.cus with ballots := s.cus.ballots.put id x } }

/-- The terminal record that ended first. -/
def oldestRecord (m : Map Ballot) : Option Nat :=
  ((m.filter fun e => e.2.state.terminal).foldl (fun (o : Option (Nat × Nat)) e =>
    match o with
    | none => some (e.1, e.2.dropAt)
    | some (k, t) => if e.2.dropAt < t then some (e.1, e.2.dropAt) else some (k, t)) none).map (·.1)

/-- A ballot enters a terminal state: it drops its payload; with 2,048 records in use the oldest goes (R94). -/
def State.endBallot (s : State) (id : Nat) (x : Ballot) (st : BallotState) : State :=
  let full : Bool := 2048 ≤ (s.cus.ballots.filter fun e => e.2.state.terminal).length
  let s := match if full then oldestRecord s.cus.ballots else none with
    | some k => { s with cus := { s.cus with ballots := s.cus.ballots.del k } }
    | none => s
  s.setBallot id { x with state := st, payload := [], dropAt := s.now + 600000000000 }

/-- Withdraw a custodian's standing approvals from every open ballot (R87). -/
def State.withdrawApprovals (s : State) (i : Nat) : State :=
  { s with cus := { s.cus with ballots := s.cus.ballots.map fun e =>
      if e.2.state.terminal then e else (e.1, ({ e.2 with approvals := e.2.approvals.del i }).settled s.cus.custodians s.now) } }

/-- The ballots on which a custodian has an approval: its withdrawal is a destructive record (R87, R356). -/
def State.approvedBy (s : State) (i : Nat) : List Touch :=
  (s.cus.ballots.filter fun e => !e.2.state.terminal && (e.2.approvals.find i).isSome).map fun e => .ballot e.1 true

/-- Suspend a custodian (R87). -/
def State.suspend (s : State) (i : Nat) (c : Custodian) : State :=
  ((s.setCustodian i (some { c with state := .suspended })).withdrawApprovals i).custodyStep

/-- A failed approval; the eighth in a row suspends the custodian or starts a hold-off (R86). The count then stands at 0, as it does
after a reinstatement; the spec says so of the end of a hold-off only (DESIGN CHOICE, log entry 20). -/
def State.failedApproval (s : State) (i : Nat) (c : Custodian) : State :=
  if c.fails + 1 < 8 then s.setCustodian i (some { c with fails := c.fails + 1 })
  else
    match s.roleShort c.roles with
    | none => (s.suspend i { c with fails := 0 }).raise 258 noInst 0xFFFF 1 i
    | some _ =>
      ((s.setCustodian i (some { c with fails := 0, holdOff := some (s.now + 600000000000) })).withdrawApprovals i).raise
        258 noInst 0xFFFF 0xFF i

/-! ## Custodian verbs -/

/-- The payload is an index, 0 to 63, and three reserved bytes (log entry 20). -/
def indexPayload (b : Barge) (s : State) : Option W16 :=
  firstCode [lenIs b 4, wellFormed (fld b.payload 0 1 < 64), reserved b s 1 3]

/-- A custodian verb is legal only in some states of the entry (R87). -/
def custodianState (legal : Nat) (b : Barge) (s : State) : Option Reply :=
  let o := s.custodianOrd (fld b.payload 0 1)
  if legal.testBit o then none else some (mismatchReply 5 o legal)

/-- Length of the public keys of a set of kinds. -/
def keysLength (kinds : Nat) : Nat := (if kinds.testBit 0 then 97 else 0) + (if kinds.testBit 1 then 1952 else 0)

/-- An enrolment that adds the other kind to an ENROLLED entry (R96); that a SUSPENDED one takes none is the model's choice (DESIGN
CHOICE, log entry 20). -/
def addsKind (b : Barge) (s : State) : Bool :=
  match s.custodian (fld b.payload 0 1) with
  | some c => c.state == .enrolled && c.kinds &&& fld b.payload 1 1 == 0
  | none => false

/-- Do the proofs of possession verify (R88). -/
def possession (b : Barge) (s : State) : Bool :=
  let k := fld b.payload 1 1
  let keys := sl b.payload 36 (keysLength k)
  let e : Bool := k.testBit 0
  let msg := ascii "DX8300 enrol" ++ be 8 s.ctr.moduleId.toNat ++ be 1 (fld b.payload 0 1) ++ fit 48 (Config.sha384 keys)
  let pops := b.payload.drop (36 + keysLength k)
  (!e || verify384 (sl keys 0 97) msg (sl pops 0 96)) &&
    (!k.testBit 1 || verifyMldsa (sl keys (if e then 97 else 0) 1952) msg (sl pops (if e then 96 else 0) 3309))

/-- The entry that an enrolment adds a kind to keeps its roles and label (R96). -/
def sameEntry (b : Barge) (s : State) : Bool :=
  match s.custodian (fld b.payload 0 1) with
  | some c => !addsKind b s || (c.roles == fld b.payload 2 1 && c.label == sl b.payload 4 32)
  | none => true

/-- CUSTODIAN_ENROL (R83, R85, R88, R96). A proof of possession that does not verify is AUTH_FAIL, a status the spec does not name
here (DESIGN CHOICE, log entry 20). -/
def custodianEnrolVerb : Verb where
  opcode := 0x0201
  changing := true
  sender b _ := b.slice == 0
  role _ s := if s.cus.established then some 0 else none
  fmt b s := firstCode
    [wellFormed (36 ≤ b.payload.length), wellFormed (fld b.payload 0 1 < 64), reservedBits b s 1 1 7 2,
     wellFormed (fld b.payload 1 1 % 4 != 0), reservedBits b s 2 1 7 7,
     lenIs b (36 + keysLength (fld b.payload 1 1) + sigLength (fld b.payload 1 1)), reserved b s 3 1,
     wellFormed (sameEntry b s)]
  state b s :=
    if (s.custodian (fld b.payload 0 1)).isSome && !addsKind b s && s.cus.custodians.length < 64 then
      some (mismatchReply 5 (s.custodianOrd (fld b.payload 0 1)) 4)
    else none
  run b s :=
    let i := fld b.payload 0 1
    let k := fld b.payload 1 1
    let roles := fld b.payload 2 1
    let ec := if k.testBit 0 then sl b.payload 36 97 else []
    let ml := if k.testBit 1 then sl b.payload (36 + ec.length) 1952 else []
    match s.custodian i with
    | some c =>
      if !addsKind b s then refuse s stRoleFull (be 1 0xFF ++ zeros 3)
      else if !possession b s then fail s stAuthFail
      else
        let c := { c with kinds := c.kinds + k, ecdsaKey := if k.testBit 0 then ec else c.ecdsaKey,
                          mldsaKey := if k.testBit 1 then ml else c.mldsaKey }
        doneWith (s.setCustodian i (some c)).custodyStep [] [.custodian i false]
    | none =>
      match s.roleOverfull roles with
      | some r => { st := s, reply := roleReply stRoleFull r }
      | none =>
        if !possession b s then fail s stAuthFail
        else
          let c : Custodian := { label := sl b.payload 4 32, kinds := k, ecdsaKey := ec, mldsaKey := ml, roles := roles,
                                 state := .enrolled }
          doneWith (s.setCustodian i (some c)).custodyStep [] [.custodian i false]

/-- CUSTODIAN_ENROL. -/
def execCustodianEnrol (b : Barge) (s : State) : Host.Outcome State Fault Refusal := verbStep custodianEnrolVerb b s

/-- CUSTODIAN_SUSPEND (R87). -/
def custodianSuspendVerb : Verb where
  opcode := 0x0202
  changing := true
  destructive _ _ := true
  unestablished := false
  sender b _ := b.slice == 0
  role _ _ := some 0
  fmt b s := indexPayload b s
  state b s := custodianState 1 b s
  run b s :=
    let i := fld b.payload 0 1
    match s.custodian i with
    | none => mismatch s 5 2 1
    | some c =>
      match s.roleShort c.roles with
      | some r => { st := s, reply := roleReply stQuorumUnreachable r }
      | none => doneWith (s.suspend i c) [] (.custodian i true :: s.approvedBy i)

/-- CUSTODIAN_SUSPEND. -/
def execCustodianSuspend (b : Barge) (s : State) : Host.Outcome State Fault Refusal := verbStep custodianSuspendVerb b s

/-- CUSTODIAN_REINSTATE (R87). -/
def custodianReinstateVerb : Verb where
  opcode := 0x0203
  changing := true
  unestablished := false
  sender b _ := b.slice == 0
  role _ _ := some 0
  fmt b s := indexPayload b s
  state b s := custodianState 2 b s
  run b s :=
    let i := fld b.payload 0 1
    match s.custodian i with
    | none => mismatch s 5 2 2
    | some c =>
      match s.roleOverfull c.roles with
      | some r => { st := s, reply := roleReply stRoleFull r }
      | none => doneWith (s.setCustodian i (some { c with state := .enrolled, fails := 0 })).custodyStep [] [.custodian i false]

/-- CUSTODIAN_REINSTATE. -/
def execCustodianReinstate (b : Barge) (s : State) : Host.Outcome State Fault Refusal := verbStep custodianReinstateVerb b s

/-- CUSTODIAN_REVOKE (R87). -/
def custodianRevokeVerb : Verb where
  opcode := 0x0204
  changing := true
  destructive _ _ := true
  unestablished := false
  sender b _ := b.slice == 0
  role _ _ := some 0
  fmt b s := indexPayload b s
  state b s := custodianState 3 b s
  run b s :=
    let i := fld b.payload 0 1
    match s.custodian i with
    | none => mismatch s 5 2 3
    | some c =>
      match if c.state = .enrolled then s.roleShort c.roles else none with
      | some r => { st := s, reply := roleReply stQuorumUnreachable r }
      | none =>
        doneWith ((s.setCustodian i none).withdrawApprovals i).custodyStep [] (.custodian i true :: s.approvedBy i)

/-- CUSTODIAN_REVOKE. -/
def execCustodianRevoke (b : Barge) (s : State) : Host.Outcome State Fault Refusal := verbStep custodianRevokeVerb b s

/-- CUSTODIAN_READ: index, kinds, roles, state, label and keys (R83; log entry 20). -/
def custodianReadVerb : Verb where
  opcode := 0x0205
  maxReply := 2085
  unestablished := false
  anyPair := true
  sender b _ := b.slice == 0
  fmt b s := indexPayload b s
  state b s := custodianState 3 b s
  run b s :=
    let i := fld b.payload 0 1
    match s.custodian i with
    | none => mismatch s 5 2 3
    | some c =>
      done s (be 1 i ++ be 1 c.kinds ++ be 1 c.roles ++ be 1 c.state.ord ++ fit 32 c.label ++
        (if c.kinds.testBit 0 then fit 97 c.ecdsaKey else []) ++ (if c.kinds.testBit 1 then fit 1952 c.mldsaKey else []))

/-- CUSTODIAN_READ. -/
def execCustodianRead (b : Barge) (s : State) : Host.Outcome State Fault Refusal := verbStep custodianReadVerb b s

/-- The first role below its quorum (R88). -/
def State.roleBelow (s : State) : Option Nat := (List.range 7).find? fun r => s.holders r < s.quorum r

/-- CUSTODY_ESTABLISH (R88). -/
def custodyEstablishVerb : Verb where
  opcode := 0x0206
  changing := true
  sender b _ := b.slice == 0
  role _ _ := some 0
  fmt b _ := lenIs b 0
  state _ s := if s.cus.established then some (mismatchReply 2 1 1) else none
  run _ s :=
    match s.roleBelow with
    | some r => { st := s, reply := roleReply stQuorumUnreachable r }
    | none => doneWith { s with cus := { s.cus with established := true } } [] [.established]

/-- CUSTODY_ESTABLISH. -/
def execCustodyEstablish (b : Barge) (s : State) : Host.Outcome State Fault Refusal := verbStep custodyEstablishVerb b s

/-! ## Approving, withdrawing and reading a ballot -/

/-- NOT_PRIMARY for a mirrored ballot, and STATE_MISMATCH outside the legal states (R94). -/
def ballotState (legal : Nat) (b : Barge) (s : State) : Option Reply :=
  match s.ballot (fld b.payload 0 8) with
  | none => none
  | some x =>
    if !s.tow.pair.serves && !x.isLocal then some ⟨stNotPrimary, []⟩
    else if legal.testBit x.state.ord then none
    else some (mismatchReply 4 x.state.ord legal)

/-- The kinds of an approval are those of the custodian's credential (R96). -/
def kindsMatch (b : Barge) (s : State) : Bool :=
  match s.custodian (fld b.payload 8 1) with
  | some c => c.kinds == fld b.payload 9 1
  | none => true

/-- BALLOT_APPROVE (R86, R91, R92). -/
def ballotApproveVerb : Verb where
  opcode := 0x0211
  maxReply := 16
  changing := true
  anyPair := true
  recovery b := b.slice == 0
  sender b _ := b.slice == 0
  fmt b s := firstCode
    [wellFormed (12 ≤ b.payload.length), wellFormed (fld b.payload 8 1 < 64), reservedBits b s 9 1 7 2,
     lenIs b (12 + sigLength (fld b.payload 9 1)), reserved b s 10 2, wellFormed (kindsMatch b s)]
  state b s := ballotState 3 b s
  run b s :=
    let id := fld b.payload 0 8
    let i := fld b.payload 8 1
    match s.ballot id, s.custodian i with
    | none, _ => fail s stHandle
    | some _, none => mismatch s 5 2 1
    | some x, some c =>
      if c.state ≠ .enrolled then mismatch s 5 c.state.ord 1
      else if !c.roles.testBit x.role || c.holdOff.isSome then fail s stNotAuthorised
      else if !custodianSigned c (ascii "DX8300 approve" ++ fit 48 x.bd ++ be 1 i) (b.payload.drop 12) then
        { st := s.failedApproval i c, reply := ⟨stAuthFail, []⟩, touch := .custodian i false :: if c.fails + 1 < 8 then [] else s.approvedBy i }
      else
        let y := ({ x with approvals := x.approvals.put i (s.now + x.window * 1000000000) }).settled s.cus.custodians s.now
        let s := (s.setCustodian i (some { c with fails := 0 })).setBallot id y
        doneWith s (ballotReply id y s.cus.custodians s.now) [.custodian i false, .ballot id false]

/-- BALLOT_APPROVE. -/
def execBallotApprove (b : Barge) (s : State) : Host.Outcome State Fault Refusal := verbStep ballotApproveVerb b s

/-- BALLOT_WITHDRAW, by the proposing session only (R94, R96). -/
def ballotWithdrawVerb : Verb where
  opcode := 0x0213
  maxReply := 16
  changing := true
  destructive _ _ := true
  anyPair := true
  recovery b := b.slice == 0
  sender b s := b.slice == 0 && (match s.ballot (fld b.payload 0 8) with
    | some x => x.proposer == b.session
    | none => true)
  fmt b _ := lenIs b 8
  state b s := ballotState 3 b s
  run b s :=
    let id := fld b.payload 0 8
    match s.ballot id with
    | none => fail s stHandle
    | some x => doneWith (s.endBallot id x .withdrawn) [] [.ballot id true]

/-- BALLOT_WITHDRAW. -/
def execBallotWithdraw (b : Barge) (s : State) : Host.Outcome State Fault Refusal := verbStep ballotWithdrawVerb b s

/-- BALLOT_STATUS (R94). -/
def ballotStatusVerb : Verb where
  opcode := 0x0214
  maxReply := 16
  anyPair := true
  recovery b := b.slice == 0
  sender b _ := b.slice == 0
  fmt b _ := lenIs b 8
  state b s := ballotState 63 b s
  run b s :=
    match s.ballot (fld b.payload 0 8) with
    | none => fail s stHandle
    | some x => done s (ballotReply (fld b.payload 0 8) x s.cus.custodians s.now)

/-- BALLOT_STATUS. -/
def execBallotStatus (b : Barge) (s : State) : Host.Outcome State Fault Refusal := verbStep ballotStatusVerb b s

/-- APPROVAL_EXPIRE: an approval's window ends (R92). -/
def execApprovalExpire (ballot custodian : Nat) (s : State) : Host.Outcome State Fault Refusal :=
  match s.cus.ballots.find ballot with
  | none => .next s
  | some x =>
    match x.approvals.find custodian with
    | none => .next s
    | some t =>
      if x.state.terminal then .next s
      else
        let s1 := s.upTo t
        .next ((s1.setBallot ballot (({ x with approvals := x.approvals.del custodian }).settled s1.cus.custodians s1.now)).mirror s
          [.ballot ballot false])

/-- BALLOT_EXPIRE: 3,600 s from the proposal (R94). -/
def execBallotExpire (ballot : Nat) (s : State) : Host.Outcome State Fault Refusal :=
  match s.cus.ballots.find ballot with
  | none => .next s
  | some x =>
    if x.state.terminal then .next s
    else .next (((s.upTo x.expires).endBallot ballot x .expired).mirror s [.ballot ballot false])

/-- BALLOT_RECORD_DISCARD: 600 s after a terminal state (R94). -/
def execBallotRecordDiscard (ballot : Nat) (s : State) : Host.Outcome State Fault Refusal :=
  match s.cus.ballots.find ballot with
  | none => .next s
  | some x =>
    if x.state.terminal then
      let s := s.upTo x.dropAt
      .next { s with cus := { s.cus with ballots := s.cus.ballots.del ballot } }
    else .next s

/-- HOLD_OFF_END: the custodian's count restarts at 0 (R86). -/
def execHoldOffEnd (custodian : Nat) (s : State) : Host.Outcome State Fault Refusal :=
  match s.custodian custodian with
  | none => .next s
  | some c =>
    match c.holdOff with
    | none => .next s
    | some t =>
      .next (((s.upTo t).setCustodian custodian (some { c with holdOff := none, fails := 0 })).mirror s
        [.custodian custodian false])

/-! ## Slices (R97 to R101) -/

/-- The slice a family 0x02 slice verb targets. -/
def targetSlice (b : Barge) : Nat := fld b.payload 0 2 % 4096

/-- A slice verb's sender: slice 0, targeting another slice (R96). -/
def sliceSender (b : Barge) (_ : State) : Bool := b.slice == 0 && targetSlice b != 0

/-- A slice entry as it stands now: a restore whose 600 s have run is abandoned, and its slice ABSENT (R105). -/
def State.sliceNow (s : State) (t : Nat) : Slice :=
  let x := s.slice t
  match x.transfer with
  | some tr => if !tr.save && tr.deadline ≤ s.now && x.state != .retired then { x with state := .absent, transfer := none } else x
  | none => x

/-- A slice verb is legal only in some states of its target (R100). -/
def sliceState (legal : Nat) (b : Barge) (s : State) : Option Reply :=
  let o := (s.sliceNow (targetSlice b)).state.ord
  if legal.testBit o then none else some (mismatchReply 3 o legal)

/-- The payload opens with a slice and two reserved bytes (R99). -/
def slicePayload (b : Barge) (s : State) (len : Nat) : Option W16 :=
  firstCode [lenIs b len, reservedBits b s 0 2 15 12, reserved b s 2 2]

/-- The limits of a quota record's fields (R99). A record above one is BAD_FORMAT, a status the spec does not name (DESIGN
CHOICE, log entry 20). -/
def quotaShape (q : Bytes) : Option W16 := wellFormed (fld q 10 2 ≤ 4096 && fld q 12 4 ≤ 4194304)

/-- The hold slice pool the chart sets, in MiB (R189). -/
def State.holdPool (s : State) : Nat :=
  match s.section_ 0x0014 with
  | r :: _ => fld r 4 4
  | [] => 24576

/-- Sum of a quota field over the other slices that exist, slice 0 apart. -/
def State.quotaSum (s : State) (but : Nat) (f : Quota → Nat) : Nat :=
  ((s.cus.slices.filter fun e => e.1 != but && e.1 != 0 && e.2.state != .absent).map fun e => f e.2.quota).foldl (· + ·) 0

/-- QUOTA_EXCEEDED where a record breaks a sum: the field's offset (R99, R107). -/
def State.quotaFail (s : State) (slice : Nat) (q : Quota) : Option Reply :=
  if 65536 - s.slice0Slots < s.quotaSum slice (·.vaultSlots) + q.vaultSlots then some ⟨stQuota, zeros 4⟩
  else if s.holdPool < s.quotaSum slice (·.holdMib) + q.holdMib then some ⟨stQuota, be 1 4 ++ zeros 3⟩ else none

/-- SLICE_CREATE (R99, R100). -/
def sliceCreateVerb : Verb where
  opcode := 0x0220
  changing := true
  unestablished := false
  sender b s := sliceSender b s
  role _ _ := some 1
  fmt b s := firstCode [slicePayload b s 20, quotaShape (sl b.payload 4 16)]
  state b s :=
    let x := s.slice (targetSlice b)
    if x.spread.contains s.tow.pairId then some (mismatchReply 3 x.state.ord 1) else sliceState 1 b s
  run b s :=
    let t := targetSlice b
    let q := quotaOf (sl b.payload 4 16)
    match s.quotaFail t q with
    | some r => { st := s, reply := r }
    | none => doneWith (s.setSlice t { s.sliceNow t with state := .active, quota := q }) [] [.slice t false]

/-- SLICE_CREATE. -/
def execSliceCreate (b : Barge) (s : State) : Host.Outcome State Fault Refusal := verbStep sliceCreateVerb b s

/-- SLICE_SET_QUOTA (R99). The state table lists it not; it is legal in ACTIVE and FROZEN (DESIGN CHOICE, log entry 20). -/
def sliceSetQuotaVerb : Verb where
  opcode := 0x0221
  changing := true
  unestablished := false
  sender b s := sliceSender b s
  role _ _ := some 1
  fmt b s := firstCode [slicePayload b s 20, quotaShape (sl b.payload 4 16)]
  state b s := sliceState 6 b s
  run b s :=
    let t := targetSlice b
    let q := quotaOf (sl b.payload 4 16)
    match s.quotaFail t q with
    | some r => { st := s, reply := r }
    | none => doneWith (s.setSlice t { s.slice t with quota := q }) [] [.slice t false]

/-- SLICE_SET_QUOTA. -/
def execSliceSetQuota (b : Barge) (s : State) : Host.Outcome State Fault Refusal := verbStep sliceSetQuotaVerb b s

/-- The slice of a SLICE_BIND payload. -/
def bindSlice (b : Barge) : Nat := fld b.payload 4 2 % 4096

/-- Sessions bound through a binding end with it. -/
def State.endBound (s : State) (x : Binding) : State :=
  s.endSessions fun ss => ss.anchor == x.anchor && ss.principal == x.principal

/-- Sessions of this module that were authenticated through a binding or an anchor that a record has taken away end (R98). -/
def State.endUnbound (s s0 : State) : State :=
  let gone := s0.cus.bindings.filter fun x => !s.cus.bindings.contains x || (s.cus.anchors.find x.anchor).isNone
  s.endSessions fun ss => gone.any fun x => x.anchor == ss.anchor && x.principal == ss.principal && x.slice == ss.slice

/-- A keeper record as another module applies it: a custodian it suspends or revokes loses the standing approvals, and a binding or
an anchor it takes away ends the sessions authenticated through it (R87, R92, R98). -/
def State.takeKeeper (s0 : State) (bs : Bytes) : State :=
  let s := s0.applyKeeper bs
  let lost := s0.cus.custodians.keys.filter fun i =>
    (s0.custodian i).any (·.state == .enrolled) && !(s.custodian i).any (·.state == .enrolled)
  (lost.foldl State.withdrawApprovals s).endUnbound s0

/-- SLICE_BIND (R97, R98). The state table lists it not; it is legal in ACTIVE and FROZEN, and adding a binding that stands already
answers DONE and changes nothing, which the spec does not say (DESIGN CHOICE, log entry 20). -/
def sliceBindVerb : Verb where
  opcode := 0x0222
  changing := true
  destructive b _ := fld b.payload 0 1 == 1
  unestablished := false
  sender b _ := b.slice == 0 && bindSlice b != 0
  role _ _ := some 1
  fmt b s := firstCode
    [lenIs b 24, wellFormed (fld b.payload 0 1 ≤ 1 && fld b.payload 1 1 < 64), reserved b s 2 2, reservedBits b s 4 2 15 12,
     reserved b s 6 2]
  state b s :=
    let o := (s.slice (bindSlice b)).state.ord
    if Nat.testBit 6 o then none else some (mismatchReply 3 o 6)
  run b s :=
    let x : Binding := { anchor := fld b.payload 1 1, principal := sl b.payload 8 16, slice := bindSlice b }
    if fld b.payload 0 1 = 1 then
      if s.cus.bindings.contains x then
        doneWith (({ s with cus := { s.cus with bindings := s.cus.bindings.filter (· != x) } }).endBound x) [] [.bindings true]
      else failOpen s
    else if (s.cus.anchors.find x.anchor).isNone then failOpen s
    else if s.cus.bindings.contains x then done s []
    else if s.cus.bindings.any (fun y => y.anchor == x.anchor && y.principal == x.principal) then failOpen s
    else if 8 ≤ (s.cus.bindings.filter fun y => y.slice == x.slice).length || 16384 ≤ s.cus.bindings.length then failOpen s
    else doneWith { s with cus := { s.cus with bindings := s.cus.bindings ++ [x] } } [] [.bindings false]

/-- SLICE_BIND. -/
def execSliceBind (b : Barge) (s : State) : Host.Outcome State Fault Refusal := verbStep sliceBindVerb b s

/-- SLICE_FREEZE, never dual-controlled; a freeze of a FROZEN slice changes nothing (R95, R101). -/
def sliceFreezeVerb : Verb where
  opcode := 0x0223
  changing := true
  destructive _ _ := true
  unestablished := false
  sender b _ := targetSlice b != 0 && (b.slice == 0 || b.slice == targetSlice b)
  fmt b s := slicePayload b s 4
  state b s := sliceState 6 b s
  run b s :=
    let t := targetSlice b
    if (s.slice t).state = .frozen then done s []
    else doneWith (s.setSlice t { s.slice t with state := .frozen }) [] [.slice t true]

/-- SLICE_FREEZE. -/
def execSliceFreeze (b : Barge) (s : State) : Host.Outcome State Fault Refusal := verbStep sliceFreezeVerb b s

/-- SLICE_THAW: the handle map and a save in progress go with FROZEN (R100, R105, R106). -/
def sliceThawVerb : Verb where
  opcode := 0x0224
  changing := true
  unestablished := false
  sender b s := sliceSender b s
  role _ _ := some 1
  fmt b s := slicePayload b s 4
  state b s := sliceState 4 b s
  run b s :=
    let t := targetSlice b
    doneWith (s.setSlice t { s.slice t with state := .active, handleMap := [], transfer := none }) [] [.slice t false]

/-- SLICE_THAW. -/
def execSliceThaw (b : Barge) (s : State) : Host.Outcome State Fault Refusal := verbStep sliceThawVerb b s

/-! ## Reset and removal (R102 to R104) -/

/-- Phase 1: the generation advances, new barges are refused and the slice's sessions end. -/
def State.startDrain (s0 : State) (t : Nat) (removal : Bool) (w : Option Waiter) : State :=
  let x := s0.slice t
  let d : DrainSeq := { removal := removal, prior := x.state, oldGeneration := x.generation, deadline := s0.now + 50000000, answer := w }
  let s := s0.setSlice t { x with state := .resetting, generation := x.generation + 1, carried := none, drain := some d,
                                  transfer := none, handleMap := [], decTabs := [] }
  let s := { s with eng := { s.eng with parked := s.eng.parked.filter fun e => e.2.slice != t } }
  ((s.endSessions fun ss => ss.slice == t).removeWaiting t x.generation).mirror s0 [.generation t, .slice t true]

/-- SLICE_RESET (R102). -/
def sliceResetVerb : Verb where
  opcode := 0x0225
  changing := true
  destructive _ _ := true
  unestablished := false
  sender b s := sliceSender b s
  role _ _ := some 1
  fmt b s := slicePayload b s 4
  state b s := sliceState 6 b s
  run b s := { st := s.startDrain (targetSlice b) false (some (waiterOf b)), reply := ⟨stDone, []⟩, later := true }

/-- SLICE_RESET. -/
def execSliceReset (b : Barge) (s : State) : Host.Outcome State Fault Refusal := verbStep sliceResetVerb b s

/-- SLICE_REMOVE (R102). -/
def sliceRemoveVerb : Verb where
  opcode := 0x0226
  changing := true
  destructive _ _ := true
  unestablished := false
  sender b s := sliceSender b s
  role _ _ := some 1
  fmt b s := slicePayload b s 4
  state b s := sliceState 4 b s
  run b s := { st := s.startDrain (targetSlice b) true (some (waiterOf b)), reply := ⟨stDone, []⟩, later := true }

/-- SLICE_REMOVE. -/
def execSliceRemove (b : Barge) (s : State) : Host.Outcome State Fault Refusal := verbStep sliceRemoveVerb b s

/-- Slots that hold keys of a slice. -/
def State.keySlots (s : State) (t : Nat) : List Nat :=
  (s.vlt.slots.filter fun e => e.2.slice == t && e.2.state != .free && e.2.state != .retired).map (·.1)

/-- Phases 4 and 5: every key, cached KEK, buffer, parked job, counter block and idempotency entry of a
slice goes (R73, R102). -/
def State.emptySlice (s : State) (t : Nat) : State :=
  let s := (s.keySlots t).foldl State.eraseSlot s
  { s with
    vlt := { s.vlt with cache := s.vlt.cache.filter fun e => e.slice != t, loads := s.vlt.loads.filter fun e => e.1 != t },
    eng := { s.eng with opBufs := s.eng.opBufs.map fun e => if e.2.slice = t then (e.1, { e.2 with bytes := none }) else e,
                        parked := s.eng.parked.filter fun e => e.2.slice != t },
    whf := { s.whf with idem := s.whf.idem.filter fun e => e.1.1 != t } }

/-- Phases 3 to 7, once no barge of the old generation is left. -/
def State.finishDrain (s0 : State) (t : Nat) (d : DrainSeq) : State :=
  let touched : List Touch := (s0.keySlots t).map Touch.slotErased
  let s := s0.emptySlice t
  let x := s.slice t
  let retired : Bool := x.generation.toNat = 0xFFFFFFFF
  let s := s.setSlice t { x with drain := none, state := if retired then .retired else if d.removal then .absent else d.prior,
                                 quota := if d.removal then {} else x.quota }
  let s := if d.removal then { s with cus := { s.cus with bindings := s.cus.bindings.filter fun y => y.slice != t } } else s
  let touched := touched ++ [.slice t true] ++ (if d.removal then [.bindings true] else [])
  match d.answer with
  | some w => s.answer w ⟨stDone, []⟩ touched (touched.filterMap s0.priorOf).reverse
  | none => s.mirror s0 touched

/-- Does a barge of the old generation of a slice still run (R102). -/
def State.draining (s : State) (t : Nat) (d : DrainSeq) : Bool :=
  s.flt.barges.vals.any fun r => r.barge.slice == t && r.barge.generation == d.oldGeneration

/-- SLICE_DRAIN_DONE. -/
def execSliceDrainDone (slice : Nat) (s : State) : Host.Outcome State Fault Refusal :=
  match (s.slice slice).drain with
  | none => .next s
  | some d => if s.draining slice d then .next s else .next (s.finishDrain slice d)

/-! ## Save and restore (R105, R106; the image's layout is log entry 21) -/

/-- The migration key (R119). -/
def State.migrationKey (s : State) (f : Nat) (target : W64) (slice : Nat) (nonce : Bytes) : Bytes :=
  kdf (s.domAt f) (ascii "DX8300 migrate") (be 8 target.toNat ++ be 2 slice ++ fit 16 nonce) 256

/-- One key of an image: its old handle, slot bytes, counter top and blob. -/
def State.imageKey (s : State) (i : Nat) : Bytes :=
  let top := match s.eng.counters.find i with
    | some c => match c.ahead with
      | some a => a.2.1
      | none => c.top
    | none => match s.vlt.reservedTo.find i with
      | some h => h - 1
      | none => 0
  let bl := s.vlt.blobs.at [] i
  be 8 (s.slotHandle i).toNat ++ fit 112 (slotBytes (s.slot i)) ++ be 8 top ++ be 4 bl.length ++ bl

/-- The image of a slice: floor, nonce, and the sealed quota, bindings and keys. -/
def State.sliceImage (s : State) (t : Nat) (target : W64) (nonce : Bytes) : Bytes :=
  let x := s.slice t
  let bs := s.cus.bindings.filter fun y => y.slice == t
  let keys := s.keySlots t
  let plain := be 4 x.generation.toNat ++ quotaBytes x.quota ++ be 2 bs.length ++
    (bs.map fun y => be 1 y.anchor ++ fit 16 y.principal).flatten ++ be 4 keys.length ++ (keys.map s.imageKey).flatten
  let head := be 2 s.tow.floor ++ fit 16 nonce
  head ++ Config.gcmSeal (s.migrationKey s.tow.floor target t nonce) (zeros 12) head plain

/-- A save retires the present and the next block of a key: the source issues none of their values again. -/
def State.sealCounter (s : State) (i : Nat) : State :=
  match s.eng.counters.find i with
  | none => s
  | some c =>
    let top := match c.ahead with
      | some a => a.2.1
      | none => c.top
    { s with eng := { s.eng with counters := s.eng.counters.put i { c with next := top + 1, top := top, ahead := none } } }

/-- A chunk of a save that ends at byte n of the image: the final one ends its parked job, any other parks it again, but for one
that the MAC has passed already; a failure abandons the save (R105, R290). -/
def State.saveOn (s : State) (t : Nat) (was : Option Transfer) (key im : Bytes) (off : Nat) : Effect :=
  let c := sl im off 3584
  let n := off + c.length
  let out := be 4 im.length ++ c
  if was.any fun tr => n ≤ tr.offset then
    done (s.setSlice t { s.slice t with transfer := was.map fun tr => { tr with deadline := s.now + 600000000000 } }) out
  else if im.length ≤ n then
    let s := match was with
      | some tr => s.unpark tr.job
      | none => s
    done (s.setSlice t { s.slice t with transfer := was.map fun tr => { tr with offset := n, deadline := s.now + 600000000000 } }) out
  else
    match s.carryMac t was key im n with
    | .error r => { st := s.setSlice t { s.slice t with transfer := none }, reply := r }
    | .ok (s, job, context) =>
      let tr : Transfer := { save := true, image := im, offset := n, deadline := s.now + 600000000000, job := job, context := context }
      done (s.setSlice t { s.slice t with transfer := some tr }) out

/-- SLICE_SAVE: slice, offset and target module; total length and a chunk (R105; log entry 20). -/
def sliceSaveVerb : Verb where
  opcode := 0x0227
  maxReply := 3588
  unestablished := false
  sender b s := sliceSender b s
  role b _ := if fld b.payload 4 4 = 0 then some 1 else none
  fmt b s := slicePayload b s 16
  state b s := sliceState 4 b s
  run b s :=
    let t := targetSlice b
    let off := fld b.payload 4 4
    let target : W64 := BitVec.ofNat 64 (fld b.payload 8 8)
    if off = 0 then
      let (nonce, s) := s.draw 16
      let im := s.sliceImage t target nonce
      let s := (s.keySlots t).foldl State.sealCounter s
      s.saveOn t none (s.migrationKey s.tow.floor target t (fit 16 nonce)) im 0
    else
      match (s.slice t).transfer with
      | none => fail s stBadFormat
      | some tr =>
        if !tr.save || tr.deadline ≤ s.now || tr.image.length ≤ off then fail s stBadFormat
        else s.saveOn t (some tr) (s.migrationKey s.tow.floor target t (sl tr.image 2 16)) tr.image off

/-- SLICE_SAVE. -/
def execSliceSave (b : Barge) (s : State) : Host.Outcome State Fault Refusal := verbStep sliceSaveVerb b s

/-- Read n keys from an image's bytes: old handle, slot, counter top, blob. -/
def imageKeys (p : Bytes) : Nat → List (W64 × Slot × Nat × Bytes)
  | 0 => []
  | n + 1 =>
    (BitVec.ofNat 64 (fld p 0 8), slotOfBytes (sl p 8 112) [], fld p 120 8, sl p 132 (fld p 128 4)) ::
      imageKeys (p.drop (132 + fld p 128 4)) n

/-- Place one key of an image in a free slot (R105, R106). -/
def State.placeImageKey (s : State) (t : Nat) (k : W64 × Slot × Nat × Bytes) : Except Reply (State × W64 × Nat) :=
  let (_, x, top, bl) := k
  match s.pickSlot t with
  | .error r => .error r
  | .ok i =>
    let h := s.handleOf t ((s.slot i).epoch + 1) i
    let m := if bl.isEmpty then x.material else be 8 h.toNat ++ x.material.drop 8
    let s := s.placeKey i t x.state x.attributes x.keyType x.length x.usageLimit x.keyId x.lineage m
    .ok ({ s with vlt := { s.vlt with blobs := if bl.isEmpty then s.vlt.blobs else s.vlt.blobs.put i bl,
                                      reservedTo := if top = 0 then s.vlt.reservedTo else s.vlt.reservedTo.put i (top + 1) } }, h, i)

/-- Place every key of an image; the map of handles and the slots taken. -/
def State.placeImageKeys (s : State) (t : Nat) :
    List (W64 × Slot × Nat × Bytes) → Except Reply (State × List (W64 × W64) × List Nat)
  | [] => .ok (s, [], [])
  | k :: ks =>
    match s.placeImageKey t k with
    | .error r => .error r
    | .ok (s, h, i) =>
      match s.placeImageKeys t ks with
      | .error r => .error r
      | .ok (s, m, l) => .ok (s, (k.1, h) :: m, i :: l)

/-- A restored key's lineage follows the handle map. -/
def State.mapLineage (s : State) (m : List (W64 × W64)) (i : Nat) : State :=
  match m.find? fun e => e.1 == (s.slot i).lineage && e.1 != 0 with
  | none => s
  | some e => s.writeSlot i { s.slot i with lineage := e.2 }

/-- A restore fails or ends: the slice is ABSENT (R100, R105). -/
def State.dropRestore (s : State) (t : Nat) : State :=
  if (s.slice t).state = .retired then s else s.setSlice t { s.slice t with state := .absent, transfer := none }

/-- Carry the lineages of the restored slots over to their new handles. -/
def State.mapLineages (s : State) (m : List (W64 × W64)) (l : List Nat) : State := l.foldl (fun s i => s.mapLineage m i) s

/-- Add a binding of an image where its anchor is present, the principal is bound to no slice under that anchor and neither limit is
reached; one that would break R97 is left out (log entry 21). -/
def State.addBinding (s : State) (x : Binding) : State :=
  let bs := s.cus.bindings
  let taken : Bool := bs.any fun y => y.anchor == x.anchor && y.principal == x.principal
  if (s.cus.anchors.find x.anchor).isNone || taken || 8 ≤ (bs.filter fun y => y.slice == x.slice).length || 16384 ≤ bs.length then s
  else { s with cus := { s.cus with bindings := bs ++ [x] } }

/-- Verify and place a whole image (R97, R100, R105, R106, R211). -/
def State.restoreImage (s0 : State) (t : Nat) (im : Bytes) : Effect :=
  let f := fld im 0 2
  if s0.ctr.svn < f then fail (s0.dropRestore t) stFloor
  else
    match Config.gcmOpen (s0.migrationKey f s0.ctr.moduleId t (sl im 2 16)) (zeros 12) (sl im 0 18) (im.drop 18) with
    | none => { st := s0.dropRestore t, reply := ⟨stAuthFail, []⟩, touch := [.slice t true] }
    | some p =>
      let g := fld p 0 4
      let q := quotaOf (sl p 4 16)
      let n := fld p 20 2
      let bs := (List.range n).map fun i =>
        ({ anchor := fld p (22 + 17 * i) 1, principal := sl p (23 + 17 * i) 16, slice := t } : Binding)
      match s0.quotaFail t q with
      | some r => { st := s0.dropRestore t, reply := r, touch := [.slice t true] }
      | none =>
        let x := s0.slice t
        let s := s0.setSlice t { x with quota := q }
        match s.placeImageKeys t (imageKeys (p.drop (26 + 17 * n)) (fld p (22 + 17 * n) 4)) with
        | .error r => { st := s0.dropRestore t, reply := r, touch := [.slice t true] }
        | .ok (s, m, l) =>
          let s := s.mapLineages m l
          let gen : W32 := BitVec.ofNat 32 (min 0xFFFFFFFF (max g x.generation.toNat + 1))
          let s := s.setSlice t { x with quota := q, generation := gen, carried := some (BitVec.ofNat 32 g), transfer := none,
                                         handleMap := m, state := if gen.toNat = 0xFFFFFFFF then .retired else .frozen }
          let s := bs.foldl State.addBinding s
          doneWith s [] (l.map Touch.slot ++ [.generation t, .slice t false, .bindings false])

/-- Is a chunk the final one. -/
def finalChunk (b : Barge) : Bool := fld b.payload 2 1 % 2 == 1

/-- SLICE_RESTORE: slice, flags with bit 0 final, offset and a chunk (R105; log entry 20). -/
def sliceRestoreVerb : Verb where
  opcode := 0x0228
  changing := true
  unestablished := false
  sender b s := sliceSender b s
  role b _ := if fld b.payload 4 4 = 0 then some 1 else none
  fmt b s := firstCode
    [wellFormed (9 ≤ b.payload.length && b.payload.length ≤ 3592), reservedBits b s 0 2 15 12, reservedBits b s 2 1 7 1,
     reserved b s 3 1]
  state b s := sliceState (if fld b.payload 4 4 = 0 then 1 else 16) b s
  run b s :=
    let t := targetSlice b
    let off := fld b.payload 4 4
    let chunk := b.payload.drop 8
    let was := if off = 0 then none else (s.sliceNow t).transfer
    let have_ := (was.map (·.image)).getD []
    if have_.length ≠ off then fail s stBadFormat
    else
      let im := have_ ++ chunk
      if finalChunk b && was.isNone then s.restoreImage t im
      else
        match s.carryMac t was (s.migrationKey (fld im 0 2) s.ctr.moduleId t (sl im 2 16)) im im.length with
        | .error r => { st := s.dropRestore t, reply := r, touch := if off = 0 then [] else [.slice t true] }
        | .ok (s, job, context) =>
          if finalChunk b then (s.unpark job).restoreImage t im
          else
            let tr : Transfer :=
              { save := false, image := im, offset := im.length, deadline := s.now + 600000000000, job := job, context := context }
            let s := s.setSlice t { s.sliceNow t with state := .restoring, transfer := some tr }
            if off = 0 then doneWith s [] [.slice t false] else done s []

/-- SLICE_RESTORE. -/
def execSliceRestore (b : Barge) (s : State) : Host.Outcome State Fault Refusal := verbStep sliceRestoreVerb b s

/-- SLICE_TRANSFER_ABANDON: 600 s without a chunk (R105). -/
def execSliceTransferAbandon (slice : Nat) (s : State) : Host.Outcome State Fault Refusal :=
  match (s.slice slice).transfer with
  | none => .next s
  | some tr =>
    let s1 := s.upTo tr.deadline
    if tr.save then .next (s1.setSlice slice { s1.slice slice with transfer := none })
    else .next ((s1.dropRestore slice).mirror s [.slice slice true])

/-- SLICE_STATUS: state, generation and quota (R101; log entry 20). -/
def sliceStatusVerb : Verb where
  opcode := 0x0229
  maxReply := 24
  unestablished := false
  frozenOk := true
  sender b _ := b.slice == 0 || b.slice == targetSlice b
  fmt b s := slicePayload b s 4
  run b s :=
    let x := s.sliceNow (targetSlice b)
    done s (be 1 x.state.ord ++ zeros 3 ++ be 4 x.generation.toNat ++ quotaBytes x.quota)

/-- SLICE_STATUS. -/
def execSliceStatus (b : Barge) (s : State) : Host.Outcome State Fault Refusal := verbStep sliceStatusVerb b s

/-- SLICE_MAP_READ: slice, start_index and count; a page of at most 240 entries (R106; log entry 20). -/
def sliceMapReadVerb : Verb where
  opcode := 0x022A
  maxReply := 3848
  unestablished := false
  sender b s := sliceSender b s
  fmt b s := firstCode [slicePayload b s 12, wellFormed (fld b.payload 8 2 ≤ 240), reserved b s 10 2]
  state b s := sliceState 4 b s
  run b s :=
    let page := ((s.slice (targetSlice b)).handleMap.drop (fld b.payload 4 4)).take (fld b.payload 8 2)
    done s (be 4 (fld b.payload 4 4) ++ be 2 page.length ++ zeros 2 ++
      (page.map fun e => be 8 e.1.toNat ++ be 8 e.2.toNat).flatten)

/-- SLICE_MAP_READ. -/
def execSliceMapRead (b : Barge) (s : State) : Host.Outcome State Fault Refusal := verbStep sliceMapReadVerb b s

/-! ## Trust anchors (R97, R98) -/

/-- ANCHOR_ADD: index and certificate, an X.509 CA certificate with a P-384 key in DER (R97). An index that holds an anchor is not
replaced but refused, which the spec does not say (DESIGN CHOICE, log entry 20). -/
def anchorAddVerb : Verb where
  opcode := 0x0230
  changing := true
  unestablished := false
  sender b _ := b.slice == 0
  role _ _ := some 1
  fmt b s := firstCode
    [wellFormed (5 ≤ b.payload.length && b.payload.length ≤ 2052), wellFormed (fld b.payload 0 1 < 64), reserved b s 1 3,
     wellFormed (Config.caCertificate (b.payload.drop 4))]
  run b s :=
    let i := fld b.payload 0 1
    if (s.cus.anchors.find i).isSome then failOpen s
    else doneWith { s with cus := { s.cus with anchors := s.cus.anchors.put i (b.payload.drop 4) } } [] [.anchor i false]

/-- ANCHOR_ADD. -/
def execAnchorAdd (b : Barge) (s : State) : Host.Outcome State Fault Refusal := verbStep anchorAddVerb b s

/-- The anchor is the last that binds a principal of slice 0 (R98). -/
def State.lastAnchor (s : State) (i : Nat) : Bool :=
  s.cus.bindings.any (fun y => y.slice == 0 && y.anchor == i) &&
    !s.cus.bindings.any fun y => y.slice == 0 && y.anchor != i

/-- ANCHOR_REMOVE: the anchor with its bindings, ending the sessions they authenticated (R98). -/
def anchorRemoveVerb : Verb where
  opcode := 0x0231
  changing := true
  unestablished := false
  sender b s := b.slice == 0 && !s.lastAnchor (fld b.payload 0 1)
  role _ _ := some 1
  fmt b s := indexPayload b s
  run b s :=
    let i := fld b.payload 0 1
    if (s.cus.anchors.find i).isNone then failOpen s
    else
      let s := { s with cus := { s.cus with
          anchors := s.cus.anchors.del i, bindings := s.cus.bindings.filter fun y => y.anchor != i } }
      doneWith (s.endSessions fun ss => ss.anchor == i) [] [.anchor i true, .bindings true]

/-- ANCHOR_REMOVE. -/
def execAnchorRemove (b : Barge) (s : State) : Host.Outcome State Fault Refusal := verbStep anchorRemoveVerb b s

end Sys2Proof.Machine
end

