-- ==== Sys2Proof/Machine/Storage.lean ====
section
/-! DEFINITION. The storage key services: data keys wrapped per object, buckets, the KEK verbs and KEK
shredding (R206 to R236). -/

namespace Sys2Proof.Machine

/-! ## Wrapped object keys (R208, R209, R219, R220) -/

/-- The per-object key (R209). -/
def objectKey (bk objectId : Bytes) (gen suite : Nat) : Bytes := ckdf bk 0x4F (objectId ++ be 2 gen ++ be 1 suite)

/-- Bytes of a wrapped object key's body in use. -/
def bodyUsed (suite len : Nat) : Nat := if suite = 1 then len + 8 else len + 28

/-- suite and dek_length in range (R219). -/
def suiteOk (suite len : Nat) : Bool := (suite == 1 || suite == 2) && (len == 16 || len == 32)

/-- PARSE checks of a wrapped object key (R220). -/
def wrappedParse (w : Bytes) : Option W16 :=
  if !suiteOk (fld w 0 1) (fld w 1 1) then some stBadFormat
  else if fld w 2 2 ≠ 0 || !allZero (w.drop (4 + bodyUsed (fld w 0 1) (fld w 1 1))) then some stReserved
  else none

/-- AAD of suite 2. -/
def objectAad (objectId : Bytes) (gen : Nat) (keyId : W64) : Bytes := objectId ++ be 2 gen ++ be 8 keyId.toNat

/-- The data key in a wrapped object key under the bucket KEK of an entry, AUTH_FAIL when its integrity check fails (R220). -/
def unwrapObject (bk : Bytes) (e : CacheEntry) (objectId : Bytes) (gen : Nat) (w : Bytes) : Option Bytes :=
  let suite := fld w 0 1
  let len := fld w 1 1
  let ko := objectKey bk objectId gen suite
  let r := if suite = 1 then Config.kwpUnwrap ko (sl w 4 (len + 8))
    else Config.sivOpen ko (sl w 4 12) (objectAad objectId gen e.keyId) (sl w 16 (len + 16))
  r.bind fun k => if k.length = len then some k else none

/-- Wrap a data key under a per-object key (R219). -/
def State.wrapObject (s : State) (e : CacheEntry) (objectId : Bytes) (gen suite : Nat) (dek : Bytes) : State × Bytes :=
  let ko := objectKey (s.kekOf e) objectId gen suite
  let head := be 1 suite ++ be 1 dek.length ++ zeros 2
  if suite = 1 then (s, fit 64 (head ++ fit (dek.length + 8) (Config.kwpWrap ko dek)))
  else
    let (n, s) := s.draw 12
    (s, fit 64 (head ++ n ++ fit (dek.length + 16) (Config.sivSeal ko n (objectAad objectId gen e.keyId) dek)))

/-! ## Data-key verbs (R224) -/

/-- Format of the 32-byte head with a fixed part of n bytes and an optional blob. -/
def headParse (b : Barge) (s : State) (n : Nat) (unwrap : Bool) : Option W16 :=
  let p := b.payload
  let blob := fld p 28 1 % 2 == 1
  firstCode
    [wellFormed (32 ≤ p.length), lenIs b (32 + n + (if blob then 96 else 0)),
     wellFormed (if unwrap then fld p 26 2 == 0 else suiteOk (fld p 26 1) (fld p 27 1)),
     reservedBits b s 28 1 7 1, reserved b s 29 3, if blob then blobParse (p.drop (32 + n)) else none]

/-- The appended blob of a data-key verb with a fixed part of n bytes. -/
def headBlob (b : Barge) (n : Nat) : Option Bytes :=
  if fld b.payload 28 1 % 2 = 1 then some (sl b.payload (32 + n) 96) else none

/-- The bucket of a data-key verb (R213, R222). -/
def State.bucketOf (s : State) (b : Barge) (n mask : Nat) : State × Except Reply CacheEntry :=
  s.useKek b.slice (sl b.payload 0 16) (headBlob b n) 2 mask []

/-- Fill dek again from the stored wrapped object key, charging nothing (R218). -/
def refillGenerate (b : Barge) (s : State) (r : Reply) : Reply :=
  if r.status ≠ stDone then r
  else
    match s.bucketOf b 0 0 with
    | (_, .error r) => r
    | (s, .ok e) =>
      match unwrapObject (s.kekOf e) e (sl b.payload 16 8) (fld b.payload 24 2) (sl r.payload 8 64) with
      | some k => ⟨stDone, r.payload ++ fit 32 k⟩
      | none => ⟨stAuthFail, []⟩

/-- DK_GENERATE. -/
def dkGenerateVerb : Verb where
  opcode := 0x0401
  world := .flight
  maxReply := 104
  fmt b s := headParse b s 0 false
  refill := refillGenerate
  run b s :=
    let p := b.payload
    match s.bucketOf b 0 (atDerive + atWrap) with
    | (s, .error r) => { st := s, reply := r }
    | (s, .ok e) =>
      match s.countKek e with
      | (s, .error r) => { st := s, reply := r }
      | (s, .ok _) =>
        let (dek, s) := s.draw (fld p 27 1)
        let (s, w) := s.wrapObject e (sl p 16 8) (fld p 24 2) (fld p 26 1) dek
        done s (be 8 e.ref.toNat ++ w ++ fit 32 dek)

/-- DK_GENERATE. -/
def execDkGenerate (b : Barge) (s : State) : Host.Outcome State Fault Refusal := verbStep dkGenerateVerb b s

/-- DK_WRAP (R217, R224). -/
def dkWrapVerb : Verb where
  opcode := 0x0402
  world := .flight
  maxReply := 72
  fmt b s := firstCode
    [headParse b s 32 false, wellFormed (fld b.payload 27 1 == 32 || allZero (sl b.payload 48 16))]
  run b s :=
    let p := b.payload
    match s.bucketOf b 32 (atDerive + atWrap) with
    | (s, .error r) => { st := s, reply := r }
    | (s, .ok e) =>
      match s.countKek e with
      | (s, .error r) => { st := s, reply := r }
      | (s, .ok _) =>
        let (s, w) := s.wrapObject e (sl p 16 8) (fld p 24 2) (fld p 26 1) (sl p 32 (fld p 27 1))
        done s (be 8 e.ref.toNat ++ w)

/-- DK_WRAP. -/
def execDkWrap (b : Barge) (s : State) : Host.Outcome State Fault Refusal := verbStep dkWrapVerb b s

/-- The work of DK_UNWRAP. -/
def dkUnwrapRun (b : Barge) (s : State) : Effect :=
  let p := b.payload
  match s.bucketOf b 64 (atDerive + atUnwrap) with
  | (s, .error r) => { st := s, reply := r }
  | (s, .ok e) =>
    match unwrapObject (s.kekOf e) e (sl p 16 8) (fld p 24 2) (sl p 32 64) with
    | none => fail s stAuthFail
    | some k => done s (be 8 e.ref.toNat ++ fit 32 k)

/-- Fill dek again from the request's wrapped object key (R218). -/
def refillUnwrap (b : Barge) (s : State) (r : Reply) : Reply :=
  if r.status ≠ stDone then r
  else
    match s.bucketOf b 64 0 with
    | (_, .error r) => r
    | (s, .ok e) =>
      match unwrapObject (s.kekOf e) e (sl b.payload 16 8) (fld b.payload 24 2) (sl b.payload 32 64) with
      | some k => ⟨stDone, r.payload ++ fit 32 k⟩
      | none => ⟨stAuthFail, []⟩

/-- DK_UNWRAP. -/
def dkUnwrapVerb : Verb where
  opcode := 0x0403
  world := .flight
  maxReply := 40
  fmt b s := firstCode [headParse b s 64 true, wrappedParse (sl b.payload 32 64)]
  refill := refillUnwrap
  run := dkUnwrapRun

/-- DK_UNWRAP. -/
def execDkUnwrap (b : Barge) (s : State) : Host.Outcome State Fault Refusal := verbStep dkUnwrapVerb b s

/-- The appended blobs of a request: source or old first, then destination or new. -/
def twoBlobs (p : Bytes) (flags off : Nat) : Option Bytes × Option Bytes :=
  (if flags.testBit 0 then some (sl p off 96) else none,
   if flags.testBit 1 then some (sl p (if flags.testBit 0 then off + 96 else off) 96) else none)

/-- Format checks of two optional blobs. -/
def blobsParse (bl : Option Bytes × Option Bytes) : Option W16 := firstCode [bl.1.bind blobParse, bl.2.bind blobParse]

/-- Blobs a flag byte announces. -/
def blobCount (flags : Nat) : Nat := flags % 2 + flags / 2 % 2

/-- DK_REWRAP (R225). -/
def dkRewrapVerb : Verb where
  opcode := 0x0404
  world := .flight
  maxReply := 80
  charge := 141
  fmt b s := firstCode
    [wellFormed (112 ≤ b.payload.length), lenIs b (112 + 96 * blobCount (fld b.payload 45 1)),
     wellFormed (fld b.payload 44 1 == 1 || fld b.payload 44 1 == 2), reservedBits b s 45 1 7 2, reserved b s 46 2,
     wrappedParse (sl b.payload 48 64), blobsParse (twoBlobs b.payload (fld b.payload 45 1) 112)]
  run b s :=
    let p := b.payload
    let bl := twoBlobs p (fld p 45 1) 112
    match s.useKek b.slice (sl p 0 16) bl.1 2 (atDerive + atUnwrap) [] with
    | (s, .error r) => { st := s, reply := r }
    | (s, .ok src) =>
      match s.useKek b.slice (sl p 16 16) bl.2 2 (atDerive + atWrap) [src] with
      | (s, .error r) => { st := s, reply := r }
      | (s, .ok dst) =>
        match unwrapObject (s.kekOf src) src (sl p 32 8) (fld p 40 2) (sl p 48 64) with
        | none => fail s stAuthFail
        | some dek =>
          match s.countKek dst with
          | (s, .error r) => { st := s, reply := r }
          | (s, .ok _) =>
            let (s, w) := s.wrapObject dst (sl p 32 8) (fld p 42 2) (fld p 44 1) dek
            done s (be 8 src.ref.toNat ++ be 8 dst.ref.toNat ++ w)

/-- DK_REWRAP. -/
def execDkRewrap (b : Barge) (s : State) : Host.Outcome State Fault Refusal := verbStep dkRewrapVerb b s

/-! ## Bulk verbs (R226, R227) -/

/-- Entry i of a bulk request whose entries start at off. -/
def bulkEntry (p : Bytes) (off i : Nat) : Bytes := sl p (off + 76 * i) 76

/-- The work of DK_UNWRAP_BULK. -/
def dkUnwrapBulkRun (b : Barge) (s : State) : Effect :=
  let p := b.payload
  match s.useKek b.slice (sl p 0 16) none 2 (atDerive + atUnwrap) [] with
  | (s, .error r) => { st := s, reply := r }
  | (s, .ok e) =>
    let n := fld p 16 1
    let outs := (List.range n).map fun i =>
      let x := bulkEntry p 20 i
      match unwrapObject (s.kekOf e) e (sl x 0 8) (fld x 8 2) (sl x 12 64) with
      | some k => be 2 stDone.toNat ++ zeros 2 ++ fit 32 k
      | none => be 2 stAuthFail.toNat ++ zeros 34
    done s (be 8 e.ref.toNat ++ be 1 n ++ zeros 3 ++ outs.flatten)

/-- Fill the dek of every entry whose stored status is DONE again (R218). -/
def refillBulk (b : Barge) (s : State) (r : Reply) : Reply :=
  if r.status ≠ stDone then r
  else
    match s.useKek b.slice (sl b.payload 0 16) none 2 0 [] with
    | (_, .error r) => r
    | (s, .ok e) =>
      let out (i : Nat) : Bytes :=
        let x := bulkEntry b.payload 20 i
        let st := sl r.payload (12 + 4 * i) 4
        if num st ≠ 0 then st ++ zeros 32
        else
          match unwrapObject (s.kekOf e) e (sl x 0 8) (fld x 8 2) (sl x 12 64) with
          | some k => st ++ fit 32 k
          | none => be 2 stAuthFail.toNat ++ zeros 34
      ⟨stDone, r.payload.take 12 ++ (List.range (fld b.payload 16 1)).flatMap out⟩

/-- DK_UNWRAP_BULK. -/
def dkUnwrapBulkVerb : Verb where
  opcode := 0x0405
  world := .flight
  maxReply := 1740
  fmt b s := firstCode
    [wellFormed (20 ≤ b.payload.length), wellFormed (1 ≤ fld b.payload 16 1 && fld b.payload 16 1 ≤ 48),
     lenIs b (20 + 76 * fld b.payload 16 1), reserved b s 17 3,
     firstCode ((List.range (fld b.payload 16 1)).map fun i => reserved b s (30 + 76 * i) 2),
     firstCode ((List.range (fld b.payload 16 1)).map fun i => wrappedParse (sl (bulkEntry b.payload 20 i) 12 64))]
  refill := refillBulk
  run := dkUnwrapBulkRun

/-- DK_UNWRAP_BULK. -/
def execDkUnwrapBulk (b : Barge) (s : State) : Host.Outcome State Fault Refusal := verbStep dkUnwrapBulkVerb b s

/-- Count the wrap of an entry: the values that the barge drew before it came to wait are bound to it and are not drawn again (R223,
R284). -/
def State.countWrap (s : State) (dst : CacheEntry) (taken : Nat) : State × Except Reply Unit :=
  if taken < s.eng.taken then (s, .ok ())
  else
    match s.countKek dst with
    | (s, .error r) => (s, .error r)
    | (s, .ok _) => ({ s with eng := { s.eng with taken := taken + 1 } }, .ok ())

/-- One entry of DK_REWRAP_BULK, with the wraps counted before it: its status and new wrapped object key, counted in entry order. None
where the entry's value is not ready, which the whole barge waits for (R137, R227). -/
def State.rewrapEntry (s : State) (src dst : CacheEntry) (suite taken : Nat) (x : Bytes) : State × Option Bytes :=
  match unwrapObject (s.kekOf src) src (sl x 0 8) (fld x 8 2) (sl x 12 64) with
  | none => (s, some (be 2 stAuthFail.toNat ++ zeros 66))
  | some dek =>
    match s.countWrap dst taken with
    | (s, .error r) => (s, if r.status = stMirror then none else some (be 2 r.status.toNat ++ zeros 66))
    | (s, .ok _) =>
      let (s, w) := s.wrapObject dst (sl x 0 8) (fld x 10 2) suite dek
      (s, some (be 2 stDone.toNat ++ zeros 2 ++ w))

/-- Rewrap the entries of a bulk request one after another. -/
def State.rewrapEntries (s : State) (src dst : CacheEntry) (p : Bytes) (taken : Nat) : List Nat → State × Option Bytes
  | [] => (s, some [])
  | i :: is =>
    match s.rewrapEntry src dst (fld p 33 1) taken (bulkEntry p 36 i) with
    | (s, none) => (s, none)
    | (s, some o) =>
      match s.rewrapEntries src dst p (taken + if fld o 0 2 = stDone.toNat then 1 else 0) is with
      | (s, none) => (s, none)
      | (s, some os) => (s, some (o ++ os))

/-- DK_REWRAP_BULK. -/
def dkRewrapBulkVerb : Verb where
  opcode := 0x0406
  world := .flight
  maxReply := 3268
  charge := 141
  fmt b s := firstCode
    [wellFormed (36 ≤ b.payload.length), wellFormed (1 ≤ fld b.payload 32 1 && fld b.payload 32 1 ≤ 48),
     lenIs b (36 + 76 * fld b.payload 32 1), wellFormed (fld b.payload 33 1 == 1 || fld b.payload 33 1 == 2), reserved b s 34 2,
     firstCode ((List.range (fld b.payload 32 1)).map fun i => wrappedParse (sl (bulkEntry b.payload 36 i) 12 64))]
  run b s :=
    let p := b.payload
    match s.useKek b.slice (sl p 0 16) none 2 (atDerive + atUnwrap) [] with
    | (s, .error r) => { st := s, reply := r }
    | (s, .ok src) =>
      match s.useKek b.slice (sl p 16 16) none 2 (atDerive + atWrap) [src] with
      | (s, .error r) => { st := s, reply := r }
      | (s, .ok dst) =>
        let n := fld p 32 1
        match s.rewrapEntries src dst p 0 (List.range n) with
        | (s, none) => fail s stMirror
        | (s, some out) => done { s with eng := { s.eng with taken := 0 } } (be 1 n ++ zeros 3 ++ out)

/-- DK_REWRAP_BULK. -/
def execDkRewrapBulk (b : Barge) (s : State) : Host.Outcome State Fault Refusal := verbStep dkRewrapBulkVerb b s

/-! ## KEK verbs (R228 to R235) -/

/-- Mask of a bucket formed under its tenant: BK and seed differ by it (R209). -/
def bucketMask (tk : Bytes) (keyId : W64) : Bytes := ckdf tk 0x42 (be 8 keyId.toNat ++ zeros 3)

/-- An attribute word with another word's SCOPE (R207). -/
def withScope (a scope : W64) : W64 := BitVec.ofNat 64 (a.toNat - 2 ^ 20 * scopeOf a + 2 ^ 20 * scopeOf scope)

/-- Draw a bucket key under its tenant, with its ledger, its blob and its cache entry, loaded through that tenant (R209, R213, R215). -/
def State.formBucket (s : State) (slice : Nat) (g : W32) (keyId a : W64) (t : CacheEntry) (limit : Nat) : Effect :=
  let (bk, s) := s.draw 32
  let s := s.openLedger (kekTag slice g keyId) (s.limitOf 2 limit)
  let blob := s.kekBlob 2 keyId a t.keyId slice g (xorBytes bk (bucketMask (s.kekOf t) keyId))
  match s.cacheWrite slice g keyId a t.keyId bk (some t) [] with
  | (s, .error r) => { st := s, reply := r }
  | (s, .ok e) => done s (be 8 e.ref.toNat ++ blob ++ fingerprintOf bk keyId)

/-- BUCKET_CREATE; a use of the tenant is counted only with the blob that is written (R223, R228). -/
def bucketCreateVerb : Verb where
  opcode := 0x0410
  maxReply := 152
  fmt b s := firstCode
    [wellFormed (44 ≤ b.payload.length), lenIs b (44 + 96 * (fld b.payload 16 1 % 2)), reservedBits b s 16 1 7 1, reserved b s 17 3,
     reservedMask b s 20 attrReserved,
     if fld b.payload 16 1 % 2 = 1 then blobParse (b.payload.drop 44) else none]
  run b s0 :=
    let p := b.payload
    let bl := if fld p 16 1 % 2 = 1 then some (sl p 44 96) else none
    let a : W64 := BitVec.ofNat 64 (fld p 20 8)
    let keyId : W64 := BitVec.ofNat 64 (fld p 36 8)
    let g := (s0.slice b.slice).generation
    match s0.useKek b.slice (sl p 0 16) bl 1 (atDerive + atWrap) [] with
    | (s, .error r) => { st := s, reply := r }
    | (s, .ok t) =>
      let a := withScope a t.attributes
      if keyClass a ≠ 2 || !attrRules a 3 || s.shreddedNow b.slice keyId then fail s stAttrDenied
      else
        match s.countKek t with
        | (s, .error r) => { st := s, reply := r }
        | (u, .ok _) =>
          let e := u.formBucket b.slice g keyId (newAttributes a 3 true) t (fld p 28 8)
          if e.reply.status = stDone then e else { st := { s with draws := e.st.draws }, reply := e.reply }

/-- BUCKET_CREATE. -/
def execBucketCreate (b : Barge) (s : State) : Host.Outcome State Fault Refusal := verbStep bucketCreateVerb b s

/-- The tenant that a selector of a re-parent names is being shredded: until the sequence ends a selector that finds no entry is
refused as a name of a voided key (R235). -/
def State.beingShredded (s : State) (slice : Nat) (sel : Bytes) : Bool :=
  s.shreddedNow slice (BitVec.ofNat 64 (fld sel 8 8))

/-- BUCKET_REPARENT (R229, R235). -/
def bucketReparentVerb : Verb where
  opcode := 0x0411
  maxReply := 96
  fmt b s := firstCode
    [wellFormed (132 ≤ b.payload.length), lenIs b (132 + 96 * blobCount (fld b.payload 32 1)), reservedBits b s 32 1 7 2,
     reserved b s 33 3, blobParse (sl b.payload 36 96),
     blobsParse (twoBlobs b.payload (fld b.payload 32 1) 132)]
  run b s :=
    let p := b.payload
    let bl := sl p 36 96
    let tb := twoBlobs p (fld p 32 1) 132
    if s.beingShredded b.slice (sl p 0 16) || s.beingShredded b.slice (sl p 16 16) then fail s stHandle
    else
    match s.useKek b.slice (sl p 0 16) tb.1 1 (atDerive + atUnwrap) [] with
    | (s, .error r) => { st := s, reply := r }
    | (s, .ok old) =>
      match s.useKek b.slice (sl p 16 16) tb.2 1 (atDerive + atWrap) [old] with
      | (s, .error r) => { st := s, reply := r }
      | (s, .ok new) =>
        if fld bl 4 1 ≠ 2 || blobLineage bl ≠ old.keyId then fail s stAttrDenied
        else
          match s.openBlob b.slice bl with
          | .error r => { st := s, reply := r }
          | .ok seed =>
            match s.countKek new with
            | (s, .error r) => { st := s, reply := r }
            | (s, .ok _) =>
              let bk := xorBytes seed (bucketMask (s.kekOf old) (blobKeyId bl))
              done s (s.kekBlob 2 (blobKeyId bl) (blobAttrs bl) new.keyId b.slice (s.slice b.slice).generation
                (xorBytes bk (bucketMask (s.kekOf new) (blobKeyId bl))))

/-- BUCKET_REPARENT. -/
def execBucketReparent (b : Barge) (s : State) : Host.Outcome State Fault Refusal := verbStep bucketReparentVerb b s

/-- The live entry that a blob would load: an entry of its slice, generation, key and lineage (log entry 23). -/
def State.loadedEntry (s : State) (slice : Nat) (bl : Bytes) : Option CacheEntry :=
  s.vlt.cache.find? fun e => e.slice == slice && e.generation == blobGen bl && e.keyId == blobKeyId bl &&
    e.lineage == blobLineage bl && !e.marked && (s.kekIn e).isSome

/-- The cache loader, with the tenant entry that the load has read: a blob whose entry is live needs no second one, once it has passed the
loader's checks (R214). -/
def State.loadOnce (s : State) (slice : Nat) (bl : Bytes) (read : Option W64) : State × Except Reply CacheEntry :=
  match s.openBlob slice bl, s.loadedEntry slice bl with
  | .error r, _ => (s, .error r)
  | .ok _, some e => (s.touchEntry e, .ok e)
  | .ok _, none => s.loadBlob slice bl read []

/-- KEK_LOAD (R230). -/
def kekLoadVerb : Verb where
  opcode := 0x0412
  world := .flight
  maxReply := 16
  charge := 102
  fmt b _ := firstCode [lenIs b 96, blobParse b.payload]
  run b s :=
    match s.loadOnce b.slice b.payload none with
    | (s, .error r) => { st := s, reply := r }
    | (s, .ok e) => done s (be 8 e.ref.toNat ++ be 8 e.keyId.toNat)

/-- KEK_LOAD. -/
def execKekLoad (b : Barge) (s : State) : Host.Outcome State Fault Refusal := verbStep kekLoadVerb b s

/-- KEK_EVICT: a pinned entry, or a tenant with loaded buckets, is marked (R215, R230). -/
def kekEvictVerb : Verb where
  opcode := 0x0413
  world := .flight
  charge := 5
  fmt b _ := lenIs b 8
  run b s :=
    let ref := fld b.payload 0 8
    if !s.refOk ref || ref / 2 ^ 52 ≠ b.slice then fail s stHandle
    else
      let mark (e : CacheEntry) : CacheEntry := if e.ref.toNat = ref then { e with marked := true } else e
      let s := { s with vlt := { s.vlt with cache := s.vlt.cache.map mark } }
      done s.sweepCache []

/-- KEK_EVICT. -/
def execKekEvict (b : Barge) (s : State) : Host.Outcome State Fault Refusal := verbStep kekEvictVerb b s

/-- Cache entries that a KEK's shred invalidates: its own and, for a tenant, its buckets'. -/
def State.shredEntries (s : State) (slice : Nat) (gen : W32) (keyId : W64) : List CacheEntry :=
  s.vlt.cache.filter (kekEntry slice gen keyId)

/-- Phase 1 of a KEK shred: the register entry enters the current epoch and the domain (R233, R234). -/
def State.shredKek (s0 : State) (e : CacheEntry) (w : Waiter) : State :=
  let cls := keyClass e.attributes
  let entries := s0.shredEntries e.slice e.generation e.keyId
  let buckets := ((entries.filter fun x => x.lineage == e.keyId).map (·.keyId)).eraseDups.mergeSort fun a b => a.toNat ≤ b.toNat
  let q : ShredSeq :=
    { handle := 0, keyId := e.keyId, slice := e.slice, generation := e.generation, keyType := 3,
      flags := flag (!buckets.isEmpty) 0 + 6, fingerprint := fingerprintOf (s0.kekOf e) e.keyId,
      derivatives := buckets.map fun k => (0, k), slots := [], phase := 1, deadline := s0.now + 50000000,
      members := if s0.awaitsPartner then 2 else 1, partner := if s0.awaitsPartner then s0.tow.partner else 0,
      floor := s0.tow.floor, awaiting := s0.otherMembers, evidence := none, time := 0, waiting := [w], epoch := s0.epochNow,
      refs := entries.map (·.ref) }
  let s := { s0 with vlt := { s0.vlt with
      shredRegister := s0.vlt.shredRegister ++ [(e.slice, cls, e.generation, e.keyId)],
      shreds := s0.vlt.shreds.put s0.nextShred q } }
  let s := s.mirror s0 [.shred e.slice cls e.generation e.keyId, .sequence s0.nextShred]
  if s.inDomain then s.domainChange 2 (be 2 e.slice ++ be 1 cls ++ zeros 1 ++ be 4 e.generation.toNat ++ be 8 e.keyId.toNat) true else s

/-- KEK_SHRED (R233, R235). -/
def kekShredVerb : Verb where
  opcode := 0x0414
  maxReply := 12
  changing := true
  destructive _ _ := true
  fmt b s := firstCode
    [wellFormed (20 ≤ b.payload.length), lenIs b (20 + 96 * (fld b.payload 16 1 % 2)), reservedBits b s 16 1 7 1, reserved b s 17 3,
     if fld b.payload 16 1 % 2 = 1 then blobParse (b.payload.drop 20) else none]
  run b s :=
    let p := b.payload
    let keyId : W64 := BitVec.ofNat 64 (fld p 8 8)
    let bl := if fld p 16 1 % 2 = 1 then some (sl p 20 96) else none
    let x := s.slice b.slice
    match s.vlt.shreds.find? fun e => e.2.handle == 0 && e.2.slice == b.slice && e.2.keyId == keyId &&
        (e.2.generation == x.generation || some e.2.generation == x.carried) with
    | some (n, q) => joinShred b s n q
    | none =>
      match s.selectKek b.slice (sl p 0 16) bl (Config.freeNat s.draws % 256) [] with
      | (s, .error r) => { st := s, reply := r }
      | (s, .ok e) =>
        let s := if s.registerFree = 0 then s.pruneRegister else s
        if s.registerFree = 0 then refuse s stQuota (be 1 0xFF ++ zeros 3)
        else { st := s.shredKek e (waiterOf b), reply := ⟨stDone, []⟩, later := true }

/-- KEK_SHRED. -/
def execKekShred (b : Barge) (s : State) : Host.Outcome State Fault Refusal := verbStep kekShredVerb b s

/-- The cache loader has run for barges: 36 block operations on a shuffled core, 3 more for a bucket that is formed, and one HMAC.
Those of a KEK_LOAD are its own job's (R214, R236). -/
def State.loaderJob (s : State) (barges : List Nat) (bucket : Bool) : State :=
  let s := s.hmacJob
  if barges.any fun n => (s.flt.barges.find n).any fun r => r.barge.opcode == 0x0412 then s
  else s.shuffledJob ((kindNumbers .shuffled).filter (s.serves .shuffled)) { blocks := if bucket then 39 else 36 }

/-- CACHE_LOAD_DONE: the load a barge began writes its entry, in one step with the shred register and
generation checks, and every barge that waits on the same load uses it (R214). -/
def execCacheLoadDone (barge : Nat) (s : State) : Host.Outcome State Fault Refusal :=
  match s.vlt.loads.find? fun l => l.2.1 == barge with
  | none => .next s
  | some (slice, _, bl, read) =>
    let waiting := s.vlt.loads.filter fun l => l.1 == slice && l.2.2.1 == bl
    let s := { s with vlt := { s.vlt with loads := s.vlt.loads.filter fun l => !(l.1 == slice && l.2.2.1 == bl) } }
    let at_ := waiting.map (·.2.1)
    match s.loadOnce slice bl read with
    | (s, .error r) =>
      let s := s.loaderJob at_ false
      .next { s with flt := { s.flt with barges := waiting.foldl (fun m l => m.mod l.2.1 fun x => { x with reply := some r }) s.flt.barges } }
    | (s, .ok e) =>
      let s := s.loaderJob at_ (fld bl 4 1 = 2)
      .next { s with
        flt := { s.flt with barges := waiting.foldl (fun m l => m.mod l.2.1 fun x => { x with pinned := x.pinned ++ [e.ref] }) s.flt.barges },
        vlt := { s.vlt with cache := s.vlt.cache.map fun x => if x.ref == e.ref then { x with pins := x.pins + waiting.length } else x } }

end Sys2Proof.Machine
end

