-- ==== Sys2Proof/Machine/Payment.lean ====
section
/-! DEFINITION. The payment services of family 0x05: PIN blocks, DUKPT, PIN verification, card values, EMV
cryptograms, MACs and key blocks (R237 to R270). -/

namespace Sys2Proof.Machine

/-! ## Payment keys (R238 to R240) -/

/-- KB_USAGE as two ASCII characters. -/
def kbUsage (a : W64) : Nat := bits a.toNat 47 32
/-- KB_MODE as one ASCII character. -/
def kbMode (a : W64) : Nat := bits a.toNat 55 48

/-- A usage by its two characters. -/
def usage (s : String) : Nat := num (ascii s)

/-- AES key types. -/
def aesType (t : Nat) : Bool := 1 ≤ t && t ≤ 3
/-- TDES key types. -/
def tdesType (t : Nat) : Bool := t == 4 || t == 5

/-- POLICY of one payment key: class, type, usage and attribute bits (R238, R239). -/
def State.payKey (s : State) (slice h cls : Nat) (types : Nat → Bool) (usages : List Nat) (mask : Nat) : Except Reply Nat :=
  match s.named slice h with
  | .error r => .error r
  | .ok i =>
    let x := s.slot i
    if keyClass x.attributes = cls && types x.keyType && (kbUsage x.attributes == 0 || usages.contains (kbUsage x.attributes)) &&
        allows x.attributes mask then .ok i
    else .error attrDenied

/-- KEYFETCH of two keys in field order. -/
def State.fetch2 (s : State) (i j : Nat) : State × Except Reply (Bytes × Bytes) :=
  match s.fetch i with
  | (s, .error r) => (s, .error r)
  | (s, .ok a) =>
    match s.fetch j with
    | (s, .error r) => (s, .error r)
    | (s, .ok b) => (s, .ok (a, b))

/-- One block operation under a payment key. -/
def blockEnc (type : Nat) (key x : Bytes) : Bytes :=
  if aesType type then fit 16 (Config.aesEnc key (fit 16 x)) else fit 8 (Config.tdesEnc key (fit 8 x))

/-- One inverse block operation. -/
def blockDec (type : Nat) (key x : Bytes) : Bytes :=
  if aesType type then fit 16 (Config.aesDec key (fit 16 x)) else fit 8 (Config.tdesDec key (fit 8 x))

/-! ## Nibbles and PANs -/

/-- Nibbles, the most significant first. -/
def nibbles (bs : Bytes) : List Nat := (bs.map fun x => [x.toNat / 16, x.toNat % 16]).flatten

/-- Nibbles packed in bytes. -/
def packNibbles : List Nat → Bytes
  | a :: b :: t => BitVec.ofNat 8 (a * 16 + b) :: packNibbles t
  | [a] => [BitVec.ofNat 8 (a * 16)]
  | [] => []

/-- A BCD field of 10 bytes holds n digits, right-aligned with zero nibbles before them (R247). -/
def panOk (p : Bytes) (n : Nat) : Bool :=
  n ≤ 20 && (nibbles p).all (· ≤ 9) && ((nibbles p).take (20 - n)).all (· == 0)

/-- The n PAN digits of a BCD field. -/
def panDigits (p : Bytes) (n : Nat) : List Nat := (nibbles p).drop (20 - n)

/-- Decimal digits of a number, most significant first, at most n. -/
def decimals (v : Nat) : Nat → List Nat
  | 0 => []
  | n + 1 => if v = 0 then [] else decimals (v / 10) n ++ [v % 10]

/-! ## PIN blocks (R242 to R246) -/

/-- The 12 rightmost PAN digits without the check digit. -/
def pan12 (pan : List Nat) : List Nat := let d := pan.dropLast; d.drop (d.length - 12)

/-- The PAN field of a format; empty for format 1. -/
def panField (format : Nat) (pan : List Nat) : Bytes :=
  if format = 4 then packNibbles (((pan.length - 12) :: pan) ++ List.replicate (31 - pan.length) 0)
  else if format = 1 then zeros 8
  else packNibbles ([0, 0, 0, 0] ++ pan12 pan)

/-- The PIN field inside an encrypted block. -/
def decryptPin (format type : Nat) (key pf block : Bytes) : Bytes :=
  if format = 4 then blockDec type key (xorBytes (blockDec type key block) pf) else xorBytes (blockDec type key block) pf

/-- An encrypted block from its PIN field. -/
def encryptPin (format type : Nat) (key pf field : Bytes) : Bytes :=
  if format = 4 then blockEnc type key (xorBytes (blockEnc type key field) pf) else blockEnc type key (xorBytes field pf)

/-- The checks of R243; the PIN digits when all pass. -/
def pinOf (format : Nat) (field : Bytes) : Option (List Nat) :=
  let x := nibbles field
  let n := x.getD 1 0
  let pin := (x.drop 2).take n
  let fill := (x.take 16).drop (2 + n)
  let fillOk : Bool :=
    if format = 0 then fill.all (· == 15) else if format = 3 then fill.all (10 ≤ ·)
    else if format = 4 then fill.all (· == 10) else true
  if x.getD 0 0 = format && 4 ≤ n && n ≤ 12 && pin.all (· ≤ 9) && fillOk then some pin else none

/-- A PIN field with fresh fill (R242). -/
def pinField (format : Nat) (pin : List Nat) (rnd : Bytes) : Bytes :=
  let head := format :: pin.length :: pin
  let r := nibbles rnd
  if format = 0 then packNibbles (head ++ List.replicate (14 - pin.length) 15)
  else if format = 1 then packNibbles (head ++ r.take (14 - pin.length))
  else if format = 3 then packNibbles (head ++ (r.take (14 - pin.length)).map fun v => 10 + v % 6)
  else packNibbles (head ++ List.replicate (14 - pin.length) 10) ++ rnd

/-- Count a FORMAT_CHECK_FAIL of a slice; with more than 1,000 within 1 s PAY_FMT_STORM is raised, at most once per second
(R246). -/
def State.formatFail (s : State) (slice : Nat) : Effect :=
  let x := s.slice slice
  let times := within s.now 1000000000 x.storm ++ [s.now]
  let kept := times.drop (times.length - 1001)
  let quiet : Bool := match x.stormAt with
    | some t => t + 1000000000 ≤ s.now
    | none => true
  if 1000 < times.length && quiet then
    fail ((s.setSlice slice { x with storm := kept, stormAt := some s.now }).raise 66 noInst slice 0 0) stFormatCheck
  else fail (s.setSlice slice { x with storm := kept }) stFormatCheck

/-- Formats a request may name. -/
def pinFormat (f : Nat) : Bool := f == 0 || f == 1 || f == 3 || f == 4

/-- PAN length rule of R244 for two formats. -/
def panLengthOk (f g n : Nat) : Bool :=
  if f == 1 && g == 1 then n == 0
  else if f == 0 || f == 3 || g == 0 || g == 3 then 13 ≤ n && n ≤ 19
  else 12 ≤ n && n ≤ 19

/-- Key types a format takes (R244). -/
def formatType (f t : Nat) : Bool := if f = 4 then aesType t else tdesType t

/-- Bits set in a counter. -/
def popCount (v n : Nat) : Nat := ((List.range n).filter fun i => v.testBit i).length

/-- PARSE rules of a source kind, its format and its KSN (R247, R250, R251). -/
def kindParse (b : Barge) (s : State) (kind format ksnOff : Nat) : Option W16 :=
  let ksn := sl b.payload ksnOff 12
  if kind = 0 then reserved b s ksnOff 12
  else if kind = 1 then
    firstCode
      [wellFormed (format != 4 && fld ksn 0 10 % 2 ^ 21 != 0 && popCount (fld ksn 0 10) 21 ≤ 10), reserved b s (ksnOff + 10) 2]
  else wellFormed (kind ≤ 3 && format == 4 && fld ksn 8 4 != 0 && popCount (fld ksn 8 4) 32 ≤ 16)

/-- POLICY of a PIN source: a PIN encryption key, or a BDK under a kind (R238, R239, R244, R250, R251). -/
def State.pinSource (s : State) (slice h kind format : Nat) (ksn : Bytes) (mask : Nat) : Except Reply Nat :=
  if kind = 0 then s.payKey slice h 4 (formatType format) [usage "P0"] mask
  else
    match s.payKey slice h 3 (fun t => t == (if kind = 1 then 4 else if kind = 2 then 1 else 3)) [usage "B0"]
        (atDukptBase + atDerive) with
    | .error r => .error r
    | .ok i => if kind = 1 || fld ksn 0 4 = (s.slot i).keyId.toNat % 2 ^ 32 then .ok i else .error attrDenied

/-- The key under which a source block stands (R250 to R252). -/
def sourceKey (kind : Nat) (key ksn : Bytes) : Bytes :=
  if kind = 1 then fit 16 (Config.dukptTdes key (sl ksn 0 10))
  else if kind = 0 then key else fit key.length (Config.dukptAes key ksn)

/-- What a translation answers from its new block and destination key. -/
def translateReply (block : Bytes) (x : Slot) (key : Bytes) : Bytes := fit 16 block ++ kcvOf x.keyType key ++ zeros 1

/-- One translation (R242 to R247): POLICY of both keys, KEYFETCH, decryption and checks, a count against the
destination, fresh fill. -/
def State.translate (s : State) (slice src dst kind f g : Nat) (pan : List Nat) (ksn block : Bytes)
    (reply : Bytes → Slot → Bytes → Bytes) : Effect :=
  match s.pinSource slice src kind f ksn atPinTranslate with
  | .error r => { st := s, reply := r }
  | .ok i =>
    match s.payKey slice dst 4 (formatType g) [usage "P0"] atPinEncrypt with
    | .error r => { st := s, reply := r }
    | .ok j =>
      match s.fetch2 i j with
      | (s, .error r) => { st := s, reply := r }
      | (s, .ok (ks, kd)) =>
        match s.countSlot j kd with
        | (s, .error r) => { st := s, reply := r }
        | (counted, .ok _) =>
          match pinOf f (decryptPin f (s.slot i).keyType (sourceKey kind ks ksn) (panField f pan) block) with
          | none => s.formatFail slice
          | some pin =>
            let (rnd, s) := counted.draw 8
            done s (reply (encryptPin g (s.slot j).keyType kd (panField g pan) (pinField g pin rnd)) (s.slot j) kd)

/-- PARSE of the 0x0501 layout. -/
def translateParse (b : Barge) (s : State) : Option W16 :=
  let p := b.payload
  firstCode
    [lenIs b 60, wellFormed (pinFormat (fld p 16 1) && pinFormat (fld p 17 1)),
     wellFormed (fld p 17 1 != 1 || fld p 16 1 == 1), wellFormed (panLengthOk (fld p 16 1) (fld p 17 1) (fld p 19 1)),
     wellFormed (panOk (sl p 20 10) (fld p 19 1)), reserved b s 30 2, kindParse b s (fld p 18 1) (fld p 16 1) 32,
     if fld p 16 1 = 4 then none else reserved b s 52 8]

/-- The work of the 0x0501 layout. -/
def translateRun (b : Barge) (s : State) : Effect :=
  let p := b.payload
  s.translate b.slice (fld p 0 8) (fld p 8 8) (fld p 18 1) (fld p 16 1) (fld p 17 1) (panDigits (sl p 20 10) (fld p 19 1))
    (sl p 32 12) (sl p 44 16) translateReply

/-- PIN_TRANSLATE (R247). -/
def pinTranslateVerb : Verb where
  opcode := 0x0501
  world := .flight
  maxReply := 20
  charge := 250
  fmt := translateParse
  run := translateRun

/-- PIN_TRANSLATE. -/
def execPinTranslate (b : Barge) (s : State) : Host.Outcome State Fault Refusal := verbStep pinTranslateVerb b s

/-- PIN_TRANSLATE_4 (R248). -/
def pinTranslate4Verb : Verb where
  opcode := 0x0502
  world := .flight
  maxReply := 16
  charge := 250
  fmt b _ := firstCode [lenIs b 40, wellFormed (10 ^ 11 ≤ fld b.payload 16 8 && fld b.payload 16 8 < 10 ^ 19)]
  run b s :=
    let p := b.payload
    s.translate b.slice (fld p 0 8) (fld p 8 8) 0 4 4 (decimals (fld p 16 8) 20) [] (sl p 24 16) fun blk _ _ => fit 16 blk

/-- PIN_TRANSLATE_4. -/
def execPinTranslate4 (b : Barge) (s : State) : Host.Outcome State Fault Refusal := verbStep pinTranslate4Verb b s

/-- The 12 ASCII digits of a DX6100 translation as a PAN with a check digit 0 (R249). -/
def asciiPan (p : Bytes) : List Nat := (p.map fun c => c.toNat - 0x30) ++ [0]

/-- PIN_TRANSLATE_DX6100 (R249). -/
def pinTranslateDx6100Verb : Verb where
  opcode := 0x0581
  world := .flight
  maxReply := 16
  charge := 150
  fmt b _ :=
    let p := b.payload
    let f := fld p 16 1
    let g := fld p 17 1
    firstCode
      [lenIs b 40, wellFormed (pinFormat f && f != 4 && pinFormat g && g != 4 && (g != 1 || f == 1)),
       wellFormed (f == 1 && g == 1 || (sl p 20 12).all fun c => 0x30 ≤ c.toNat && c.toNat ≤ 0x39)]
  run b s :=
    let p := b.payload
    s.translate b.slice (fld p 0 8) (fld p 8 8) 0 (fld p 16 1) (fld p 17 1) (asciiPan (sl p 20 12)) [] (sl p 32 8)
      fun blk x k => fit 8 blk ++ kcvOf x.keyType k ++ zeros 5

/-- PIN_TRANSLATE_DX6100. -/
def execPinTranslateDx6100 (b : Barge) (s : State) : Host.Outcome State Fault Refusal := verbStep pinTranslateDx6100Verb b s

/-- PIN_TRANSLATE_DUKPT_DX6100: the layout of 0x0501 with src_kind 1 (R270). -/
def pinTranslateDukptDx6100Verb : Verb where
  opcode := 0x0582
  world := .flight
  maxReply := 20
  charge := 2625
  fmt b s := firstCode [translateParse b s, wellFormed (fld b.payload 18 1 == 1)]
  run := translateRun

/-- PIN_TRANSLATE_DUKPT_DX6100. -/
def execPinTranslateDukptDx6100 (b : Barge) (s : State) : Host.Outcome State Fault Refusal :=
  verbStep pinTranslateDukptDx6100Verb b s

/-! ## PIN verification (R253 to R256) -/

/-- A decimalisation table of a slice; table 0 is fixed (R256). -/
def State.decTab (s : State) (slice i : Nat) : Option (List Nat) :=
  if i = 0 then some [0, 1, 2, 3, 4, 5, 6, 7, 8, 9, 0, 1, 2, 3, 4, 5]
  else ((s.slice slice).decTabs.find i).map nibbles

/-- Does a PIN verify by the offset method (R254). -/
def offsetVerifies (pvkType : Nat) (pvk tab : Bytes) (n : Nat) (validation offset : Bytes) (pin : List Nat) : Bool :=
  let t := nibbles tab
  let natural := ((nibbles (blockEnc pvkType pvk validation)).map fun v => t.getD v 0).take n
  pin.length == n && pin == (List.zipWith (fun a o => (a + o) % 10) natural ((nibbles offset).take n))

/-- PARSE of the 0x0503 layout (R253, R254). -/
def verifyParse (b : Barge) (s : State) : Option W16 :=
  let p := b.payload
  let f := fld p 17 1
  let n := fld p 31 1
  let off := nibbles (sl p 68 6)
  firstCode
    [lenIs b 76, wellFormed (fld p 16 1 == 1 || fld p 16 1 == 2), wellFormed (pinFormat f),
     wellFormed (if fld p 16 1 = 2 then panLengthOk f 4 (fld p 19 1) else panLengthOk f f (fld p 19 1)),
     wellFormed (panOk (sl p 20 10) (fld p 19 1)),
     if fld p 16 1 = 1 then
       firstCode [wellFormed (fld p 30 1 ≤ 15 && 4 ≤ n && n ≤ 12),
                  wellFormed ((off.take n).all (· ≤ 9) && (off.drop n).all (· == 15)), reserved b s 74 2]
     else reserved b s 30 2,
     kindParse b s (fld p 18 1) f 32, if f = 4 then none else reserved b s 52 8]

/-- The work of the 0x0503 layout. -/
def verifyRun (b : Barge) (s : State) : Effect :=
  let p := b.payload
  let f := fld p 17 1
  let kind := fld p 18 1
  let pan := panDigits (sl p 20 10) (fld p 19 1)
  let m1 := fld p 16 1 == 1
  match s.pinSource b.slice (fld p 0 8) kind f (sl p 32 12) atPinVerify with
  | .error r => { st := s, reply := r }
  | .ok i =>
    match s.payKey b.slice (fld p 8 8) 4 (if m1 then tdesType else aesType) [if m1 then usage "V1" else usage "P0"] atPinVerify with
    | .error r => { st := s, reply := r }
    | .ok j =>
      match if m1 then s.decTab b.slice (fld p 30 1) else some [] with
      | none => fail s stAttrDenied
      | some tab =>
        match s.fetch2 i j with
        | (s, .error r) => { st := s, reply := r }
        | (s, .ok (ks, kr)) =>
          match pinOf f (decryptPin f (s.slot i).keyType (sourceKey kind ks (sl p 32 12)) (panField f pan) (sl p 44 16)) with
          | none => s.formatFail b.slice
          | some pin =>
            if m1 then
              if offsetVerifies (s.slot j).keyType kr (packNibbles tab) (fld p 31 1) (sl p 60 8) (sl p 68 6) pin then done s []
              else fail s stAuthFail
            else
              match pinOf 4 (decryptPin 4 (s.slot j).keyType kr (panField 4 pan) (sl p 60 16)) with
              | none => s.formatFail b.slice
              | some ref => if pin = ref then done s [] else fail s stAuthFail

/-- PIN_VERIFY (R253). -/
def pinVerifyVerb : Verb where
  opcode := 0x0503
  world := .flight
  charge := 250
  fmt := verifyParse
  run := verifyRun

/-- PIN_VERIFY. -/
def execPinVerify (b : Barge) (s : State) : Host.Outcome State Fault Refusal := verbStep pinVerifyVerb b s

/-- PIN_VERIFY_DX6100: method 1, src_kind 0, formats 0, 1 and 3 (R270). -/
def pinVerifyDx6100Verb : Verb where
  opcode := 0x0580
  world := .flight
  charge := 150
  fmt b s := firstCode [verifyParse b s, wellFormed (fld b.payload 16 1 == 1 && fld b.payload 18 1 == 0 && fld b.payload 17 1 != 4)]
  run := verifyRun

/-- PIN_VERIFY_DX6100. -/
def execPinVerifyDx6100 (b : Barge) (s : State) : Host.Outcome State Fault Refusal := verbStep pinVerifyDx6100Verb b s

/-- A decimalisation table's nibbles: digits only, each at least once and at most twice (R256). -/
def decTabOk (t : List Nat) : Bool :=
  t.all (· ≤ 9) && (List.range 10).all fun d => 1 ≤ t.count d && t.count d ≤ 2

/-- DECTAB_SET, only under a ballot of role 3; a frozen slice takes its tables before its thaw (R256, R268). -/
def dectabSetVerb : Verb where
  opcode := 0x0550
  changing := true
  frozenOk := true
  role _ _ := some 3
  fmt b s := firstCode
    [lenIs b 12, wellFormed (1 ≤ fld b.payload 0 1 && fld b.payload 0 1 ≤ 15),
     wellFormed (decTabOk (nibbles (sl b.payload 4 8)) || (nibbles (sl b.payload 4 8)).all (· == 15)), reserved b s 1 3]
  run b s :=
    let x := s.slice b.slice
    let i := fld b.payload 0 1
    let t := sl b.payload 4 8
    let tabs := if fld t 0 1 = 0xFF then x.decTabs.del i else x.decTabs.put i t
    doneWith (s.setSlice b.slice { x with decTabs := tabs }) [] [.slice b.slice false]

/-- DECTAB_SET. -/
def execDectabSet (b : Barge) (s : State) : Host.Outcome State Fault Refusal := verbStep dectabSetVerb b s

/-! ## Card verification values (R257) -/

/-- The card verification value's digits. -/
def cvvOf (key : Bytes) (pan expiry service : List Nat) (n : Nat) : List Nat :=
  let d := (pan ++ expiry ++ service ++ List.replicate 32 0).take 32
  let b1 := packNibbles (d.take 16)
  let b2 := packNibbles (d.drop 16)
  let r := nibbles (fit 8 (Config.tdesEnc key (xorBytes (fit 8 (Config.desEnc (sl key 0 8) b1)) b2)))
  ((r.filter (· ≤ 9)) ++ ((r.filter (10 ≤ ·)).map (· - 10))).take n

/-- The four bytes a value stands in: BCD, right-aligned. -/
def cvvField (v : List Nat) : Bytes := packNibbles (List.replicate (8 - v.length) 0 ++ v)

/-- PARSE of the CVV layouts of n bytes. -/
def cvvParse (n : Nat) (b : Barge) (_ : State) : Option W16 :=
  let p := b.payload
  firstCode
    [lenIs b n, wellFormed (12 ≤ fld p 8 1 && fld p 8 1 ≤ 19 && 3 ≤ fld p 9 1 && fld p 9 1 ≤ 5 && panOk (sl p 10 10) (fld p 8 1)),
     wellFormed ((nibbles (sl p 20 4)).all (· ≤ 9) && fld p 22 1 / 16 == 0)]

/-- The value of a CVV request under its key. -/
def cvvRequest (p key : Bytes) : Bytes :=
  cvvField (cvvOf key (panDigits (sl p 10 10) (fld p 8 1)) (nibbles (sl p 20 2)) ((nibbles (sl p 22 2)).drop 1) (fld p 9 1))

/-- The work of CVV_GENERATE. -/
def cvvGenerateRun (b : Barge) (s : State) : Effect :=
  match s.payKey b.slice (fld b.payload 0 8) 6 (· == 4) [usage "C0"] (atCardVerify + atMacGen) with
  | .error r => { st := s, reply := r }
  | .ok i =>
    match s.fetch i with
    | (s, .error r) => { st := s, reply := r }
    | (s, .ok k) =>
      match s.countSlot i k with
      | (s, .error r) => { st := s, reply := r }
      | (s, .ok _) => done s (cvvRequest b.payload k)

/-- CVV_GENERATE. -/
def cvvGenerateVerb : Verb where
  opcode := 0x0520
  world := .flight
  maxReply := 4
  charge := 78
  fmt := cvvParse 24
  run := cvvGenerateRun

/-- CVV_GENERATE. -/
def execCvvGenerate (b : Barge) (s : State) : Host.Outcome State Fault Refusal := verbStep cvvGenerateVerb b s

/-- CVV_GENERATE_DX6100 (R270). -/
def cvvGenerateDx6100Verb : Verb where
  opcode := 0x0584
  world := .flight
  maxReply := 4
  charge := 78
  fmt := cvvParse 24
  run := cvvGenerateRun

/-- CVV_GENERATE_DX6100. -/
def execCvvGenerateDx6100 (b : Barge) (s : State) : Host.Outcome State Fault Refusal := verbStep cvvGenerateDx6100Verb b s

/-- The work of CVV_VERIFY. -/
def cvvVerifyRun (b : Barge) (s : State) : Effect :=
  match s.payKey b.slice (fld b.payload 0 8) 6 (· == 4) [usage "C0"] (atCardVerify + atMacVerify) with
  | .error r => { st := s, reply := r }
  | .ok i =>
    match s.fetch i with
    | (s, .error r) => { st := s, reply := r }
    | (s, .ok k) => if cvvRequest b.payload k = sl b.payload 24 4 then done s [] else fail s stAuthFail

/-- CVV_VERIFY. -/
def cvvVerifyVerb : Verb where
  opcode := 0x0521
  world := .flight
  charge := 78
  fmt := cvvParse 28
  run := cvvVerifyRun

/-- CVV_VERIFY. -/
def execCvvVerify (b : Barge) (s : State) : Host.Outcome State Fault Refusal := verbStep cvvVerifyVerb b s

/-- CVV_VERIFY_DX6100 (R270). -/
def cvvVerifyDx6100Verb : Verb where
  opcode := 0x0585
  world := .flight
  charge := 78
  fmt := cvvParse 28
  run := cvvVerifyRun

/-- CVV_VERIFY_DX6100. -/
def execCvvVerifyDx6100 (b : Barge) (s : State) : Host.Outcome State Fault Refusal := verbStep cvvVerifyDx6100Verb b s

/-! ## EMV cryptograms (R258 to R260) -/

/-- PARSE of the 36-byte head; data of at most max bytes stands at off. -/
def arqcParse (off max : Nat) (b : Barge) (s : State) : Option W16 :=
  let p := b.payload
  let n := fld p 14 2
  firstCode
    [wellFormed (off ≤ p.length && (fld p 8 1 == 1 || fld p 8 1 == 2)),
     wellFormed ((nibbles (sl p 9 1)).all (· ≤ 9) && 12 ≤ fld p 10 1 && fld p 10 1 ≤ 16 && panOk (sl p 16 10) (fld p 10 1)),
     wellFormed (fld p 11 1 ≤ 2 && 1 ≤ n && n ≤ max), lenIs b (off + padded n), reserved b s 26 2,
     reserved b s (off + n) (padded n - n)]

/-- PAN digits and sequence number of a request, right-aligned in 18 digits. -/
def emvDigits (p : Bytes) : Bytes :=
  let d := panDigits (sl p 16 10) (fld p 10 1) ++ nibbles (sl p 9 1)
  packNibbles (List.replicate (18 - d.length) 0 ++ d)

/-- The EMV session key of a request (R258). -/
def emvKey (p imk : Bytes) : Bytes :=
  let sch := fld p 8 1
  Config.emvSession sch (Config.emvMaster sch imk (emvDigits p)) (sl p 12 2)

/-- A scheme's MAC under the session key: ISO 9797-1 algorithm 3 with padding method 2 for scheme 1, AES-CMAC for scheme 2 (R258). -/
def emvMac (scheme : Nat) (sk data : Bytes) : Bytes :=
  if scheme = 1 then Config.isoMac 3 2 false sk data else Config.aesCmac sk data

/-- Does the ARQC of a request verify under a session key. -/
def arqcOk (p sk : Bytes) (off : Nat) : Bool :=
  fit 8 (emvMac (fld p 8 1) sk (sl p off (fld p 14 2))) == sl p 28 8

/-- POLICY of the IMK by scheme. -/
def State.imk (s : State) (b : Barge) (mask : Nat) : Except Reply Nat :=
  s.payKey b.slice (fld b.payload 0 8) 3 (fun t => if fld b.payload 8 1 = 1 then t == 4 else aesType t) [usage "E0"] mask

/-- ARQC_VERIFY (R259). -/
def arqcVerifyVerb : Verb where
  opcode := 0x0510
  world := .flight
  charge := 625
  fmt b s := firstCode [arqcParse 36 48 b s, wellFormed (fld b.payload 8 1 == 2 && fld b.payload 11 1 == 0)]
  run b s :=
    match s.imk b (atEmvDerive + atMacVerify) with
    | .error r => { st := s, reply := r }
    | .ok i =>
      match s.fetch i with
      | (s, .error r) => { st := s, reply := r }
      | (s, .ok k) => if arqcOk b.payload (emvKey b.payload k) 36 then done s [] else fail s stAuthFail

/-- ARQC_VERIFY. -/
def execArqcVerify (b : Barge) (s : State) : Host.Outcome State Fault Refusal := verbStep arqcVerifyVerb b s

/-- PARSE of the 0x0511 layout (R260). -/
def arqcExtParse (b : Barge) (s : State) : Option W16 :=
  let p := b.payload
  firstCode
    [wellFormed (52 ≤ p.length), arqcParse 52 256 b s, wellFormed (fld p 40 1 ≤ 8 && (fld p 11 1 == 2 || fld p 40 1 == 0)),
     if fld p 11 1 = 1 then reserved b s 38 2 else none, reserved b s 41 3, reserved b s (44 + fld p 40 1) (8 - fld p 40 1)]

/-- The ARPC of a request (R260). -/
def arpcOf (p sk : Bytes) : Bytes :=
  let sch := fld p 8 1
  if fld p 11 1 = 1 then
    let x := xorBytes (sl p 28 8) (sl p 36 2 ++ zeros 6)
    fit 8 (if sch = 1 then Config.tdesEnc sk x else Config.aesEnc sk (fit 16 x))
  else if fld p 11 1 = 2 then fit 8 (fit 4 (emvMac sch sk (sl p 28 8 ++ sl p 36 4 ++ sl p 44 (fld p 40 1))))
  else zeros 8

/-- The work of the 0x0511 layout. -/
def arqcExtRun (b : Barge) (s : State) : Effect :=
  let p := b.payload
  let gen : Bool := fld p 11 1 != 0
  match s.imk b (atEmvDerive + atMacVerify + (if gen then atMacGen else 0)) with
  | .error r => { st := s, reply := r }
  | .ok i =>
    match s.fetch i with
    | (s, .error r) => { st := s, reply := r }
    | (s, .ok k) =>
      match if gen then s.countSlot i k else (s, .ok []) with
      | (s, .error r) => { st := s, reply := r }
      | (counted, .ok _) =>
        let sk := emvKey p k
        if arqcOk p sk 52 then done counted (arpcOf p sk) else fail s stAuthFail

/-- ARQC_VERIFY_EXT (R260). -/
def arqcVerifyExtVerb : Verb where
  opcode := 0x0511
  world := .flight
  maxReply := 8
  charge := 4050
  fmt := arqcExtParse
  run := arqcExtRun

/-- ARQC_VERIFY_EXT. -/
def execArqcVerifyExt (b : Barge) (s : State) : Host.Outcome State Fault Refusal := verbStep arqcVerifyExtVerb b s

/-- ARQC_VERIFY_EXT_DX6100: scheme 1 (R270). -/
def arqcVerifyExtDx6100Verb : Verb where
  opcode := 0x058C
  world := .flight
  maxReply := 8
  charge := 4050
  fmt b s := firstCode [arqcExtParse b s, wellFormed (fld b.payload 8 1 == 1)]
  run := arqcExtRun

/-- ARQC_VERIFY_EXT_DX6100. -/
def execArqcVerifyExtDx6100 (b : Barge) (s : State) : Host.Outcome State Fault Refusal := verbStep arqcVerifyExtDx6100Verb b s

/-! ## MACs (R261, R262) -/

/-- PARSE of the MAC layout. -/
def macParse (verify : Bool) (b : Barge) (s : State) : Option W16 :=
  let p := b.payload
  let a := fld p 8 1
  let n := fld p 12 2
  let m := fld p 10 1
  firstCode
    [wellFormed (32 ≤ p.length),
     wellFormed ((a == 1 || a == 3) && (fld p 9 1 == 1 || fld p 9 1 == 2) || a == 5 && fld p 9 1 == 0),
     wellFormed (4 ≤ m && m ≤ (if a = 3 then 8 else 16) && 1 ≤ n && n ≤ 3584), lenIs b (32 + padded n),
     reserved b s 11 1, reserved b s 14 2, if verify then reserved b s (16 + m) (16 - m) else reserved b s 16 16,
     reserved b s (32 + n) (padded n - n)]

/-- The usage that goes with an algorithm. -/
def macUsage (a : Nat) : Nat := if a = 1 then usage "M1" else if a = 3 then usage "M3" else usage "M6"

/-- POLICY of a MAC key (R238, R239, R261). -/
def State.macKey (s : State) (b : Barge) (mask : Nat) : Except Reply Nat :=
  let a := fld b.payload 8 1
  match s.payKey b.slice (fld b.payload 0 8) 6
      (fun t => if a = 3 then t == 4 else if a = 5 then aesType t else 1 ≤ t && t ≤ 5) [macUsage a] mask with
  | .error r => .error r
  | .ok i => if tdesType (s.slot i).keyType && 8 < fld b.payload 10 1 then .error ⟨stBadFormat, []⟩ else .ok i

/-- The MAC of a request, mac_length bytes. -/
def macOf (p : Bytes) (type : Nat) (key : Bytes) : Bytes :=
  fit (fld p 10 1) (if fld p 8 1 = 5 then Config.aesCmac key (sl p 32 (fld p 12 2))
    else Config.isoMac (fld p 8 1) (fld p 9 1) (aesType type) key (sl p 32 (fld p 12 2)))

/-- The work of MAC_GENERATE. -/
def macGenerateRun (b : Barge) (s : State) : Effect :=
  match s.macKey b atMacGen with
  | .error r => { st := s, reply := r }
  | .ok i =>
    match s.fetch i with
    | (s, .error r) => { st := s, reply := r }
    | (s, .ok k) =>
      match s.countSlot i k with
      | (s, .error r) => { st := s, reply := r }
      | (s, .ok _) => done s (fit 16 (macOf b.payload (s.slot i).keyType k))

/-- MAC_GENERATE. -/
def macGenerateVerb : Verb where
  opcode := 0x0530
  world := .flight
  maxReply := 16
  charge := 39
  fmt := macParse false
  run := macGenerateRun

/-- MAC_GENERATE. -/
def execMacGenerate (b : Barge) (s : State) : Host.Outcome State Fault Refusal := verbStep macGenerateVerb b s

/-- MAC_GENERATE_DX6100: algorithms 1 and 3 (R270). -/
def macGenerateDx6100Verb : Verb where
  opcode := 0x0588
  world := .flight
  maxReply := 16
  charge := 39
  fmt b s := firstCode [macParse false b s, wellFormed (fld b.payload 8 1 != 5)]
  run := macGenerateRun

/-- MAC_GENERATE_DX6100. -/
def execMacGenerateDx6100 (b : Barge) (s : State) : Host.Outcome State Fault Refusal := verbStep macGenerateDx6100Verb b s

/-- The work of MAC_VERIFY. -/
def macVerifyRun (b : Barge) (s : State) : Effect :=
  match s.macKey b atMacVerify with
  | .error r => { st := s, reply := r }
  | .ok i =>
    match s.fetch i with
    | (s, .error r) => { st := s, reply := r }
    | (s, .ok k) =>
      if macOf b.payload (s.slot i).keyType k = sl b.payload 16 (fld b.payload 10 1) then done s [] else fail s stAuthFail

/-- MAC_VERIFY. -/
def macVerifyVerb : Verb where
  opcode := 0x0531
  world := .flight
  charge := 39
  fmt := macParse true
  run := macVerifyRun

/-- MAC_VERIFY. -/
def execMacVerify (b : Barge) (s : State) : Host.Outcome State Fault Refusal := verbStep macVerifyVerb b s

/-- MAC_VERIFY_DX6100: algorithms 1 and 3 (R270). -/
def macVerifyDx6100Verb : Verb where
  opcode := 0x0589
  world := .flight
  charge := 39
  fmt b s := firstCode [macParse true b s, wellFormed (fld b.payload 8 1 != 5)]
  run := macVerifyRun

/-- MAC_VERIFY_DX6100. -/
def execMacVerifyDx6100 (b : Barge) (s : State) : Host.Outcome State Fault Refusal := verbStep macVerifyDx6100Verb b s

/-! ## Key blocks (R263 to R268; the header's layout is X9.143's, log entry 24) -/

/-- The number ASCII decimal digits spell. -/
def asciiNumber (bs : Bytes) : Option Nat :=
  if bs.all fun c => 0x30 ≤ c.toNat && c.toNat ≤ 0x39 then some (bs.foldl (fun a c => a * 10 + (c.toNat - 0x30)) 0) else none

/-- A hexadecimal character's value. -/
def hexDigit (c : Byte) : Option Nat :=
  let v := c.toNat
  if 0x30 ≤ v ∧ v ≤ 0x39 then some (v - 0x30) else if 0x41 ≤ v ∧ v ≤ 0x46 then some (v - 0x37)
  else if 0x61 ≤ v ∧ v ≤ 0x66 then some (v - 0x57) else none

/-- The number hexadecimal characters spell. -/
def hexNumber (bs : Bytes) : Option Nat :=
  bs.foldl (fun a c =>
    match a, hexDigit c with
    | some a, some d => some (a * 16 + d)
    | _, _ => none) (some 0)

/-- Bytes as hexadecimal characters. -/
def hexChars (bs : Bytes) : Bytes := (nibbles bs).map fun v => BitVec.ofNat 8 (if v < 10 then 0x30 + v else 0x37 + v)

/-- The length an optional block states and how many characters stand before its data: a length of 00 names an extended length, with
its own count of bytes before it. -/
def optionalSpan (bs : Bytes) : Option (Nat × Nat) :=
  match hexNumber (sl bs 2 2) with
  | some 0 =>
    match hexNumber (sl bs 4 2) with
    | none => none
    | some n => (hexNumber (sl bs 6 (2 * n))).map fun l => (l, 6 + 2 * n)
  | some l => some (l, 4)
  | none => none

/-- The optional blocks of a key block header: identifier and data. -/
def optionalBlocks (bs : Bytes) : Nat → Option (List (Nat × Bytes))
  | 0 => some []
  | n + 1 =>
    match optionalSpan bs with
    | none => none
    | some (l, h) =>
      if l < h ∨ bs.length < l then none
      else (optionalBlocks (bs.drop l) n).map fun r => (fld bs 0 2, sl bs h (l - h)) :: r

/-- Is a number one of some characters. -/
def isChar (v : Nat) (cs : String) : Bool := (ascii cs).any fun c => c.toNat == v

/-- PARSE of a key block's clear header. -/
def keyBlockParse (kb : Bytes) : Option W16 :=
  let blocks := (asciiNumber (sl kb 12 2)).bind fun n => optionalBlocks (kb.drop 16) n
  let known (id : Nat) : Bool := [usage "KS", usage "IK", usage "KP", usage "TS", usage "PB"].contains id
  wellFormed (isChar (fld kb 0 1) "BD" && asciiNumber (sl kb 1 4) == some kb.length && isChar (fld kb 7 1) "TA" &&
    !isChar (fld kb 9 1) "c" && isChar (fld kb 11 1) "ENS" &&
    (match blocks with
     | some l => l.all fun e => known e.1
     | none => false))

/-- The class and bits a usage and mode grant (R264). -/
def keyBlockGrant (use mode : Nat) : Option (Nat × Nat) :=
  let m (cs : String) : Bool := isChar mode cs
  let g (cs : String) (v : Nat) : Nat := if m cs then v else 0
  if use = usage "B0" then (if m "X" then some (3, atDukptBase + atDerive) else none)
  else if use = usage "C0" then (if m "CGV" then some (6, atCardVerify + g "CG" atMacGen + g "CV" atMacVerify) else none)
  else if use = usage "D0" then (if m "BDE" then some (0, g "BE" atEncrypt + g "BD" atDecrypt) else none)
  else if use = usage "E0" then (if m "X" then some (3, atEmvDerive + atMacVerify + atMacGen) else none)
  else if use = usage "K0" ∨ use = usage "K1" then (if m "BDE" then some (3, g "BE" atWrap + g "BD" atUnwrap) else none)
  else if use = usage "M1" ∨ use = usage "M3" ∨ use = usage "M6" then
    (if m "CGV" then some (6, g "CG" atMacGen + g "CV" atMacVerify) else none)
  else if use = usage "P0" then
    (if m "BDE" then some (4, g "BE" atPinEncrypt + g "BD" (atPinTranslate + atPinVerify)) else none)
  else if use = usage "V1" then (if m "CV" then some (4, atPinVerify) else none)
  else none

/-- Strength in bits (R265). -/
def strength (type : Nat) : Nat :=
  if type = 4 then 80 else if type = 5 then 112 else if type = 1 then 128 else if type = 2 then 192 else 256

/-- A version fits a KBPK's type (R263). -/
def versionFits (version type : Nat) : Bool := if isChar version "B" then tdesType type else aesType type

/-- Key type of a subject key: its algorithm and length. -/
def subjectType (alg len : Nat) : Option Nat :=
  if isChar alg "T" then (if len = 16 then some 4 else if len = 24 then some 5 else none)
  else if len = 16 then some 1 else if len = 24 then some 2 else if len = 32 then some 3 else none

/-- The KP block of a header agrees with the unwrapped key's check value. -/
def kpOk (kb : Bytes) (type : Nat) (key : Bytes) : Bool :=
  match (asciiNumber (sl kb 12 2)).bind fun n => optionalBlocks (kb.drop 16) n with
  | none => true
  | some l => l.all fun e => e.1 != usage "KP" || sl e.2 2 6 == hexChars (kcvOf type key)

/-- The key block of a KB_IMPORT request. -/
def importBlock (p : Bytes) : Bytes := sl p 36 (fld p 32 2)

/-- Bits of `attr` a KB_IMPORT may set. -/
def importAttr : Nat := 65535 + atExportable + 3 * 2 ^ 20 + 3 * 2 ^ 28

/-- PARSE of KB_IMPORT. -/
def kbImportParse (b : Barge) (s : State) : Option W16 :=
  let p := b.payload
  let n := fld p 32 2
  firstCode
    [wellFormed (36 ≤ p.length && 16 ≤ n && n ≤ 1024), lenIs b (36 + padded n), keyBlockParse (importBlock p),
     reservedMask b s 8 (2 ^ 64 - 1 - importAttr), reserved b s 34 2,
     reserved b s (36 + n) (padded n - n)]

/-- A zone key exchange runs under role 3 (R268). -/
def kbImportRole (b : Barge) (_ : State) : Option Nat :=
  let kb := importBlock b.payload
  match keyBlockGrant (fld kb 5 2) (fld kb 8 1) with
  | some (3, _) => some 3
  | _ => none

/-- The work of KB_IMPORT (R263 to R266). -/
def kbImportRun (b : Barge) (s : State) : Effect :=
  let p := b.payload
  let kb := importBlock p
  match s.payKey b.slice (fld p 0 8) 3 (fun t => 1 ≤ t && t ≤ 5) [usage "K0", usage "K1"] atUnwrap with
  | .error r => { st := s, reply := r }
  | .ok k =>
    match keyBlockGrant (fld kb 5 2) (fld kb 8 1) with
    | none => fail s stAttrDenied
    | some (cls, granted) =>
      if !versionFits (fld kb 0 1) (s.slot k).keyType || isChar (fld kb 11 1) "S" then fail s stAttrDenied
      else
        match s.pickSlot b.slice with
        | .error r => { st := s, reply := r }
        | .ok i =>
          match s.fetch k with
          | (s, .error r) => { st := s, reply := r }
          | (s, .ok kbpk) =>
            match Config.keyBlockUnwrap kbpk kb with
            | none => fail s stAuthFail
            | some key =>
              match subjectType (fld kb 7 1) key.length with
              | none => fail s stBadFormat
              | some type =>
                let want := fld p 8 8
                let a : W64 := BitVec.ofNat 64 ((granted &&& want % 65536) + cls * 65536 + (want &&& (3 * 2 ^ 20 + 3 * 2 ^ 28)) +
                  (if isChar (fld kb 11 1) "E" then want &&& atExportable else 0) + fld kb 5 2 * 2 ^ 32 + fld kb 8 1 * 2 ^ 48)
                let keyId : W64 := BitVec.ofNat 64 (fld p 24 8)
                if strength (s.slot k).keyType < strength type || !attrRules a type then fail s stAttrDenied
                else if !kpOk kb type key then fail s stAuthFail
                else
                  let (s, h, _) := s.installKey i b.slice (newAttributes a type false) type (fld p 16 8) keyId 0 key 0
                  doneWith s (be 8 h.toNat ++ kcvOf type key ++ zeros 1 ++ fingerprintOf key keyId) [.slot i]

/-- KB_IMPORT. -/
def kbImportVerb : Verb where
  opcode := 0x0540
  maxReply := 60
  changing := true
  role := kbImportRole
  fmt := kbImportParse
  run := kbImportRun

/-- KB_IMPORT. -/
def execKbImport (b : Barge) (s : State) : Host.Outcome State Fault Refusal := verbStep kbImportVerb b s

/-- KB_IMPORT_DX6100: version B (R270). -/
def kbImportDx6100Verb : Verb where
  opcode := 0x0590
  maxReply := 60
  changing := true
  role := kbImportRole
  fmt b s := firstCode [kbImportParse b s, wellFormed (isChar (fld b.payload 36 1) "B")]
  run := kbImportRun

/-- KB_IMPORT_DX6100. -/
def execKbImportDx6100 (b : Barge) (s : State) : Host.Outcome State Fault Refusal := verbStep kbImportDx6100Verb b s

/-- PARSE of KB_EXPORT. -/
def kbExportParse (b : Barge) (s : State) : Option W16 :=
  let p := b.payload
  firstCode
    [lenIs b 24, wellFormed (isChar (fld p 16 1) "BD" && isChar (fld p 17 1) "EN" && !isChar (fld p 18 1) "c"), reserved b s 20 4]

/-- A zone key exchange runs under role 3 (R268). -/
def kbExportRole (b : Barge) (s : State) : Option Nat :=
  match s.owned b.slice (fld b.payload 8 8) with
  | .ok i => if keyClass (s.slot i).attributes = 3 then some 3 else none
  | .error _ => none

/-- Four decimal digits. -/
def decimal4 (n : Nat) : Bytes := [n / 1000, n / 100, n / 10, n].map fun v => BitVec.ofNat 8 (0x30 + v % 10)

/-- The optional blocks of an exported key block: the key's check value, and an empty PB that fills them to one cipher block. -/
def exportBlocks (x : Slot) (key : Bytes) : Bytes :=
  ascii "KP0C" ++ ascii (if tdesType x.keyType then "00" else "01") ++ hexChars (kcvOf x.keyType key) ++ ascii "PB04"

/-- The clear header of an exported key block after its length (R263, R267): KP and PB are its optional blocks. -/
def exportHeader (p : Bytes) (x : Slot) (key : Bytes) : Bytes :=
  be 2 (kbUsage x.attributes) ++ ascii (if tdesType x.keyType then "T" else "A") ++ be 1 (kbMode x.attributes) ++
    sl p 18 2 ++ sl p 17 1 ++ ascii "0200" ++ exportBlocks x key

/-- An exported key block: version, length, header, enciphered key and MAC, at most 1,024 characters (R263). -/
def exportBlock (kbpk p : Bytes) (x : Slot) (key : Bytes) : Bytes :=
  let head := exportHeader p x key
  let body := (Config.keyBlockWrap kbpk (sl p 16 1 ++ head) key).take (1024 - 5 - head.length)
  sl p 16 1 ++ decimal4 (5 + head.length + body.length) ++ head ++ body

/-- The work of KB_EXPORT (R265, R267). -/
def kbExportRun (b : Barge) (s : State) : Effect :=
  let p := b.payload
  match s.payKey b.slice (fld p 0 8) 3 (fun t => 1 ≤ t && t ≤ 5) [usage "K0", usage "K1"] atWrap with
  | .error r => { st := s, reply := r }
  | .ok k =>
    match s.named b.slice (fld p 8 8) with
    | .error r => { st := s, reply := r }
    | .ok i =>
      let x := s.slot i
      if !allows x.attributes atExportable || kbUsage x.attributes = 0 || x.keyType = 0 || 5 < x.keyType ||
          strength (s.slot k).keyType < strength x.keyType || !versionFits (fld p 16 1) (s.slot k).keyType then fail s stAttrDenied
      else
        match s.fetch2 k i with
        | (s, .error r) => { st := s, reply := r }
        | (s, .ok (kbpk, key)) =>
          match s.countSlot k kbpk with
          | (s, .error r) => { st := s, reply := r }
          | (s, .ok _) =>
            let kb := exportBlock kbpk p x key
            let out := be 2 kb.length ++ zeros 2 ++ kb
            if allows x.attributes atEverExported then done s out
            else
              let a : W64 := BitVec.ofNat 64 (x.attributes.toNat + atEverExported)
              doneWith (s.writeSlot i { s.slot i with attributes := a }) out [.slot i]

/-- KB_EXPORT. -/
def kbExportVerb : Verb where
  opcode := 0x0541
  maxReply := 1028
  changing := true
  role := kbExportRole
  fmt := kbExportParse
  run := kbExportRun

/-- KB_EXPORT. -/
def execKbExport (b : Barge) (s : State) : Host.Outcome State Fault Refusal := verbStep kbExportVerb b s

/-- KB_EXPORT_DX6100: version B (R270). -/
def kbExportDx6100Verb : Verb where
  opcode := 0x0591
  maxReply := 1028
  changing := true
  role := kbExportRole
  fmt b s := firstCode [kbExportParse b s, wellFormed (isChar (fld b.payload 16 1) "B")]
  run := kbExportRun

/-- KB_EXPORT_DX6100. -/
def execKbExportDx6100 (b : Barge) (s : State) : Host.Outcome State Fault Refusal := verbStep kbExportDx6100Verb b s

end Sys2Proof.Machine
end

