-- ==== Sys2Proof/Machine/Cipher.lean ====
section
/-! DEFINITION. Chunked AEAD (R287, R293 to R296). -/

namespace Sys2Proof.Machine

/-! ## Chunked messages (R287, R293 to R295) -/

/-- The clear image of a chunked seal: mode 12 with the next chunk index, the message nonce, the AAD length and the data sealed so far. The
layout has no field for chunk_log2, which follows from the last two: every chunk so far held 2^k bytes (log entry 26). -/
def sealImage (type log2 index : Nat) (handle : W64) (nonce : Bytes) (aad : Nat) : Bytes :=
  be 1 type ++ be 1 12 ++ be 1 1 ++ be 1 0 ++ be 4 index ++ be 8 handle.toNat ++ fit 16 nonce ++ zeros 48 ++ be 8 aad ++
    be 8 (index * 2 ^ log2) ++ zeros 32

/-- chunk_log2 of a chunked seal from its image. -/
def imageLog2 (clear : Bytes) : Nat := Nat.log2 (fld clear 88 8 / fld clear 4 4)

/-- The message key. -/
def chunkKey (k nonce : Bytes) : Bytes :=
  fit 16 (Config.aesEnc k ([1, 0x43] ++ fit 12 nonce ++ [1, 0])) ++ fit 16 (Config.aesEnc k ([2, 0x43] ++ fit 12 nonce ++ [1, 0]))

/-- The nonce of a chunk. -/
def chunkNonce (i : Nat) (final : Bool) : Bytes := be 8 i ++ zeros 3 ++ be 1 (bit01 final)

/-- A message header. -/
def chunkHeader (log2 : Nat) (keyId : W64) (nonce : Bytes) : Bytes :=
  be 4 0x44584341 ++ be 1 1 ++ be 1 log2 ++ zeros 2 ++ be 8 keyId.toNat ++ fit 12 nonce ++ zeros 4

/-- POLICY and KEYFETCH of a chunk key: class 0, an AES type, one attribute bit. -/
def State.chunkKeyOf (s : State) (b : Barge) (mask : Nat) : State × Except Reply (Nat × Slot × Bytes) :=
  match s.useKey b.slice (fld b.payload 0 8) mask with
  | (s, .error r) => (s, .error r)
  | (s', .ok (i, x, k)) =>
    if keyClass x.attributes = 0 && aesType x.keyType then (s', .ok (i, x, k)) else (s, .error attrDenied)

/-- The final bit of aflags. -/
def finalFlag (b : Barge) : Bool := (fld b.payload 8 1).testBit 1

/-- chunk_log2 of a message that AEAD_SEAL goes on with, where its image opens. -/
def State.laterLog2 (s : State) (b : Barge) : Option Nat :=
  (Config.gcmOpen s.eng.contextKey (sl b.payload 40 12) (sl b.payload 16 36) (sl b.payload 52 144)).map imageLog2

/-- The sizes of a sealed chunk that R295 refuses at PARSE, those of a later chunk by the chunk size its image states. -/
def State.chunkFits (s : State) (b : Barge) : Bool :=
  let n := fld b.payload 12 4
  let fits (k : Nat) : Bool := n ≤ 2 ^ k && (finalFlag b || n == 2 ^ k)
  (if fld b.payload 8 1 % 2 == 1 then fits (fld b.payload 9 1)
   else match s.laterLog2 b with
    | some k => fits k
    | none => n ≤ 65536) && fitsSession b s (248 + n)

/-- Seal one chunk and answer, parking the next image unless it is the final one: a message ends with its 2^32nd chunk (log entry 26). -/
def State.sealChunk (s : State) (b : Barge) (x : Slot) (k : Bytes) (log2 index seq job : Nat) (nonce : Bytes) : Effect :=
  let p := b.payload
  let n := fld p 12 4
  let a := fld p 10 2
  let final := finalFlag b
  if !final && 2 ^ 32 ≤ index + 1 then fail s stBadFormat
  else
    let h := chunkHeader log2 x.keyId nonce
    let c := fit (n + 16) (Config.gcmSeal (chunkKey k nonce) (chunkNonce index final) (h ++ sl p 208 a) (sl p (208 + padded a) n))
    let out (im : Bytes) : Bytes := h ++ be 4 index ++ zeros 4 ++ im ++ c
    if final then done { s with eng := { s.eng with parked := s.eng.parked.del job } } (out (zeros 192))
    else
      match s.park b job (seq + 1) (sealImage x.keyType log2 (index + 1) (BitVec.ofNat 64 (fld p 0 8)) nonce a) with
      | .error r => { st := s, reply := r }
      | .ok (s, im) => done s (out im)

/-- AEAD_SEAL. -/
def aeadSealVerb : Verb where
  opcode := 0x0670
  world := .flight
  charge := 16
  fmt b s :=
    let p := b.payload
    let first := fld p 8 1 % 2 == 1
    firstCode
      [wellFormed (208 ≤ p.length), reservedBits b s 8 1 7 2,
       if first then wellFormed (10 ≤ fld p 9 1 && fld p 9 1 ≤ 16) else reserved b s 9 1,
       wellFormed (fld p 10 2 ≤ 256 && fld p 12 4 ≤ 65536), lenIs b (208 + padded (fld p 10 2) + fld p 12 4),
       reserved b s (208 + fld p 10 2) (padded (fld p 10 2) - fld p 10 2),
       if first then reserved b s 16 192 else none, wellFormed (s.chunkFits b)]
  run b s :=
    let p := b.payload
    match s.chunkKeyOf b atEncrypt with
    | (s, .error r) => { st := s, reply := r }
    | (s, .ok (i, x, k)) =>
      if fld p 8 1 % 2 = 1 then
        match s.countSlot i k with
        | (s, .error r) => { st := s, reply := r }
        | (s, .ok nonce) =>
          let job := s.eng.jobCount + 1
          { s with eng := { s.eng with jobCount := job } }.sealChunk b x k (fld p 9 1) 0 0 job nonce
      else
        match s.restoreImageOf b (sl p 16 192) with
        | .error r => { st := s, reply := r }
        | .ok (job, seq, clear) =>
          if fld clear 8 8 ≠ fld p 0 8 || fld clear 80 8 ≠ fld p 10 2 then failOpen s
          else s.sealChunk b x k (imageLog2 clear) (fld clear 4 4) seq job (sl clear 16 12)

/-- AEAD_SEAL. -/
def execAeadSeal (b : Barge) (s : State) : Host.Outcome State Fault Refusal := verbStep aeadSealVerb b s

/-- AEAD_OPEN. -/
def aeadOpenVerb : Verb where
  opcode := 0x0671
  world := .flight
  charge := 16
  fmt b s :=
    let p := b.payload
    let a := fld p 48 2
    let n := fld p 52 4
    let k := fld p 21 1
    firstCode
      [wellFormed (56 ≤ p.length), if fld p 8 1 &&& 0xFD = 0 then none else some stReserved, reserved b s 9 3,
       wellFormed (fld p 16 4 == 0x44584341 && fld p 20 1 == 1 && 10 ≤ k && k ≤ 16 && a ≤ 256 && 16 ≤ n),
       reserved b s 22 2, reserved b s 44 4, reserved b s 50 2, wellFormed (n ≤ 2 ^ k + 16 && (finalFlag b || n == 2 ^ k + 16)),
       lenIs b (56 + padded a + n), reserved b s (56 + a) (padded a - a), wellFormed (fitsSession b s (n - 16))]
  run b s :=
    let p := b.payload
    match s.chunkKeyOf b atDecrypt with
    | (s, .error r) => { st := s, reply := r }
    | (s, .ok (_, x, k)) =>
      let h := sl p 16 32
      let a := fld p 48 2
      match Config.gcmOpen (chunkKey k (sl h 16 12)) (chunkNonce (fld p 12 4) (finalFlag b)) (h ++ sl p 56 a)
          (sl p (56 + padded a) (fld p 52 4)) with
      | none => fail s stAuthFail
      | some plain => if fld h 8 8 = x.keyId.toNat then done s (fit (fld p 52 4 - 16) plain) else fail s stAuthFail

/-- AEAD_OPEN. -/
def execAeadOpen (b : Barge) (s : State) : Host.Outcome State Fault Refusal := verbStep aeadOpenVerb b s

end Sys2Proof.Machine
end

