-- ==== Sys2Proof/Machine/PublicKey.lean ====
section
/-! DEFINITION. The public-key, lattice and hash verbs of family 0x06, operand buffers and the device LMS signer
(R299 to R330). -/

namespace Sys2Proof.Machine

/-! ## Operand buffers (R303) -/

/-- The buffer a reference names for a slice: its check, slice and epoch hold and it has contents. -/
def State.bufferOf (s : State) (slice ref : Nat) : Except Reply (Nat × OpBuf × Bytes) :=
  let i := ref / 65536 % 2 ^ 24
  if !s.refOk ref || ref / 2 ^ 52 ≠ slice then .error badHandle
  else
    match s.eng.opBufs.find i with
    | none => .error badHandle
    | some x =>
      match x.bytes with
      | some bs => if x.slice = slice && x.epoch = ref / 2 ^ 40 % 4096 then .ok (i, x, bs) else .error badHandle
      | none => .error badHandle

/-- Replace a buffer. -/
def State.setBuffer (s : State) (i : Nat) (x : OpBuf) : State :=
  { s with eng := { s.eng with opBufs := s.eng.opBufs.put i x } }

/-- OPBUF_ALLOC: its payload is the operands alone (log entry 27). -/
def opbufAllocVerb : Verb where
  opcode := 0x0650
  world := .flight
  maxReply := 8
  fmt b s := firstCode [lenIs b 8, wellFormed (1 ≤ fld b.payload 0 4 && fld b.payload 0 4 ≤ 65536), reserved b s 4 4]
  run b s :=
    let n := fld b.payload 0 4
    let used := s.opBufHold b.slice + 192 * (s.cacheOf b.slice).length
    if 1048576 * (s.slice b.slice).quota.holdMib < used + (n + 4095) / 4096 * 4096 then refuse s stQuota (be 1 4 ++ zeros 3)
    else
      let live := (s.eng.opBufs.filter fun e => e.2.bytes.isSome).map (·.1)
      let i := firstFree live 0 live.length
      if 262144 ≤ i then failOpen s
      else
        let epoch := match s.eng.opBufs.find i with
          | some x => (x.epoch + 1) % 4096
          | none => 0
        let top := b.slice % 4096 * 2 ^ 36 + epoch * 2 ^ 24 + i
        done (s.setBuffer i { slice := b.slice, epoch := epoch, bytes := some (zeros n) })
          (be 8 (top * 65536 + s.handleCheck top % 65536))

/-- OPBUF_ALLOC. -/
def execOpbufAlloc (b : Barge) (s : State) : Host.Outcome State Fault Refusal := verbStep opbufAllocVerb b s

/-- OPBUF_WRITE. -/
def opbufWriteVerb : Verb where
  opcode := 0x0651
  world := .flight
  fmt b s := firstCode
    [wellFormed (16 ≤ b.payload.length), wellFormed (fld b.payload 12 2 ≤ 3584), lenIs b (16 + padded (fld b.payload 12 2)),
     reserved b s 14 2, reserved b s (16 + fld b.payload 12 2) (padded (fld b.payload 12 2) - fld b.payload 12 2)]
  run b s :=
    let p := b.payload
    match s.bufferOf b.slice (fld p 0 8) with
    | .error r => { st := s, reply := r }
    | .ok (i, x, bs) =>
      if bs.length < fld p 8 4 + fld p 12 2 then failOpen s
      else done (s.setBuffer i { x with bytes := some (patch bs (fld p 8 4) (sl p 16 (fld p 12 2))) }) []

/-- OPBUF_WRITE. -/
def execOpbufWrite (b : Barge) (s : State) : Host.Outcome State Fault Refusal := verbStep opbufWriteVerb b s

/-- OPBUF_READ. -/
def opbufReadVerb : Verb where
  opcode := 0x0652
  world := .flight
  fmt b s := firstCode [lenIs b 16, wellFormed (fld b.payload 12 2 ≤ 3584 && fitsSession b s (fld b.payload 12 2)), reserved b s 14 2]
  run b s :=
    let p := b.payload
    match s.bufferOf b.slice (fld p 0 8) with
    | .error r => { st := s, reply := r }
    | .ok (_, _, bs) =>
      if bs.length < fld p 8 4 + fld p 12 2 then failOpen s else done s (sl bs (fld p 8 4) (fld p 12 2))

/-- OPBUF_READ. -/
def execOpbufRead (b : Barge) (s : State) : Host.Outcome State Fault Refusal := verbStep opbufReadVerb b s

/-- OPBUF_FREE. -/
def opbufFreeVerb : Verb where
  opcode := 0x0653
  world := .flight
  fmt b _ := lenIs b 8
  run b s :=
    match s.bufferOf b.slice (fld b.payload 0 8) with
    | .error r => { st := s, reply := r }
    | .ok (i, x, _) => done (s.setBuffer i { x with bytes := none }) []

/-- OPBUF_FREE. -/
def execOpbufFree (b : Barge) (s : State) : Host.Outcome State Fault Refusal := verbStep opbufFreeVerb b s

/-! ## The request head and its operands (R324, R325) -/

/-- What a verb allows in its head and operands. -/
structure PkForm where
  /-- A DX6100 form: vflags are ignored (R327). -/
  dx : Bool := false
  /-- It takes a key. -/
  key : Bool := false
  /-- Domain codes. -/
  domain : Nat → Bool
  /-- `function` codes. -/
  func : Nat → Bool := fun f => f == 0
  /-- `size_bits` by domain. -/
  size : Nat → Nat → Bool := fun _ n => n == 0
  /-- It takes a context string. -/
  ctx : Bool := false
  /-- Lengths of the operands before the message. -/
  lens : Bytes → List Nat := fun _ => []
  /-- A message is its last operand. -/
  msg : Bool := false
  /-- Its first operand is a point. -/
  point : Bool := false
  /-- Its result passes the seal port. -/
  sealed : Bool := false
  /-- Its result may go to an operand buffer. -/
  stored : Bool := false
  /-- Bytes of its result, by the key's type where that matters. -/
  out : Bytes → Nat → Nat := fun _ _ => 0
  /-- Lengths a result entry may state. -/
  result : Bytes → Nat → Bool := fun p n => stored && n == out p 0

/-- vflags as the form reads them. -/
def PkForm.flags (f : PkForm) (p : Bytes) : Nat := if f.dx then 0 else fld p 9 1

/-- Operands by reference. -/
def PkForm.byRef (f : PkForm) (p : Bytes) : Bool := (f.flags p).testBit 0

/-- Result to an operand buffer. -/
def PkForm.toBuffer (f : PkForm) (p : Bytes) : Bool := (f.flags p).testBit 1

/-- Number of operands. -/
def PkForm.count (f : PkForm) (p : Bytes) : Nat := (f.lens p).length + (if f.msg then 1 else 0)

/-- Operand entry i: reference, offset, length. -/
def entryAt (p : Bytes) (i : Nat) : Nat × Nat × Nat := (fld p (16 + 16 * i) 8, fld p (24 + 16 * i) 4, fld p (28 + 16 * i) 4)

/-- Lengths of every operand. -/
def PkForm.lengths (f : PkForm) (p : Bytes) : List Nat :=
  f.lens p ++ (if f.msg then [if f.byRef p then (entryAt p (f.lens p).length).2.2 else fld p 14 2] else [])

/-- Offset of the result entry. -/
def PkForm.resultAt (f : PkForm) (p : Bytes) : Nat :=
  16 + (if f.byRef p then 16 * f.count p else ((f.lengths p).map padded).foldl (· + ·) 0)

/-- Inline operands of given lengths from an offset, each padded to a multiple of 4. -/
def inlineOperands (p : Bytes) (off : Nat) : List Nat → List Bytes
  | [] => []
  | n :: t => sl p off n :: inlineOperands p (off + padded n) t

/-- Padding of inline operands is zero. -/
def paddingZero (p : Bytes) (off : Nat) : List Nat → Bool
  | [] => true
  | n :: t => allZero (sl p (off + n) (padded n - n)) && paddingZero p (off + padded n) t

/-- Do two ranges of one buffer overlap. -/
def overlap (a b : Nat × Nat × Nat) : Bool := a.1 == b.1 && a.2.1 < b.2.1 + b.2.2 && b.2.1 < a.2.1 + a.2.2

/-- A point field by its leading byte: 0x04, or all zero for the point at infinity (R301). -/
def pointField (q : Bytes) : Bool := fld q 0 1 == 4 || allZero q

/-- RSA sizes. -/
def rsaSize (max n : Nat) : Bool := 2048 ≤ n && n ≤ max && n % 256 == 0

/-- Sizes of a generic modulus. -/
def modSize (n : Nat) : Bool := 136 ≤ n && n ≤ 8192 && n % 8 == 0

/-- The domain codes (R325). -/
def domainCode (d : Nat) : Bool := (1 ≤ d && d ≤ 5) || d == 0x10 || d == 0x11 || d == 0x20 || d == 0x21

/-- `size_bits` as any domain has it (R324). -/
def sizeFor (d n : Nat) : Bool := if d = 0x10 then rsaSize 8192 n else if d = 0x11 then modSize n else n == 0

/-- A verb with a key is given a domain that is not of its keys: POLICY refuses that domain, and PARSE judges neither the lengths that only
a domain of the verb has nor its result (R325; log entry 27). -/
def PkForm.strange (f : PkForm) (p : Bytes) : Bool := f.key && !f.dx && !f.domain (fld p 8 1) && domainCode (fld p 8 1)

/-- PARSE of a verb with a 16-byte head (R301, R303, R324 to R326). -/
def PkForm.parse (f : PkForm) (b : Barge) (s : State) : Option W16 :=
  let p := b.payload
  let d := fld p 8 1
  let odd := f.strange p
  let at_ := f.resultAt p
  let entries := if f.byRef p then (List.range (f.count p)).map (entryAt p) else []
  let res := (fld p at_ 8, fld p (at_ + 8) 4, fld p (at_ + 12) 4)
  firstCode
    [wellFormed (16 ≤ p.length), if f.dx then none else reservedBits b s 9 1 7 2,
     wellFormed ((f.key || fld p 0 8 == 0) && (odd || f.domain d) && f.func (fld p 12 1) &&
       (if odd then sizeFor d (fld p 10 2) else f.size d (fld p 10 2)) && (f.ctx || fld p 13 1 == 0)),
     wellFormed (if f.msg && !f.byRef p then fld p 14 2 ≤ 3584 else fld p 14 2 == 0),
     if odd then none else lenIs b (at_ + (if f.toBuffer p then 16 else 0)),
     wellFormed (odd || (List.zip entries (f.lens p)).all fun e => e.1.2.2 == e.2), wellFormed (entries.all fun e => e.2.2 ≤ 65536),
     reservedZero b s (odd || f.byRef p || paddingZero p 16 (f.lengths p)),
     wellFormed (odd || !f.point || f.byRef p || pointField (sl p 16 ((f.lens p).headD 0))),
     if f.toBuffer p then wellFormed (!f.sealed && (odd || f.result p res.2.2 && !entries.any (overlap res))) else none]

/-- The operands of a request; a buffer range that does not exist ends with OPERAND_INVALID (log entry 27). -/
def PkForm.operands (f : PkForm) (b : Barge) (s : State) : Except Reply (List Bytes) :=
  let p := b.payload
  if !f.byRef p then .ok (inlineOperands p 16 (f.lengths p))
  else
    (List.range (f.count p)).foldl (fun acc i =>
      match acc with
      | .error r => .error r
      | .ok l =>
        let (ref, off, n) := entryAt p i
        match s.bufferOf b.slice ref with
        | .error r => .error r
        | .ok (_, _, bs) => if bs.length < off + n then .error ⟨stOperand, []⟩ else .ok (l ++ [sl bs off n])) (.ok [])

/-- Answer a result, inline or in its buffer, as one indivisible hold write (R303). -/
def PkForm.answer (f : PkForm) (b : Barge) (s : State) (res : Bytes) : Effect :=
  let p := b.payload
  if !f.toBuffer p then done s res
  else
    let at_ := f.resultAt p
    match s.bufferOf b.slice (fld p at_ 8) with
    | .error r => { st := s, reply := r }
    | .ok (i, x, bs) =>
      if bs.length < fld p (at_ + 8) 4 + res.length || fld p (at_ + 12) 4 ≠ res.length then fail s stOperand
      else done (s.setBuffer i { x with bytes := some (patch bs (fld p (at_ + 8) 4) res) }) []

/-- Key types of a domain (R325). -/
def domainType (d t : Nat) : Bool :=
  if d = 1 then t == 0x10 else if d = 2 then t == 0x11 else if d = 3 then t == 0x12 else if d = 4 then t == 0x13 || t == 0x14
  else if d = 5 then t == 0x15 || t == 0x16 else if d = 0x10 then t == 0x20 else if d = 0x20 then t == 0x30
  else d == 0x21 && t == 0x31

/-- A private key of a request: class, attribute and type agree with a domain of the verb (R124, R325). -/
def State.privateKey (s : State) (b : Barge) (domain : Nat → Bool) (ok : Slot → Bool) : State × Except Reply (Slot × Bytes) :=
  match s.named b.slice (fld b.payload 0 8) with
  | .error r => (s, .error r)
  | .ok i =>
    if !ok (s.slot i) || !domain (fld b.payload 8 1) || !domainType (fld b.payload 8 1) (s.slot i).keyType then (s, .error attrDenied)
    else
      match s.fetch i with
      | (s, .error r) => (s, .error r)
      | (s, .ok k) => (s, .ok (s.slot i, k))

/-- The fresh blinding of the two computations of a public-key function, 64 bits each (R309). -/
def State.blind (s : State) (d : Nat) : State := if 1 ≤ d ∧ d < 0x20 then ((s.draw 8).2.draw 8).2 else s

/-- The work of a verb without a key. -/
def PkForm.plain (f : PkForm) (b : Barge) (s : State) (work : State → List Bytes → State × Except W16 Bytes) : Effect :=
  match f.operands b s with
  | .error r => { st := s, reply := r }
  | .ok os =>
    match work (s.blind (fld b.payload 8 1)) os with
    | (s, .error c) => fail s c
    | (s, .ok res) => f.answer b s res

/-- The work of a verb with a private key. -/
def PkForm.keyed (f : PkForm) (b : Barge) (s : State) (ok : Slot → Bool)
    (work : State → Slot → Bytes → List Bytes → State × Except W16 Bytes) : Effect :=
  match s.privateKey b f.domain ok with
  | (s, .error r) => { st := s, reply := r }
  | (s, .ok (x, k)) => f.plain b s fun s os => work s x k os

/-- A signature of a scheme over a message, with randomness of the engine's stream (R309, R314, R335). -/
def State.signed (s : State) (scheme d n : Nat) (k msg : Bytes) : State × Except W16 Bytes :=
  let (r, s) := s.drawSeed
  (s, .ok (fit n (Config.sigSign scheme d k msg r)))

/-! ## Elliptic curves (R302, R304 to R307) -/

/-- Bytes of a scalar or coordinate of domains 1 to 3. -/
def ecLen (d : Nat) : Nat := if d = 1 then 32 else if d = 2 then 48 else 66

/-- Domains P-256, P-384 and P-521. -/
def ecDomain (d : Nat) : Bool := d == 1 || d == 2 || d == 3

/-- Validation of a point: encoding range, then the curve, which the point at infinity is not on (R305). The leading byte of a point given
by reference is seen only here, and ends the barge as PARSE would (log entry 27). -/
def pointFail (d : Nat) (q : Bytes) : Option W16 :=
  if !pointField q then some stBadFormat
  else if allZero q then some stNotOnCurve
  else if Config.coordRange d q then some stNoncanonical
  else if !Config.onCurve d q then some stNotOnCurve else none

/-- A secret scalar outside 1 to n − 1 (R306). -/
def scalarFail (d : Nat) (k : Bytes) : Option W16 :=
  if num k = 0 then some stInputZero else if Config.curveOrder d ≤ num k then some stNoncanonical else none

/-- Digest lengths. -/
def digestLen (n : Nat) : Bool := n == 32 || n == 48 || n == 64

/-- The form of ECDSA_SIGN. -/
def ecdsaSignForm (dx : Bool) : PkForm :=
  { dx := dx, key := true, domain := fun d => if dx then d == 1 || d == 2 else ecDomain d, func := digestLen,
    lens := fun p => [fld p 12 1], stored := true, out := fun p _ => 2 * ecLen (fld p 8 1) }

/-- A key of class 7 with SIGN. -/
def signer (x : Slot) : Bool := keyClass x.attributes == 7 && allows x.attributes atSign

/-- A key of class 8 with AGREE. -/
def agreer (x : Slot) : Bool := keyClass x.attributes == 8 && allows x.attributes atAgree

/-- The work of ECDSA_SIGN. -/
def ecdsaSignRun (dx : Bool) (b : Barge) (s : State) : Effect :=
  let d := fld b.payload 8 1
  (ecdsaSignForm dx).keyed b s signer fun s _ k os =>
    match scalarFail d k with
    | some c => (s, .error c)
    | none => s.signed 0x01 d (2 * ecLen d) k (os.headD [])

/-- ECDSA_SIGN. -/
def ecdsaSignVerb : Verb where
  opcode := 0x0601
  world := .flight
  maxReply := 132
  fmt := (ecdsaSignForm false).parse
  run := ecdsaSignRun false

/-- ECDSA_SIGN. -/
def execEcdsaSign (b : Barge) (s : State) : Host.Outcome State Fault Refusal := verbStep ecdsaSignVerb b s

/-- ECDSA_SIGN_DX6100 (R327). -/
def ecdsaSignDx6100Verb : Verb where
  opcode := 0x0682
  world := .flight
  maxReply := 96
  fmt := (ecdsaSignForm true).parse
  run := ecdsaSignRun true

/-- ECDSA_SIGN_DX6100. -/
def execEcdsaSignDx6100 (b : Barge) (s : State) : Host.Outcome State Fault Refusal := verbStep ecdsaSignDx6100Verb b s

/-- The form of ECDSA_VERIFY. -/
def ecdsaVerifyForm (dx : Bool) : PkForm :=
  { dx := dx, domain := fun d => if dx then d == 1 || d == 2 else ecDomain d, func := digestLen, point := true,
    lens := fun p => let l := ecLen (fld p 8 1); [1 + 2 * l, fld p 12 1, 2 * l] }

/-- The work of ECDSA_VERIFY (R305). -/
def ecdsaVerifyRun (dx : Bool) (b : Barge) (s : State) : Effect :=
  let d := fld b.payload 8 1
  (ecdsaVerifyForm dx).plain b s fun s os =>
    let q := os.getD 0 []
    let sig := os.getD 2 []
    let out (v : Bytes) : Bool := num v == 0 || Config.curveOrder d ≤ num v
    match pointFail d q with
    | some c => (s, .error c)
    | none =>
      if out (sl sig 0 (ecLen d)) || out (sl sig (ecLen d) (ecLen d)) || !Config.sigVerify 0x02 d q (os.getD 1 []) sig then
        (s, .error stSigInvalid)
      else (s, .ok [])

/-- ECDSA_VERIFY. -/
def ecdsaVerifyVerb : Verb where
  opcode := 0x0602
  world := .flight
  fmt := (ecdsaVerifyForm false).parse
  run := ecdsaVerifyRun false

/-- ECDSA_VERIFY. -/
def execEcdsaVerify (b : Barge) (s : State) : Host.Outcome State Fault Refusal := verbStep ecdsaVerifyVerb b s

/-- ECDSA_VERIFY_DX6100 (R327). -/
def ecdsaVerifyDx6100Verb : Verb where
  opcode := 0x0683
  world := .flight
  fmt := (ecdsaVerifyForm true).parse
  run := ecdsaVerifyRun true

/-- ECDSA_VERIFY_DX6100. -/
def execEcdsaVerifyDx6100 (b : Barge) (s : State) : Host.Outcome State Fault Refusal := verbStep ecdsaVerifyDx6100Verb b s

/-- The form of ECDH_DERIVE. -/
def ecdhForm : PkForm :=
  { key := true, domain := ecDomain, point := true, lens := fun p => [1 + 2 * ecLen (fld p 8 1)], sealed := true,
    out := fun p _ => ecLen (fld p 8 1) }

/-- ECDH_DERIVE. -/
def ecdhDeriveVerb : Verb where
  opcode := 0x0603
  world := .flight
  maxReply := 66
  noIdem := true
  fmt := ecdhForm.parse
  run b s :=
    let d := fld b.payload 8 1
    ecdhForm.keyed b s agreer fun s _ k os =>
      match pointFail d (os.headD []) with
      | some c => (s, .error c)
      | none =>
        match scalarFail d k with
        | some c => (s, .error c)
        | none => (s, .ok (fit (ecLen d) (Config.agree d k (os.headD []))))

/-- ECDH_DERIVE. -/
def execEcdhDerive (b : Barge) (s : State) : Host.Outcome State Fault Refusal := verbStep ecdhDeriveVerb b s

/-- Domains Curve25519 and Curve448. -/
def edDomain (d : Nat) : Bool := d == 4 || d == 5

/-- Bytes of an EdDSA signature and public key. -/
def edSig (d : Nat) : Nat := if d = 4 then 64 else 114
/-- Bytes of an EdDSA public key. -/
def edPub (d : Nat) : Nat := if d = 4 then 32 else 57

/-- The form of EDDSA_SIGN. -/
def eddsaSignForm : PkForm :=
  { key := true, domain := edDomain, msg := true, stored := true, out := fun p _ => edSig (fld p 8 1) }

/-- EDDSA_SIGN. -/
def eddsaSignVerb : Verb where
  opcode := 0x0604
  world := .flight
  maxReply := 114
  fmt := eddsaSignForm.parse
  run b s :=
    let d := fld b.payload 8 1
    eddsaSignForm.keyed b s (fun x => signer x && (x.keyType == 0x14 || x.keyType == 0x16)) fun s _ k os =>
      s.signed 0x04 d (edSig d) k (os.headD [])

/-- EDDSA_SIGN. -/
def execEddsaSign (b : Barge) (s : State) : Host.Outcome State Fault Refusal := verbStep eddsaSignVerb b s

/-- The form of EDDSA_VERIFY. -/
def eddsaVerifyForm : PkForm :=
  { domain := edDomain, lens := fun p => [edPub (fld p 8 1), edSig (fld p 8 1)], msg := true }

/-- EDDSA_VERIFY (R305). -/
def eddsaVerifyVerb : Verb where
  opcode := 0x0605
  world := .flight
  fmt := eddsaVerifyForm.parse
  run b s :=
    let d := fld b.payload 8 1
    eddsaVerifyForm.plain b s fun s os =>
      let q := os.getD 0 []
      if Config.coordRange d q then (s, .error stNoncanonical)
      else if !Config.onCurve d q then (s, .error stNotOnCurve)
      else if Config.sigVerify 0x05 d q (os.getD 2 []) (os.getD 1 []) then (s, .ok []) else (s, .error stSigInvalid)

/-- EDDSA_VERIFY. -/
def execEddsaVerify (b : Barge) (s : State) : Host.Outcome State Fault Refusal := verbStep eddsaVerifyVerb b s

/-- Bytes of an X25519 or X448 value. -/
def xLen (d : Nat) : Nat := if d = 4 then 32 else 56

/-- The form of XDH_DERIVE. -/
def xdhForm : PkForm :=
  { key := true, domain := edDomain, lens := fun p => [xLen (fld p 8 1)], sealed := true,
    out := fun p _ => xLen (fld p 8 1) }

/-- XDH_DERIVE (R307). -/
def xdhDeriveVerb : Verb where
  opcode := 0x0606
  world := .flight
  maxReply := 56
  noIdem := true
  fmt := xdhForm.parse
  run b s :=
    let d := fld b.payload 8 1
    xdhForm.keyed b s (fun x => agreer x && (x.keyType == 0x13 || x.keyType == 0x15)) fun s _ k os =>
      let z := fit (xLen d) (Config.agree d k (os.headD []))
      if allZero z then (s, .error stInputZero) else (s, .ok z)

/-- XDH_DERIVE. -/
def execXdhDerive (b : Barge) (s : State) : Host.Outcome State Fault Refusal := verbStep xdhDeriveVerb b s

/-! ## RSA and modular arithmetic (R305, R306) -/

/-- Bytes of the public key of a type; an RSA key's is its modulus and a 4-byte exponent (log entry 20). -/
def publicLen (type size : Nat) : Nat :=
  if type = 0x10 then 65 else if type = 0x11 then 97 else if type = 0x12 then 133 else if type = 0x13 ∨ type = 0x14 then 32
  else if type = 0x15 then 56 else if type = 0x16 then 57 else if type = 0x20 then size / 8 + 4
  else if type = 0x30 then 1184 else 1952

/-- The form of PUBKEY_READ. -/
def pubkeyForm : PkForm :=
  { key := true, domain := fun d => ecDomain d || edDomain d || d == 0x10 || d == 0x20 || d == 0x21,
    size := fun d n => if d = 0x10 then rsaSize 8192 n else n == 0,
    stored := true, out := fun p t => publicLen t (fld p 10 2),
    result := fun p n => [0x10, 0x11, 0x12, 0x13, 0x14, 0x15, 0x16, 0x20, 0x30, 0x31].any fun t =>
      domainType (fld p 8 1) t && n == publicLen t (fld p 10 2) }

/-- The public half of a private key, by the key's type; an RSA key's stands in its first bytes (R301). -/
def publicHalf (type size : Nat) (k : Bytes) : Bytes :=
  if type = 0x20 then k.take (size / 8 + 4) else fit (publicLen type size) (Config.publicOf type k)

/-- The length of an RSA private key of a size (R301). -/
def rsaKeyLength (size : Nat) : Nat := size / 8 * 9 / 2 + 4

/-- PUBKEY_READ: an EC scalar is held to R306, and an RSA key of another size ends with OPERAND_INVALID (log entry 27). -/
def pubkeyReadVerb : Verb where
  opcode := 0x0607
  world := .flight
  maxReply := 1952
  fmt := pubkeyForm.parse
  run b s :=
    let d := fld b.payload 8 1
    pubkeyForm.keyed b s (fun _ => true) fun s x k _ =>
      match if ecDomain d then scalarFail d k else none with
      | some c => (s, .error c)
      | none =>
        if x.keyType = 0x20 ∧ k.length ≠ rsaKeyLength (fld b.payload 10 2) then (s, .error stOperand)
        else (s, .ok (publicHalf x.keyType (fld b.payload 10 2) k))

/-- PUBKEY_READ. -/
def execPubkeyRead (b : Barge) (s : State) : Host.Outcome State Fault Refusal := verbStep pubkeyReadVerb b s

/-- The form of RSA_PRIVATE. -/
def rsaPrivateForm (dx : Bool) : PkForm :=
  { dx := dx, key := true, domain := fun d => d == 0x10, size := fun _ n => rsaSize (if dx then 4096 else 8192) n,
    lens := fun p => [fld p 10 2 / 8], stored := true, out := fun p _ => fld p 10 2 / 8 }

/-- The work of RSA_PRIVATE (R306); a key of another size ends with OPERAND_INVALID (log entry 27). -/
def rsaPrivateRun (dx : Bool) (b : Barge) (s : State) : Effect :=
  let k := fld b.payload 10 2 / 8
  (rsaPrivateForm dx).keyed b s (fun x => signer x || agreer x) fun s _ key os =>
    let base := num (os.headD [])
    if key.length ≠ rsaKeyLength (fld b.payload 10 2) then (s, .error stOperand)
    else if base = 0 then (s, .error stInputZero)
    else if num (key.take k) ≤ base then (s, .error stNoncanonical)
    else (s, .ok (fit k (Config.rsaPrivate key (os.headD []))))

/-- RSA_PRIVATE. -/
def rsaPrivateVerb : Verb where
  opcode := 0x0610
  world := .flight
  maxReply := 1024
  fmt := (rsaPrivateForm false).parse
  run := rsaPrivateRun false

/-- RSA_PRIVATE. -/
def execRsaPrivate (b : Barge) (s : State) : Host.Outcome State Fault Refusal := verbStep rsaPrivateVerb b s

/-- RSA_PRIVATE_DX6100 (R327). -/
def rsaPrivateDx6100Verb : Verb where
  opcode := 0x0680
  world := .flight
  maxReply := 512
  fmt := (rsaPrivateForm true).parse
  run := rsaPrivateRun true

/-- RSA_PRIVATE_DX6100. -/
def execRsaPrivateDx6100 (b : Barge) (s : State) : Host.Outcome State Fault Refusal := verbStep rsaPrivateDx6100Verb b s

/-- base to the power e modulo m, e of at most n bits; 0 to the power 0 is 1 (R305). -/
def modPow (base e m : Nat) : Nat → Nat
  | 0 => 1 % m
  | n + 1 =>
    if e = 0 then 1 % m
    else
      let h := modPow (base * base % m) (e / 2) m n
      if e % 2 = 1 then base * h % m else h

/-- The form of RSA_PUBLIC. -/
def rsaPublicForm (dx : Bool) : PkForm :=
  { dx := dx, domain := fun d => d == 0x10, size := fun _ n => rsaSize (if dx then 4096 else 8192) n,
    lens := fun p => [fld p 10 2 / 8, 4, fld p 10 2 / 8], stored := true, out := fun p _ => fld p 10 2 / 8 }

/-- The work of RSA_PUBLIC (R305). -/
def rsaPublicRun (dx : Bool) (b : Barge) (s : State) : Effect :=
  let size := fld b.payload 10 2
  (rsaPublicForm dx).plain b s fun s os =>
    let n := num (os.getD 0 [])
    let e := num (os.getD 1 [])
    let x := num (os.getD 2 [])
    if n % 2 = 0 || !n.testBit (size - 1) || e % 2 = 0 || e < 3 || n ≤ e then (s, .error stOperand)
    else if n ≤ x then (s, .error stNoncanonical)
    else (s, .ok (be (size / 8) (modPow x e n 32)))

/-- RSA_PUBLIC. -/
def rsaPublicVerb : Verb where
  opcode := 0x0611
  world := .flight
  maxReply := 1024
  fmt := (rsaPublicForm false).parse
  run := rsaPublicRun false

/-- RSA_PUBLIC. -/
def execRsaPublic (b : Barge) (s : State) : Host.Outcome State Fault Refusal := verbStep rsaPublicVerb b s

/-- RSA_PUBLIC_DX6100 (R327). -/
def rsaPublicDx6100Verb : Verb where
  opcode := 0x0681
  world := .flight
  maxReply := 512
  fmt := (rsaPublicForm true).parse
  run := rsaPublicRun true

/-- RSA_PUBLIC_DX6100. -/
def execRsaPublicDx6100 (b : Barge) (s : State) : Host.Outcome State Fault Refusal := verbStep rsaPublicDx6100Verb b s

/-- The form of MOD_OP. -/
def modOpForm : PkForm :=
  { domain := fun d => d == 0x11, func := fun f => f ≤ 3, size := fun _ n => modSize n,
    lens := fun p => let k := fld p 10 2 / 8; [k, k, k], stored := true, out := fun p _ => fld p 10 2 / 8 }

/-- A modular operation by its function code. -/
def modOp (f a b m size : Nat) : Nat :=
  if f = 0 then (a + b) % m else if f = 1 then (a + m - b) % m else if f = 2 then a * b % m else modPow a b m size

/-- MOD_OP (R305). -/
def modOpVerb : Verb where
  opcode := 0x0620
  world := .flight
  maxReply := 1024
  fmt := modOpForm.parse
  run b s :=
    let size := fld b.payload 10 2
    modOpForm.plain b s fun s os =>
      let m := num (os.getD 0 [])
      let x := num (os.getD 1 [])
      let y := num (os.getD 2 [])
      if m % 2 = 0 || !m.testBit (size - 1) then (s, .error stOperand)
      else if m ≤ x || m ≤ y then (s, .error stNoncanonical)
      else (s, .ok (be (size / 8) (modOp (fld b.payload 12 1) x y m size)))

/-- MOD_OP. -/
def execModOp (b : Barge) (s : State) : Host.Outcome State Fault Refusal := verbStep modOpVerb b s

/-! ## Lattice verbs (R305, R314 to R317) -/

/-- The form of KEM_ENCAPS. -/
def kemEncapsForm : PkForm := { domain := fun d => d == 0x20, lens := fun _ => [1184], sealed := true, out := fun _ _ => 1120 }

/-- KEM_ENCAPS. -/
def kemEncapsVerb : Verb where
  opcode := 0x0630
  world := .flight
  maxReply := 1120
  noIdem := true
  fmt := kemEncapsForm.parse
  run b s :=
    kemEncapsForm.plain b s fun s os =>
      if !Config.kemKeyOk (os.headD []) then (s, .error stNoncanonical)
      else
        let (r, s) := s.drawSeed
        let c := Config.kemEncaps (os.headD []) r
        (s, .ok (fit 1088 c.1 ++ fit 32 c.2))

/-- KEM_ENCAPS. -/
def execKemEncaps (b : Barge) (s : State) : Host.Outcome State Fault Refusal := verbStep kemEncapsVerb b s

/-- The form of KEM_DECAPS. -/
def kemDecapsForm : PkForm :=
  { key := true, domain := fun d => d == 0x20, lens := fun _ => [1088], sealed := true,
    out := fun _ _ => 32 }

/-- KEM_DECAPS (R315). -/
def kemDecapsVerb : Verb where
  opcode := 0x0631
  world := .flight
  maxReply := 32
  noIdem := true
  fmt := kemDecapsForm.parse
  run b s := kemDecapsForm.keyed b s agreer fun s _ k os => (s, .ok (fit 32 (Config.kemDecaps k (os.headD []))))

/-- KEM_DECAPS. -/
def execKemDecaps (b : Barge) (s : State) : Host.Outcome State Fault Refusal := verbStep kemDecapsVerb b s

/-- The form of MLDSA_SIGN. -/
def mldsaSignForm : PkForm :=
  { key := true, domain := fun d => d == 0x21, ctx := true, lens := fun p => [fld p 13 1], msg := true,
    stored := true, out := fun _ _ => 3309 }

/-- MLDSA_SIGN. -/
def mldsaSignVerb : Verb where
  opcode := 0x0632
  world := .flight
  maxReply := 3309
  fmt := mldsaSignForm.parse
  run b s :=
    mldsaSignForm.keyed b s signer fun s _ k os =>
      s.signed 0x32 0x21 3309 k (mldsaMessage (os.getD 0 []) (os.getD 1 []))

/-- MLDSA_SIGN. -/
def execMldsaSign (b : Barge) (s : State) : Host.Outcome State Fault Refusal := verbStep mldsaSignVerb b s

/-- The form of MLDSA_VERIFY. -/
def mldsaVerifyForm : PkForm :=
  { domain := fun d => d == 0x21, ctx := true, lens := fun p => [1952, 3309, fld p 13 1], msg := true }

/-- MLDSA_VERIFY. -/
def mldsaVerifyVerb : Verb where
  opcode := 0x0633
  world := .flight
  fmt := mldsaVerifyForm.parse
  run b s :=
    mldsaVerifyForm.plain b s fun s os =>
      if Config.sigVerify 0x33 0x21 (os.getD 0 []) (mldsaMessage (os.getD 2 []) (os.getD 3 [])) (os.getD 1 []) then (s, .ok [])
      else (s, .error stSigInvalid)

/-- MLDSA_VERIFY. -/
def execMldsaVerify (b : Barge) (s : State) : Host.Outcome State Fault Refusal := verbStep mldsaVerifyVerb b s

/-! ## Hash verbs (R318, R324) -/

/-- Output bytes of a hash algorithm. -/
def hashLen (a : Nat) : Nat :=
  if a = 1 ∨ a = 4 ∨ a = 7 then 32 else if a = 2 ∨ a = 5 then 48 else 64

/-- The form of HASH; no domain code is given to it (log entry 27). -/
def hashForm : PkForm :=
  { domain := fun d => d == 0, func := fun f => 1 ≤ f && f ≤ 8, msg := true, stored := true, out := fun p _ => hashLen (fld p 12 1) }

/-- HASH. -/
def hashVerb : Verb where
  opcode := 0x0640
  world := .flight
  maxReply := 64
  charge := 6
  fmt := hashForm.parse
  run b s :=
    hashForm.plain b s fun s os => (s, .ok (fit (hashLen (fld b.payload 12 1)) (Config.hash (fld b.payload 12 1) (os.headD []))))

/-- HASH. -/
def execHash (b : Barge) (s : State) : Host.Outcome State Fault Refusal := verbStep hashVerb b s

/-- The form of the HMAC verbs. -/
def hmacForm (verify : Bool) : PkForm :=
  { key := true, domain := fun d => d == 0, func := fun f => 1 ≤ f && f ≤ 6, msg := true,
    lens := fun p => if verify then [hashLen (fld p 12 1)] else [],
    stored := !verify, out := fun p _ => if verify then 0 else hashLen (fld p 12 1) }

/-- The HMAC secret of a request: class 6, type 0x08, one attribute bit. -/
def State.hmacKey (s : State) (b : Barge) (mask : Nat) : State × Except Reply (Nat × Bytes) :=
  match s.permit b.slice (fld b.payload 0 8) mask with
  | .error r => (s, .error r)
  | .ok i =>
    if keyClass (s.slot i).attributes ≠ 6 || (s.slot i).keyType ≠ 8 then (s, .error attrDenied)
    else
      match s.fetch i with
      | (s, .error r) => (s, .error r)
      | (s, .ok k) => (s, .ok (i, k))

/-- HMAC_GENERATE: counts one invocation (R136). -/
def hmacGenerateVerb : Verb where
  opcode := 0x0641
  world := .flight
  maxReply := 64
  charge := 6
  fmt := (hmacForm false).parse
  run b s :=
    let a := fld b.payload 12 1
    match s.hmacKey b atMacGen with
    | (s, .error r) => { st := s, reply := r }
    | (s, .ok (i, k)) =>
      match s.countSlot i k with
      | (s, .error r) => { st := s, reply := r }
      | (s, .ok _) => (hmacForm false).plain b s fun s os => (s, .ok (fit (hashLen a) (Config.hmac a k (os.headD []))))

/-- HMAC_GENERATE. -/
def execHmacGenerate (b : Barge) (s : State) : Host.Outcome State Fault Refusal := verbStep hmacGenerateVerb b s

/-- HMAC_VERIFY: AUTH_FAIL on any difference. -/
def hmacVerifyVerb : Verb where
  opcode := 0x0642
  world := .flight
  charge := 6
  fmt := (hmacForm true).parse
  run b s :=
    let a := fld b.payload 12 1
    match s.hmacKey b atMacVerify with
    | (s, .error r) => { st := s, reply := r }
    | (s, .ok (_, k)) =>
      (hmacForm true).plain b s fun s os =>
        if fit (hashLen a) (Config.hmac a k (os.getD 1 [])) = os.getD 0 [] then (s, .ok []) else (s, .error stAuthFail)

/-- HMAC_VERIFY. -/
def execHmacVerify (b : Barge) (s : State) : Host.Outcome State Fault Refusal := verbStep hmacVerifyVerb b s

/-! ## Operand descriptors (R302) -/

/-- The form of a public-key or lattice verb. -/
def pkFormOf (opcode : Nat) : Option PkForm :=
  match opcode with
  | 0x0601 => some (ecdsaSignForm false) | 0x0682 => some (ecdsaSignForm true)
  | 0x0602 => some (ecdsaVerifyForm false) | 0x0683 => some (ecdsaVerifyForm true)
  | 0x0603 => some ecdhForm | 0x0604 => some eddsaSignForm | 0x0605 => some eddsaVerifyForm | 0x0606 => some xdhForm
  | 0x0607 => some pubkeyForm
  | 0x0610 => some (rsaPrivateForm false) | 0x0680 => some (rsaPrivateForm true)
  | 0x0611 => some (rsaPublicForm false) | 0x0681 => some (rsaPublicForm true)
  | 0x0620 => some modOpForm
  | 0x0630 => some kemEncapsForm | 0x0631 => some kemDecapsForm | 0x0632 => some mldsaSignForm | 0x0633 => some mldsaVerifyForm
  | _ => none

/-- `function` of a descriptor for an opcode and its head. -/
def pkFunction (opcode : Nat) (p : Bytes) : Nat :=
  if opcode = 0x0620 then 0x20 + fld p 12 1
  else if opcode = 0x0607 then (if 0x20 ≤ fld p 8 1 then 0x34 else 7)
  else if 0x0680 ≤ opcode then (if opcode ≤ 0x0681 then 0x10 + opcode - 0x0680 else opcode - 0x0681)
  else opcode % 256

/-- The operand descriptor of a job, its context's staging buffer at a hold reference and its operands there one after another; an operand
given by reference keeps its own entry. The key comes through the key port, unless its blob is in the hold. -/
def PkForm.descriptor (f : PkForm) (b : Barge) (n staging keyRef keyType : Nat) : Bytes :=
  let p := b.payload
  let fn := pkFunction b.opcode p
  let at_ := f.resultAt p
  let entries := if f.byRef p then (List.range (f.count p)).map (entryAt p)
    else (List.range (f.count p)).map fun i =>
      (staging, 16 + (((f.lengths p).take i).map padded).foldl (· + ·) 0, (f.lengths p).getD i 0)
  be 2 fn ++ be 1 (fld p 8 1) ++ be 1 (flag (f.toBuffer p) 0 + flag f.sealed 1) ++
    be 2 (if 0x10 ≤ fn ∧ fn ≤ 0x23 then fld p 10 2 else 0) ++ be 1 (f.count p) ++ zeros 1 ++ be 2 (b.slice % 4096) ++ zeros 2 ++
    be 4 b.generation.toNat ++ be 8 keyRef ++
    (if f.toBuffer p then sl p at_ 16 else zeros 12 ++ be 4 (f.out p keyType)) ++ be 8 n ++
    entries.flatMap fun x => be 8 x.1 ++ be 4 x.2.1 ++ be 4 x.2.2

/-- What F brings into a bank of the operand RAM: every operand, read once (R302); one that cannot be read is not there. -/
def State.operandRam (s : State) (b : Barge) : List Bytes :=
  match pkFormOf b.opcode with
  | none => []
  | some f =>
    match f.operands b s with
    | .ok os => os
    | .error _ => []

/-- The form of a verb whose result may go to an operand buffer. -/
def formOf (opcode : Nat) : Option PkForm :=
  if opcode = 0x0640 then some hashForm else if opcode = 0x0641 then some (hmacForm false) else pkFormOf opcode

/-- The result that a job writes to an operand buffer at its commit: buffer, epoch, offset and bytes, as its work has left them (R303,
R311). -/
def Effect.result (e : Effect) (b : Barge) : List (Nat × Nat × Nat × Bytes) :=
  let p := b.payload
  match formOf b.opcode with
  | none => []
  | some f =>
    let at_ := f.resultAt p
    if !f.toBuffer p || e.reply.status != stDone then []
    else
      match e.st.bufferOf b.slice (fld p at_ 8) with
      | .ok (i, x, bs) => [(i, x.epoch, fld p (at_ + 8) 4, sl bs (fld p (at_ + 8) 4) (fld p (at_ + 12) 4))]
      | .error _ => []

/-- One indivisible commit write; a buffer that was freed since, or is used anew, takes none (R303). -/
def State.commitResult (s : State) (x : Nat × Nat × Nat × Bytes) : State :=
  match s.eng.opBufs.find x.1 with
  | none => s
  | some u =>
    match u.bytes with
    | none => s
    | some bs => if u.epoch = x.2.1 then s.setBuffer x.1 { u with bytes := some (patch bs x.2.2.1 x.2.2.2) } else s

/-- What the unit of a public-key engine lets it read for its job: its flight's staging buffers, the slice's operand buffers and the key's
blob; and what it lets it write: the result range (R302). -/
def State.engineRanges (s : State) (r : BargeRec) : List (Nat × Nat) × List (Nat × Nat) :=
  let place (i : Nat) : Nat := bufferArea * 4096 + 65536 * i
  let bufs := (s.eng.opBufs.filter fun e => e.2.slice == r.barge.slice && e.2.bytes.isSome).map fun e =>
    (place e.1, (e.2.bytes.getD []).length)
  let blobs := (r.keys.filter fun k => allows k.2.1.attributes atHoldResident).map fun k => (Config.blobPlace k.1, (k.2.2.getD []).length)
  (((List.range 16).map fun c => (Config.stagingPlace r.flight c, 16384)) ++ bufs ++ blobs,
   r.results.map fun x => (place x.1 + x.2.2.1, x.2.2.2.length))

/-- Units 96 to 127 are those of the public-key engines: each allows what the job that runs on its engine needs, and nothing without one. -/
def State.engineAllows (s : State) (unit : Nat) (k : AccessKind) (a : Nat) : Bool :=
  if unit < 96 ∨ 127 < unit then true
  else
    let jobs := s.flt.barges.filter fun e => e.2.job.any fun j => j.kind == .publicKey && j.engine == unit - 96
    match jobs.head? with
    | none => false
    | some (_, r) =>
      let within_ (x : Nat × Nat) : Bool := x.1 ≤ a && a < x.1 + x.2
      match k with
      | .read => (s.engineRanges r).1.any within_
      | .write => (s.engineRanges r).2.any within_
      | .execute => false

/-! ## The device LMS signer (R319 to R323) -/

/-- Every position has been used. -/
def State.lmsSpent (s : State) : Bool := 2 ^ 37 ≤ s.eng.lmsPos

/-- Reserve the block of a position: its record has handle 0 and floor 0xFFFF (R320). -/
def State.reserveLms (s : State) (pos : Nat) : State :=
  let r := zeros 8 ++ be 8 (pos / 64) ++ be 2 0xFFFF ++ zeros 2
  let ring := s.vlt.reservations ++ [r ++ be 4 (Config.crc32 r)]
  { s with vlt := { s.vlt with reservations := ring.drop (ring.length - 43690) },
           eng := { s.eng with lmsReserved := pos / 64 * 64 + 63 } }

/-- HSH_LMS_LOW stands from the entry into generation 126 on (R323). -/
def State.noteLow (s : State) : State := if 126 * 2 ^ 30 ≤ s.eng.lmsPos then s.level 196 true noInst 0xFFFF 0 0 else s

/-- Take one position: its block is reserved before its first signature, the next block once it is half spent. -/
def State.takePosition (s : State) : State × Nat :=
  let p := s.eng.lmsPos
  let s := if s.eng.lmsReserved < p || s.eng.lmsReserved = 0 then s.reserveLms p else s
  let s := if 32 ≤ p % 64 + 1 && s.eng.lmsReserved < p / 64 * 64 + 64 then s.reserveLms (p + 64) else s
  let s := { s with eng := { s.eng with lmsPos := p + 1, lmsTokens := s.eng.lmsTokens - 1 } }
  (s.noteLow, p)

/-- SEED and I of an LMS generation (R319). -/
def State.lmsSeedOf (s : State) (g : Nat) : Bytes :=
  kdf s.vlt.dis (ascii "DX8300 lms") (be 8 s.ctr.moduleId.toNat ++ be 1 g) 384

/-- The top, middle and bottom trees that sign at a position: their levels and numbers (R320, R321). -/
def treesAt (pos : Nat) : List (Nat × Nat) := [(0, pos / 2 ^ 30), (1, pos / 2 ^ 20), (2, pos / 2 ^ 10)]

/-- The trees that may be built ahead of a position: the next bottom tree once the present one is half used, the next middle tree and the
next generation's once fewer than 2^20 positions of the present one remain (R321). -/
def treesDue (pos : Nat) : List (Nat × Nat) :=
  let next (level size left : Nat) : List (Nat × Nat) := if size - pos % size < left then [(level, pos / size + 1)] else []
  next 0 (2 ^ 30) (2 ^ 20) ++ next 1 (2 ^ 20) (2 ^ 20) ++ next 2 (2 ^ 10) 513

/-- SEED and I of the tree of a level that signs at a position: the top tree's, or one formed under the top SEED from the path of its parent
leaf; the tree under a top leaf is of level 1 (R319; log entry 43). -/
def State.lmsTree (s : State) (level pos : Nat) : Bytes :=
  let top := s.lmsSeedOf (pos / 2 ^ 30)
  if level = 0 then top
  else kdf (top.take 32) (ascii "DX8300 lms sub") (be 8 level ++ be 4 (pos % 2 ^ 30 / 2 ^ (10 * (3 - level)))) 384

/-- The LMS signature of the tree of a level at a position, its leaf the level's ten bits and its randomiser formed under its SEED (R319,
R320). -/
def State.lmsSig (s : State) (level pos : Nat) (msg : Bytes) : Bytes :=
  let tree := s.lmsTree level pos
  let q := pos / 2 ^ (10 * (2 - level)) % 1024
  fit 1452 (Config.lmsSign tree q (kdf (tree.take 32) (ascii "DX8300 lms c") (be 4 q) 256) msg)

/-- A device HSS signature, 4,472 bytes: the number of signed public keys, each key of a lower tree under the signature of the tree above
it, and the signature of the bottom tree (R320, RFC 8554). -/
def State.hss (s : State) (pos : Nat) (msg : Bytes) : Bytes :=
  let pub (level : Nat) : Bytes := fit 56 (Config.lmsPublic (s.lmsTree level pos))
  be 4 2 ++ s.lmsSig 0 pos (pub 1) ++ pub 1 ++ s.lmsSig 1 pos (pub 2) ++ pub 2 ++ s.lmsSig 2 pos msg

/-- Phase 6 of a shred sequence: the certificate is signed and becomes readable (R144, R145). -/
def State.storeCert (s : State) (n pos : Nat) : State :=
  match s.vlt.shreds.find n with
  | none => s
  | some q =>
    let h := s.certificateHead q
    let c := h ++ s.sign384 s.attestKey h ++ s.hss pos h
    let s1 : State := { s with draws := s.draws + 1, vlt := { s.vlt with
        certs := s.vlt.certs.put (q.evidence.getD 0) c, shreds := s.vlt.shreds.put n { q with phase := 6 } } }
    s1.mirror s [.sequence n]

/-- The hash units of a device signature: eight that walk its 34 chains, and another that verifies it; which ones is free (R322). -/
def State.signUnits (s : State) : List Nat × Nat × State :=
  let us := (kindNumbers .hash).filter (s.serves .hash)
  let (k, s) := s.freeNat
  let us := us.drop (k % us.length) ++ us.take (k % us.length)
  (us.take 8, us.getD 8 (us.getLastD 0), s)

/-- The compressions of a device signature: signing and verifying walk 255 steps on every chain together, one compression each, and the
messages and paths take a free number more (R322; log entry 43). -/
def State.countSignature (s : State) (signers : List Nat) (verifier : Nat) : State :=
  let (left, s) := (List.range 34).foldl (fun (x : Nat × State) i =>
    let (a, s) := x.2.freeNat
    (x.1 + (255 - a % 256), s.countOps .hash (signers.getD (i % 8) verifier) (a % 256))) (0, s)
  (verifier :: signers).foldl (fun s u =>
    let (more, s) := s.freeNat
    s.countOps .hash u more) (s.countOps .hash verifier left)

/-- The signer completes the oldest request that holds a token, once the trees of its position are in the hold, but for a start
with secure debug in CUSTODY, which reserves no position (R446); a failed verification consumes the position, faults a
hash unit and ends a quote with FAULT_DETECTED, while a certificate stays to be signed again (R322, R323). -/
def State.signHead (s : State) (verified : Bool) : State :=
  match s.eng.lmsQueue with
  | [] => s
  | r :: rest =>
    if s.lmsSpent then
      let s := { s with eng := { s.eng with lmsQueue := rest } }
      match r with
      | .cert _ => s
      | .quote w _ => s.answer w ⟨stLmsExhausted, []⟩ []
    else if s.eng.lmsTokens = 0 || !s.eng.lmsSeed || (s.ctr.dbgStart && s.ctr.state == .custody) ||
        !((treesAt s.eng.lmsPos).all s.eng.lmsTrees.contains) then s
    else
      let (signers, verifier, s) := s.signUnits
      let (s, pos) := (s.countSignature signers verifier).takePosition
      let (u, s) := s.freeNat
      let s := if verified then s else s.faultEngine .hash ((verifier :: signers).getD (u % (signers.length + 1)) verifier) 4 stFault
      match r with
      | .cert n => if verified then { s with eng := { s.eng with lmsQueue := rest } }.storeCert n pos else s
      | .quote w body =>
        let s := { s with eng := { s.eng with lmsQueue := rest } }
        if verified then s.answer w ⟨stDone, body ++ s.hss pos (body.take 312)⟩ [] else s.answer w ⟨stFault, []⟩ []

/-- SHRED_CERT_SIGNED: the certificate of a sequence is the request the signer completes (R144). -/
def execShredCertSigned (shred : Nat) (s : State) : Host.Outcome State Fault Refusal :=
  match s.eng.lmsQueue with
  | .cert n :: _ => if n = shred then .next (s.signHead true) else .next s
  | _ => .next s

/-- LMS_BUCKET_TOKEN: one token, 200 per second, to a depth of 400 (R323): 5 ms at least lie between two. -/
def execLmsBucketToken (s : State) : Host.Outcome State Fault Refusal :=
  let s := s.upTo s.eng.lmsTokenAt
  .next { s with eng := { s.eng with lmsTokens := sat 400 (s.eng.lmsTokens + 1), lmsTokenAt := s.now + 5000000 } }

/-- LMS_TREE_BUILT: a tree that is due is built into the hold, and those that no position ahead uses leave it (R321). -/
def execLmsTreeBuilt (level tree : Nat) (s : State) : Host.Outcome State Fault Refusal :=
  let pos := s.eng.lmsPos
  if s.eng.lmsTrees.contains (level, tree) || !(treesAt pos ++ treesDue pos).contains (level, tree) then .next s
  else
    let kept := s.eng.lmsTrees.filter (treesAt pos ++ treesDue pos).contains
    .next { s with eng := { s.eng with lmsTrees := kept ++ [(level, tree)] } }

end Sys2Proof.Machine
end

