-- ==== Sys2Proof/Machine/Entropy.lean ====
section
/-! DEFINITION. The entropy unit and the health report: sources, DRBG instances, generator pairs and the
times at which a report is formed (R331 to R338, R345). -/

namespace Sys2Proof.Machine

/-! ## Sources (R333) -/

/-- READY follows the sources: it goes with the last that runs (R338). -/
def State.sourcesChanged (s : State) : State :=
  let none_ : Bool := !s.sourceRunning
  ({ s with ent := { s.ent with
      noneSince := if none_ then some (s.ent.noneSince.getD s.now) else none,
      readyAt := if none_ then none else s.ent.readyAt } }).refreshReady

/-- A health test of a source fails: its pending block is discarded whole, and the third failure within an hour latches the source off
(R332, R333). -/
def State.failSource (s : State) (source : Nat) (adaptive : Bool) : State :=
  let x := s.source source
  let fails := within s.now 3600000000000 x.fails ++ [s.now]
  let latched : Bool := 3 ≤ fails.length
  let s := s.setSource source { x with
    state := if latched then .latched else .restarting, fails := fails, raw := [],
    rctFail := if adaptive then x.rctFail else x.rctFail + 1,
    aptFail := if adaptive then x.aptFail + 1 else x.aptFail, restartAt := s.now + 100000000 }
  let s := if x.state == .running then s.raise 224 source 0xFFFF 0 fails.length else s
  if latched then s.level 225 true source 0xFFFF 0 0 else s

/-- ENT_SOURCE_FAIL: a health test fails in STARTUP or RUNNING. -/
def execEntSourceFail (source : Nat) (adaptive : Bool) (s : State) : Host.Outcome State Fault Refusal :=
  let x := s.source source
  let tests : Bool := x.state == .startup || x.state == .running
  if 1 < source ∨ !tests then .next s else .next (s.failSource source adaptive).sourcesChanged

/-- SOURCE_RESTART_TIMEOUT: 100 ms after its failure a source returns to STARTUP. -/
def execSourceRestartTimeout (source : Nat) (s : State) : Host.Outcome State Fault Refusal :=
  let x := s.source source
  if 1 < source ∨ x.state ≠ .restarting then .next s
  else .next ((s.upTo x.restartAt).setSource source { x with state := .startup })

/-! ## DRBG instances (R334 to R337) -/

/-- Instances that are stalled, in number order. -/
def State.stalled (s : State) : List Nat := (s.ent.drbg.filter fun e => e.2.stalled).map (·.1)

/-- Instances whose reseed has fallen due, in number order. -/
def State.reseedsDue (s : State) : List Nat := (s.ent.drbg.filter fun e => e.2.due).map (·.1)

/-- SOURCE_STARTUP_PASS: 4,096 samples pass both tests. Stalled instances reseed first, then the others whose point has passed; after an
outage READY waits 1 ms more (R337, R338). -/
def execSourceStartupPass (source : Nat) (s : State) : Host.Outcome State Fault Refusal :=
  let x := s.source source
  if 1 < source ∨ x.state ≠ .startup then .next s
  else
    let outage : Bool := s.pwr.started && !s.sourceRunning
    let s := s.setSource source { x with state := .running }
    let s := s.stalled.foldl State.reseed s
    let s := s.reseedsDue.foldl State.reseed s
    let s := if outage then { s with ent := { s.ent with readyAt := some (s.now + 1000000) } } else s
    .next s.sourcesChanged

/-- DRBG_RESEED: an instance reaches its reseed point, by its requests or by time: it takes a block of each source that runs. With none it
goes on from its buffer, and stalls with the draw that finds it dry (R334, R335, R337). -/
def execDrbgReseed (drbg : Nat) (s : State) : Host.Outcome State Fault Refusal :=
  if 113 ≤ drbg then .next s
  else
    let d := s.instanceAt drbg
    .next ((s.upTo (if (reseedPoint drbg).1 ≤ d.requests then s.now else d.reseeded + (reseedPoint drbg).2)).reseedDue drbg)

/-- GEN_PAIR_FAIL: a generator core fails its known answers, or both of its pair fail their lockstep comparison; the
row does not say which, so whether the other core fails too is free (R336, R337; log entry 3). -/
def execGenPairFail (core : Nat) (s : State) : Host.Outcome State Fault Refusal :=
  if 8 ≤ core then .next s
  else
    let other := if core % 2 = 0 then core + 1 else core - 1
    let both := Config.freeBool s.draws
    let kept := (List.range 8).filter fun i => s.ent.genOk.testBit i && i != core && !(both && i == other)
    let s := { s with draws := s.draws + 1,
                      ent := { s.ent with genOk := (kept.map fun i => 2 ^ i).foldl (· + ·) 0 } }
    let s := if s.pairsServing < 2 then s.level 227 true noInst 0xFFFF 0 0 else s
    .next s.refreshReady

/-- READY_RECOVERY_DELAY: 1 ms after a source runs again (R338). -/
def execReadyRecoveryDelay (s : State) : Host.Outcome State Fault Refusal :=
  match s.ent.readyAt with
  | none => .next s
  | some t =>
    let s := s.upTo t
    .next ({ s with ent := { s.ent with readyAt := none } }).refreshReady

/-! ## The health report (R345) -/

/-- HEALTH_REPORT_TICK: the next point of the 1 ms grid, counted from the release of reset and suspended in P4. -/
def execHealthReportTick (s : State) : Host.Outcome State Fault Refusal :=
  if s.pwr.state = 4 then .next s
  else
    let s := s.upTo (max s.hlt.gridAt (s.clk.startAt + 1000000))
    let t := s.clk.startAt + ((s.now - s.clk.startAt) / 1000000 + 1) * 1000000
    .next { s with hlt := { s.hlt with gridAt := t } }.formReport

/-- A report without its time and seq. -/
def reportFields (r : Bytes) : Bytes := sl r 0 16 ++ r.drop 28

/-- HEALTH_REPORT_CHANGE: a changed field is carried no sooner than 100 µs after the latest report. -/
def execHealthReportChange (s : State) : Host.Outcome State Fault Refusal :=
  if reportFields (s.healthBytes 0) = reportFields s.hlt.report then .next s
  else .next (s.upTo (s.hlt.formed + 100000)).formReport

end Sys2Proof.Machine
end

