-- ==== Sys2Proof/Machine/Programs.lean ====
section
/-! DEFINITION. Lock programs: which group an opcode's program stands in, its steps and flags, its charge, and the worst case of
a C0-eligible program (R154 to R158, R160, R169, R182, R241, R533; log entry 29). -/

namespace Sys2Proof.Machine

/-- Default programs that draw on the shuffled pool from the CIPHER locks of group 0 (R149, R238, R241). -/
def pooledDefault : List Nat := [0x0520, 0x0521, 0x0584, 0x0585, 0x0530, 0x0531, 0x0588, 0x0589]

/-- Default programs without a step that rules C0 out: those of R533, and the CVV and MAC programs of R241. -/
def defaultC0 : List Nat := [0x0502, 0x0510, 0x0580, 0x0581, 0x0305, 0x0380] ++ pooledDefault

/-- Terms of a default program in ns: P, D and the largest time it occupies one lock. Those of R533; for the CVV and MAC programs the
phases of R533 with a pooled job of 2, or at 480 data bytes 63, shuffled blocks at their maximum (R169, R257, R262, R272, R273). -/
def defaultTerms (opcode : Nat) : Option (Nat × Nat × Nat) :=
  if opcode = 0x0502 then some (6850, 200, 2550) else if opcode = 0x0510 then some (11440, 0, 6300)
  else if opcode = 0x0580 then some (4850, 0, 1550) else if opcode = 0x0581 then some (4850, 200, 1550)
  else if opcode = 0x0305 ∨ opcode = 0x0380 then some (1590, 0, 160)
  else if [0x0520, 0x0521, 0x0584, 0x0585].contains opcode then some (2435, 0, 160)
  else if pooledDefault.contains opcode then some (24548, 0, 160) else none

/-- Verbs that change a slot, the slot state, the quorum state or the slice state (R38, R156). -/
def changingOpcode (opcode : Nat) : Bool :=
  opcode / 256 == 2 || [0x0301, 0x0302, 0x0303, 0x0304, 0x0306, 0x0307, 0x030A, 0x0312, 0x0382, 0x0414, 0x0540, 0x0541, 0x0550,
    0x0590, 0x0591, 0x0720, 0x0721, 0x0722, 0x0723, 0x0725, 0x0726].contains opcode

/-- Verbs whose KEYFETCH takes cache entries (R213). -/
def kekOpcodes : List Nat := [0x0401, 0x0402, 0x0403, 0x0404, 0x0405, 0x0406, 0x0412]

/-! ## Steps and fields of a record (R156, R182) -/

/-- Steps of a record. -/
def stepCount (r : Bytes) : Nat := fld r 3 1

/-- Offset of step word k. -/
def stepAt (r : Bytes) (k : Nat) : Nat := 8 + 8 * fld r 5 1 + 4 * k

/-- Lock positions of a program's steps. -/
def stepPositions (r : Bytes) : List Nat := (List.range (stepCount r)).map fun k => fld r (stepAt r k) 1

/-- Argument of step k. -/
def stepArgument (r : Bytes) (k : Nat) : Nat := fld r (stepAt r k + 2) 2

/-- The core kind a CIPHER step names is masked: argument bit 15 (R182). -/
def stepMasked (r : Bytes) (k : Nat) : Bool := (stepArgument r k).testBit 15

/-- A record as it was given, without the flags that the loader sets. -/
def bare (r : Bytes) : Bytes := patch r 4 [0]

/-- The FLIGHTS record of a group. -/
def ProgramSet.flightsOf (p : ProgramSet) (group : Nat) : Bytes := (p.flights.find? fun f => fld f 0 1 == group).getD []

/-- Lock code at a position of a group's series; 8 for a position it has not. -/
def lockAt (f : Bytes) (pos : Nat) : Nat := if pos < fld f 3 1 then fld f (4 + pos) 1 else 8

/-- One step of a program: number, position, lock code, and whether it runs on the bound core of an attached lock. -/
structure StepUse where
  index : Nat
  position : Nat
  code : Nat
  bound : Bool
  deriving DecidableEq, Repr

/-- The steps of a record in its group (R149: a job of the other core kind runs from an attached lock as a pooled job). -/
def ProgramSet.steps (p : ProgramSet) (r : Bytes) : List StepUse :=
  let f := p.flightsOf (fld r 2 1)
  (List.range (stepCount r)).map fun k =>
    let pos := fld r (stepAt r k) 1
    { index := k, position := pos, code := lockAt f pos,
      bound := lockAt f pos == 3 && (fld f 16 2).testBit pos && stepMasked r k }

/-- Pool record kind that a step draws on, none where it runs no pooled job (R149, R159, R183). -/
def poolKind (r : Bytes) (x : StepUse) : Option Nat :=
  if x.code = 3 then if x.bound then none else some (if stepMasked r x.index then 2 else 1)
  else if x.code = 4 then some 3
  else if x.code = 5 then some (if [0x0630, 0x0631, 0x0632, 0x0633].contains (fld r 0 2) then 5 else 4)
  else none

/-- Typical or maximal time in ns of the engine job of a step, for a payload length. -/
def jobNs (r : Bytes) (x : StepUse) (most : Bool) (payload : Nat) : Nat :=
  if 3 ≤ x.code ∧ x.code ≤ 5 then Config.jobTime (bare r) x.index most payload else 0

/-- Maximal time of a step on its lock alone, as R533 counts the phases (R147). -/
def lockMax (code : Nat) : Nat :=
  if code = 0 then 80 else if code = 1 then 100 else if code = 2 then 160 else if code = 6 then 90 else 50

/-- Typical time of a step on its lock alone. -/
def lockTypical (x : StepUse) : Nat :=
  if x.code ≤ 1 then 60 else if x.code = 2 then 120 else if x.code = 6 then 70 else if x.code = 7 then 30 else if x.bound then 0 else 50

/-- Time in ns that one barge occupies a lock position. -/
def lockTime (r : Bytes) (xs : List StepUse) (most : Bool) (payload pos : Nat) : Nat :=
  ((xs.filter fun x => x.position == pos).map fun x =>
    (if most then lockMax x.code else lockTypical x) + if x.bound then jobNs r x most payload else 0).foldl (· + ·) 0

/-- The longest time one barge of a record occupies any single lock, in ns. -/
def ProgramSet.longestLock (p : ProgramSet) (r : Bytes) (most : Bool) (payload : Nat) : Nat :=
  ((p.steps r).map fun x => lockTime r (p.steps r) most payload x.position).foldl max 0

/-- Term P of a record (R169): ingress, pound, every step at the maximum of its lock and job, egress. -/
def ProgramSet.path (p : ProgramSet) (r : Bytes) : Nat :=
  630 + 30 + ((p.steps r).map fun x => lockMax x.code + jobNs r x true 512).foldl (· + ·) 0 + 450

/-- Engines of a pool kind that serve a group. -/
def ProgramSet.enginesFor (p : ProgramSet) (kind group : Nat) : Nat :=
  ((p.pools.filter fun q => fld q 0 1 == kind && (fld q 6 1).testBit group).map fun q => fld q 4 2).foldl (· + ·) 0

/-- Engine time per barge shared over a group's flights and the engines of a pool kind, in ns. -/
def ProgramSet.poolTime (p : ProgramSet) (r : Bytes) (payload kind : Nat) : Nat :=
  let g := fld r 2 1
  (((p.steps r).filter fun x => poolKind r x == some kind).map fun x => jobNs r x false payload).foldl (· + ·) 0 *
    fld (p.flightsOf g) 2 1 / p.enginesFor kind g

/-- The charge of a record's program for a payload length, in units of 10 ns: the larger of the two values of R158. -/
def ProgramSet.charge (p : ProgramSet) (r : Bytes) (payload : Nat) : Nat :=
  max (p.longestLock r false payload) (([1, 2, 3, 4, 5].map (p.poolTime r payload)).foldl max 0) / 10

/-! ## Flags and eligibility (R156, R157, R169, R241) -/

/-- The program mutates a slot, the slot state, the quorum state or the slice state. -/
def keyChanging (r : Bytes) : Bool :=
  changingOpcode (fld r 0 2) || (List.range (stepCount r)).any fun k => Config.stepMutates (bare r) k

/-- The program hands the barge to a world. -/
def fwAssist (r : Bytes) : Bool := (List.range (stepCount r)).any fun k => Config.stepHandsOver (bare r) k

/-- Opcodes of which the spec says that no program is C0-eligible: family 0x04, and three PIN and ARQC verbs (R221, R241). -/
def neverC0 (opcode : Nat) : Bool := opcode / 256 == 4 || [0x0501, 0x0503, 0x0511].contains opcode

/-- The first four conditions of R157, and the opcodes that are never C0-eligible. -/
def ProgramSet.lean (p : ProgramSet) (r : Bytes) : Bool :=
  let xs := p.steps r
  !neverC0 (fld r 0 2) && !(xs.any fun x => x.code == 5) && !(kekOpcodes.contains (fld r 0 2) && xs.any fun x => x.code == 2) &&
    !(xs.any fun x => Config.stepHold (bare r) x.index) && !keyChanging r && !fwAssist r

/-- Pool kinds and lock positions of the pooled jobs of an opcode's program that may be C0-eligible. -/
def ProgramSet.pooledAt (p : ProgramSet) (opcode : Nat) : List (Nat × Nat) :=
  match p.record opcode with
  | some r =>
    if p.lean r then (p.steps r).filterMap fun x => (poolKind r x).map fun k => (k, x.position) else []
  | none =>
    if p.isDefault opcode && pooledDefault.contains opcode then
      ((List.range 12).filter fun i => lockAt (p.flightsOf 0) i == 3).map fun i => (1, i)
    else []

/-- The opcodes of a group whose programs may be C0-eligible. -/
def ProgramSet.candidates (p : ProgramSet) (group : Nat) : List Nat :=
  ((p.records.map fun r => fld r 0 2) ++ defaultC0).eraseDups.filter fun op => p.group op == some group

/-- What R169 adds to P, D and Q0: A, S, V, W and E. -/
def waits : Nat := 500 + 1100 + 440 + 1000 + 1700

/-- Terms of an opcode's program, P, D and its longest time on a lock; none where it fails one of the conditions of R157 but the fifth.
The last is judged without reservations, which R169 judges (log entry 29). -/
def ProgramSet.sound (p : ProgramSet) (opcode : Nat) : Option (Nat × Nat × Nat) :=
  let raw : Option (Nat × Nat × Nat) := match p.record opcode with
    | some r =>
      if p.lean r then some (p.path r, if Config.programDraws (bare r) then 200 else 0, p.longestLock r true 512) else none
    | none => if p.isDefault opcode then defaultTerms opcode else none
  raw.filter fun t => t.1 + t.2.1 + t.2.2 + waits ≤ 25000

/-- The fifth condition of R157 for an opcode of a group among the opcodes that count: each pool part it draws on keeps a C0 reserve for
every lock on which they run such jobs. -/
def ProgramSet.reserved (p : ProgramSet) (group : Nat) (among : List Nat) (opcode : Nat) : Bool :=
  (p.pooledAt opcode).all fun u =>
    let locks := ((among.flatMap p.pooledAt).filter fun x => x.1 == u.1).map (·.2)
    let parts := p.pools.filter fun q => fld q 0 1 == u.1 && (fld q 6 1).testBit group
    !parts.isEmpty && parts.all fun q => locks.eraseDups.length ≤ fld q 7 1

/-- Drop the opcodes that fail the fifth condition, until none does: of the programs left, each draw on a pool has failed or holds, and
there are five pools, so five rounds are enough. -/
def ProgramSet.settle (p : ProgramSet) (group : Nat) : Nat → List Nat → List Nat
  | 0, ops => ops
  | k + 1, ops => p.settle group k (ops.filter (p.reserved group ops))

/-- The opcodes of a group that are C0-eligible: the locks that the fifth condition counts are those of these programs (log entry 29). -/
def ProgramSet.c0Of (p : ProgramSet) (group : Nat) : List Nat :=
  p.settle group 5 ((p.candidates group).filter fun op => (p.sound op).isSome)

/-- Terms of a C0-eligible program; none for any other. -/
def ProgramSet.terms (p : ProgramSet) (opcode : Nat) : Option (Nat × Nat × Nat) :=
  (p.sound opcode).filter fun _ => (p.c0Of ((p.group opcode).getD 0)).contains opcode

/-- The worst case L of an opcode in ns, rounded up, given its group's flights and sum of C0 depths; none where one flight alone
leaves no room for C0 work ahead (R167, R169). -/
def ProgramSet.worst (p : ProgramSet) (opcode group flights beta : Nat) : Option Nat :=
  match p.terms opcode with
  | none => some 0
  | some (path, d, _) =>
    let o := ((p.c0Of group).map fun op => match p.sound op with
      | some (_, _, l) => l
      | none => 0).foldl max 0
    if flights ≤ 1 then if beta = 0 then some (path + d + o + waits) else none
    else some (path + d + o + waits + (beta * 10 + (flights - 2)) / (flights - 1))

/-- The flags the loader sets in a record: KEY_CHANGING, FW_ASSIST and C0_ELIGIBLE from bit 0 (R156, R182; log entry 29). -/
def ProgramSet.flagged (p : ProgramSet) (r : Bytes) : Bytes :=
  patch r 4 (be 1 (flag (keyChanging r) 0 + flag (fwAssist r) 1 + flag (p.terms (fld r 0 2)).isSome 2))

/-- The record of a barge's program, none for a default program or no program. -/
def State.recordFor (s : State) (r : BargeRec) : Option Bytes := (s.programs r.bank).record r.barge.opcode

end Sys2Proof.Machine
end

