-- ==== Sys2Proof/Machine/ChartCheck.lean ====
section
/-! DEFINITION. The chart bit-stream: its sections and records, how a partial chart merges into the running one, and the
validation of R192 (R154, R163, R174 to R193; log entry 30). -/

namespace Sys2Proof.Machine

/-! ## Results (R193) -/

/-- A failed check: its status and chart detail. -/
structure ChartFail where
  status : W16
  sect : Nat := 0
  record : Nat := 0
  field : Nat := 0
  check : Nat
  value : Nat := 0
  deriving DecidableEq, Repr

/-- The chart detail's 12 bytes. -/
def ChartFail.bytes (f : ChartFail) : Bytes := be 2 f.sect ++ be 2 f.record ++ be 2 f.field ++ be 2 f.check ++ be 4 f.value

/-- The reply of a failed validation. -/
def ChartFail.reply (f : ChartFail) : Reply := ⟨f.status, f.bytes⟩

/-- The first failed check of a list. -/
def firstBad : List (Option ChartFail) → Option ChartFail
  | [] => none
  | some f :: _ => some f
  | none :: t => firstBad t

/-- A check that must hold. -/
def sound (ok : Bool) (f : ChartFail) : Option ChartFail := if ok then none else some f

/-- A field range of a record (check 4). -/
def range4 (t i : Nat) (r : Bytes) (off len : Nat) (ok : Nat → Bool) : Option ChartFail :=
  sound (ok (fld r off len)) { status := stBadFormat, sect := t, record := i, field := off, check := 4, value := fld r off len % 2 ^ 32 }

/-- A reserved field of a record (check 5). -/
def reserved5 (t i : Nat) (r : Bytes) (off len : Nat) : Option ChartFail :=
  sound (allZero (sl r off len)) { status := stReserved, sect := t, record := i, field := off, check := 5, value := fld r off len % 2 ^ 32 }

/-- Reserved high bits of a byte, from bit lo. -/
def reservedFrom (t i : Nat) (r : Bytes) (off lo : Nat) : Option ChartFail :=
  sound (fld r off 1 < 2 ^ lo) { status := stReserved, sect := t, record := i, field := off, check := 5, value := fld r off 1 }

/-! ## Sections (R174 to R176) -/

/-- One directory entry with its body. -/
structure ChartSection where
  kind : Nat
  signed : Bool
  entry : Bytes
  body : Bytes
  count : Nat
  offset : Nat
  length : Nat

/-- Section i of a chart. -/
def sectionAt (c : Bytes) (i : Nat) : ChartSection :=
  let e := sl c (48 + 16 * i) 16
  { kind := fld e 0 2, signed := fld e 2 2 % 2 == 1, entry := e, body := sl c (fld e 4 4) (fld e 8 4), count := fld e 12 2,
    offset := fld e 4 4, length := fld e 8 4 }

/-- The sections of a chart in directory order. -/
def sectionsOf (c : Bytes) : List ChartSection := (List.range (fld c 12 2)).map (sectionAt c)

/-- The section types (R176). -/
def sectionKinds : List Nat :=
  [0x0001, 0x0002, 0x0003, 0x0004, 0x0005, 0x0006, 0x0010, 0x0011, 0x0012, 0x0013, 0x0014, 0x0020]

/-- Structure sections. -/
def structureKind (t : Nat) : Bool := t < 0x0010

/-- Sections a full chart must hold. -/
def requiredKinds : List Nat := [0x0001, 0x0003, 0x0004, 0x0005, 0x0006, 0x0010, 0x0014]

/-- Sections a partial chart may not hold. -/
def fullOnly : List Nat := [0x0001, 0x0003, 0x0006, 0x0010]

/-- Fewest and most records. -/
def recordRange (t : Nat) : Nat × Nat :=
  if t = 0x0001 then (1, 1) else if t = 0x0002 then (0, 20) else if t = 0x0003 then (1, 8) else if t = 0x0004 then (1, 1024)
  else if t = 0x0005 then (1, 64) else if t = 0x0006 then (0, 4096) else if t = 0x0010 then (1, 12) else if t = 0x0011 then (0, 7)
  else if t = 0x0012 then (0, 8192) else if t = 0x0013 then (0, 4096) else if t = 0x0014 then (1, 1) else (0, 256)

/-- Key bytes of a settings item (R190). -/
def itemKeyLen (item : Nat) : Nat :=
  if item = 1 ∨ item = 4 then 2 else if item = 2 ∨ item = 6 ∨ item = 9 then 1 else if item = 5 then 3 else 0

/-- Value bytes of a settings item. -/
def itemLen (item : Nat) : Nat :=
  if item = 4 ∨ item = 8 then 8 else if item = 5 ∨ item = 6 then 20 else 4

/-- Length of the record a section's bytes begin with. -/
def recordLength (t : Nat) (bs : Bytes) : Nat :=
  if t = 0x0001 ∨ t = 0x0002 ∨ t = 0x0011 ∨ t = 0x0013 then 4
  else if t = 0x0003 then 24 else if t = 0x0005 then 8 else if t = 0x0006 ∨ t = 0x0012 then 16 else if t = 0x0014 then 32
  else if t = 0x0004 then 8 + 8 * fld bs 5 1 + 4 * fld bs 3 1
  else if t = 0x0020 ∧ fld bs 2 2 = 0 then 4 + padded (itemKeyLen (fld bs 0 2))
  else 4 + padded (fld bs 2 2)

/-- The records of a body: none when its count and length do not agree. -/
def splitBody (t : Nat) (bs : Bytes) : Nat → Option (List Bytes)
  | 0 => if bs.isEmpty then some [] else none
  | n + 1 =>
    let l := recordLength t bs
    if bs.length < l then none else (splitBody t (bs.drop l) n).map (bs.take l :: ·)

/-- The records of a section. -/
def ChartSection.records (x : ChartSection) : List Bytes := (splitBody x.kind x.body x.count).getD []

/-! ## Merging (R176, R187, R188, R190) -/

/-- Key bytes of a settings record. -/
def settingKey (r : Bytes) : Bytes :=
  let k := itemKeyLen (fld r 0 2)
  sl r 0 2 ++ (if fld r 0 2 = 5 ∧ fld r 2 2 ≠ 0 then sl r 4 2 ++ sl r 7 1 else sl r 4 k)

/-- Merge key of a record. -/
def mergeKey (t : Nat) (r : Bytes) : Bytes :=
  if t = 0x0002 ∨ t = 0x0011 then sl r 0 1 else if t = 0x0004 ∨ t = 0x0013 then sl r 0 2 else if t = 0x0012 then sl r 0 4
  else settingKey r

/-- A record that removes what it names. -/
def removes (t : Nat) (r : Bytes) : Bool :=
  (t == 0x0004 && fld r 3 1 == 0) || (t == 0x0012 && fld r 4 8 == 0) || (t == 0x0013 && fld r 2 1 == 0) ||
    (t == 0x0020 && fld r 2 2 == 0)

/-- One record merged into a section: in the place of the record with its key, else at the end. A removal of a default
program, which has no record to remove, stands as a record. -/
def mergeRecord (t : Nat) (byDefault : Bool) (rs : List Bytes) (r : Bytes) : List Bytes :=
  if removes t r && !(t == 0x0004 && byDefault && (defaultGroup (fld r 0 2)).isSome) then
    rs.filter fun x => mergeKey t x != mergeKey t r
  else if rs.any fun x => mergeKey t x == mergeKey t r then rs.map fun x => if mergeKey t x == mergeKey t r then r else x
  else rs ++ [r]

/-- The running sections with a partial chart merged in. -/
def mergeSections (byDefault : Bool) (run : Map (List Bytes)) (xs : List ChartSection) : Map (List Bytes) :=
  xs.foldl (fun m x =>
    m.put x.kind (if x.kind = 0x0005 ∨ x.kind = 0x0014 then x.records
      else x.records.foldl (mergeRecord x.kind byDefault) (m.at [] x.kind))) run

/-- The sections of a full chart. -/
def fullSections (xs : List ChartSection) : Map (List Bytes) := xs.foldl (fun m x => m.put x.kind x.records) []

/-! ## Step 1: header and directory -/

/-- A failed header or directory check. -/
def badHeader (off value : Nat) : ChartFail := { status := stBadFormat, field := off, check := 1, value := value % 2 ^ 32 }

/-- The header's checks. -/
def headerBad (c : Bytes) (isPartial : Bool) : Option ChartFail :=
  let n := fld c 12 2
  let sig := fld c 28 4
  let signed : Bool := isPartial && (sectionsOf c).all fun x => !x.signed
  firstBad
    [sound (48 ≤ c.length && fld c 0 4 == 0x44584348) (badHeader 0 (fld c 0 4)),
     sound (fld c 6 2 % 2 == (if isPartial then 1 else 0)) (badHeader 6 (fld c 6 2)),
     sound (fld c 8 4 == c.length) (badHeader 8 (fld c 8 4)),
     sound (1 ≤ n && n ≤ 12 && 48 + 16 * n ≤ c.length) (badHeader 12 n),
     sound (1 ≤ fld c 14 2 && fld c 14 2 ≤ 4095) (badHeader 14 (fld c 14 2)),
     sound (if signed then sig == 0 else sig != 0 && sig + 5820 == c.length && 48 + 16 * n ≤ sig) (badHeader 28 sig)]

/-- A failed directory check of entry i. -/
def badEntry (i off value : Nat) : ChartFail := badHeader (48 + 16 * i + off) value

/-- The directory's checks: types rising, bounds, alignment and record counts. -/
def directoryBad (c : Bytes) (isPartial : Bool) : Option ChartFail :=
  let xs := sectionsOf c
  let limit := if fld c 28 4 = 0 then c.length else fld c 28 4
  let low (i : Nat) : Nat := if i = 0 then 48 + 16 * xs.length else (sectionAt c (i - 1)).offset + (sectionAt c (i - 1)).length
  let entry (i : Nat) : Option ChartFail :=
    let x := sectionAt c i
    firstBad
      [sound (sectionKinds.contains x.kind && (i == 0 || (sectionAt c (i - 1)).kind < x.kind)) (badEntry i 0 x.kind),
       sound (x.offset % 4 == 0 && low i ≤ x.offset) (badEntry i 4 x.offset),
       sound (x.length % 4 == 0 && x.offset + x.length ≤ limit) (badEntry i 8 x.length),
       sound ((recordRange x.kind).1 ≤ x.count && x.count ≤ (recordRange x.kind).2 && (splitBody x.kind x.body x.count).isSome)
         (badEntry i 12 x.count),
       sound (!(isPartial && fullOnly.contains x.kind)) { status := stBadFormat, sect := x.kind, check := 17, value := x.kind }]
  let total (t : Nat) : Bool := xs.any fun x => x.kind == t
  firstBad ((List.range xs.length).map entry ++
    [sound (isPartial || requiredKinds.all total) (badHeader 12 xs.length),
     sound (fld c 28 4 != 0 || low xs.length == c.length) (badHeader 8 c.length)])

/-- A reserved field of the header or the directory that is not zero (R5, R193). -/
def reservedHead (off value : Nat) : ChartFail := { status := stReserved, field := off, check := 5, value := value % 2 ^ 32 }

/-- The reserved fields of the header and the directory, which step 1 does not name: they come before those of the records. -/
def headReserved (c : Bytes) : Option ChartFail :=
  let entry (i : Nat) : List (Option ChartFail) :=
    let x := sectionAt c i
    [sound (fld x.entry 2 2 < 2) (reservedHead (48 + 16 * i + 2) (fld x.entry 2 2)),
     sound (allZero (sl x.entry 14 2)) (reservedHead (48 + 16 * i + 14) (fld x.entry 14 2))]
  firstBad (sound (fld c 6 2 < 2) (reservedHead 6 (fld c 6 2)) :: sound (allZero (sl c 40 8)) (reservedHead 40 (fld c 40 4)) ::
    (List.range (fld c 12 2)).flatMap entry)

/-! ## Steps 2 and 3: version, scope and signatures -/

/-- Step 2 against the module's ID and SVN, and for a signed partial chart against the running identity. -/
def scopeBad (c : Bytes) (isPartial : Bool) (s : State) : Option ChartFail :=
  let signed : Bool := (sectionsOf c).any fun x => x.signed
  let scope (off v : Nat) (st : W16) : ChartFail := { status := st, field := off, check := 2, value := v % 2 ^ 32 }
  firstBad
    [sound (fld c 4 2 == 1) (scope 4 (fld c 4 2) stVersion),
     sound (fld c 32 8 == 0 || fld c 32 8 == s.ctr.moduleId.toNat) (scope 32 (fld c 32 8) stBadFormat),
     sound (fld c 14 2 ≤ s.ctr.svn) (scope 14 (fld c 14 2) stVersion),
     sound (!isPartial || (if signed then fld c 16 8 == s.cht.chartId.toNat else fld c 16 8 == 0)) (scope 16 (fld c 16 8) stBadFormat),
     sound (!isPartial || (if signed then s.cht.version.toNat ≤ fld c 24 4 else fld c 24 4 == 0)) (scope 24 (fld c 24 4) stBadFormat)]

/-- The digest both signatures cover (R178). -/
def chartDigest (c : Bytes) : Bytes :=
  Config.sha384 (ascii "DX8300 chart" ++ sl c 0 48 ++
    ((sectionsOf c).filter fun x => x.signed).flatMap fun x => x.entry ++ x.body)

/-- An unrevoked vendor key's digest: ECDSA keys 0 to 3, HSS keys 4 to 7 of the table (R425). -/
def State.vendorKey (s : State) (hss : Bool) (i : Nat) : Option Bytes :=
  let n := if hss then 4 + i else i
  if 3 < i ∨ s.ctr.revoked.testBit n then none else s.ctr.vendorKeys[n]?

/-- Does a vendor key's signature verify. -/
def State.vendorSigned (s : State) (hss : Bool) (i : Nat) (msg sig : Bytes) : Bool :=
  match s.vendorKey hss i with
  | some k => Config.vendorVerify hss k msg sig
  | none => false

/-- Do both signatures of a block of R178 verify over a digest: ECDSA, then HSS. -/
def State.blockSigned (s : State) (block m : Bytes) : Bool :=
  s.vendorSigned false (fld block 4 1) m (sl block 8 96) && s.vendorSigned true (fld block 5 1) m (sl block 104 5716)

/-- Step 3: the magic, reserved bytes and signatures of the block. The rules name no check for the first two; reserved bytes of the
block that are not zero end as a block that does not verify, check 3 (R178; DESIGN CHOICE, log entry 30). -/
def signatureBad (c : Bytes) (isPartial : Bool) (s : State) : Option ChartFail :=
  let xs := sectionsOf c
  let block := c.drop (fld c 28 4)
  let bad : ChartFail := { status := stAuthFail, check := 3 }
  let mustSign (x : ChartSection) : Bool := x.signed || !(structureKind x.kind || !isPartial)
  firstBad
    [sound (xs.all mustSign) bad,
     sound ((xs.all fun x => !x.signed) ||
       (fld block 0 4 == 0x44585347 && allZero (sl block 6 2) && s.blockSigned block (chartDigest c))) bad]

/-! ## Step 4: fields and reserved fields of each record -/

/-- A settings value's checks (R82, R190). -/
def settingBad (i : Nat) (r : Bytes) (isPartial : Bool) : Option ChartFail :=
  let t := 0x0020
  let item := fld r 0 2
  let port : Option ChartFail := range4 t i r 4 1 (· ≤ 1)
  let vlan : Option ChartFail := range4 t i r 5 1 fun v => v ≤ 3 || v == 0xFF
  if item = 0 ∨ 11 < item then some { status := stBadFormat, sect := t, record := i, check := 4, value := item }
  else if fld r 2 2 = 0 then sound isPartial { status := stBadFormat, sect := t, record := i, field := 2, check := 4 }
  else
    firstBad ([sound (fld r 2 2 == itemLen item)
        { status := stBadFormat, sect := t, record := i, field := 2, check := 4, value := fld r 2 2 }] ++
      (if item = 1 then [port, range4 t i r 5 1 (· ≤ 3), range4 t i r 6 2 (· ≤ 4094)]
       else if item = 2 then [port, range4 t i r 5 1 (· ≤ 1), reserved5 t i r 6 2]
       else if item = 3 then [range4 t i r 4 2 (· ≤ 4094), reserved5 t i r 6 2]
       else if item = 4 then [port, vlan, range4 t i r 6 1 (· ≤ 32), reserved5 t i r 7 1]
       else if item = 5 then [port, vlan, range4 t i r 6 1 (· ≤ 128), range4 t i r 7 1 (· ≤ 1)]
       else if item = 6 then [port, vlan]
       else if item = 7 then [range4 t i r 4 2 fun v => 4096 ≤ v && v ≤ 9146, reserved5 t i r 6 2]
       else if item = 8 then
         [range4 t i r 4 2 fun v => 500 ≤ v && v ≤ 10000, range4 t i r 6 2 fun v => 5 ≤ v && v ≤ 3600,
          range4 t i r 8 2 fun v => 10 ≤ v && v ≤ 600, reserved5 t i r 10 2]
       else if item = 9 then
         [port, range4 t i r 5 1 (· ≤ 1), range4 t i r 6 1 (· ≤ 0x3F), reservedFrom t i r 7 4]
       else if item = 10 then [range4 t i r 4 1 (· ≤ 7), reserved5 t i r 5 3]
       else [range4 t i r 4 1 (· ≤ 127), range4 t i r 5 1 (· ≤ 3), range4 t i r 6 1 (· ≤ 1), reserved5 t i r 7 1]))

/-- One record's field ranges, then its reserved fields. A RESERVATIONS record whose rate and depth are both 0 is one that removes:
R187 knows it in a partial chart alone, and in a full chart it is out of range (DEDUCED, log entry 30). -/
def recordBad (t i : Nat) (r : Bytes) (isPartial : Bool) : Option ChartFail :=
  let ok (off len : Nat) (p : Nat → Bool) : Option ChartFail := range4 t i r off len p
  let zero (off len : Nat) : Option ChartFail := reserved5 t i r off len
  if t = 0x0001 then zero 1 3
  else if t = 0x0002 then zero 1 1
  else if t = 0x0003 then
    firstBad [ok 0 1 (· ≤ 7), ok 1 1 (· ≤ 31), ok 2 1 fun v => 1 ≤ v && v ≤ 32, ok 3 1 fun v => 4 ≤ v && v ≤ 12,
      firstBad ((List.range 12).map fun k => ok (4 + k) 1 fun v => v ≤ 7 && (k < fld r 3 1 || v == 0)),
      ok 16 2 (· < 2 ^ fld r 3 1), reservedFrom t i r 18 1, zero 19 5]
  else if t = 0x0004 then
    firstBad ([ok 2 1 (· ≤ 7), ok 3 1 fun v => (if isPartial then 0 else 1) ≤ v && v ≤ 64, ok 5 1 (· ≤ 32)] ++
      ((List.range (fld r 5 1)).map fun k => ok (8 + 8 * k + 4) 1 (· ≤ 3)) ++ [zero 6 2] ++
      ((List.range (fld r 5 1)).map fun k => zero (8 + 8 * k + 5) 1))
  else if t = 0x0005 then
    firstBad [ok 0 1 fun v => 1 ≤ v && v ≤ 6, ok 7 1 fun v => v ≤ (if fld r 0 1 = 6 then 0 else 16)]
  else if t = 0x0006 then
    firstBad [ok 0 2 fun v => v ≤ 140 || v == 0xFFFF, ok 2 2 fun v => v ≤ (if fld r 0 2 = 0xFFFF then 1023 else 31),
      ok 5 1 (· ≤ 1), ok 12 4 fun v => fld r 8 4 ≤ v, reservedFrom t i r 4 6, zero 6 2]
  else if t = 0x0010 then
    firstBad [ok 0 1 fun v => v == 1 || v == 2, ok 2 2 fun v => if fld r 0 1 = 1 then 1 ≤ v && v ≤ 2048 else v == 20, zero 1 1,
      if fld r 0 1 = 2 then zero 5 3 else none]
  else if t = 0x0011 then
    firstBad [ok 0 1 (· ≤ 6), ok 1 1 fun v => 2 ≤ v && v ≤ 16, ok 2 2 fun v => 1 ≤ v && v ≤ 600]
  else if t = 0x0012 then
    firstBad [ok 2 1 (· ≤ 7), ok 3 1 (· ≤ 1), ok 4 8 fun v => isPartial || v != 0, reservedFrom t i r 0 4, reservedFrom t i r 12 1, zero 13 3]
  else if t = 0x0013 then firstBad [ok 0 2 (· < 4096), ok 2 1 fun v => isPartial || v != 0, zero 3 1]
  else if t = 0x0014 then
    firstBad ([ok 0 4 fun v => 132 ≤ v && v ≤ 65536, ok 4 4 fun v => 1024 ≤ v && v ≤ 26624] ++
      ((List.range 9).map fun k => ok (8 + k) 1 fun v => v == 0 || (16 ≤ v && v ≤ 32)) ++ [ok 17 7 (· == 0), zero 24 8])
  else settingBad i r isPartial

/-- Step 4 over every section. -/
def fieldsBad (c : Bytes) (isPartial : Bool) : Option ChartFail :=
  firstBad ((sectionsOf c).map fun x =>
    firstBad ((List.range x.records.length).map fun i => recordBad x.kind i (x.records.getD i []) isPartial))

/-! ## Step 5: rules across sections, over the chart that would result -/

/-- A failed cross-section rule. -/
def badCross (t i check value : Nat) : ChartFail := { status := stBadFormat, sect := t, record := i, check := check, value := value % 2 ^ 32 }

/-- The records of a section in order, each with the fields a rule tests: offset, length and whether it holds. The first that fails. -/
def eachField (t : Nat) (rs : List Bytes) (check : Nat) (tests : Nat → Bytes → List (Nat × Nat × Bool)) : Option ChartFail :=
  firstBad ((List.range rs.length).flatMap fun i =>
    let r := rs.getD i []
    (tests i r).map fun x => sound x.2.2 { badCross t i check (fld r x.1 x.2.1) with field := x.1 })

/-- The records of a section with a test of one field. -/
def eachRecord (t : Nat) (rs : List Bytes) (check off len : Nat) (ok : Nat → Bytes → Bool) : Option ChartFail :=
  eachField t rs check fun i r => [(off, len, ok i r)]

/-- The first record with which a test of the records up to it fails. -/
def breaksAt (rs : List Bytes) (ok : List Bytes → Bool) : Nat :=
  ((List.range rs.length).find? fun i => !ok (rs.take (i + 1))).getD 0

/-- A rule over the records of a section together; what it reports is the record that breaks it, with a field. -/
def together (t check off len : Nat) (rs : List Bytes) (ok : List Bytes → Bool) : Option ChartFail :=
  let i := breaksAt rs ok
  sound (ok rs) { badCross t i check (fld (rs.getD i []) off len) with field := off }

/-- Lock codes of a FLIGHTS record. -/
def lockCodes (r : Bytes) : List Nat := (sl r 4 (fld r 3 1)).map (·.toNat)

/-- How many locks of a code. -/
def lockCount (ls : List Nat) (code : Nat) : Nat := (ls.filter (· == code)).length

/-- The composition rules of one flight group (R154, R181). PARSE, POLICY and EMIT have one place each in the rule, so a second one
of them is refused (DEDUCED, log entry 30). -/
def composed (r : Bytes) : Bool :=
  let ls := lockCodes r
  let n := ls.length
  let attached := (List.range n).filter fun i => (fld r 16 2).testBit i
  ls[0]? == some 0 && ls[1]? == some 1 && ls[n - 1]? == some 7 && ls[n - 2]? == some 6 &&
    lockCount ls 0 == 1 && lockCount ls 1 == 1 && lockCount ls 7 == 1 &&
    1 ≤ lockCount ls 2 && lockCount ls 2 ≤ 2 && lockCount ls 3 ≤ 3 && lockCount ls 4 ≤ 2 && lockCount ls 5 ≤ 2 &&
    lockCount ls 6 ≤ 2 && (attached.all fun i => ls[i]? == some 3) && fld r 1 1 + fld r 2 1 ≤ 32

/-- Attached locks of the chart: each group's, on each of its flights. -/
def attachedCount (flights : List Bytes) : Nat :=
  (flights.map fun r => fld r 2 1 * ((List.range 12).filter fun i => (fld r 16 2).testBit i).length).foldl (· + ·) 0

/-- The flights' groups cover F00 to F31 once, their codes differ and one serves firmware assistance. -/
def flightsBad (rs : List Bytes) : Option ChartFail :=
  let covered (xs : List Bytes) : List Nat := xs.flatMap fun r => (List.range (fld r 2 1)).map (fld r 1 1 + ·)
  let assisted (xs : List Bytes) : Nat := (xs.filter fun r => fld r 18 1 % 2 == 1).length
  firstBad
    [eachRecord 0x0003 rs 8 4 4 fun _ r => composed r,
     together 0x0003 8 1 1 rs fun xs => (List.range 32).all fun f => (covered xs).count f ≤ 1,
     sound ((List.range 32).all (covered rs).contains)
       { badCross 0x0003 (rs.length - 1) 8 (fld (rs.getLastD []) 2 1) with field := 2 },
     together 0x0003 8 0 1 rs fun xs => (xs.map fun r => fld r 0 1).eraseDups.length == xs.length,
     together 0x0003 8 18 1 rs fun xs => assisted xs ≤ 1,
     sound (assisted rs == 1) { badCross 0x0003 0 8 (fld (rs.headD []) 18 1) with field := 18 },
     together 0x0003 8 16 2 rs fun xs => attachedCount xs ≤ 32]

/-- How often a program's context changes lock. -/
def lockChanges : List Nat → Nat
  | a :: b :: t => (if a = b then 0 else 1) + lockChanges (b :: t)
  | _ => 0

/-- The programs' rules (R155, R156, R182), then their core kinds (R123). -/
def programsBad (p : ProgramSet) : Option ChartFail :=
  let n (r : Bytes) : Nat := fld (p.flightsOf (fld r 2 1)) 3 1
  let steps (r : Bytes) : List Nat := List.range (stepCount r)
  let cores (r : Bytes) (x : StepUse) : Bool :=
    x.code != 3 || (Config.stepClasses (bare r) x.index).all fun c => (c == 3 || c == 4 || c == 5) == stepMasked r x.index
  firstBad
    [eachField 0x0004 p.records 9 fun i r =>
       [(0, 2, (p.records.take i).all fun q => fld q 0 2 != fld r 0 2), (2, 1, stepCount r == 0 || 0 < n r)] ++
         ((steps r).map fun k => (stepAt r k, 1, decide (fld r (stepAt r k) 1 < n r))) ++ [(3, 1, decide (lockChanges (stepPositions r) ≤ 24))],
     eachField 0x0004 p.records 10 fun _ r =>
       if stepCount r = 0 then [] else (p.steps r).map fun x => (stepAt r x.index + 2, 2, cores r x)]

/-- Cores of the bound records together. -/
def boundCount (rs : List Bytes) : Nat := ((rs.filter fun r => fld r 0 1 == 6).map fun r => fld r 4 2).foldl (· + ·) 0

/-- The pools' rules (R159, R183). -/
def poolsBad (rs flights : List Bytes) : Option ChartFail :=
  let block (r : Bytes) : Nat := if fld r 0 1 = 6 then 2 else fld r 0 1
  let bounds (r : Bytes) : Nat × Nat :=
    if fld r 0 1 = 1 then (0, 224) else if fld r 0 1 = 2 ∨ fld r 0 1 = 6 then (224, 256)
    else if fld r 0 1 = 5 then (0, 8) else (0, 32)
  let apart (a b : Bytes) : Bool :=
    block a != block b || fld a 2 2 + fld a 4 2 ≤ fld b 2 2 || fld b 2 2 + fld b 4 2 ≤ fld a 2 2
  firstBad
    [eachField 0x0005 rs 11 fun _ r =>
       [(2, 2, (bounds r).1 ≤ fld r 2 2), (4, 2, fld r 2 2 + fld r 4 2 ≤ (bounds r).2)],
     eachRecord 0x0005 rs 11 2 2 fun i r => (rs.take i).all (apart r),
     together 0x0005 11 4 2 rs fun xs => boundCount xs ≤ attachedCount flights,
     sound (boundCount rs == attachedCount flights)
       { badCross 0x0005 ((rs.findIdx? fun r => fld r 0 1 == 6).getD 0) 11 (boundCount rs) with field := 4 }]

/-- Pages of the sealed regions: the vault and the sealed register pages (R395). -/
def sealedPages : List (Nat × Nat) := [(0x1100000, 0x11007FF), (0x1500000, 0x150003F)]

/-- The protection records' rules (R184, R394). -/
def protectionBad (rs : List Bytes) : Option ChartFail :=
  eachField 0x0006 rs 12 fun _ r =>
    [(8, 4, fld r 8 4 < 0x10000000 && sealedPages.all fun p => fld r 12 4 < p.1 || p.2 < fld r 8 4),
     (12, 4, fld r 12 4 < 0x10000000)]

/-- The custody records' rules (R185). -/
def custodyBad (rs : List Bytes) : Option ChartFail :=
  let count (k : Nat) (xs : List Bytes) : Nat := (xs.filter fun r => fld r 0 1 == k).length
  let anchors := count 1 rs
  firstBad
    [sound (1 ≤ anchors) (badCross 0x0010 0 13 (fld (rs.headD []) 0 1)), together 0x0010 13 0 1 rs fun xs => count 1 xs ≤ 4,
     sound (1 ≤ count 2 rs) (badCross 0x0010 0 13 (fld (rs.headD []) 0 1)), together 0x0010 13 0 1 rs fun xs => count 2 xs ≤ 8,
     eachRecord 0x0010 rs 13 4 1 fun _ r => fld r 0 1 == 1 || fld r 4 1 < anchors]

/-- The limits against the quotas in force (R99, R189). -/
def limitsBad (rs : List Bytes) (s : State) : Option ChartFail :=
  match rs with
  | [] => none
  | r :: _ =>
    firstBad
      [sound (fld r 0 4 + s.quotaSum 0 (·.vaultSlots) ≤ 65536) (badCross 0x0014 0 14 (fld r 0 4)),
       sound (s.quotaSum 0 (·.holdMib) ≤ fld r 4 4) { badCross 0x0014 0 14 (fld r 4 4) with field := 4 }]

/-- No role's M rises above its present N in a partial chart (R186). -/
def rolesBad (rs : List Bytes) (s : State) : Option ChartFail :=
  eachRecord 0x0011 rs 15 1 1 fun _ r => fld r 1 1 ≤ s.quorum (fld r 0 1) || fld r 1 1 ≤ s.holders (fld r 0 1)

/-- Sum of a field over a group's reservations of a class. -/
def reserveSum (rs : List Bytes) (group cls off : Nat) : Nat :=
  ((rs.filter fun r => fld r 2 1 == group && fld r 3 1 == cls).map fun r => fld r off 4).foldl (· + ·) 0

/-- The sums of R163 over each group, and that each reservation's group exists. -/
def reservationsBad (rs flights : List Bytes) : Option ChartFail :=
  let sums (f : Bytes) : Option ChartFail :=
    let g := fld f 0 1
    let c := 100000 * (fld f 2 1 - 1)
    firstBad
      [together 0x0012 18 4 4 rs fun xs => 2 * reserveSum xs g 0 4 ≤ c,
       together 0x0012 18 4 4 rs fun xs => 10 * (reserveSum xs g 0 4 + reserveSum xs g 1 4) ≤ 9 * c]
  firstBad ([eachRecord 0x0012 rs 18 2 1 fun _ r => flights.any fun f => fld f 0 1 == fld r 2 1] ++ flights.map sums)

/-- The settings' rules (R55, R191), where the chart that would result has a SETTINGS section: it holds records, or the chart that is
validated brings one. -/
def settingsBad (rs : List Bytes) (brought : Bool) : Option ChartFail :=
  let item (n : Nat) : List Bytes := rs.filter fun r => fld r 0 2 == n && fld r 2 2 != 0
  let inter := (item 3).map fun r => fld r 4 2
  let untagged (port : Nat) : Bool := !((item 2).any fun r => fld r 4 1 == port && fld r 5 1 == 0)
  let reachable (r : Bytes) : Bool :=
    if fld r 5 1 = 0xFF then untagged (fld r 4 1)
    else (item 1).any fun x => sl x 4 2 == sl r 4 2 && fld x 6 2 != 0
  firstBad
    [eachRecord 0x0020 rs 19 6 2 fun _ r =>
       fld r 0 2 != 1 || fld r 2 2 == 0 || fld r 6 2 == 0 || !inter.contains (fld r 6 2),
     eachRecord 0x0020 rs 19 4 1 fun _ r => fld r 0 2 != 10 || fld r 2 2 == 0 || fld r 4 1 / 2 != 0,
     sound ((rs.isEmpty && !brought) || ((item 4 ++ item 5).any reachable)) (badCross 0x0020 0 19 0)]

/-- Step 1's record counts over resulting sections; the default chart's programs, whose records the spec does not give, count as there. -/
def countsBad (m : Map (List Bytes)) (byDefault : Bool) : Option ChartFail :=
  firstBad (sectionKinds.map fun t =>
    let n := (m.at [] t).length
    sound ((((m.find t).isNone && t != 0x0004) || (t == 0x0004 && byDefault) || (recordRange t).1 ≤ n) && n ≤ (recordRange t).2)
      (badCross t 0 1 n))

/-- Step 5, in the order of R192, over resulting sections. The record counts of the chart that would result from a merge are judged first:
R192 names counts in step 1 alone, which sees only what the chart brings (DESIGN CHOICE, log entry 30). -/
def crossBad (m : Map (List Bytes)) (isPartial byDefault brought : Bool) (s : State) : Option ChartFail :=
  let at_ (t : Nat) : List Bytes := m.at [] t
  let w := fld ((at_ 0x0001).headD []) 0 1
  firstBad
    [countsBad m byDefault, sound (w != 0 && w != 255) (badCross 0x0001 0 6 w),
     eachField 0x0002 (at_ 0x0002) 7 fun _ r =>
       let i := fld r 0 1
       [(0, 1, 1 ≤ i && i ≤ 0x14 && i != 0x09),
        (2, 2, fld r 2 2 % 25 == 0 && 100 ≤ fld r 2 2 && fld r 2 2 ≤ islandMax i)],
     flightsBad (at_ 0x0003),
     programsBad { flights := at_ 0x0003, pools := at_ 0x0005, records := at_ 0x0004, byDefault := byDefault },
     poolsBad (at_ 0x0005) (at_ 0x0003), protectionBad (at_ 0x0006),
     if (m.find 0x0010).isSome then custodyBad (at_ 0x0010) else none,
     limitsBad (at_ 0x0014) s, if isPartial then rolesBad (at_ 0x0011) s else none, reservationsBad (at_ 0x0012) (at_ 0x0003),
     settingsBad (at_ 0x0020) brought]

/-- Step 6: the worst case of every C0-eligible program is at most 25 µs. -/
def worstBad (m : Map (List Bytes)) (byDefault : Bool) : Option ChartFail :=
  let flights := m.at [] 0x0003
  let p : ProgramSet := { flights := flights, pools := m.at [] 0x0005, records := m.at [] 0x0004, byDefault := byDefault }
  firstBad (flights.flatMap fun f =>
    (p.c0Of (fld f 0 1)).map fun op =>
      let i := ((m.at [] 0x0004).findIdx? fun r => fld r 0 2 == op).getD 0
      match p.worst op (fld f 0 1) (fld f 2 1) (reserveSum (m.at [] 0x0012) (fld f 0 1) 0 8) with
      | some l => sound (l ≤ 25000) { status := stBadFormat, sect := 0x0004, record := i, field := op, check := 16, value := l % 2 ^ 32 }
      | none => some { status := stBadFormat, sect := 0x0004, record := i, field := op, check := 16, value := 2 ^ 32 - 1 })

/-- The sections with the flags that the loader sets in the programs (R156, R182). -/
def flagPrograms (m : Map (List Bytes)) (byDefault : Bool) : Map (List Bytes) :=
  let p : ProgramSet := { flights := m.at [] 0x0003, pools := m.at [] 0x0005, records := m.at [] 0x0004, byDefault := byDefault }
  match m.find 0x0004 with
  | some rs => m.put 0x0004 (rs.map p.flagged)
  | none => m

/-- The validation of R192: the sections that would result, or the first failure. -/
def State.validateChart (s : State) (c : Bytes) (isPartial : Bool) : Except ChartFail (Map (List Bytes)) :=
  let early := firstBad [headerBad c isPartial]
  match early with
  | some f => .error f
  | none =>
    match firstBad [directoryBad c isPartial, scopeBad c isPartial s, signatureBad c isPartial s, headReserved c, fieldsBad c isPartial] with
    | some f => .error f
    | none =>
      let xs := sectionsOf c
      let byDefault : Bool := isPartial && s.cht.defaultPrograms
      let m := if isPartial then mergeSections byDefault s.cht.sections xs else fullSections xs
      match firstBad [crossBad m isPartial byDefault (xs.any fun x => x.kind == 0x0020) s, worstBad m byDefault] with
      | some f => .error f
      | none => .ok (flagPrograms m byDefault)

/-- The detail of a chart that passed. -/
def chartPassed : Bytes := zeros 12

end Sys2Proof.Machine
end

