-- ==== Sys2Proof/Machine/FlightOps.lean ====
section
/-! DEFINITION. How a barge leaves: pins, transit slots, undo and the abort of a barge in progress (R40, R72, R152, R162,
R166, R215, R280). -/

namespace Sys2Proof.Machine

/-! ## Class registers (R172) -/

/-- Class registers. -/
def State.classRegs (s : State) (c : Nat) : ClassRegs := s.flt.classes.at {} c

/-- Change the registers of a class. -/
def State.modClass (s : State) (c : Nat) (f : ClassRegs → ClassRegs) : State :=
  { s with flt := { s.flt with classes := s.flt.classes.put c (f (s.classRegs c)) } }

/-! ## Leaving -/

/-- The response of a C0 barge begins to leave: over 25 µs with every condition held it is counted and raised (R170). -/
def State.judgeLate (s : State) (r : BargeRec) : State :=
  if r.admitted = 0 && r.stage != .arrived && r.stage != .held && r.onTime && s.c0Holds r && 25000 < s.now - r.arrived then
    (s.modClass 0 fun c => { c with late := c.late + 1 }).raise 32 0 r.barge.slice 0 (s.now - r.arrived)
  else s

/-- A barge gives up its pins; a marked entry goes with its last pin (R215). -/
def State.unpin (s : State) (refs : List W64) : State :=
  let drop (e : CacheEntry) : CacheEntry := if refs.contains e.ref then { e with pins := e.pins - 1 } else e
  ({ s with vlt := { s.vlt with cache := s.vlt.cache.map drop } }).sweepCache

/-- The four transit slots of a flight (R120). -/
def transitSlots (f : Nat) : List Nat := (List.range 4).map fun k => 65408 + 4 * f + k

/-- A transit slot returns to FREE, erased through its sluice (R120). -/
def State.clearTransit (s : State) (i : Nat) : State :=
  let s := s.writeSlot i {}
  { s with vlt := { s.vlt with transit := s.vlt.transit.del i } }

/-- Transit slots of a flight that no barge in it uses any more return to FREE, erased (R152). -/
def State.freeTransit (s : State) (f : Nat) : State :=
  let used : List Nat := (s.flt.barges.filter fun e => e.2.flight == f && e.2.stage == .context).flatMap fun e => e.2.fetched
  (transitSlots f).foldl (fun s i =>
      if (s.slot i).state == .transit && !used.contains i then s.clearTransit i else s) s

/-- A barge record leaves: its job, chamber, image, pins and transit slots are given up. -/
def State.discharge (s : State) (n : Nat) : State :=
  match s.flt.barges.find n with
  | none => s
  | some r =>
    let s := match r.job with
      | some j => s.freeEngine j
      | none => s
    (((s.releaseHolds n).unpin r.pinned).dropBarge n).freeTransit r.flight

/-- The request of a barge record, in the class it was admitted as. -/
def BargeRec.request (r : BargeRec) : Barge := { r.barge with cls := r.admitted }

/-- Answer a barge in progress with a status and let it go: EMIT discards the answer on a generation difference (R40),
and the charge of one that never left its pound returns (R162). -/
def State.endBarge (s : State) (n : Nat) (reply : Reply) : State :=
  match s.flt.barges.find n with
  | none => s
  | some r =>
    let s := if r.notExecuted then s.returnCharge r else s
    let s := (s.undoBarge r).discharge n
    if (s.slice r.barge.slice).generation != r.barge.generation then s
    else (s.judgeLate r).settle r.request r.pn reply false

/-- Abort barges in progress with a status. -/
def State.abortBarges (s : State) (p : BargeRec → Bool) (c : W16) : State :=
  ((s.flt.barges.filter fun e => p e.2).map (·.1)).foldl (fun s n => s.endBarge n ⟨c, []⟩) s

/-- A barge that runs: in a context or a core queue. -/
def BargeRec.running (r : BargeRec) : Bool := r.stage == .context || r.stage == .coreQueue

end Sys2Proof.Machine
end

