-- ==== Sys2Proof/Machine/Chart.lean ====
section
/-! DEFINITION. The family 0x09 verbs, the switch to a merged chart and the settings banks (R194 to R205, R343, R344). -/

namespace Sys2Proof.Machine

/-! ## The switch (R199 to R201) -/

/-- Clock of an island under a chart's sections: its record's, else the maximum (R180). -/
def chartClock (m : Map (List Bytes)) (i : Nat) : Nat :=
  match (m.at [] 0x0002).find? fun r => fld r 0 1 == i with
  | some r => fld r 2 2
  | none => islandMax i

/-- WHF_LINKCFG of a host port under its LINK setting (R56, R190). -/
def State.linkSetting (s : State) (port : Nat) : W32 :=
  match s.setting 9 (be 1 port) with
  | some v => BitVec.ofNat 32 (fld v 1 1 % 2 + bits (fld v 3 1) 2 0 * 2 + fld v 2 1 % 64 * 16 + bits (fld v 3 1) 3 3 * 2048)
  | none => 0xBF1

/-- A changed LINK setting restarts that port's link. -/
def State.applyLink (s s0 : State) (port : Nat) : State :=
  if s.setting 9 (be 1 port) = s0.setting 9 (be 1 port) then s
  else (s.modLink port fun l => { l with cfg := s.linkSetting port }).linkDown port

/-- Buckets at the switch: a kept reservation keeps its level, clipped to the new β; others start full or go. -/
def State.switchBuckets (s s0 : State) : List ((Nat × Nat × Nat) × (Nat × Nat)) :=
  (s.section_ 0x0012).filterMap fun r =>
    let k := reservationKey r
    (s0.classRight k).map fun v => (k, min ((reservationOf r).depth * 1000000) (s0.bucketLevel k v), s.now)

/-- Spare mapping is rebuilt from the pools and the engines locked out. A mapped spare that runs a job keeps its place until the job ends,
and longer where it is still a spare and its place is still named (R344; log entry 45). -/
def State.remapSpares (s : State) : State :=
  let kinds : List EngineKind := [.shuffled, .masked, .hash, .publicKey, .lattice]
  let s := kinds.foldl (fun s k =>
    let b := s.block k
    let stays (n : Nat) (e : Engine) : Bool := s.isSpare k n && e.standsFor.any fun m => (s.recordOf k m).isSome
    let one (n : Nat) (e : Engine) : Engine :=
      if !e.busy then { e with standsFor := none } else if e.standsFor.isSome && !stays n e then { e with moves := true } else e
    s.setBlock k { b with engines := b.engines.map fun e => (e.1, one e.1 e.2) }) s
  kinds.foldl State.fillPlaces s

/-- The switch: one step between two admissions, with the tables of R200. -/
def State.switchChart (s0 : State) (m : Map (List Bytes)) (c : Bytes) : State :=
  let signed : Bool := (sectionsOf c).any fun x => x.signed
  let programs : Bool := (m.at [] 0x0004).map bare != (s0.section_ 0x0004).map bare
  let islands := islandCodes.filter fun i => chartClock m i != s0.cht.clocks.at (islandMax i) i
  let s := { s0 with cht := { s0.cht with
      sections := m, seq := s0.cht.seq + 1, unstored := true, staging := {}, applied := s0.cht.applied ++ [c],
      version := if signed then BitVec.ofNat 32 (fld c 24 4) else s0.cht.version,
      mode := if programs then .draining else if islands.isEmpty then .steady else .clocking,
      bank := if programs then 1 - s0.cht.bank else s0.cht.bank,
      oldPrograms := if programs then s0.section_ 0x0004 else s0.cht.oldPrograms,
      drainDeadline := if programs then s0.now + 100000000 else s0.cht.drainDeadline, clocking := islands } }
  let s := { s with flt := { s.flt with buckets := s.switchBuckets s0 },
                    ctr := { s.ctr with mr3 := Config.sha384 (s.ctr.mr3 ++ s0.cht.staging.digest) } }
  let s := if (sectionsOf c).any fun x => x.kind == 5 then s.remapSpares else s
  ((s.applyLink s0 0).applyLink s0 1).refreshReady

/-! ## Family 0x09 verbs (R204) -/

/-- Only slice 0 sends the chart verbs. -/
def chartSender (b : Barge) (_ : State) : Bool := b.slice == 0

/-- Bytes of a running section's body. -/
def State.sectionBody (s : State) (t : Nat) : Bytes := (s.section_ t).flatten

/-- A bounded read of stored bytes: from an offset inside them, as many as are there. An offset at or past the end is answered
BAD_FORMAT, and a read across the end is shortened; R204 gives neither (DESIGN CHOICE, log entry 20). -/
def readBytes (s : State) (bs : Bytes) (off len : Nat) : Effect :=
  if bs.length ≤ off then fail s stBadFormat else done s (sl bs off len)

/-- CHART_READ. -/
def chartReadVerb : Verb where
  opcode := 0x0901
  sender := chartSender
  fmt b s := firstCode [lenIs b 12, wellFormed (sectionKinds.contains (fld b.payload 0 2)), wellFormed (fld b.payload 8 2 ≤ 3584),
    wellFormed (fitsSession b s (fld b.payload 8 2)), reserved b s 2 2, reserved b s 10 2]
  run b s := readBytes s (s.sectionBody (fld b.payload 0 2)) (fld b.payload 4 4) (fld b.payload 8 2)

/-- CHART_READ. -/
def execChartRead (b : Barge) (s : State) : Host.Outcome State Fault Refusal := verbStep chartReadVerb b s

/-- Take a chunk of a chart: the first replaces the staging, the others follow without a gap, and the final one
validates the whole (R198). -/
def State.stageChunk (s : State) (off flags : Nat) (chunk : Bytes) : Effect :=
  let g := s.cht.staging
  let held := if flags.testBit 0 then [] else g.bytes
  let all := held ++ chunk
  let open_ : Bool := flags.testBit 0 || (!g.bytes.isEmpty && !g.valid)
  if !open_ ∨ off ≠ held.length ∨ 131072 < all.length then fail s stBadFormat
  else if !flags.testBit 1 then
    done { s with cht := { s.cht with staging := { bytes := all } } } (be 4 all.length)
  else
    match s.validateChart all true with
    | .error f => refuse { s with cht := { s.cht with staging := {} } } f.status f.bytes
    | .ok _ =>
      let d := Config.sha384 all
      let g : Staging := { bytes := all, valid := true, digest := d, deadline := s.now + 3600000000000 }
      done { s with cht := { s.cht with staging := g } } (be 4 all.length ++ fit 48 d ++ chartPassed)

/-- CHART_STAGE. -/
def chartStageVerb : Verb where
  opcode := 0x0902
  maxReply := 64
  sender := chartSender
  fmt b s := firstCode [wellFormed (8 ≤ b.payload.length && b.payload.length == 8 + fld b.payload 4 2),
    wellFormed (fld b.payload 4 2 ≤ 3584), (if fld b.payload 6 1 < 4 then none else some stReserved), reserved b s 7 1]
  run b s := s.stageChunk (fld b.payload 0 4) (fld b.payload 6 1) (b.payload.drop 8)

/-- CHART_STAGE. -/
def execChartStage (b : Barge) (s : State) : Host.Outcome State Fault Refusal := verbStep chartStageVerb b s

/-- CHART_DISCARD (its payload is empty; log entry 20). -/
def chartDiscardVerb : Verb where
  opcode := 0x0903
  sender := chartSender
  fmt b _ := lenIs b 0
  run _ s := done { s with cht := { s.cht with staging := {} } } []

/-- CHART_DISCARD. -/
def execChartDiscard (b : Barge) (s : State) : Host.Outcome State Fault Refusal := verbStep chartDiscardVerb b s

/-- The staged chart is applied: its digest, its validation again, and the switch (R199). -/
def applyStaged (b : Barge) (s : State) : Effect :=
  let g := s.cht.staging
  let differs : ChartFail := { status := stBadFormat, check := 2 }
  if !g.valid ∨ fit 48 g.digest ≠ b.payload then { st := s, reply := differs.reply }
  else
    match s.validateChart g.bytes true with
    | .error f => { st := s, reply := f.reply }
    | .ok m =>
      let s := s.switchChart m g.bytes
      done s (be 4 s.cht.seq.toNat ++ be 1 s.cht.mode.ord ++ zeros 3)

/-- CHART_APPLY: refused unless the chart is STEADY (R201). -/
def chartApplyVerb : Verb where
  opcode := 0x0904
  maxReply := 12
  unestablished := false
  sender := chartSender
  role _ _ := some 4
  fmt b _ := lenIs b 48
  state _ s := if s.cht.mode == .steady then none else some (mismatchReply 7 s.cht.mode.ord 1)
  run b s := applyStaged b s

/-- CHART_APPLY. -/
def execChartApply (b : Barge) (s : State) : Host.Outcome State Fault Refusal := verbStep chartApplyVerb b s

/-- The 80 bytes of CHART_STATUS. -/
def State.chartStatus (s : State) : Bytes :=
  let c := s.cht
  be 4 c.seq.toNat ++ be 8 c.chartId.toNat ++ be 4 c.version.toNat ++ be 1 c.mode.ord ++
    be 1 (flag c.unstored 0 + flag c.flashAlt 1 + flag c.bankValid 2 + flag c.bankB 3) ++ zeros 2 ++ be 4 c.bankSeq.toNat ++
    be 4 c.staging.bytes.length ++ fit 48 c.staging.digest ++ zeros 4

/-- CHART_STATUS. -/
def chartStatusVerb : Verb where
  opcode := 0x0905
  maxReply := 80
  sender := chartSender
  fmt b _ := lenIs b 0
  run _ s := done s s.chartStatus

/-- CHART_STATUS. -/
def execChartStatus (b : Barge) (s : State) : Host.Outcome State Fault Refusal := verbStep chartStatusVerb b s

/-- CHART_STATUS, DX6100 form. -/
def chartStatusDx6100Verb : Verb where
  opcode := 0x0980
  maxReply := 80
  sender := chartSender
  fmt b _ := lenIs b 0
  run _ s := done s s.chartStatus

/-- CHART_STATUS_DX6100. -/
def execChartStatusDx6100 (b : Barge) (s : State) : Host.Outcome State Fault Refusal := verbStep chartStatusDx6100Verb b s

/-! ## Settings banks (R202, R203) -/

/-- A commit copy. -/
def commitWord : Bytes := be 4 0x5A3CC3A5

/-- The bytes of a settings bank. -/
def State.settingsBank (s : State) (b : Bool) : Bytes := if b then s.cht.bankBBytes else s.cht.bankA

/-- Replace the bytes of a settings bank. -/
def State.setSettingsBank (s : State) (b : Bool) (bs : Bytes) : State :=
  if b then { s with cht := { s.cht with bankBBytes := bs } } else { s with cht := { s.cht with bankA := bs } }

/-- Does a later chart replace every part of a partial chart. -/
def superseded (c : Bytes) (later : List Bytes) : Bool :=
  (sectionsOf c).all fun x =>
    let ys := (later.flatMap sectionsOf).filter fun y => y.kind == x.kind
    if x.kind = 0x0005 ∨ x.kind = 0x0014 then !ys.isEmpty
    else x.records.all fun r => ys.any fun y => y.records.any fun q => mergeKey x.kind q == mergeKey x.kind r

/-- The partial charts a store keeps, in apply order. -/
def keptCharts : List Bytes → List Bytes
  | [] => []
  | c :: t => if superseded c t then keptCharts t else c :: keptCharts t

/-- A bank's bytes. -/
def bankBytes (seq floor : Nat) (charts : List Bytes) : Bytes :=
  let body := (charts.map pad4).flatten
  let head := be 4 0x44585342 ++ be 4 seq ++ be 2 floor ++ be 2 charts.length ++ be 4 body.length
  head ++ fit 48 (Config.sha384 (head ++ body)) ++ commitWord ++ commitWord ++ commitWord ++ zeros 20 ++ body

/-- A bank with its commit copies zeroed. -/
def uncommitted (bs : Bytes) : Bytes := patch bs 64 (zeros 12)

/-- Store the applied charts: the inactive bank is written and read back, then committed, and the other is taken out of force. One that does
not read back leaves the other bank in force; the status is not stated (log entry 49). -/
def storeSettings (s : State) : Effect :=
  let charts := keptCharts s.cht.applied
  let size := ((charts.map fun c => (pad4 c).length).foldl (· + ·) 0)
  if 524192 < size then refuse s stQuota (be 1 0xFF ++ zeros 3)
  else
    let new : Bool := !s.cht.bankB
    let seq := s.cht.bankSeq + 1
    let old := s.settingsBank s.cht.bankB
    let bytes := bankBytes seq.toNat s.tow.floor charts
    if s.cht.badStores ≠ 0 then
      fail (State.setSettingsBank { s with cht := { s.cht with badStores := s.cht.badStores - 1 } } new (uncommitted bytes)) stFault
    else
      let s := s.setSettingsBank new bytes
      let s := s.setSettingsBank (!new) (if old.isEmpty then [] else patch old 64 (zeros 4))
      done { s with cht := { s.cht with bankB := new, bankValid := true, bankSeq := seq, unstored := false, applied := charts,
                                        storing := some (s.now + 60000000, old) } }
        (be 1 (bit01 new) ++ zeros 3 ++ be 4 seq.toNat)

/-- A reset or a power loss within the 60 ms that a store may take: the copies were not yet written, and the other bank stays in
force; both banks are committed; or the store was done. Which of the three is free (R203; log entry 49). -/
def State.cutStore (s : State) : State :=
  match s.cht.storing with
  | none => s
  | some (t, old) =>
    let s := { s with cht := { s.cht with storing := none } }
    if t ≤ s.now then s
    else
      let (n, s) := s.freeNat
      let new := s.cht.bankB
      if n % 3 = 0 then (s.setSettingsBank new (uncommitted (s.settingsBank new))).setSettingsBank (!new) old
      else if n % 3 = 1 then s.setSettingsBank (!new) old
      else s

/-- SETTINGS_STORE. -/
def settingsStoreVerb : Verb where
  opcode := 0x0906
  maxReply := 8
  unestablished := false
  sender := chartSender
  role _ _ := some 4
  fmt b s := firstCode [lenIs b 4, reserved b s 0 4]
  run _ s := storeSettings s

/-- SETTINGS_STORE. -/
def execSettingsStore (b : Barge) (s : State) : Host.Outcome State Fault Refusal := verbStep settingsStoreVerb b s

/-- SETTINGS_READ: a bank is 512 KiB (R202). -/
def settingsReadVerb : Verb where
  opcode := 0x0907
  sender := chartSender
  fmt b s := firstCode [lenIs b 12, wellFormed (fld b.payload 0 1 ≤ 1), wellFormed (fitsSession b s (fld b.payload 8 2)),
    reserved b s 1 3, reserved b s 10 2]
  run b s := readBytes s (fit 524288 (s.settingsBank (fld b.payload 0 1 == 1))) (fld b.payload 4 4) (fld b.payload 8 2)

/-- SETTINGS_READ. -/
def execSettingsRead (b : Barge) (s : State) : Host.Outcome State Fault Refusal := verbStep settingsReadVerb b s

/-- Does a bank qualify at start: two commit copies, its digest, and a floor at or below the running SVN. -/
def State.bankOk (s : State) (bs : Bytes) : Bool :=
  let copies := ((List.range 3).filter fun i => sl bs (64 + 4 * i) 4 == commitWord).length
  2 ≤ copies && fld bs 0 4 == 0x44585342 &&
    sl bs 16 48 == fit 48 (Config.sha384 (sl bs 0 16 ++ sl bs 96 (fld bs 12 4))) && fld bs 8 2 ≤ s.ctr.svn

/-- The charts a bank holds, at most n. -/
def splitCharts (bs : Bytes) : Nat → List Bytes
  | 0 => []
  | n + 1 =>
    let l := fld bs 8 4
    if bs.length < 48 ∨ l < 48 then [] else bs.take l :: splitCharts (bs.drop (padded l)) n

/-! ## Timed rows -/

/-- STAGING_EXPIRE. -/
def execStagingExpire (s : State) : Host.Outcome State Fault Refusal :=
  if !s.cht.staging.valid then .next s
  else
    let s := s.upTo s.cht.staging.deadline
    .next { s with cht := { s.cht with staging := {} } }

/-- A barge bound to the bank that drains. -/
def State.onOldBank (s : State) (r : BargeRec) : Bool := r.bound && r.bank != s.cht.bank

/-- PROGRAM_BANK_DRAINED. -/
def execProgramBankDrained (s : State) : Host.Outcome State Fault Refusal :=
  if s.cht.mode != .draining ∨ s.flt.barges.vals.any s.onOldBank then .next s
  else
    .next { s with cht := { s.cht with mode := if s.cht.clocking.isEmpty then .steady else .clocking, oldPrograms := [] } }

/-- CHART_DRAIN_TIMEOUT. -/
def execChartDrainTimeout (s : State) : Host.Outcome State Fault Refusal :=
  if s.cht.mode != .draining then .next s
  else
    let s := s.upTo s.cht.drainDeadline
    .next (s.abortBarges s.onOldBank stAbortHost)

/-- ISLAND_CLOCK_SETTLED. -/
def execIslandClockSettled (island : Nat) (s : State) : Host.Outcome State Fault Refusal :=
  if s.cht.mode != .clocking ∨ !s.cht.clocking.contains island then .next s
  else
    let s := s.rebase
    let rest := s.cht.clocking.filter (· != island)
    .next { s with cht := { s.cht with
        clocks := s.cht.clocks.put island (chartClock s.cht.sections island), clocking := rest,
        mode := if rest.isEmpty then .steady else .clocking } }

end Sys2Proof.Machine
end

