-- ==== Sys2Proof/Machine/DomainLog.lean ====
section
/-! DEFINITION. Domain records as a member applies them: custodian changes, shreds, floor commits, members and spread
slices (R379 to R382, R384, R388; log entries 18 and 31). -/

namespace Sys2Proof.Machine

/-- A vault key that a domain-wide shred names, or a derivative of one (R384). -/
def State.domainShredSlots (s : State) (slice : Nat) (gen : W32) (keyId : W64) : List Nat :=
  if (s.slice slice).generation != gen then []
  else
    let named := (s.vlt.slots.filter fun e =>
      e.2.slice == slice && e.2.keyId == keyId && (e.2.state == .active || e.2.state == .pending || e.2.state == .quarantined)).map (·.1)
    s.descend named (named.map s.slotHandle) s.vlt.slots.length

/-- This module runs the shred sequence of a key itself. -/
def State.shredsHere (s : State) (slice : Nat) (keyId : W64) : Bool :=
  s.vlt.shreds.vals.any fun q => q.slice == slice && q.keyId == keyId && q.phase < 3

/-- Type 2 and 3: every copy of the key goes. -/
def State.domainShred (s0 : State) (slice : Nat) (gen : W32) (keyId : W64) : State :=
  if s0.shredsHere slice keyId then s0
  else
    let is := s0.domainShredSlots slice gen keyId
    let s := (is.foldl State.eraseSlot s0).dropKek slice gen keyId
    if is.isEmpty then s else s.mirror s0 (is.map Touch.slotErased)

/-- Type 4: the floor rises, with its index. -/
def State.commitFloor (s : State) (floor index seq : Nat) : State :=
  if index ≤ s.tow.floorIndex then s
  else
    (({ s with tow := { s.tow with floor := max s.tow.floor floor, floorIndex := index } }).evidence 0x22
      (be 2 floor ++ be 2 index ++ be 8 seq)).raise 356 noInst 0xFFFF 0 floor

/-- Type 6: a member leaves the domain; shreds no longer wait for it. -/
def State.expel (s : State) (id : W64) : State :=
  let without (q : ShredSeq) : ShredSeq := { q with awaiting := q.awaiting.filter (· != id) }
  let each (e : Nat × ShredSeq) : Nat × ShredSeq := (e.1, without e.2)
  let s : State := { s with
    vlt := { s.vlt with shreds := s.vlt.shreds.map each },
    tow := { s.tow with members := s.tow.members.filter (· != id), memberAcks := s.tow.memberAcks.filter fun e => e.1 != id,
                        expelled := if s.tow.expelled.contains id then s.tow.expelled else s.tow.expelled ++ [id],
                        links := s.tow.links.filter fun l => l.peer != id } }
  s.vlt.shreds.keys.foldl State.shredAdvance s

/-- Bindings that a body carries, 17 bytes each. -/
def bindingsOf (slice : Nat) (bs : Bytes) (n : Nat) : List Binding :=
  (List.range n).map fun i => { anchor := fld bs (17 * i) 1, principal := sl bs (17 * i + 1) 16, slice := slice }

/-- Type 7: bindings and generation of a spread slice, and its resets and removals. A binding that would break R97 here is left
out (log entry 21), and the sessions of one that goes end (R98). -/
def State.spreadRecord (s0 : State) (b : Bytes) : State :=
  let id := fld b 0 2 % 4096
  let n := fld b 2 2
  let pairs := (List.range n).map fun i => BitVec.ofNat 64 (fld b (12 + 8 * i) 8)
  let gen := BitVec.ofNat 32 (fld b 4 4)
  if !pairs.contains s0.tow.pairId then s0
  else
    let x := s0.slice id
    let drains : Bool := sliceStateOf (fld b 8 1) == .resetting && x.state != .absent && x.generation.toNat < gen.toNat
    let s := if drains then s0.startDrain id (fld b 9 1 == 1) none else s0
    let x := s.slice id
    let gen' := if x.generation.toNat < gen.toNat then gen else x.generation
    let retires : Bool := gen'.toNat = 0xFFFFFFFF && x.state != .resetting
    let st := if retires then .retired else if x.state == .absent then .active else x.state
    let s := s.setSlice id { x with spread := pairs, generation := gen', state := st, transfer := if retires then none else x.transfer }
    let bs := bindingsOf id (b.drop (12 + 8 * n)) (fld b 10 2)
    let s := { s with cus := { s.cus with bindings := s.cus.bindings.filter fun y => y.slice != id } }
    (bs.foldl State.addBinding s).endUnbound s0

/-- Type 8: the registrar's role moves to a pair; where that is this one, it resumes every ledger above what the members report (R379;
log entry 31). -/
def State.moveRegistrar (s : State) (pair : W64) : State :=
  let takes : Bool := pair == s.tow.pairId && s.tow.registrar != pair
  { s with tow := { s.tow with
      registrar := pair, inherited := s.tow.inherited || takes, ledgers := if takes then [] else s.tow.ledgers } }

/-- Apply one domain record of a type (R380). -/
def State.applyDomain (s : State) (seq kind : Nat) (b : Bytes) : State :=
  if kind = 1 then
    let s := s.takeKeeper (b.drop 4)
    { s with cus := { s.cus with custodySeq := BitVec.ofNat 32 (fld b 0 4) } }
  else if kind = 2 then
    let e := (fld b 0 2 % 4096, fld b 2 1, BitVec.ofNat 32 (fld b 4 4), BitVec.ofNat 64 (fld b 8 8))
    let s := (s.enterShred e).getD s
    s.domainShred e.1 e.2.2.1 e.2.2.2
  else if kind = 3 then s.domainShred (fld b 0 4 % 4096) (BitVec.ofNat 32 (fld b 4 4)) (BitVec.ofNat 64 (fld b 8 8))
  else if kind = 4 then s.commitFloor (fld b 0 2) (fld b 2 2) seq
  else if kind = 5 then
    let m := BitVec.ofNat 64 (fld b 0 8)
    if m = s.ctr.moduleId ∨ s.tow.members.contains m then s else { s with tow := { s.tow with members := s.tow.members ++ [m] } }
  else if kind = 6 then s.expel (BitVec.ofNat 64 (fld b 0 8))
  else if kind = 7 then s.spreadRecord b
  else if kind = 8 then s.moveRegistrar (BitVec.ofNat 64 (fld b 0 8))
  else s

/-- A shred that this member's full register has no room for, even pruned: the record is not applied and so not acknowledged, until it is
sent again (R232, R233; log entry 18). -/
def State.cannotEnter (s : State) (kind : Nat) (b : Bytes) : Bool :=
  kind == 2 && (s.enterShred (fld b 0 2 % 4096, fld b 2 1, BitVec.ofNat 32 (fld b 4 4), BitVec.ofNat 64 (fld b 8 8))).isNone

/-- Apply a numbered record that has not been applied, and keep it (R379). -/
def State.applyNumbered (s : State) (seq kind : Nat) (b : Bytes) : State :=
  if seq ≤ s.tow.domainSeq || s.cannotEnter kind b then s
  else
    let s := (s.applyDomain seq kind b).mark (6, 0)
    { s with tow := { s.tow with domainSeq := seq, domainLog := s.tow.domainLog.put seq (kind, b) } }

end Sys2Proof.Machine
end

