-- ==== Sys2Proof/Machine/Pairing.lean ====
section
/-! DEFINITION. The towpath: hellos, frames, epochs received and acknowledged, the full sync, audits, pair states and
what a lost partner leaves (R348 to R362, R371, R373; log entries 31 and 32). -/

namespace Sys2Proof.Machine

/-! ## Frames (R355, R386) -/

/-- Count a dropped towpath frame. -/
def State.dropTowpath (s : State) : State :=
  { s with tow := { s.tow with chan0 := { s.tow.chan0 with dropAuth := s.tow.chan0.dropAuth + 1 } } }

/-- The responses that a module holds are discarded unsent, gathered ones among them (R361). -/
def State.discardHeld (s : State) : State :=
  let g (x : (Nat × Nat) × Gather) : (Nat × Nat) × Gather := (x.1, { x.2 with records := [], seals := [] })
  { s with tow := { s.tow with heldResponses := [] },
           whf := { s.whf with gathers := (s.whf.gathers.map g).filter fun x => x.2.outstanding != 0 } }

/-- A newer term: a module that serves, served or runs its take-over fence discards its held responses and is FENCED (R361, R370, R371). -/
def State.learnTerm (s : State) (t : Nat) : State :=
  if t ≤ s.tow.term then s
  else
    let fence := s.tow.fence.isSome
    let holder : Bool := s.tow.pair == .primary || s.tow.pair == .solo || s.tow.pair == .seeking || fence
    let s := if holder then s.discardHeld else s
    let w := { s.tow with term := t }
    { s with
      flt := if fence then { s.flt with held := false } else s.flt,
      tow := if holder then
          { w with pair := .fenced, lease := false, epochs := [], wasServing := false, syncing := false, fence := none }
        else w }

/-- Ask the registrar for the domain records after the last applied (R379, R386). -/
def State.pullDomain (s : State) : State :=
  match s.serverOf s.tow.registrar with
  | some m => s.sendInterlink m 0x06 (be 8 s.tow.domainSeq)
  | none => s

/-- Open an authenticated towpath frame of a kind: its body in the clear. A frame one floor index ahead waits for the
commit; any other index, a lower term or a failed tag is dropped and counted. -/
def State.openTowpath (s : State) (kind : Nat) (f : Bytes) : State × Option Bytes :=
  match s.tow.link with
  | none => (s.dropTowpath, none)
  | some l =>
    let pn := fld f 32 8
    let shape : Bool := fld f 0 4 == 0x44585450 && fld f 4 1 == kind && fld f 5 1 < 2 && l.live && l.rxPn < pn &&
      s.tow.term ≤ fld f 16 8
    match Config.gcmOpen l.rxKey (zeros 4 ++ be 8 pn) (sl f 0 40) (f.drop 40) with
    | none => (s.dropTowpath, none)
    | some body =>
      if !shape then (s.dropTowpath, none)
      else if fld f 8 2 = s.tow.floorIndex + 1 then (s.pullDomain, none)
      else if fld f 8 2 ≠ s.tow.floorIndex then
        (s.dropTowpath.sendInterlink l.peer 0x0D (be 2 s.tow.floorIndex ++ zeros 2), none)
      else
        let s := s.modTow fun l => { l with rxPn := pn, heard := s.now, term := max l.term (fld f 16 8) }
        let s := { s with tow := { s.tow with chan0 := { s.tow.chan0 with rx := s.tow.chan0.rx + 1 } } }
        (s.learnTerm (fld f 16 8), some body)

/-- Records of a body, at most n. -/
def recordsOf (bs : Bytes) : Nat → List MirrorRec
  | 0 => []
  | n + 1 =>
    if bs.length < 4 then []
    else
      let len := fld bs 2 2
      { kind := fld bs 0 1, destructive := false, body := sl bs 4 len } :: recordsOf (bs.drop (4 + padded len)) n

/-! ## Applying records (R353, R356) -/

/-- The code of the key that a reservation record names: a live slot's index, else its KEK tag (R138). -/
def State.recordCode (s : State) (key : Nat) : Nat :=
  match s.live key with
  | some i => i
  | none => 65536 + key

/-- Write a mirrored slot: a key that is gone, or another key in its place, has no counter and no reserved block of the old one
(R138, R283). -/
def State.copySlot (s : State) (i : Nat) (x : Slot) : State :=
  let s := if x.epoch = (s.slot i).epoch && x.state != .free && x.state != .retired then s
    else { s with
      eng := { s.eng with counters := s.eng.counters.del i },
      vlt := { s.vlt with reservedTo := s.vlt.reservedTo.del i, prints := s.vlt.prints.del i, blobs := s.vlt.blobs.del i } }
  s.writeSlot i x

/-- The counter that a code names. -/
def refOfCode (code : Nat) : KeyRef := if code < 65536 then .slot code else .kek (BitVec.ofNat 64 (code - 65536))

/-- A mirrored reservation record: it goes to the ring, and a block raises where issue resumes (R138). -/
def State.takeReservation (s : State) (b : Bytes) : State :=
  let c := s.recordCode (fld b 0 8)
  let ring := s.vlt.reservations ++ [b]
  let s := { s with vlt := { s.vlt with reservations := ring.drop (ring.length - 43690) } }
  match aboveBlock (s.scopeOfRef (refOfCode c)) (fld b 8 8) with
  | none => s
  | some v => { s with vlt := { s.vlt with reservedTo := s.vlt.reservedTo.upd 0 c (max v) } }

/-- Apply one record of the serving module; a copy record holds another. -/
def State.applyPlain (s : State) (r : MirrorRec) : State :=
  let b := r.body
  if r.kind = 1 then s.copySlot (fld b 0 2) (slotOfBytes (sl b 4 112) [])
  else if r.kind = 2 then s.takeKeeper b
  else if r.kind = 3 then s.takeReservation b
  else if r.kind = 4 then
    let e : IdemEntry := { opcode := none, digest := sl b 14 48, result := some (BitVec.ofNat 16 (fld b 62 2), b.drop 70),
                           expiry := s.now + fld b 66 4 * 1000000, mirrored := true }
    s.setIdem (fld b 0 2 % 4096) (BitVec.ofNat 32 (fld b 2 4)) (BitVec.ofNat 64 (fld b 6 8)) (some e)
  else if r.kind = 5 then
    let i := fld b 0 2 % 4096
    let g : W32 := BitVec.ofNat 32 (fld b 4 4)
    let s : State := { s with whf := { s.whf with idem := s.whf.idem.filter fun e => e.1.1 != i || e.1.2.1 == g } }
    (s.mark (4, i)).setSlice i { s.slice i with generation := g, state := sliceStateOf (fld b 8 1) }
  else if r.kind = 6 then
    match s.vlt.slots.find? fun e => sl e.2.material 0 8 == sl b 0 8 && allows e.2.attributes atHoldResident with
    | some e => { s with vlt := { s.vlt with blobs := s.vlt.blobs.upd [] e.1 fun x => patch x (fld b 8 4) (sl b 16 (fld b 12 4)) } }
    | none => s
  else if r.kind = 7 then
    let e := (fld b 0 2 % 4096, fld b 2 1, BitVec.ofNat 32 (fld b 4 4), BitVec.ofNat 64 (fld b 8 8))
    ((s.enterShred e).getD s).markTouch (.shred e.1 e.2.1 e.2.2.1 e.2.2.2)
  else if r.kind = 8 then s.applyNumbered (fld b 0 8) (fld b 8 1) (b.drop 12)
  else s

/-- Apply one record; a copied slot counts toward sync_done. -/
def State.applyRecord (s : State) (r : MirrorRec) : State :=
  if r.kind = 9 then
    (recordsOf r.body 1).foldl (fun s x =>
      let s := s.applyPlain x
      if x.kind = 1 then { s with tow := { s.tow with syncDone := s.tow.syncDone + 1 } } else s) s
  else s.applyPlain r

/-- The records of an epoch once every segment has arrived. -/
def EpochRx.records (e : EpochRx) : Option (List MirrorRec) :=
  match e.total with
  | none => none
  | some n => if e.segments.length = n then some e.segments.vals.flatten else none

/-- An epoch the keeper has a part in: CUSTODY or DOMAIN records, or copies of such (R421). -/
def keeperEpoch (rs : List MirrorRec) : Bool :=
  rs.any fun r =>
    let k := if r.kind = 9 then fld r.body 0 1 else r.kind
    k == 2 || k == 8

/-- The epoch that opens a full sync among those received: its first record is the opening record (log entry 31). -/
def State.syncStart (s : State) : Option Nat :=
  (s.tow.received.find? fun x => (x.2.segments.at [] 0).head?.any fun r => r.kind == 9 && sl r.body 4 syncOpens.length == syncOpens).map (·.1)

/-- Apply complete epochs in order after the highest acknowledged (R358); during a secure restart one that the keeper has a part in
waits, and with it those after it (R421). -/
def State.applyEpochs (s : State) : Nat → State
  | 0 => s
  | n + 1 =>
    let e := s.tow.acked + 1
    match (s.tow.received.find e).bind EpochRx.records with
    | none => s
    | some rs =>
      if s.cor.restarting && keeperEpoch rs then s
      else
      let s := rs.foldl State.applyRecord s
      State.applyEpochs { s with tow := { s.tow with acked := e, received := s.tow.received.del e } } n

/-- Take a segment of an epoch: hold it, apply what is complete in order, and send the ack. A joiner starts at the epoch that opens the
sync, and acknowledges none before (R358; log entry 31). A segment whose write the mirror's protection unit refused is not acknowledged, and
is sent again (R406). -/
def State.takeSegment (s : State) (frame body : Bytes) : State :=
  if s.tow.pair != .standby && s.tow.pair != .syncing then s
  else if s.tow.mirrorRefused then { s with tow := { s.tow with mirrorRefused := false } }
  else
    let e := fld frame 24 8
    let s :=
      if e ≤ s.tow.acked then s
      else
        let add (x : EpochRx) : EpochRx :=
          { x with
            segments := x.segments.put (fld frame 12 4) (recordsOf body (fld frame 10 2)),
            total := if fld frame 5 1 = 1 then some (fld frame 12 4 + 1) else x.total }
        let s := { s with tow := { s.tow with received := s.tow.received.upd {} e add } }
        if s.tow.pair == .syncing && s.tow.acked == 0 then
          match s.syncStart with
          | none => s
          | some n => State.applyEpochs { s with tow := { s.tow with acked := n - 1 } } s.tow.received.length
        else s.applyEpochs s.tow.received.length
    s.sendTowpath 3 0 [] 0 s.tow.acked

/-- EPOCH_SEGMENT. -/
def execEpochSegment (frame : Bytes) (s : State) : Host.Outcome State Fault Refusal :=
  let (s, body) := s.openTowpath 2 frame
  match body with
  | none => .next s
  | some b => .next (s.takeSegment frame b)

/-! ## Epochs at the serving module (R357, R358, R360) -/

/-- EPOCH_CLOSE: 20 µs after the first mutation. -/
def execEpochClose (s : State) : Host.Outcome State Fault Refusal :=
  match s.tow.epochs.find s.tow.epoch with
  | none => .next s
  | some e => .next (s.upTo (e.opened + 20000)).closeEpoch

/-- A lease block that the partner, or the witness lease in its place, has made ready (R137, R362). -/
def State.readyLease (s : State) (l : Option (Bool × Nat)) : State :=
  let ready (c : Counter) : Counter := { c with ahead := c.ahead.map fun a => (a.1, a.2.1, true) }
  match l with
  | none => s
  | some (true, k) => { s with eng := { s.eng with kekCounters := s.eng.kekCounters.mod (k - 65536) ready } }
  | some (false, k) => { s with eng := { s.eng with counters := s.eng.counters.mod k ready } }

/-- Shred sequences go on as far as they can, and what waited for an epoch leaves. -/
def State.advanceShreds (s : State) : State := (s.vlt.shreds.keys.foldl State.shredAdvance s).sendMirrored

/-- The mutations of epochs up to a number, oldest first. -/
def State.mutationsUpTo (s : State) (e : Nat) : List Mutation :=
  (s.tow.epochs.filter fun x => x.1 ≤ e).flatMap fun x => x.2.mutations

/-- Release what an acknowledgement covers. -/
def State.acknowledge (s : State) (e : Nat) : State :=
  let ms := s.mutationsUpTo e
  let sent := (s.tow.epochs.find e).map fun x => x.sent
  let took := match sent with
    | some t => min 0xFFFFFF (s.now - t)
    | none => 0
  let s := { s with tow := { s.tow with
      epochs := s.tow.epochs.filter fun x => e < x.1, acked := max s.tow.acked e,
      chan0 := { s.tow.chan0 with ackMax := BitVec.ofNat 32 (max s.tow.chan0.ackMax.toNat took) } } }
  (ms.foldl (fun s m => (s.readyLease m.lease).releaseMutation m none) s).advanceShreds

/-- SEGMENT_RESEND: 15 µs without an ack, at most 40 times. -/
def execSegmentResend (epoch : Nat) (s : State) : Host.Outcome State Fault Refusal :=
  match s.tow.epochs.find epoch with
  | none => .next s
  | some e =>
    if !e.closed ∨ 40 ≤ e.resends ∨ !s.linkLive then .next s
    else
      let s := s.upTo (e.sent + 15000)
      let s := { s with tow := { s.tow with
          epochs := s.tow.epochs.put epoch { e with sent := s.now, resends := e.resends + 1 },
          chan0 := { s.tow.chan0 with resent := s.tow.chan0.resent + BitVec.ofNat 32 e.segments.length } } }
      .next (s.sendEpoch epoch)

/-- What a prior image names: its kind and index. -/
def PriorImage.names : PriorImage → Nat × Nat
  | .slot i _ _ => (0, i) | .custodian i _ => (1, i) | .ballot i _ => (2, i) | .slice i _ => (3, i)
  | .bindings _ => (4, 0) | .anchor i _ => (5, i) | .established _ => (6, 0) | .domain _ _ _ => (7, 0) | .blob i _ => (8, i)
  | .ledger k _ => (9, k.toNat) | .directory t _ => (10, t) | .dirAnchors _ => (11, 0)

/-- What a mutation names: its prior images, the slots of its records and the domain of a domain record. -/
def Mutation.names (m : Mutation) : List (Nat × Nat) :=
  m.prior.map PriorImage.names ++ (m.records.filter fun r => r.kind == 1).map (fun r => (0, fld r.body 0 2)) ++
    (m.records.filter fun r => r.kind == 8).map fun _ => (7, 0)

/-- Does a mutation stand when the partner is lost (R360). -/
def State.stands (s : State) (m : Mutation) : Bool := s.tow.soloPolicy == 1 || m.destructive

/-- Revert, newest first, what does not stand; an object that a later standing mutation changed keeps that change. -/
def State.revertAll (s : State) : List Mutation → List (Nat × Nat) → State
  | [], _ => s
  | m :: older, kept =>
    if s.stands m then s.revertAll older (m.names ++ kept)
    else
      let ps := m.prior.filter fun p => !kept.contains p.names
      State.revertAll (ps.foldl State.restorePrior s) older kept

/-- The witness lease stands in for the partner: unacknowledged epochs are resolved and the module is SOLO; key shreds
count no partner (R360, R371). -/
def State.toSolo (s : State) : State :=
  let ms := (s.tow.epochs.map fun x => x.2.mutations).flatten
  let last := (s.tow.epochs.keys.foldl max 0)
  let s : State := { s with tow := { s.tow with
      pair := .solo, epochs := [], epoch := max s.tow.epoch (last + 1), syncing := false, wasServing := false } }
  let s := s.revertAll ms.reverse []
  let told := (s.tow.outbox.filter fun m => m.2.2.1 == 0x0B).map fun m => m.2.2.2
  let s : State := { s with tow := { s.tow with outbox := s.tow.outbox.filter fun m => m.2.2.1 != 0x0B } }
  let s := told.foldl (fun s b => if fld b 2 1 = 1 then s.tellAnchor (fld b 4 1) else s.tellDirectory (fld b 0 2)) s
  let alone (q : ShredSeq) : ShredSeq :=
    if q.evidence.isNone then { q with members := q.members - (if q.partner = 0 then 0 else 1), partner := 0 } else q
  let each (e : Nat × ShredSeq) : Nat × ShredSeq := (e.1, alone e.2)
  let s : State := { s with vlt := { s.vlt with shreds := s.vlt.shreds.map each } }
  let release (s : State) (m : Mutation) : State :=
    (s.readyLease m.lease).releaseMutation m (if s.stands m then none else some ⟨stMirror, []⟩)
  (ms.foldl release s).advanceShreds

/-- The lease is gone: the module seeks it and holds admission and responses (R361, R364). -/
def State.toSeeking (s : State) : State :=
  { s with tow := { s.tow with pair := .seeking, wasServing := true, lease := false } }

/-! ## The full sync (R352, R353) -/

/-- A module enters SYNCING and discards its own mirrored state, local ballots included; its reservation records stay, custody
stays ESTABLISHED where it was, and the count of ballot IDs goes on (R89, R90, R94, R353). -/
def State.enterSyncing (s : State) : State :=
  let kept (i : Nat) : Bool := i ≤ 3 || isTransit i
  { s with
    vlt := { s.vlt with
      slots := s.vlt.slots.filter fun e => kept e.1, image := s.vlt.image.filter fun e => kept e.1,
      pendingKeys := [], blobs := [], blobLoads := [], shredRegister := [], cache := [], loads := [],
      shreds := s.vlt.shreds.filter fun e => e.2.evidence.isSome },
    cus := { established := s.cus.established, ballotCount := s.cus.ballotCount },
    eng := { s.eng with counters := [], kekCounters := [] }, whf := { s.whf with idem := [] },
    tow := { s.tow with pair := .syncing, syncDone := 0, acked := 0, received := [], parts := [], epochs := [], lease := false,
                        claiming := false, switchover := false, wasServing := false, heldResponses := [], directory := [],
                        dirAnchors := [] } }

/-- Everything the holder streams: slots, custody tables, shred register, reservations, blobs, idempotency entries. -/
def State.syncTouches (s : State) : List Touch :=
  let slots := (s.vlt.slots.filter fun e => 3 < e.1 && !isTransit e.1 && e.2.state != .free).map (·.1)
  slots.map Touch.slot ++ s.cus.slices.keys.map Touch.generation ++ (s.cus.slices.keys.map fun i => Touch.slice i false) ++
    (s.cus.custodians.keys.map fun i => Touch.custodian i false) ++ (s.cus.anchors.keys.map fun i => Touch.anchor i false) ++
    [.bindings false] ++ (if s.cus.established then [.established] else []) ++
    (s.cus.ballots.keys.map fun i => Touch.ballot i false) ++
    (s.vlt.shredRegister.map fun q => Touch.shred q.1 q.2.1 q.2.2.1 q.2.2.2) ++ s.vlt.blobs.keys.map Touch.blob ++
    (s.tow.ledgers.map fun l => Touch.ledger l.key) ++ s.tow.directory.keys.map Touch.directory ++
    (s.tow.dirAnchors.map fun a => Touch.dirAnchor a.1.1 a.1.2) ++
    ((s.vlt.shreds.filter fun e => e.2.evidence.isNone).map fun e => Touch.sequence e.1)

/-- Copy records of the whole mirrored state, behind the opening record; the device LMS reservations belong to one module and stay
there (R362). -/
def State.syncRecords (s : State) : List MirrorRec :=
  let opens : MirrorRec := { kind := 2, destructive := false, body := syncOpens }
  let rs := opens :: s.syncTouches.flatMap s.touchRecords
  let leases : List MirrorRec := (s.vlt.reservations.filter fun b => fld b 16 2 != 0xFFFF).map fun b => { kind := 3, destructive := false, body := b }
  let idems := (s.whf.idem.filter fun e => e.2.mirrored).flatMap fun e =>
    match e.2.result with
    | some (c, p) => s.idemRecord e.1 e.2.digest ⟨c, p⟩
    | none => []
  (rs ++ leases ++ idems).map fun r => { kind := 9, destructive := false, body := recordBytes r }

/-- The holder streams its state as epochs of copy records; epochs of an earlier sync that were not acknowledged are in the copy. -/
def State.startSync (s : State) : State :=
  let s := { s with tow := { s.tow with syncing := true, epochs := [], epoch := max s.tow.epoch (s.tow.epochs.keys.foldl max 0 + 1) } }
  let s := s.syncRecords.foldl (fun s r =>
    s.mutate { records := [r], prior := [], response := none, flight := 0, idem := (0, 0, 0), lease := none }) s
  s.closeEpoch

/-- Put out the responses held in SEEKING. -/
def State.releaseHeld (s : State) : State :=
  let hs := s.tow.heldResponses
  hs.foldl (fun s h => s.respond h.session h.pn h.opcode h.cls h.request ⟨h.reply.status, fillFields h.reply.payload h.cut⟩ h.again)
    { s with tow := { s.tow with heldResponses := [], wasServing := false } }

/-- The responses that wait for an epoch are released, and the epochs still go to the joiner: a module that syncs one as SOLO waits for no
acknowledgement (R353, R360). -/
def State.releaseEpochs (s : State) : State :=
  let ms := (s.tow.epochs.map fun x => x.2.mutations).flatten
  let mute (e : Epoch) : Epoch := { e with mutations := e.mutations.map fun m => { m with response := none } }
  let s : State := { s with tow := { s.tow with epochs := s.tow.epochs.map fun x => (x.1, mute x.2) } }
  ms.foldl (fun s m => s.releaseMutation m none) s

/-- The lease is renewed in the same term: PRIMARY with a standby present, else SOLO, and a partner that came back meanwhile is synced
(R350). -/
def State.resumeServing (s0 : State) : State :=
  let s : State := { s0 with tow := { s0.tow with lease := true } }
  let present : Bool := match s.tow.link with
    | some l => l.live && l.state == 2
    | none => false
  if present then State.releaseHeld { s with tow := { s.tow with pair := .primary } }
  else if s.tow.syncing then (State.releaseHeld { s with tow := { s.tow with pair := .solo } }).releaseEpochs
  else
    let t := s.toSolo.releaseHeld
    if t.linkLive then t.startSync else t

/-- SYNC_DONE: the joiner is STANDBY, the holder PRIMARY. -/
def execSyncDone (s : State) : Host.Outcome State Fault Refusal :=
  if s.tow.pair = .syncing then
    .next (({ s with tow := { s.tow with pair := .standby, syncDone := 0 } }).raise 353 noInst 0xFFFF 0 0)
  else if s.tow.pair = .solo ∧ s.tow.syncing then
    .next ((({ s with tow := { s.tow with pair := .primary, syncing := false } }).modTow fun l => { l with state := 2 }).raise 353 noInst 0xFFFF 0 0)
  else .next s

/-! ## Hellos (R354, R387) -/

/-- TOWPATH_LINK_UP: cage 2 is trained and aligned in mode 1 with RS(544,514), and a paired module sends its HELLO. A cage that
holds anything but passive copper keeps its link down (R50, R521). -/
def execTowpathLinkUp (s : State) : Host.Outcome State Fault Refusal :=
  if (s.pwr.cages.at {} 2).exceeds then .next s
  else
    let s := s.linkUp 2 1 2
    if s.tow.partner = 0 then .next s else .next (s.newLink s.tow.partner).sendHello

/-- The link keys from both nonces (R354): this module's sending key, then its receiving key. -/
def linkKeys (dom label context : Bytes) (own peer : W64) (ownNonce peerNonce : Bytes) : Bytes × Bytes :=
  let low : Bool := own.toNat < peer.toNat
  let tk := kdf dom label (context ++ (if low then ownNonce ++ peerNonce else peerNonce ++ ownNonce)) 512
  if low then (sl tk 0 32, sl tk 32 32) else (sl tk 32 32, sl tk 0 32)

/-- May an UNPAIRED module take a pairing that this hello offers (R352). -/
def State.acceptsPairing (s : State) (peer : W64) (state : Nat) : Bool :=
  s.tow.pair == .unpaired && s.tow.members.contains peer && s.noSliceKeys && state == 4

/-- What the hello of the partner changes in the pair state: a module that it fences resyncs from a partner that serves (R350, R352). -/
def State.afterHello (s0 : State) (state term : Nat) : State :=
  let s := s0.learnTerm term
  if s.tow.pair = .fenced ∧ (state = 1 ∨ state = 4) ∧ s.tow.term ≤ term then
    s.enterSyncing
  else s

/-- What a serving module does once the link is live: a partner that is no standby is synced, by a primary that holds its lease as SOLO, and
once it is renewed where it is gone (R350). -/
def State.helloDone (s : State) (state : Nat) : State :=
  if s.tow.pair = .solo then s.startSync
  else if s.tow.pair = .primary ∧ state ≠ 2 then if s.tow.lease then s.toSolo.startSync else s.toSeeking
  else s

/-- TOWPATH_HELLO: the partner is the one that the pair record names by its ID and, on the holder, by the digest of its identity key
(R352, R354). A hello of a lower term is dropped (R355); a module that learns a newer term from one answers with its own again. -/
def execTowpathHello (frame : Bytes) (s : State) : Host.Outcome State Fault Refusal :=
  let body := frame.drop 40
  let peer := BitVec.ofNat 64 (fld body 0 8)
  let pair := BitVec.ofNat 64 (fld body 8 8)
  let svn := fld body 16 2
  let state := fld body 22 1
  let term := fld body 24 8
  let genuine : Bool := fld frame 0 4 == 0x44585450 && fld frame 4 1 == 1 && body.length == 160 &&
    Config.attested peer.toNat (sl body 0 64) (sl body 64 96)
  let named : Bool := s.tow.partnerDigest.isEmpty || s.tow.partnerDigest == fit 48 (Config.identityDigest peer.toNat)
  let partner : Bool := peer == s.tow.partner && peer != 0 && named && (pair == s.tow.pairId || pair == peer)
  let joins := s.acceptsPairing peer state
  if !genuine ∨ !(partner || joins) ∨ fld frame 16 8 < s.tow.term then .next s.dropTowpath
  else if svn < s.tow.floor ∨ s.tow.expelled.contains peer then .next (s.raise 354 noInst 0xFFFF stFloor.toNat svn)
  else
    let before := s.tow.term
    let s := if joins then
        let s : State := { s with tow := { s.tow with partner := peer, pairId := pair, term := max s.tow.term term } }
        s.formHck.enterSyncing
      else s.afterHello state term
    let fresh : Bool := match s.tow.link with
      | some l => l.peer != peer || l.live || l.nonce.isEmpty
      | none => true
    let s := if fresh then (s.newLink peer).sendHello else if before < s.tow.term then s.sendHello else s
    let own := match s.tow.link with
      | some l => l.nonce
      | none => []
    let ks := linkKeys (s.domAt s.tow.floor) (ascii "DX8300 towpath") (be 8 s.tow.pairId.toNat) s.ctr.moduleId peer own (sl body 32 32)
    let s := s.modTow fun l =>
      { l with pairId := pair, svn := svn, announced := s.now, state := state, txKey := ks.1, rxKey := ks.2, live := true,
               rxPn := fld frame 32 8, heard := s.now, term := max l.term term }
    .next (s.helloDone state)

/-! ## Beats and a silent partner (R357) -/

/-- A beat's body (log entry 31): SVN, floor, pair state, reserved and the health report. -/
def State.beatBody (s : State) : Bytes := be 2 s.ctr.svn ++ be 2 s.tow.floor ++ be 1 s.tow.pair.ord ++ zeros 3 ++ fit 64 s.hlt.report

/-- BEAT_SEND_TIMER: 100 µs with nothing else sent. -/
def execBeatSendTimer (s : State) : Host.Outcome State Fault Refusal :=
  match s.tow.link with
  | none => .next s
  | some l =>
    if !l.live then .next s
    else
      let s := s.upTo (l.sent + 100000)
      .next (s.sendTowpath 4 0 [s.beatBody] 0 s.tow.acked)

/-- TOWPATH_BEAT. -/
def execTowpathBeat (frame : Bytes) (s : State) : Host.Outcome State Fault Refusal :=
  let (s, body) := s.openTowpath 4 frame
  match body with
  | none => .next s
  | some b =>
    .next (s.modTow fun l => { l with svn := fld b 0 2, announced := s.now, state := fld b 4 1, ready := fld b 14 2 % 2 == 1 })

/-- The bytes of a witness message before its MAC (R365). -/
def witnessHead (type state : Nat) (pair sender : W64) (term acked seq lease : Nat) (health : Bytes) : Bytes :=
  be 4 0x44585754 ++ be 1 type ++ be 1 state ++ zeros 2 ++ be 8 pair.toNat ++ be 8 sender.toNat ++ be 8 term ++ be 8 acked ++
    be 4 seq ++ be 4 lease ++ fit 64 health

/-- The MAC of a kind 2 witness's messages (R365). -/
def State.witnessMac (s : State) (head : Bytes) : Bytes :=
  let x := fit 48 (Config.agree 2 s.sessionKey s.tow.witness.key)
  let k := kdf x (ascii "DX8300 witness") (be 8 s.tow.pairId.toNat ++ be 8 s.tow.witness.id.toNat) 256
  sl (hmac384 k head) 0 16

/-- Send a message to the pair's witness; none goes without one, and a chassis witness has pins instead. -/
def State.toWitness (s : State) (type : Nat) (health : Bytes) : State :=
  let k := s.tow.witness.kind
  if k ≠ 1 ∧ k ≠ 2 then s
  else
    let seq := s.tow.witnessSeq + 1
    let head := witnessHead type s.tow.pair.ord s.tow.pairId s.ctr.moduleId s.tow.term s.tow.acked (seq % 2 ^ 32) 0 health
    let s := { s with tow := { s.tow with witnessSeq := seq } }
    if k = 1 then (s.sendInterlink s.tow.witness.id 0x0C (head ++ zeros 16)).emit (.witness 0 [] type (head ++ zeros 16))
    else s.emit (.witness 4636 s.tow.witness.address type (head ++ s.witnessMac head))

/-- The partner is lost (R350, R363). -/
def State.partnerLost (s : State) : State :=
  let s := s.modTow fun l => { l with live := false }
  match s.tow.pair with
  | .primary => if s.tow.lease then s.toSolo else s.toSeeking
  | .solo => { s with tow := { s.tow with syncing := false, epochs := [] } }
  | .standby => ({ s with tow := { s.tow with claiming := true } }).toWitness 3 []
  | .syncing => { s with tow := { s.tow with pair := .fenced } }
  | .unpaired => s
  | .seeking => s
  | .fenced => s

/-- PARTNER_SILENT: 1 ms after the last authenticated frame, or at PCS loss. -/
def execPartnerSilent (pcsLoss : Bool) (s : State) : Host.Outcome State Fault Refusal :=
  match s.tow.link with
  | none => .next s
  | some l =>
    if !l.live then .next s
    else
      let s := if pcsLoss then s.modLink 2 fun k => { k with up := false } else s.upTo (l.heard + 1000000)
      .next ((s.raise 357 noInst 0xFFFF 0 0).partnerLost)

/-! ## Slot copies and audits (R127, R373) -/

/-- SLOT_FETCH: the copy of the slot asked for is sent. -/
def execSlotFetch (frame : Bytes) (s : State) : Host.Outcome State Fault Refusal :=
  let (s, body) := s.openTowpath 5 frame
  match body with
  | none => .next s
  | some b => .next (s.sendTowpath 6 0 [recordBytes (s.touchRecord (.slot (fld b 0 2)))] 0 0)

/-- Take the copy of a slot that was asked for: a quarantined slot is restored from a copy of its epoch; a standby takes the copy of every
slot of a mismatched range (R127, R373). -/
def State.takeSlotCopy (s : State) (i : Nat) (x : Slot) : State :=
  if !s.tow.slotFetches.contains i then s
  else
    let s := { s with tow := { s.tow with slotFetches := s.tow.slotFetches.erase i } }
    let y := s.slot i
    if y.state = .quarantined then
      if x.state = .active ∧ (x.epoch = y.epoch ∨ y.epoch = 0) then s.restoreSlot i x else s.lostSlot i
    else if s.tow.pair = .standby then s.copySlot i x
    else if y.state = .free ∨ y.state = .retired then s
    else s.writeSlot i x

/-- SLOT_REPLY. -/
def execSlotReply (frame : Bytes) (s : State) : Host.Outcome State Fault Refusal :=
  let (s, body) := s.openTowpath 6 frame
  match body.map fun b => recordsOf b 1 with
  | some [r] => .next (s.takeSlotCopy (fld r.body 0 2) (slotOfBytes (sl r.body 4 112) []))
  | _ => .next s

/-- Digest of one range of 256 slots, the module's own and the transit slots apart. -/
def State.rangeDigest (s : State) (range : Nat) : Bytes :=
  Config.sha384 (((List.range 256).map fun k =>
    let i := 256 * range + k
    if i ≤ 3 ∨ isTransit i then [] else slotBytes (s.slot i)).flatten)

/-- AUDIT_TIMER: every 40 ms the primary sends the digest of the next range (log entry 31: range, digest). -/
def execAuditTimer (s : State) : Host.Outcome State Fault Refusal :=
  if s.tow.pair != .primary || !s.linkLive then .next s
  else
    let r := s.tow.auditRange
    let s := s.upTo s.tow.auditAt
    let s := s.sendTowpath 7 0 [be 1 r ++ zeros 3 ++ fit 48 (s.rangeDigest r)] 0 0
    .next { s with tow := { s.tow with auditRange := (r + 1) % 256, auditAt := s.now + 40000000 } }

/-- Compare the digest of a range with the module's own: on a mismatch the standby fetches the range. -/
def State.auditRange (s : State) (r : Nat) (digest : Bytes) : State :=
  if s.tow.pair != .standby ∨ digest = fit 48 (s.rangeDigest r) then s
  else
    let s := s.raise 355 noInst 0xFFFF 0 r
    let is := ((List.range 256).map (256 * r + ·)).filter fun i => 3 < i && !isTransit i
    is.foldl (fun s i =>
      let s := s.sendTowpath 5 0 [be 2 i ++ zeros 2] 0 0
      { s with tow := { s.tow with slotFetches := s.tow.slotFetches ++ [i] } }) s

/-- AUDIT_FRAME. -/
def execAuditFrame (frame : Bytes) (s : State) : Host.Outcome State Fault Refusal :=
  let (s, body) := s.openTowpath 7 frame
  match body with
  | none => .next s
  | some b => .next (s.auditRange (fld b 0 1) (sl b 4 48))

/-- STANDBY_KAT_TIMER: every 60 s, one pool part of the standby; a failed test keeps it from a grant. -/
def execStandbyKatTimer (pass : Bool) (s : State) : Host.Outcome State Fault Refusal :=
  if s.tow.pair != .standby then .next s
  else
    let s := s.upTo s.tow.katAt
    .next { s with tow := { s.tow with
        katFailed := s.tow.katFailed || !pass, katPart := (s.tow.katPart + 1) % max 1 s.pools.length,
        katAt := s.now + 60000000000 } }

end Sys2Proof.Machine
end

