-- ==== Sys2Proof/Machine/Witness.lean ====
section
/-! DEFINITION. The witness, seen from a member and as the module that is one, take-over with its fence, planned
switchover and the pair's verbs (R348, R350 to R352, R360 to R372, R389; log entries 31 and 32). -/

namespace Sys2Proof.Machine

/-! ## Messages from the witness (R364, R365) -/

/-- Is a message of a type from this pair's witness (R365): inside an interlink frame of a kind 1 witness, under the MAC
of a kind 2 one. -/
def State.fromWitness (s : State) (type : Nat) (m : WitnessMsg) : Bool :=
  let b := m.bytes
  let w := s.tow.witness
  b.length == 128 && fld b 0 4 == 0x44585754 && fld b 4 1 == type && fld b 8 8 == s.tow.pairId.toNat &&
    fld b 16 8 == w.id.toNat &&
    (if w.kind = 1 then m.via == some w.id
     else if w.kind = 2 then m.via.isNone && sl b 112 16 == s.witnessMac (sl b 0 112) else false)

/-- WITNESS_BEAT_TIMER: every 1 ms to a kind 1 or 2 witness, with the latest health report. -/
def execWitnessBeatTimer (s : State) : Host.Outcome State Fault Refusal :=
  if s.tow.pair == .unpaired || s.tow.pair == .fenced || s.tow.pair == .syncing then .next s
  else if s.tow.witness.kind ≠ 1 ∧ s.tow.witness.kind ≠ 2 then .next s
  else
    let s := s.upTo (s.tow.beats.2.1 + 1000000)
    let s := s.toWitness 1 s.hlt.report
    .next { s with tow := { s.tow with
      beats := (s.tow.beats.1, s.now, s.tow.witnessSeq), beatsOut := (s.tow.beatsOut.filter fun t => s.now < t + 3000000) ++ [s.now] } }

/-- The lease as an ANSWER renews it: from the sending of the BEAT that it answers. An ANSWER does not say which one that is: it is one of
those not answered yet, which one is free, and those before it are answered no more (R364; log entry 32). -/
def State.renewed (s : State) : Option State :=
  if s.tow.beatsOut.isEmpty then none
  else
    let k := Config.freeNat s.draws % s.tow.beatsOut.length
    some { s with
      draws := s.draws + 1,
      tow := { s.tow with lease := true, beats := (s.tow.beatsOut.getD k 0, s.tow.beats.2), beatsOut := s.tow.beatsOut.drop (k + 1) } }

/-- WITNESS_ANSWER: the lease is renewed in the same term, also through the take-over fence; a newer term fences a holder. -/
def execWitnessAnswer (m : WitnessMsg) (s : State) : Host.Outcome State Fault Refusal :=
  if !s.fromWitness 2 m then .next s
  else if s.tow.term < fld m.bytes 24 8 then .next (s.learnTerm (fld m.bytes 24 8))
  else if fld m.bytes 24 8 < s.tow.term ∨ fld m.bytes 44 4 = 0 then .next s
  else
    match s.renewed with
    | none => .next s
    | some held =>
      match s.tow.pair with
      | .primary => .next held
      | .solo => .next held
      | .seeking => .next held.resumeServing
      | .standby => .next (if s.tow.fence.isSome then held else s)
      | .unpaired => .next s
      | .fenced => .next s
      | .syncing => .next s

/-- LEASE_LAPSE: 3 ms after the last answered BEAT was sent. In the take-over fence it keeps the fence from opening admission. -/
def execLeaseLapse (s : State) : Host.Outcome State Fault Refusal :=
  if s.tow.lease && s.tow.witness.kind != 3 then
    let t := s.upTo (s.tow.beats.1 + 3000000)
    if s.tow.pair == .primary || s.tow.pair == .solo then .next t.toSeeking
    else if s.tow.fence.isSome then .next { t with tow := { t.tow with lease := false } }
    else .next s
  else .next s

/-! ## Take-over (R362, R368, R369) -/

/-- The received epochs that are whole are applied in order; the others are discarded. -/
def State.applyReceived (s : State) : State :=
  let whole (s : State) (e : Nat × EpochRx) : State :=
    match e.2.records with
    | none => s
    | some rs =>
      let s := rs.foldl State.applyRecord s
      { s with tow := { s.tow with acked := max s.tow.acked e.1 } }
  let s := s.tow.received.foldl whole s
  { s with tow := { s.tow with received := [] } }

/-- The fence begins: admission is held, the term is the grant's and the received epochs are settled. -/
def State.beginFence (s : State) (term : Nat) : State :=
  let s : State := { s with
    flt := { s.flt with held := true },
    tow := { s.tow with term := term, lease := true, claiming := false, fence := some s.now, takeovers := s.tow.takeovers + 1,
                        beats := (s.now, s.now, s.tow.beats.2.2), beatsOut := [] } }
  (s.raise 352 noInst 0xFFFF 0 (term % 65536)).applyReceived

/-- WITNESS_GRANT. -/
def execWitnessGrant (m : WitnessMsg) (s : State) : Host.Outcome State Fault Refusal :=
  if s.fromWitness 4 m && s.tow.pair == .standby && s.tow.fence.isNone && decide (s.tow.term < fld m.bytes 24 8) then
    .next (s.beginFence (fld m.bytes 24 8))
  else .next s

/-- WITNESS_DENY. -/
def execWitnessDeny (m : WitnessMsg) (s : State) : Host.Outcome State Fault Refusal :=
  if s.fromWitness 5 m && s.tow.pair == .standby && s.tow.claiming then
    .next { s with tow := { s.tow with pair := .fenced, claiming := false } }
  else .next s

/-- The key that a counter code names in its reservation records. -/
def State.recordKey (s : State) (code : Nat) : W64 :=
  if code < 65536 then s.slotHandle code else BitVec.ofNat 64 (code - 65536)

/-- Reserve the block above the highest one reserved for a key, and put it into the counter table to issue from (R138, R362). -/
def State.reserveAbove (s : State) (e : Nat × Nat) : State :=
  let k := refOfCode e.1
  let key := s.recordKey e.1
  let scope := s.scopeOfRef k
  match s.blockFrom scope key e.2 with
  | none => s
  | some (a, b) =>
    (s.takeBlock k key scope a b).putCounter k
      { next := a, low := a, top := b, used := if scope = 0 then a - 1 else s.spentOf key (a - 1) }

/-- Counter entries are stale, and for every key with a reservation record the block after the highest is reserved
(R362). -/
def State.reserveNext (s : State) : State :=
  s.vlt.reservedTo.foldl State.reserveAbove { s with eng := { s.eng with counters := [], kekCounters := [] } }

/-- The sequences that a lost primary left in slices go on: a reset or removal is finished, a restore leaves the slice
ABSENT (R104, R105). -/
def State.continueSlices (s : State) : State :=
  let go (s : State) (t : Nat) : State :=
    let x := s.slice t
    let d : DrainSeq := x.drain.getD { removal := false, prior := .active, oldGeneration := x.generation - 1, deadline := s.now, answer := none }
    if x.state == .resetting then s.finishDrain t { d with answer := none }
    else if x.state == .restoring then s.setSlice t { x with state := .absent, transfer := none }
    else s
  s.cus.slices.keys.foldl go s

/-- The ballots that were local go on as the new primary's own, and the partner holds them from then on (R94). -/
def State.continueBallots (s : State) : State :=
  let own := (s.cus.ballots.filter fun e => e.2.isLocal).map (·.1)
  let each (e : Nat × Ballot) : Nat × Ballot := (e.1, { e.2 with isLocal := false })
  let t : State := { s with cus := { s.cus with ballots := s.cus.ballots.map each } }
  if own.isEmpty then t else t.mirror s (own.map fun i => Touch.ballot i false)

/-- The shred sequences of the module that failed go on here, under this module's own ID (R371). -/
def State.continueShreds (s : State) : State :=
  ((s.vlt.shreds.filter fun e => e.2.evidence.isNone).foldl State.resumeShred s).advanceShreds

/-- The basin addresses are announced on both host ports: three gratuitous ARP replies and three unsolicited neighbour
advertisements (R369). -/
def State.announceBasin (s : State) : State :=
  if s.tow.basinId = 0 ∨ s.tow.gatePair ≠ s.tow.pairId then s
  else
    let v6 := sl s.tow.basinAddr 0 16
    let v4 := sl s.tow.basinAddr 16 4
    let arp := if allZero v4 then [] else List.replicate 3 (be 2 2 ++ v4)
    let na := List.replicate 3 (be 1 136 ++ v6)
    let out := (arp ++ na).flatMap fun f => [Output.frame 0 [] f, Output.frame 1 [] f]
    out.foldl State.emit s

/-- FENCE_DONE: reservations and index are complete, and the new primary opens admission; one whose lease is gone meanwhile seeks it
first (R361, R364, R367). -/
def execFenceDone (s : State) : Host.Outcome State Fault Refusal :=
  match s.tow.fence with
  | none => .next s
  | some _ =>
    let present : Bool := match s.tow.link with
      | some l => l.live && (l.state == 2 || l.state == 6)
      | none => false
    let s := s.reserveNext
    let s : State := { s with
      flt := { s.flt with held := false },
      tow := { s.tow with pair := if !s.tow.lease then .seeking else if present then .primary else .solo, fence := none,
                          wasServing := !s.tow.lease, switchover := false, claiming := false,
                          epoch := max s.tow.epoch (s.tow.acked + 1), epochs := [] } }
    .next (s.continueBallots.continueSlices.continueShreds.announceBasin)

/-! ## Planned switchover (R371, R372) -/

/-- A standby that is present and reports READY. -/
def State.standbyReady (s : State) : Bool :=
  match s.tow.link with
  | some l => l.live && l.state == 2 && l.ready
  | none => false

/-- A planned switchover begins: admission is held. -/
def State.beginSwitchover (s : State) (w : Option Waiter) : State :=
  { s with flt := { s.flt with held := true }, tow := { s.tow with switchover := true, switchAnswer := w, switchDrain := s.now + 50000000 } }

/-- Answer the PAIR_SWITCHOVER that waits. -/
def State.answerSwitchover (s : State) (r : Reply) : State :=
  let t := { s with flt := { s.flt with held := false }, tow := { s.tow with switchover := false, switchAnswer := none } }
  match s.tow.switchAnswer with
  | some w => t.answer w r []
  | none => t

/-- A switchover goes on as far as it can: once the flights and epoch holds are empty, the final epoch is announced and
the witness released; a module that left PRIMARY meanwhile answers STATE_MISMATCH. -/
def State.switchAdvance (s : State) : State :=
  if !s.tow.switchover || s.tow.pair == .standby then s
  else if s.tow.pair != .primary then s.answerSwitchover (mismatchReply 8 s.tow.pair.ord 2)
  else if s.flt.barges.vals.any (fun r => r.bound) || !s.tow.epochs.isEmpty then s
  else
    let s := (s.sendTowpath 8 0 [] 0 s.tow.acked).toWitness 6 []
    let s : State := { s with tow := { s.tow with pair := .standby, lease := false, received := [] } }
    s.answerSwitchover ⟨stDone, []⟩

/-- NO_ENTROPY_SWITCHOVER: 100 ms with no source RUNNING and a standby that reports READY. -/
def execNoEntropySwitchover (s : State) : Host.Outcome State Fault Refusal :=
  match s.ent.noneSince with
  | none => .next s
  | some t =>
    if s.tow.pair == .primary && s.standbyReady && !s.tow.switchover then
      .next ((s.upTo (t + 100000000)).beginSwitchover none).switchAdvance
    else .next s

/-- SWITCHOVER_FRAME. -/
def execSwitchoverFrame (frame : Bytes) (s : State) : Host.Outcome State Fault Refusal :=
  let (s, body) := s.openTowpath 8 frame
  match body with
  | none => .next s
  | some _ => if s.tow.pair == .standby then .next { s with tow := { s.tow with switchover := true } } else .next s

/-- EPOCH_ACK: what the ack covers is released, and a switchover that waited for it goes on. -/
def execEpochAck (frame : Bytes) (s : State) : Host.Outcome State Fault Refusal :=
  let (s, body) := s.openTowpath 3 frame
  match body with
  | none => .next s
  | some _ => .next ((s.acknowledge (fld frame 24 8)).switchAdvance)

/-! ## The chassis witness (R367) -/

/-- With HEALTH_IN high, the module acts as holder in a term above every one it has seen (R367). -/
def State.takePin (s : State) : State :=
  if s.tow.witness.kind ≠ 3 ∨ s.tow.lease ∨ !s.tow.healthIn.1 then s
  else
    let seen := match s.tow.link with
      | some l => l.term
      | none => 0
    let t := max s.tow.term seen + 1
    match s.tow.pair with
    | .standby => s.beginFence t
    | .seeking => State.resumeServing { s with tow := { s.tow with term := t } }
    | .primary => { s with tow := { s.tow with term := t, lease := true } }
    | .solo => { s with tow := { s.tow with term := t, lease := true } }
    | .unpaired => s
    | .fenced => s
    | .syncing => s

/-- HEALTH_IN_HIGH: high for 0.5 ms. -/
def execHealthInHigh (s : State) : Host.Outcome State Fault Refusal :=
  .next (State.takePin { s with tow := { s.tow with healthIn := (true, s.now) } })

/-- HEALTH_IN_LOW: the holder stops. -/
def execHealthInLow (s : State) : Host.Outcome State Fault Refusal :=
  let s := { s with tow := { s.tow with healthIn := (false, s.now) } }
  if s.tow.witness.kind = 3 ∧ s.tow.lease then
    if s.tow.pair == .primary || s.tow.pair == .solo then .next s.toSeeking
    else .next { s with tow := { s.tow with lease := false } }
  else .next s

/-! ## Being the witness of another pair (R364 to R366, R372) -/

/-- Send a witness message of this module to a member. -/
def State.witnessSend (s : State) (dest pair : W64) (type term lease : Nat) : State :=
  let seq := s.tow.witnessSeq + 1
  let head := witnessHead type 0 pair s.ctr.moduleId term 0 (seq % 2 ^ 32) lease []
  (({ s with tow := { s.tow with witnessSeq := seq } }).sendInterlink dest 0x0C (head ++ zeros 16)).emit (.witness 0 [] type (head ++ zeros 16))

/-- Sender and pair of a message to this witness: from a linked member, inside its own interlink frame. -/
def State.toThisWitness (s : State) (type : Nat) (m : WitnessMsg) : Option (W64 × W64) :=
  let b := m.bytes
  let pair := BitVec.ofNat 64 (fld b 8 8)
  match m.via with
  | none => none
  | some v =>
    match s.peer v with
    | none => none
    | some l =>
      if b.length == 128 && fld b 0 4 == 0x44585754 && fld b 4 1 == type && fld b 16 8 == v.toNat && l.pairId == pair &&
          pair != s.tow.pairId then some (v, pair)
      else none

/-- Replace a witness record. -/
def State.setWitnessed (s : State) (pair : W64) (r : WitnessRec) : State :=
  { s with tow := { s.tow with witnessed := s.tow.witnessed.put pair.toNat r } }

/-- The record of a pair as a beat brings its term up: the highest term reported in beats stands, and whoever reports it is the holder once
no other lease runs (R364, R366). -/
def State.witnessRecord (s : State) (pair : W64) (term : Nat) : WitnessRec :=
  match s.tow.witnessed.find pair.toNat with
  | some r => if r.term < term then { r with term := term, holder := 0 } else r
  | none => { term := term, holder := 0, expiry := 0, renewed := 0 }

/-- A holder's beat: its lease is renewed when it holds the term, and a claim held meanwhile is denied. -/
def State.holderBeat (s : State) (v pair : W64) (term : Nat) : State :=
  let r0 := s.witnessRecord pair term
  let r := if r0.holder == 0 && term == r0.term && decide (r0.expiry ≤ s.now) then { r0 with holder := v } else r0
  if r.holder != v || term < r.term || s.now < s.tow.witnessFrom || r.released then
    (s.setWitnessed pair r).witnessSend v pair 2 r.term 0
  else
    let s := s.setWitnessed pair { r with expiry := s.now + 4000000, renewed := s.now, proved := r.standby, claim := none }
    let s := s.witnessSend v pair 2 r.term 4000
    match r.claim with
    | some c => s.witnessSend c pair 5 r.term 0
    | none => s

/-- A beat of the member that does not hold the pair: it is kept as the latest, and answered without a lease. -/
def State.standbyBeat (s : State) (v pair : W64) (state term hflags : Nat) : State :=
  let r := s.witnessRecord pair term
  (s.setWitnessed pair { r with standby := some (v, s.now, state, hflags) }).witnessSend v pair 2 r.term 0

/-- WITNESS_BEAT_RX: records of up to 32 pairs. A member that was granted the pair holds it while it still reports STANDBY in its fence. -/
def execWitnessBeatRx (m : WitnessMsg) (s : State) : Host.Outcome State Fault Refusal :=
  match s.toThisWitness 1 m with
  | none => .next s
  | some (v, pair) =>
    let state := fld m.bytes 5 1
    let term := fld m.bytes 24 8
    let granted : Bool := (s.tow.witnessed.find pair.toNat).any fun r => r.holder == v && r.term == term
    if (s.tow.witnessed.find pair.toNat).isNone ∧ 32 ≤ s.tow.witnessed.length then .next s
    else if state = 1 ∨ state = 3 ∨ state = 4 ∨ granted then .next (s.holderBeat v pair term)
    else .next (s.standbyBeat v pair state term (fld m.bytes 54 2))

/-- Is a claimant fit for a grant: the latest beat it had sent when the lease was last renewed, at most 2 ms before, says STANDBY and READY
without flag [3] or [5] (R365). -/
def WitnessRec.fit (r : WitnessRec) (claimant : W64) : Bool :=
  match r.proved with
  | none => false
  | some (v, t, state, hflags) =>
    v == claimant && r.renewed ≤ t + 2000000 && state == 2 && hflags.testBit 0 && !hflags.testBit 3 && !hflags.testBit 5

/-- Grant the pair to a member in a new term. -/
def State.grantPair (s : State) (pair c : W64) (r : WitnessRec) : State :=
  (s.setWitnessed pair { term := r.term + 1, holder := c, expiry := s.now + 4000000, renewed := s.now }).witnessSend c pair 4
    (r.term + 1) 4000

/-- Decide a claim once no lease runs. -/
def State.decideClaim (s : State) (pair c : W64) (r : WitnessRec) : State :=
  if r.fit c && s.tow.witnessFrom ≤ s.now then s.grantPair pair c r
  else (s.setWitnessed pair { r with claim := none }).witnessSend c pair 5 r.term 0

/-- WITNESS_CLAIM_RX: held while the holder's lease runs, or while nothing may be granted (R365, R366). -/
def execWitnessClaimRx (m : WitnessMsg) (s : State) : Host.Outcome State Fault Refusal :=
  match s.toThisWitness 3 m with
  | none => .next s
  | some (v, pair) =>
    match s.tow.witnessed.find pair.toNat with
    | none => .next (s.witnessSend v pair 5 (fld m.bytes 24 8) 0)
    | some r =>
      if r.holder = v then .next (s.witnessSend v pair 5 r.term 0)
      else if s.now < max r.expiry s.tow.witnessFrom then .next (s.setWitnessed pair { r with claim := some v })
      else .next (s.decideClaim pair v r)

/-- WITNESS_LEASE_EXPIRY: a held claim is granted or denied, and a released pair is granted. -/
def execWitnessLeaseExpiry (pair : W64) (s : State) : Host.Outcome State Fault Refusal :=
  match s.tow.witnessed.find pair.toNat with
  | none => .next s
  | some r =>
    let s := s.upTo (max r.expiry s.tow.witnessFrom)
    match (if r.released then r.standby else none), r.claim with
    | some (c, _, _, _), _ => .next (s.grantPair pair c r)
    | none, some c => .next (s.decideClaim pair c r)
    | none, none => .next s

/-- WITNESS_RELEASE_RX: the standby is granted at once, and where nothing may be granted yet, as soon as it may (R366); with none known the
lease only ends. -/
def execWitnessReleaseRx (m : WitnessMsg) (s : State) : Host.Outcome State Fault Refusal :=
  match s.toThisWitness 6 m with
  | none => .next s
  | some (v, pair) =>
    match s.tow.witnessed.find pair.toNat with
    | none => .next s
    | some r =>
      if r.holder ≠ v ∨ fld m.bytes 24 8 ≠ r.term then .next s
      else
        match r.standby with
        | some (c, _, _, _) =>
          if s.tow.witnessFrom ≤ s.now then .next (s.grantPair pair c r)
          else .next (s.setWitnessed pair { r with expiry := s.tow.witnessFrom, released := true })
        | none => .next (s.setWitnessed pair { r with expiry := s.now })

/-! ## The pair's verbs (R352, R372, R389) -/

/-- Slice 0 alone sends. -/
def slice0 (b : Barge) (_ : State) : Bool := b.slice == 0

/-- The 48 bytes of PAIR_STATUS. -/
def State.pairStatus (s : State) : Bytes :=
  let svn := match s.tow.link with
    | some l => l.svn
    | none => 0
  be 1 s.tow.pair.ord ++ be 1 s.tow.witness.kind ++ be 1 s.tow.soloPolicy ++ be 1 (flag s.tow.lease 0 + flag s.linkLive 1) ++
    be 4 (if s.tow.pair == .syncing then s.tow.syncDone else 0) ++ be 8 s.tow.pairId.toNat ++ be 8 s.tow.partner.toNat ++
    be 8 s.tow.term ++ be 8 s.tow.acked ++ be 2 s.tow.floor ++ be 2 s.tow.floorIndex ++ be 2 svn ++ zeros 2

/-- PAIR_STATUS. -/
def pairStatusVerb : Verb where
  opcode := 0x0701
  maxReply := 48
  fmt b _ := lenIs b 0
  sender b s := slice0 b s
  run _ s := done s s.pairStatus

/-- PAIR_STATUS. -/
def execPairStatus (b : Barge) (s : State) : Host.Outcome State Fault Refusal := verbStep pairStatusVerb b s

/-- PAIR_STATUS_DX6100: bytes 0 to 15. -/
def pairStatusDxVerb : Verb where
  opcode := 0x0780
  maxReply := 16
  fmt b _ := lenIs b 0
  sender b s := slice0 b s
  run _ s := done s (s.pairStatus.take 16)

/-- PAIR_STATUS_DX6100. -/
def execPairStatusDx6100 (b : Barge) (s : State) : Host.Outcome State Fault Refusal := verbStep pairStatusDxVerb b s

/-- PAIR_BIND: an unpaired module becomes the holder; a SOLO one names a replacement (R348). -/
def pairBindVerb : Verb where
  opcode := 0x0702
  changing := true
  destructive _ _ := true
  fmt b _ := lenIs b 56
  sender b s := slice0 b s
  role _ _ := some 5
  state _ s := if s.tow.pair == .unpaired || (s.tow.pair == .solo && !s.linkLive) then none
    else some (mismatchReply 8 s.tow.pair.ord 0x11)
  run b s :=
    let peer := BitVec.ofNat 64 (fld b.payload 0 8)
    let s : State := { s with tow := { s.tow with pair := .solo, partner := peer, partnerDigest := sl b.payload 8 48, link := none } }
    let s := s.takePin
    done (if (s.link 2).up then (s.newLink peer).sendHello else s) []

/-- PAIR_BIND. -/
def execPairBind (b : Barge) (s : State) : Host.Outcome State Fault Refusal := verbStep pairBindVerb b s

/-- PAIR_SWITCHOVER. -/
def pairSwitchoverVerb : Verb where
  opcode := 0x0703
  fmt b s := firstCode [lenIs b 4, reserved b s 0 4]
  sender b s := slice0 b s
  state _ s :=
    if s.tow.pair != .primary then some (mismatchReply 8 s.tow.pair.ord 2)
    else if s.tow.switchover || !s.standbyReady then
      some (mismatchReply 8 (match s.tow.link with
        | some l => l.state
        | none => 0) 4)
    else none
  run b s := { st := s.beginSwitchover (some (waiterOf b)), reply := ⟨stDone, []⟩, later := true }

/-- PAIR_SWITCHOVER. -/
def execPairSwitchover (b : Barge) (s : State) : Host.Outcome State Fault Refusal :=
  .next ((serve pairSwitchoverVerb b s).switchAdvance)

/-- PAIR_POLICY. -/
def pairPolicyVerb : Verb where
  opcode := 0x0704
  fmt b s := firstCode [lenIs b 4, wellFormed (fld b.payload 0 1 < 2), reserved b s 1 3]
  sender b s := slice0 b s
  role _ _ := some 5
  run b s := done ({ s with tow := { s.tow with soloPolicy := fld b.payload 0 1 } }) []

/-- PAIR_POLICY. -/
def execPairPolicy (b : Barge) (s : State) : Host.Outcome State Fault Refusal := verbStep pairPolicyVerb b s

/-- Bytes of a WITNESS_SET payload by kind. -/
def witnessLength (kind : Nat) : Nat := if kind = 1 then 12 else if kind = 2 then 132 else 4

/-- WITNESS_SET; with HEALTH_IN already high, a chassis witness is held to at once (R363, R367). -/
def witnessSetVerb : Verb where
  opcode := 0x0705
  fmt b s :=
    let k := fld b.payload 0 1
    firstCode [wellFormed (4 ≤ b.payload.length && 1 ≤ k && k ≤ 3), lenIs b (witnessLength k), reserved b s 1 3,
      if k = 2 then firstCode [reserved b s 6 2, reserved b s 129 3] else none]
  sender b s := slice0 b s
  role _ _ := some 5
  run b s :=
    let k := fld b.payload 0 1
    let w : WitnessCfg :=
      if k = 1 then { kind := 1, id := BitVec.ofNat 64 (fld b.payload 4 8) }
      else if k = 2 then
        { kind := 2, id := BitVec.ofNat 64 (fld b.payload 24 8), address := sl b.payload 4 2 ++ sl b.payload 8 16, key := sl b.payload 32 97 }
      else { kind := 3 }
    done (State.takePin { s with tow := { s.tow with witness := w, lease := false, beatsOut := [] } }) []

/-- WITNESS_SET. -/
def execWitnessSet (b : Barge) (s : State) : Host.Outcome State Fault Refusal := verbStep witnessSetVerb b s

end Sys2Proof.Machine
end

