-- ==== Sys2Proof/Machine/Domain.lean ====
section
/-! DEFINITION. The interlink, forwarded barges, the basin directory, the custody domain and their verbs (R374 to R389,
R534; log entries 18, 20, 31 and 32). -/

namespace Sys2Proof.Machine

/-! ## Interlink datagrams (R376, R385 to R387) -/

/-- Count a dropped interlink datagram. -/
def State.dropInterlink (s : State) : State :=
  { s with tow := { s.tow with chan1 := { s.tow.chan1 with dropAuth := s.tow.chan1.dropAuth + 1 } } }

/-- Sender of a datagram. -/
def interlinkSender (d : Bytes) : W64 := BitVec.ofNat 64 (fld d 16 8)

/-- Is the header of a datagram whole and of a kind. -/
def interlinkShape (kind : Nat) (d : Bytes) : Bool :=
  fld d 0 4 == 0x4458484E && fld d 4 1 == kind && fld d 5 1 == 0 && fld d 12 4 == 0 &&
    d.length == 32 + fld d 10 2 + (if interlinkClear kind then 0 else 16)

/-- Count a datagram received from a peer. -/
def State.heardPeer (s : State) (id : W64) (pn : Nat) : State :=
  match s.peer id with
  | none => s
  | some l =>
    let s := s.setPeer { l with rxPn := pn, heard := s.now }
    { s with tow := { s.tow with chan1 := { s.tow.chan1 with rx := s.tow.chan1.rx + 1 } } }

/-- Open a datagram under its link key. One at the next floor index waits for the commit record, which a domain record
itself may bring; any other index draws a refusal. -/
def State.openInterlink (s : State) (kind : Nat) (d : Bytes) : State × Option (W64 × Bytes) :=
  let id := interlinkSender d
  match s.peer id with
  | none => (s.dropInterlink, none)
  | some l =>
    let pn := fld d 24 8
    let fresh : Bool := interlinkShape kind d && l.live && l.rxPn < pn && !s.tow.expelled.contains id
    match Config.gcmOpen l.rxKey (zeros 4 ++ be 8 pn) (sl d 0 32) (d.drop 32) with
    | none => (s.dropInterlink, none)
    | some body =>
      if !fresh then (s.dropInterlink, none)
      else if fld d 8 2 = s.tow.floorIndex ∨ (fld d 8 2 = s.tow.floorIndex + 1 ∧ kind = 4) then (s.heardPeer id pn, some (id, body))
      else if fld d 8 2 = s.tow.floorIndex + 1 then (s.pullDomain, none)
      else (s.dropInterlink.sendInterlink id 0x0D (be 2 s.tow.floorIndex ++ zeros 2), none)

/-- A fresh nonce for a peer link, from the normal world's instance; without one the link keeps the nonce it has (R335, R337). -/
def State.freshNonce (s : State) (l : PeerLink) : State :=
  let (n, t) := s.drawFrom 112 32
  if t.ent.short != s.ent.short then s.noteStalls t else t.setPeer { l with nonce := n }

/-- The peer link of a module, new with a fresh nonce where there is none; at most 1,023 are kept. -/
def State.openPeer (s : State) (id : W64) : State :=
  match s.peer id with
  | some l => if l.nonce.isEmpty then s.freshNonce l else s
  | none => if 1023 ≤ s.tow.links.length then s else s.freshNonce { peer := id }

/-- Send this module's interlink hello to a peer. -/
def State.helloPeer (s : State) (id : W64) : State :=
  match s.peer id with
  | none => s
  | some l =>
    let f := s.helloFields l.nonce ++ be 8 s.vlt.domainId.toNat
    if l.nonce.isEmpty then s else ({ s with draws := s.draws + 1 }).sendInterlink id 0x01 (f ++ s.sign384 s.attestKey f)

/-- INTERLINK_HELLO_TIMER: every 100 ms, to every admitted member. -/
def execInterlinkHelloTimer (s : State) : Host.Outcome State Fault Refusal :=
  let s := s.upTo s.tow.helloAt
  let s := { s with tow := { s.tow with helloAt := s.now + 100000000 } }
  .next (s.tow.members.foldl (fun s m => (s.openPeer m).helloPeer m) s)

/-- The link key context of two modules (R376): the lower ID, then the higher. -/
def peerContext (a b : W64) : Bytes :=
  if a.toNat < b.toNat then be 8 a.toNat ++ be 8 b.toNat else be 8 b.toNat ++ be 8 a.toNat

/-- INTERLINK_HELLO: a signed hello of this domain sets up a link, or refreshes what the peer announces; a new link to the gate brings its
directory up to date (R375). -/
def execInterlinkHello (d : Bytes) (s : State) : Host.Outcome State Fault Refusal :=
  let body := d.drop 32
  let id := interlinkSender d
  let svn := fld body 16 2
  let genuine : Bool := interlinkShape 0x01 d && body.length == 168 && fld body 0 8 == id.toNat &&
    fld body 64 8 == s.vlt.domainId.toNat && id != s.ctr.moduleId &&
    Config.attested id.toNat (sl body 0 72) (sl body 72 96)
  if !genuine then .next s.dropInterlink
  else if svn < s.tow.floor ∨ s.tow.expelled.contains id then .next (s.raise 354 noInst 0xFFFF stFloor.toNat svn)
  else
    let fresh : Bool := match s.peer id with
      | some l => l.nonce.isEmpty
      | none => true
    let s := s.openPeer id
    let s := if fresh then s.helloPeer id else s
    match s.peer id with
    | none => .next s
    | some l =>
      let ks := linkKeys (s.domAt s.tow.floor) (ascii "DX8300 hener") (peerContext s.ctr.moduleId id) s.ctr.moduleId id l.nonce (sl body 32 32)
      let s := s.setPeer
        { l with pairId := BitVec.ofNat 64 (fld body 8 8), svn := svn, announced := s.now, state := fld body 22 1,
                 term := max l.term (fld body 24 8), txKey := ks.1, rxKey := ks.2, live := true,
                 rxPn := max l.rxPn (fld d 24 8), heard := s.now }
      let s : State := { s with tow := { s.tow with chan1 := { s.tow.chan1 with rx := s.tow.chan1.rx + 1 } } }
      let s := if s.tow.floorIndex < fld body 20 2 then s.pullDomain else s
      .next (if !l.live && fld body 8 8 == s.tow.gatePair.toNat && s.tow.pair.serves then s.tellBasin else s)

/-- INTERLINK_REFUSAL: a higher floor index makes the module pull the commit. -/
def execInterlinkRefusal (d : Bytes) (s : State) : Host.Outcome State Fault Refusal :=
  if interlinkShape 0x0D d && (s.peer (interlinkSender d)).isSome && decide (s.tow.floorIndex < fld d 32 2) then .next s.pullDomain
  else .next s

/-! ## Forwarded barges (R377, R378) -/

/-- Take in a forwarded barge: a number of its own stands for the gate's session, under which its answer goes back. -/
def State.takeForwarded (s : State) (gate : W64) (tag slice : Nat) (generation : W32) (r : RequestRecord) : State :=
  let n := 2 ^ 72 + s.tow.foreignCount
  let s : State := { s with tow := { s.tow with
      foreign := s.tow.foreign.put n (gate, tag), foreignCount := s.tow.foreignCount + 1 } }
  let b : Barge := { session := n, pn := 0, slice := slice, generation := generation, cls := r.cls % 4, opcode := r.opcode,
                     requestId := r.requestId, idem := r.idem, payload := r.payload }
  if 3 < r.cls then s.answerNow b ⟨stBadFormat, []⟩
  else if !r.clean then s.answerNow b ⟨stReserved, []⟩
  else s.takeIn b

/-- INTERLINK_FORWARD: the home pair takes the barge in under its own rules. -/
def execInterlinkForward (d : Bytes) (s : State) : Host.Outcome State Fault Refusal :=
  let (s, body) := s.openInterlink 0x02 d
  match body with
  | none => .next s
  | some (gate, p) =>
    match splitRecords 1 (p.drop 16) with
    | some [r] => .next (s.takeForwarded gate (fld p 0 8) (fld p 8 2 % 4096) (BitVec.ofNat 32 (fld p 12 4)) r)
    | _ => .next s

/-- A forwarded barge completes at the gate, with BAD_FORMAT where its reply does not fit the session's datagrams (R63, R69). -/
def State.endForward (s : State) (tag : Nat) (f : Forward) (r : Reply) (again : Bool) : State :=
  let r := if (s.session f.session).all fun x => x.fits r.payload then r else ⟨stBadFormat, []⟩
  ({ s with tow := { s.tow with forwards := s.tow.forwards.del tag } }).respond f.session f.pn f.opcode f.cls f.request r again

/-- FORWARD_REPLY. -/
def execForwardReply (d : Bytes) (s : State) : Host.Outcome State Fault Refusal :=
  let (s, body) := s.openInterlink 0x03 d
  match body with
  | none => .next s
  | some (_, p) =>
    match s.tow.forwards.find (fld p 0 8) with
    | none => .next s
    | some f =>
      .next (s.endForward (fld p 0 8) f ⟨BitVec.ofNat 16 (fld p 10 2), sl p 28 (fld p 24 2)⟩ (fld p 20 4 % 2 == 1))

/-- FORWARD_TIMEOUT: 100 ms without a reply. -/
def execForwardTimeout (tag : Nat) (s : State) : Host.Outcome State Fault Refusal :=
  match s.tow.forwards.find tag with
  | none => .next s
  | some f => .next ((s.upTo f.deadline).endForward tag f ⟨stUnreachable, []⟩ false)

/-! ## The basin directory (R375) -/

/-- Pairs known to be in the basin: this one, the gate and the homes of the directory. -/
def State.basinPairs (s : State) : List W64 := s.tow.pairId :: s.tow.gatePair :: s.tow.directory.vals.map (·.home)

/-- Linked modules of a set of pairs, the partner apart. -/
def State.linkedOf (s : State) (ps : List W64) : Nat := (s.tow.links.filter fun l => l.peer != s.tow.partner && ps.contains l.pairId).length

/-- Is there room for a pair in the basin's 64 modules (R374). -/
def State.basinRoom (s : State) (home : W64) : Bool :=
  s.basinPairs.contains home || decide (1 + bit01 (s.tow.partner != 0) + s.linkedOf (home :: s.basinPairs) ≤ 64)

/-- Does this module keep the directory: it is of the gate pair. -/
def State.atGate (s : State) : Bool := s.tow.basinId != 0 && s.tow.gatePair == s.tow.pairId

/-- Take an entry of the directory at the gate, or remove it, and mirror it: a slice has one home, and no other pair changes its entry.
Sessions that were authenticated through a binding that goes end (R98). -/
def State.takeDirectory (s : State) (home : W64) (t : Nat) (gone : Bool) (generation : W32) (bindings : List (Nat × Bytes)) : State :=
  let mine : Bool := match s.tow.directory.find t with
    | some e => e.home == home
    | none => true
  if !s.atGate ∨ !mine ∨ !s.basinRoom home then s
  else
    let e : DirEntry := { home := home, generation := generation, bindings := bindings.take 8 }
    let old := match s.tow.directory.find t with
      | some x => x.bindings
      | none => []
    let lost := old.filter fun x => gone || !e.bindings.contains x
    (State.mirrorOnly { s with tow := { s.tow with directory := if gone then s.tow.directory.del t else s.tow.directory.put t e } } s
      [.directory t]).endSessions fun ss => ss.slice == t && lost.contains (ss.anchor, ss.principal)

/-- Take an anchor of a home pair at the gate, or remove it, and mirror it; the sessions authenticated through one that goes end. -/
def State.takeDirAnchor (s : State) (home : W64) (i : Nat) (c : Option Bytes) : State :=
  if !s.atGate ∨ 64 ≤ i ∨ !s.basinRoom home then s
  else
    let t := (s.setDirAnchor home i c).mirrorOnly s [.dirAnchor home i]
    if c.isSome then t
    else t.endSessions fun ss => ss.anchor == i && (s.tow.directory.find ss.slice).any fun e => e.home == home && home != s.tow.pairId

/-- DIRECTORY_UPDATE: the sender's pair is the home of the slice. -/
def execDirectoryUpdate (d : Bytes) (s : State) : Host.Outcome State Fault Refusal :=
  let (s, body) := s.openInterlink 0x0B d
  match body with
  | none => .next s
  | some (id, p) =>
    let home := match s.peer id with
      | some l => l.pairId
      | none => 0
    if fld p 2 1 = 1 then .next (s.takeDirAnchor home (fld p 4 1) (if fld p 3 1 = 1 then none else some (p.drop 8)))
    else
      .next (s.takeDirectory home (fld p 0 2 % 4096) (fld p 3 1 = 1) (BitVec.ofNat 32 (fld p 4 4))
        ((bindingsOf (fld p 0 2 % 4096) (p.drop 12) (fld p 8 2)).map fun x => (x.anchor, x.principal)))

/-! ## Domain records (R379, R380, R388) -/

/-- After a floor commit the towpath and every link are keyed again (R354, R388). -/
def State.rekey (s : State) : State :=
  let s := if s.linkLive then (s.newLink s.tow.partner).sendHello else s
  (s.tow.links.map (·.peer)).foldl (fun s id =>
    match s.peer id with
    | none => s
    | some l =>
      (s.freshNonce l).helloPeer id) s

/-- Acknowledge records up to the domain sequence: to the registrar, and a shred to every member, since any of them may
run it (log entry 18). -/
def State.ackDomain (s : State) (dest : W64) (kind : Nat) : State :=
  let body := be 8 s.tow.domainSeq
  if kind = 2 ∨ kind = 3 then s.tow.members.foldl (fun s m => s.sendInterlink m 0x05 body) s else s.sendInterlink dest 0x05 body

/-- Has a member that acknowledged up to a sequence erased the key of a shred (R384). -/
def State.shredAcked (s : State) (q : ShredSeq) (seq : Nat) : Bool :=
  s.tow.domainLog.any fun e =>
    decide (e.1 ≤ seq) && (e.2.1 == 2 || e.2.1 == 3) && fld e.2.2 8 8 == q.keyId.toNat &&
      fld e.2.2 4 4 == q.generation.toNat && fld e.2.2 (if e.2.1 = 2 then 0 else 2) 2 % 4096 == q.slice

/-- The longest time in µs that an acknowledgement took of the records it newly covers, from their sending (R390). -/
def State.ackTook (s : State) (id : W64) (seq : Nat) : Nat :=
  let before := match s.tow.memberAcks.find? fun e => e.1 == id with
    | some e => e.2
    | none => 0
  min 0xFFFFFF (((s.tow.domainSent.filter fun e => before < e.1 && e.1 ≤ seq).map fun e => (s.now - e.2) / 1000).foldl max 0)

/-- Take a member's acknowledgement of the domain's records up to a sequence: shreds that waited for it go on, and count it. -/
def State.takeAck (s : State) (id : W64) (seq : Nat) : State :=
  let hit (q : ShredSeq) : ShredSeq :=
    if q.awaiting.contains id && s.shredAcked q seq then { q with awaiting := q.awaiting.filter (· != id), members := q.members + 1 } else q
  let each (e : Nat × ShredSeq) : Nat × ShredSeq := (e.1, hit e.2)
  let s : State := { s with
    vlt := { s.vlt with shreds := s.vlt.shreds.map each },
    tow := { s.tow with memberAcks := (s.tow.memberAcks.filter fun e => e.1 != id) ++ [(id, seq)],
                        chan1 := { s.tow.chan1 with ackMax := BitVec.ofNat 32 (max s.tow.chan1.ackMax.toNat (s.ackTook id seq)) } } }
  s.advanceShreds

/-- Can a member not report its units now. -/
def State.silentMember (s : State) : Bool :=
  s.tow.members.any fun m => match s.peer m with
    | some l => !l.live
    | none => true

/-- The registrar gives its role away by the last record it numbers; another member proposes it (R379). -/
def State.giveRegistrar (s : State) (b : Bytes) : State :=
  let t := s.domainChange 8 b true
  if s.tow.registrar == s.tow.pairId then t.moveRegistrar (BitVec.ofNat 64 (fld b 0 8)) else t

/-- Take a domain record from a member: a proposal reaches the registrar with sequence 0, which applies it and, after the record itself,
acknowledges a shred to its proposer (R384); a member applies the next record, acknowledges it, counts the acknowledgements that came
before it, and pulls a gap. -/
def State.takeRecordFrom (s : State) (id : W64) (seq kind : Nat) (b : Bytes) : State :=
  if seq = 0 then
    if s.tow.registrar = s.tow.pairId then
      let e := s.epochNow
      if s.cannotEnter kind b then s
      else if kind = 8 then if s.silentMember then s else s.giveRegistrar b
      else
        let s := (s.applyDomain (s.tow.domainSeq + 1) kind b).domainChange kind b true
        if kind = 2 ∨ kind = 3 then s.sendAfter e 0x05 [id] (be 8 s.tow.domainSeq) else s
    else s
  else if seq ≤ s.tow.domainSeq then s.ackDomain id kind
  else if seq = s.tow.domainSeq + 1 then
    let index := s.tow.floorIndex
    let t := s.applyNumbered seq kind b
    let s := if t.tow.domainSeq = seq then t.tow.memberAcks.foldl (fun s a => s.takeAck a.1 a.2) (t.ackDomain id kind) else s
    if s.tow.floorIndex = index then s else s.rekey
  else s.sendInterlink id 0x06 (be 8 s.tow.domainSeq)

/-- DOMAIN_RECORD. -/
def execDomainRecord (d : Bytes) (s : State) : Host.Outcome State Fault Refusal :=
  let (s, body) := s.openInterlink 0x04 d
  match body with
  | none => .next s
  | some (id, p) =>
    .next (s.takeRecordFrom id (fld p 0 8) (fld p 8 1) (p.drop 12))

/-- DOMAIN_ACK. -/
def execDomainAck (d : Bytes) (s : State) : Host.Outcome State Fault Refusal :=
  let (s, body) := s.openInterlink 0x05 d
  match body with
  | none => .next s
  | some (id, p) => .next (s.takeAck id (fld p 0 8))

/-- DOMAIN_PULL: the records after a sequence, in order. -/
def execDomainPull (d : Bytes) (s : State) : Host.Outcome State Fault Refusal :=
  let (s, body) := s.openInterlink 0x06 d
  match body with
  | none => .next s
  | some (id, p) =>
    let later := s.tow.domainLog.filter fun e => fld p 0 8 < e.1
    let s : State := { s with tow := { s.tow with chan1 := { s.tow.chan1 with resent := s.tow.chan1.resent + BitVec.ofNat 32 later.length } } }
    .next (later.foldl (fun s e => s.sendInterlink id 0x04 (domainRecordBody e.1 e.2.1 e.2.2)) s)

/-! ## Share units (R383) -/

/-- The counter that a ledger key names here. -/
def State.ledgerRef (s : State) (key : W64) : KeyRef :=
  match s.live key.toNat with
  | some i => .slot i
  | none => .kek key

/-- Answer a claim for a unit of a key: the registrar writes the grant as a reservation record, and sends it once that record is
mirrored; first above last means that no unit is left. -/
def State.answerClaim (s : State) (id key : W64) (limit : Nat) : State :=
  if s.tow.registrar ≠ s.tow.pairId then s
  else
    let (l, s) := s.ledgerFor key limit
    match l.cut limit with
    | none => s.sendInterlink id 0x08 (be 8 key.toNat ++ be 8 1 ++ be 8 0)
    | some (a, b, l1) =>
      let n := s.epochNow
      let s := s.reserve (s.ledgerRef key) key l.issued false
      let s : State := { s with tow := { s.tow with ledgers := (s.tow.ledgers.filter fun x => x.key != key) ++ [l1] } }
      s.sendAfter n 0x08 [id] (be 8 key.toNat ++ be 8 a ++ be 8 b)

/-- SHARE_CLAIM. -/
def execShareClaim (d : Bytes) (s : State) : Host.Outcome State Fault Refusal :=
  let (s, body) := s.openInterlink 0x07 d
  match body with
  | none => .next s
  | some (id, p) =>
    .next (s.answerClaim id (BitVec.ofNat 64 (fld p 0 8)) (fld p 8 8))

/-- Take the answer to a claim: the unit is in hand and raises the limit of a live key, or the key's units are spent. -/
def State.takeUnit (s : State) (key : W64) (a b : Nat) : State :=
  let s : State := { s with tow := { s.tow with claims := s.tow.claims.filter fun c => c.1 != key } }
  if b < a then
    { s with tow := { s.tow with exhausted := if s.tow.exhausted.contains key then s.tow.exhausted else s.tow.exhausted ++ [key] } }
  else if s.tow.units.contains (key, a, b) then s
  else
    s.addUnit (s.ledgerRef key) key a b

/-- SHARE_GRANT. -/
def execShareGrant (d : Bytes) (s : State) : Host.Outcome State Fault Refusal :=
  let (s, body) := s.openInterlink 0x08 d
  match body with
  | none => .next s
  | some (_, p) =>
    .next (s.takeUnit (BitVec.ofNat 64 (fld p 0 8)) (fld p 8 8) (fld p 16 8))

/-! ## Joining (R381; bodies in log entry 31) -/

/-- What a sponsor checks of a joiner's statement (R381, R436). -/
def statementOk (st : Bytes) (joiner digest : Nat) : Bool :=
  fld st 0 4 == 0x44584944 && fld st 4 2 == 1 && fld st 6 2 == 0x96E1 && fld st 8 8 == joiner && fld st 17 1 == 0 &&
    fld (Config.sha384 (sl st 176 97)) 0 48 == digest &&
    Config.endorsed joiner (ascii "DX8300 endorse" ++ be 8 joiner ++ sl st 16 1 ++ sl st 176 97) (sl st 516 96) &&
    verify384 (sl st 176 97) (sl st 0 612) (sl st 612 96)

/-- A member joins: the registrar of a domain that has none listed first lists itself. -/
def State.admitMember (s : State) (id : W64) : State :=
  let s := if s.tow.registrar == s.tow.pairId && !(s.tow.domainLog.any fun e => e.2.1 == 5) then
      s.domainChange 5 (be 8 s.ctr.moduleId.toNat) true
    else s
  (s.applyDomain (s.tow.domainSeq + 1) 5 (be 8 id.toNat)).domainChange 5 (be 8 id.toNat) true

/-- JOIN_REQUEST: body statement (708), SVN (2), reserved (2), P-384 key (97), reserved (3), ML-KEM key (1,184), admission ballot
ID (8), signature (96). -/
def execJoinRequest (d : Bytes) (s : State) : Host.Outcome State Fault Refusal :=
  let p := d.drop 32
  let id := interlinkSender d
  let st := sl p 0 708
  let svn := fld p 708 2
  match s.tow.admissions.find? fun a => a.joiner == id && s.now < a.deadline with
  | none => .next s
  | some a =>
    let ok : Bool := interlinkShape 0x09 d && p.length == 2100 && statementOk st id.toNat (fld a.digest 0 48) && fld st 18 2 == svn &&
      verify384 (sl st 273 97) (sl p 0 2004) (sl p 2004 96) && !s.tow.expelled.contains id
    if !ok then .next s.dropInterlink
    else if svn < s.tow.floor then .next (s.raise 354 noInst 0xFFFF stFloor.toNat svn)
    else
      let s := s.openPeer id
      let plain := s.dk ++ be 8 s.vlt.domainId.toNat ++ be 2 s.tow.floor ++ be 2 s.tow.floorIndex ++ be 8 s.tow.domainSeq ++
        be 8 s.tow.registrar.toNat
      let (env, s) := s.envelope (sl p 712 97) (sl p 812 1184) (ascii "DX8300 join") (be 8 id.toNat) plain
      let s := s.sendInterlink id 0x0A env
      let s : State := { s with tow := { s.tow with admissions := s.tow.admissions.filter fun x => x.joiner != id } }
      .next (s.admitMember id)

/-- Take a domain from its sponsor: DK, domain ID, floor and registrar; custody is ESTABLISHED with the domain's table, and the
domain records are pulled. -/
def State.takeDomain (s : State) (id : W64) (g : Bytes) : State :=
  let s := s.installDk (sl g 0 32) (BitVec.ofNat 64 (fld g 32 8)) false
  let s : State := { s with
    cus := { s.cus with custodians := [], established := true },
    tow := { s.tow with floor := max s.tow.floor (fld g 40 2), floorIndex := fld g 42 2, domainSeq := 0, domainLog := [], members := [id],
                        memberAcks := [], registrar := BitVec.ofNat 64 (fld g 52 8), join := none } }
  ((s.openPeer id).helloPeer id).sendInterlink id 0x06 (be 8 0)

/-- JOIN_GRANT. -/
def execJoinGrant (d : Bytes) (s : State) : Host.Outcome State Fault Refusal :=
  let id := interlinkSender d
  match s.tow.join with
  | none => .next s
  | some (sponsor, _, ec, kem) =>
    if sponsor ≠ id ∨ !interlinkShape 0x0A d ∨ !s.noSliceKeys then .next s
    else
      match openEnvelope ec kem (ascii "DX8300 join") (be 8 s.ctr.moduleId.toNat) (d.drop 32) with
      | none => .next s.dropInterlink
      | some g =>
        if g.length ≠ 60 ∨ s.ctr.svn < fld g 40 2 then .next s.dropInterlink else .next (s.takeDomain id g)

/-- ADMISSION_EXPIRE: 3,600 s after DOMAIN_ADMIT. -/
def execAdmissionExpire (joiner : W64) (s : State) : Host.Outcome State Fault Refusal :=
  match s.tow.admissions.find? fun a => a.joiner == joiner with
  | none => .next s
  | some a =>
    let s := s.upTo a.deadline
    .next { s with tow := { s.tow with admissions := s.tow.admissions.filter fun x => x.joiner != joiner } }

/-! ## Basin and domain verbs (R374, R389, R534) -/

/-- BASIN_CONFIG; the module then tells the gate its slices and anchors (R375). -/
def basinConfigVerb : Verb where
  opcode := 0x0710
  world := .normal
  fmt b _ := lenIs b 36
  sender b s := slice0 b s
  role _ _ := some 5
  run b s :=
    let s : State := { s with tow := { s.tow with
      basinId := BitVec.ofNat 64 (fld b.payload 0 8), gatePair := BitVec.ofNat 64 (fld b.payload 8 8),
      basinAddr := sl b.payload 16 20, directory := [], dirAnchors := [] } }
    done (if s.tow.pair.serves then s.tellBasin else s) []

/-- BASIN_CONFIG. -/
def execBasinConfig (b : Barge) (s : State) : Host.Outcome State Fault Refusal := verbStep basinConfigVerb b s

/-- The 48 bytes of BASIN_STATUS; the spec gives no way to learn the number of members, which is free (log entry 3). -/
def State.basinStatus (s : State) : Bytes :=
  let inBasin : Bool := s.tow.basinId != 0
  let gate : Bool := inBasin && s.tow.gatePair == s.tow.pairId
  be 8 s.tow.basinId.toNat ++ be 8 s.tow.gatePair.toNat ++ be 1 (if inBasin then Config.freeNat s.draws % 65 else 0) ++
    be 1 (flag gate 0 + flag (gate && s.tow.pair.serves) 1) ++ be 2 (if gate then s.tow.directory.length else 0) ++
    be 4 (if gate then s.tow.forwards.length else 0) ++ fit 20 s.tow.basinAddr ++ zeros 4

/-- BASIN_STATUS. -/
def basinStatusVerb : Verb where
  opcode := 0x0711
  world := .normal
  maxReply := 48
  fmt b _ := lenIs b 0
  sender b s := slice0 b s
  run _ s := done ({ s with draws := s.draws + 1 }) s.basinStatus

/-- BASIN_STATUS. -/
def execBasinStatus (b : Barge) (s : State) : Host.Outcome State Fault Refusal := verbStep basinStatusVerb b s

/-- The 48 bytes of DOMAIN_STATUS. -/
def State.domainStatus (s : State) : Bytes :=
  be 8 s.vlt.domainId.toNat ++ be 8 s.tow.registrar.toNat ++ be 8 s.tow.domainSeq ++ be 2 (s.tow.members.length + 1) ++
    be 2 s.tow.expelled.length ++ be 2 s.tow.floor ++ be 2 s.tow.floorIndex ++ be 4 s.cus.custodySeq.toNat ++
    be 4 s.cus.moduleSeq.toNat ++ be 1 (flag (s.tow.registrar == s.tow.pairId) 0 + flag s.tow.join.isSome 1) ++ zeros 7

/-- DOMAIN_STATUS. -/
def domainStatusVerb : Verb where
  opcode := 0x0720
  maxReply := 48
  fmt b _ := lenIs b 0
  sender b s := slice0 b s
  run _ s := done s s.domainStatus

/-- DOMAIN_STATUS. -/
def execDomainStatus (b : Barge) (s : State) : Host.Outcome State Fault Refusal := verbStep domainStatusVerb b s

/-- DOMAIN_JOIN: direct while custody is UNESTABLISHED; it starts the exchange. -/
def domainJoinVerb : Verb where
  opcode := 0x0721
  changing := true
  destructive _ _ := true
  fmt b _ := lenIs b 16
  sender b s := slice0 b s
  role _ s := if s.cus.established then some 5 else none
  state _ s := if s.noSliceKeys then none else some (mismatchReply 2 (bit01 s.cus.established) 1)
  run b s :=
    let sponsor := BitVec.ofNat 64 (fld b.payload 0 8)
    let ballot := BitVec.ofNat 64 (fld b.payload 8 8)
    let (p, s) := s.drawSeed
    let (m, s) := s.drawSeed
    let ec := Config.newPrivate 0x11 384 p
    let kem := fit 2400 (Config.newPrivate 0x30 0 m)
    let head := fit 708 s.ctr.identity ++ be 2 s.ctr.svn ++ zeros 2 ++ public384 ec ++ zeros 3 ++ fit 1184 (Config.publicOf 0x30 kem) ++
      be 8 ballot.toNat
    let sig := s.sign384 s.attestKey head
    let s : State := { s with draws := s.draws + 1, tow := { s.tow with join := some (sponsor, ballot, ec, kem) } }
    done ((s.openPeer sponsor).sendInterlink sponsor 0x09 (head ++ sig)) []

/-- DOMAIN_JOIN. -/
def execDomainJoin (b : Barge) (s : State) : Host.Outcome State Fault Refusal := verbStep domainJoinVerb b s

/-- A list of the domain is full. -/
def domainFull : Reply := ⟨stQuota, be 1 0xFF ++ zeros 3⟩

/-- DOMAIN_ADMIT: the admission stays open for 3,600 s. -/
def domainAdmitVerb : Verb where
  opcode := 0x0722
  changing := true
  destructive _ _ := true
  fmt b _ := lenIs b 56
  sender b s := slice0 b s
  role _ _ := some 5
  run b s :=
    let a : Admission := { joiner := BitVec.ofNat 64 (fld b.payload 0 8), digest := sl b.payload 8 48, deadline := s.now + 3600000000000 }
    if 1023 ≤ s.tow.members.length then { st := s, reply := domainFull }
    else done ({ s with tow := { s.tow with admissions := (s.tow.admissions.filter fun x => x.joiner != a.joiner) ++ [a] } }) []

/-- DOMAIN_ADMIT. -/
def execDomainAdmit (b : Barge) (s : State) : Host.Outcome State Fault Refusal := verbStep domainAdmitVerb b s

/-- DOMAIN_EXPEL. -/
def domainExpelVerb : Verb where
  opcode := 0x0723
  changing := true
  destructive _ _ := true
  fmt b _ := lenIs b 8
  sender b s := slice0 b s
  role _ _ := some 5
  run b s :=
    let id := BitVec.ofNat 64 (fld b.payload 0 8)
    if 4096 ≤ s.tow.expelled.length ∧ !s.tow.expelled.contains id then { st := s, reply := domainFull }
    else doneWith (s.expel id) [] [.domain 6 (be 8 id.toNat)]

/-- DOMAIN_EXPEL. -/
def execDomainExpel (b : Barge) (s : State) : Host.Outcome State Fault Refusal := verbStep domainExpelVerb b s

/-- The first admitted member that did not announce an SVN at or above a target within the last 10 s (R388). -/
def State.belowTarget (s : State) (target : Nat) : Option W64 :=
  if s.ctr.svn < target then some s.ctr.moduleId
  else s.tow.members.find? fun m =>
    match s.peer m with
    | some l => l.svn < target || l.announced + 10000000000 < s.now
    | none => true

/-- COMMIT_FLOOR, at the registrar. -/
def commitFloorVerb : Verb where
  opcode := 0x0724
  maxReply := 12
  fmt b s := firstCode [lenIs b 4, wellFormed (fld b.payload 0 2 ≤ 4095), reserved b s 2 2]
  sender b s := slice0 b s && s.tow.registrar == s.tow.pairId
  role _ _ := some 5
  run b s :=
    let target := fld b.payload 0 2
    match if target < s.tow.floor then some s.ctr.moduleId else s.belowTarget target with
    | some id => refuse s stFloor (be 8 id.toNat)
    | none =>
      let index := (s.tow.floorIndex + 1) % 65536
      let s := s.domainChange 4 (be 2 target ++ be 2 index) true
      let s := (s.commitFloor target index s.tow.domainSeq).rekey
      done s (be 2 index ++ zeros 2 ++ be 8 s.tow.domainSeq)

/-- COMMIT_FLOOR. -/
def execCommitFloor (b : Barge) (s : State) : Host.Outcome State Fault Refusal := verbStep commitFloorVerb b s

/-- SLICE_SPREAD, at the registrar: the generation becomes one more than the highest it knows of the hosting pairs, and a slice
that comes to 0xFFFF_FFFF enters RETIRED (R10, R100, R382). -/
def sliceSpreadVerb : Verb where
  opcode := 0x0725
  changing := true
  fmt b s := firstCode
    [wellFormed (4 ≤ b.payload.length && 1 ≤ fld b.payload 2 2 && fld b.payload 2 2 ≤ 64), lenIs b (4 + 8 * fld b.payload 2 2),
     reservedBits b s 0 2 15 12, wellFormed (fld b.payload 0 2 % 4096 != 0), reserved b s 0 0]
  sender b s := slice0 b s && s.tow.registrar == s.tow.pairId
  role _ _ := some 1
  state b s :=
    let o := (s.slice (fld b.payload 0 2 % 4096)).state.ord
    if Nat.testBit 7 o then none else some (mismatchReply 3 o 7)
  run b s0 :=
    let id := fld b.payload 0 2 % 4096
    let pairs := (List.range (fld b.payload 2 2)).map fun i => BitVec.ofNat 64 (fld b.payload (4 + 8 * i) 8)
    let x := s0.slice id
    let known := match s0.tow.directory.find id with
      | some e => e.generation.toNat
      | none => 0
    let top := min 0xFFFFFFFF (max x.generation.toNat known + 1)
    let gen := BitVec.ofNat 32 top
    let hosted : Bool := pairs.contains s0.tow.pairId
    let st := if top = 0xFFFFFFFF then .retired else if hosted && x.state == .absent then .active else x.state
    let s := s0.setSlice id { x with spread := pairs, generation := gen, state := st,
                                     transfer := if st = .retired then none else x.transfer }
    let body := s.spreadBody id
    if hosted then doneWith s [] [.generation id]
    else doneWith s0 [] [.domain 7 body]

/-- SLICE_SPREAD. -/
def execSliceSpread (b : Barge) (s : State) : Host.Outcome State Fault Refusal := verbStep sliceSpreadVerb b s

/-- Is a pair known to belong to the basin: this pair, the gate pair, or a home that the directory names (R374, R375; log entry 31). -/
def State.inBasin (s : State) (p : W64) : Bool :=
  p == s.tow.pairId || (s.tow.basinId != 0 && (p == s.tow.gatePair || s.tow.directory.vals.any fun e => e.home == p))

/-- KEY_DISTRIBUTE: module and handle per hosting pair, those of the basin for SCOPE 1. Another pair places its copy in a free slot: the
handle it gives, or that its slice's quota or its slots refuse the copy, is free, and what carries the copy is not among the spec's
interlink kinds (R382, R528; log entries 3 and 31). -/
def keyDistributeVerb : Verb where
  opcode := 0x0726
  maxReply := 1024
  changing := true
  fmt b _ := lenIs b 8
  sender b _ := b.slice != 0
  run b s :=
    match s.usable b.slice (fld b.payload 0 8) with
    | .error r => { st := s, reply := r }
    | .ok i =>
      let x := s.slice b.slice
      let scope := scopeOf (s.slot i).attributes
      if scope ≠ 1 ∧ scope ≠ 2 then fail s stAttrDenied
      else if x.spread.isEmpty then mismatch s 3 x.state.ord 0
      else
        let pairs := x.spread.filter fun p => scope == 2 || s.inBasin p
        let entry (p : W64) (k : Nat) : Option Bytes :=
          if p = s.tow.pairId then some (be 8 s.ctr.moduleId.toNat ++ be 8 (s.slotHandle i).toNat)
          else (s.serverOf p).map fun m => be 8 m.toNat ++ be 8 (Config.freeNat (s.draws + k))
        let es := (List.range pairs.length).map fun k => entry (pairs.getD k 0) k
        let others : Bool := pairs.any fun p => p != s.tow.pairId
        let n := s.draws + pairs.length
        let s : State := { s with draws := n + 2 }
        if es.any Option.isNone then fail s stUnreachable
        else if others && Config.freeBool n then refuse s stQuota (be 1 0 ++ zeros 3)
        else if others && Config.freeBool (n + 1) then fail s stVaultFull
        else done s (es.filterMap id).flatten

/-- KEY_DISTRIBUTE. -/
def execKeyDistribute (b : Barge) (s : State) : Host.Outcome State Fault Refusal := verbStep keyDistributeVerb b s

/-- DOMAIN_REGISTRAR: a move waits until every member can report, or has been expelled; another member proposes it. -/
def domainRegistrarVerb : Verb where
  opcode := 0x0727
  fmt b _ := lenIs b 8
  sender b s := slice0 b s
  role _ _ := some 5
  run b s :=
    if s.silentMember then fail s stUnreachable
    else done (s.giveRegistrar (sl b.payload 0 8)) []

/-- DOMAIN_REGISTRAR. -/
def execDomainRegistrar (b : Barge) (s : State) : Host.Outcome State Fault Refusal := verbStep domainRegistrarVerb b s

end Sys2Proof.Machine
end

