-- ==== Sys2Proof/Machine/Reset.lean ====
section
/-! DEFINITION. What a reset keeps and erases: the transition ledger's words, a transition cut short, the copy of staged
evidence, FULL_RESET, zeroisation and the power-fail shutdown (R425, R440 to R442, R458, R462, R464, R465, R469, R474, R504,
R505). -/

namespace Sys2Proof.Machine

/-! ## Ledger words (R441) -/

/-- An intent copy for a target code. -/
def intentWord (t : Nat) : W32 := BitVec.ofNat 32 (t * 65536 + (65535 - t))

/-- A commit copy for a target code. -/
def commitCopy (t : Nat) : W32 := BitVec.ofNat 32 ((65535 - t) * 65536 + t)

/-- The target of a valid copy: its halves are complementary and name a life-cycle code. -/
def copyTarget (intent : Bool) (w : W32) : Option LifeCycle :=
  let hi := w.toNat / 65536
  let lo := w.toNat % 65536
  if hi + lo = 65535 then lifeCycleOf (if intent then hi else lo) else none

/-- The target that at least two of three copies name. -/
def wordsTarget (intent : Bool) (ws : List W32) : Option LifeCycle :=
  let ts := ws.filterMap (copyTarget intent)
  ts.find? fun t => 2 ≤ (ts.filter (· == t)).length

/-- No bit of a slot is set. -/
def LedgerSlot.blank (x : LedgerSlot) : Bool := x.intent.all (· == 0) && x.commit.all (· == 0)

/-- Burn a copy: bits are set and never cleared (R425). -/
def burnWord (ws : List W32) (i : Nat) (w : W32) : List W32 := ws.modify i fun old => old ||| w

/-- A ledger slot, or the scrap slot for none. -/
def State.lcSlot (s : State) : Option Nat → LedgerSlot
  | none => s.ctr.scrapSlot
  | some i => s.ctr.ledger.at {} i

/-- Replace a ledger slot or the scrap slot. -/
def State.setLcSlot (s : State) (at_ : Option Nat) (x : LedgerSlot) : State :=
  match at_ with
  | none => { s with ctr := { s.ctr with scrapSlot := x } }
  | some i => { s with ctr := { s.ctr with ledger := s.ctr.ledger.put i x } }

/-! ## The root (R108, R462, R465) -/

/-- The root register and its shadow are erased and ZEROISED is latched; the custodian table goes with them, and custody is
UNESTABLISHED (R89). -/
def State.eraseRoot (s : State) : State :=
  { s with cus := { s.cus with custodians := [], established := false },
           vlt := { s.vlt with root := [], rootShadow := [], rootValid := false, zeroised := true },
           snt := { s.snt with zeroisedCode := 0x936C, zeroisedShadow := 0x6C93 },
           ctr := { s.ctr with mram := s.ctr.mram.map fun m => ({ m.1 with custodians := [], established := false }, m.2) } }

/-! ## Transitions (R439, R440, R444) -/

/-- One step of writing a transition: three intent copies, the return token, the root, three commit copies. -/
def State.burnStep (w : LcWrite) (s : State) (n : Nat) : State :=
  let t := w.target.code
  let x := s.lcSlot w.slot
  if n < 3 then s.setLcSlot w.slot { x with intent := burnWord x.intent n (intentWord t) }
  else if n = 3 then
    if w.target == .returnTest && s.ctr.incomplete.isNone then
      { s with ctr := { s.ctr with tokensUsed := s.ctr.tokensUsed + 1 } }
    else s
  else if n = 4 then
    match w.target with
    | .returnTest => s.eraseRoot
    | .scrap => let s := s.eraseRoot
                { s with ctr := { s.ctr with foundryKey := List.replicate 48 0xFF } }
    | .blank => s
    | .foundryTest => s
    | .custody => s
  else s.setLcSlot w.slot { x with commit := burnWord x.commit (n - 5) (commitCopy t) }

/-- Every step of a transition. -/
def State.writeTransition (s : State) (w : LcWrite) : State := (List.range 8).foldl (State.burnStep w) s

/-- A reset cuts a transition short: the copy being burned completes, and how many steps that makes is free; one to SCRAP
finishes whatever else fails (R440, R458, R505; log entry 3). -/
def State.cutTransition (s : State) : State :=
  match s.ctr.writing with
  | none => s
  | some w =>
    let s := { s with ctr := { s.ctr with writing := none } }
    if w.target == .scrap then s.writeTransition w
    else
      let (n, s) := s.freeNat
      (List.range (n % 9)).foldl (State.burnStep w) s

/-! ## Staged evidence (R474) -/

/-- Write a staged entry to the log. -/
def State.copyEntry (s : State) (e : StagedEntry) : State :=
  s.logEntry e.time e.kind e.lifecycle.toNat e.group e.eflags e.stage e.detail

/-- Does the newest held entry carry a staging number. -/
def State.newestStage (s : State) (n : Nat) : Bool :=
  match s.snt.log.getLast? with
  | some e => n != 0 && fld e 26 2 == n
  | none => false

/-- Copy what is staged, in staging order, then the count of alarms that found no room; the log is read only in SCRAP
(R474, R476). An entry that an interrupted copy has already written is skipped. -/
def State.copyStaged (s : State) : State :=
  if s.ctr.state == .blank || s.ctr.state == .scrap then s
  else
    let es := s.snt.staged
    let lost := s.snt.overflow
    let s := { s with snt := { s.snt with staged := [], overflow := 0 } }
    let s := (es.filter fun e => !s.newestStage e.stage).foldl State.copyEntry s
    if lost = 0 then s else s.evidence 0x05 (be 4 lost)

/-! ## What a reset keeps -/

/-- Custody tables in MRAM: a restore in progress ends with its slice ABSENT, and no response waits any more (R100, R128). -/
def Custody.kept (c : Custody) : Custody :=
  let g (e : Nat × Slice) : Nat × Slice :=
    let x := e.2
    let q := x.drain.map fun d => { d with answer := none }
    (e.1, { x with
      state := if x.state == .restoring then .absent else x.state,
      quota := if x.state == .restoring then {} else x.quota, drain := q, transfer := none, storm := [], stormAt := none })
  { c with slices := c.slices.map g }

/-- The sentinel's root fields, the records in MRAM and the domain's identity; the vault SRAM, the hold and every derived key
go (R108, R128, R129, R458). -/
def Vault.kept (v : Vault) : Vault :=
  let quiet (e : Nat × ShredSeq) : Nat × ShredSeq :=
    (e.1, { e.2 with waiting := [], epoch := 0, resumed := e.2.resumed || e.2.evidence.isNone })
  { image := v.image, reservations := v.reservations, reservedTo := v.reservedTo, prints := v.prints, root := v.root, rootShadow := v.rootShadow,
    rootValid := v.rootValid, pendingKeys := v.pendingKeys, zeroised := v.zeroised, shadowFault := v.shadowFault, rootCount := v.rootCount,
    domainId := v.domainId, shredRegister := v.shredRegister, shreds := v.shreds.map quiet, certs := v.certs,
    badWrites := v.badWrites, imageFaults := v.imageFaults }

/-- The witness lease is still valid by this module's own clock: the level of HEALTH_IN, or 3 ms after the beat last answered was sent
(R364, R367). -/
def Towpath.holds (t : Towpath) (now : Nat) : Bool :=
  t.lease && if t.witness.kind = 3 then t.healthIn.1 else decide (now < t.beats.1 + 3000000)

/-- The pair record, the settings of pair, witness and basin, and the domain state; a module with a partner comes back FENCED
but for one whose take-over fence a second failure stopped and whose lease is still valid, which resumes it (R128, R352, R363, R371, R374,
R379, R383; log entry 33). -/
def Towpath.kept (t : Towpath) (now : Nat) : Towpath :=
  let fence := t.fence.isSome && t.holds now
  { pair := if fence then .standby else if t.partner = 0 then .unpaired else .fenced, pairId := t.pairId, partner := t.partner,
    partnerDigest := t.partnerDigest, soloPolicy := t.soloPolicy, witness := t.witness, takeovers := t.takeovers,
    witnessFrom := now + 5000000, basinId := t.basinId, gatePair := t.gatePair, basinAddr := t.basinAddr,
    registrar := t.registrar, domainSeq := t.domainSeq, domainLog := t.domainLog, members := t.members,
    memberAcks := t.memberAcks, expelled := t.expelled, floor := t.floor, floorIndex := t.floorIndex, ledgers := t.ledgers,
    units := t.units, exhausted := t.exhausted, healthIn := t.healthIn, inherited := t.inherited,
    fence := if fence then t.fence else none, lease := fence, term := if fence then t.term else 0, beats := if fence then t.beats else (0, 0, 0) }

/-- Custody tables as the MRAM holds them (R446). -/
def State.mramCustody (s : State) : Custody :=
  match s.ctr.mram with
  | some m => m.1
  | none => s.cus

/-- The vault with its records as the MRAM holds them (R446). -/
def State.mramVault (s : State) : Vault :=
  match s.ctr.mram with
  | some (_, v) =>
    { s.vlt with
      image := v.image, reservations := v.reservations, reservedTo := v.reservedTo, prints := v.prints,
      pendingKeys := v.pendingKeys, domainId := v.domainId,
      shredRegister := v.shredRegister, shreds := v.shreds, certs := v.certs, badWrites := v.badWrites, imageFaults := v.imageFaults }
  | none => s.vlt

/-- Position at which the device LMS signer resumes: after the highest reserved block (R320). -/
def lmsResume (reserved : Nat) : Nat := if reserved = 0 then 0 else reserved + 1

/-- A block of engines keeps its count of island resets (R298, R330). -/
def EngineBlock.kept (b : EngineBlock) : EngineBlock := { islandResets := b.islandResets }

/-- Of the engines the reservations region keeps the LMS keys and the reserved positions (R320, R321). -/
def Engines.kept (e : Engines) : Engines :=
  { bank := e.bank.kept, pke := e.pke.kept, lattice := e.lattice.kept, hash := e.hash.kept,
    lmsPos := lmsResume e.lmsReserved, lmsReserved := e.lmsReserved, lmsTop := e.lmsTop, lmsKeys := e.lmsKeys }

/-- OTP, flash and the arm latch stay; what the boot ROM and the keeper form anew goes (R425, R428, R446). -/
def Charter.kept (c : Charter) : Charter :=
  { c with
    writing := none, resetAt := none, recovery := false, staging := none, staged := none, bootDone := false,
    readySeen := false, romFault := false, mr0 := [],
    mr1 := [], mr2 := [], mr3 := [], mr1Boot := [], testRoot := [], endorsement := [], identity := [], dbgNormal := none,
    dbgSecure := none, dbgStart := false, dbgRights := 0, challenge := none, trial := false, mram := none }

/-- The power stage beside the die keeps its inputs, telemetry and cages; domains come back on (R417, R458). -/
def Power.kept (p : Power) : Power :=
  let g (e : Nat × PowerDomain) : Nat × PowerDomain := (e.1, { revokes := e.2.revokes })
  { p with
    domains := p.domains.map g, started := false, ready := false, state := 0, loads := [], idle := none, linkBuffer := [],
    timers := [], badLines := 0 }

/-- Memory that a reset does not clear: MRAM and flash (R394, R458). -/
def keptByte (a : Nat) : Bool :=
  (0x1000000000 ≤ a && a < 0x1001000000) || (0x1300000000 ≤ a && a < 0x1308000000)

/-! ## FULL_RESET (R458) -/

/-- Steps 1 to 4: everything but the sentinel, its root register, the MRAM, OTP and flash is as after reset, and the boot ROM
is the next to run. -/
def State.fullReset (s : State) : State :=
  let s := s.cutTransition.cutStore
  let still := s.obs.conditions.filter fun c => c.1 == 386 || c.1 == 388
  { pending := s.pending, draws := s.draws, out := s.out, whf := {}, readers := [], cus := s.mramCustody.kept, vlt := s.mramVault.kept,
    flt := { held := (s.tow.kept s.now).fence.isSome },
    cht := { sections := State.resetSections, bankA := s.cht.bankA, bankBBytes := s.cht.bankBBytes, badStores := s.cht.badStores },
    eng := s.eng.kept, ent := {},
    hlt := {}, tow := s.tow.kept s.now, ixp := {}, cor := { count := s.cor.count }, ctr := s.ctr.kept, snt := s.snt,
    obs := { conditions := still },
    clk := { s.clk with startAt := s.now, disciplined := false, holdover := false }, pwr := s.pwr.kept,
    mem := s.mem.filter fun e => keptByte e.1 }

/-! ## Zeroisation (R462, R465) -/

/-- Steps 1 to 5 up to the reset: the root and every key register go, the entry is staged, and recorded shred sequences end
here (R464, R532). -/
def State.zeroise (s : State) (group : W32) (onCell : Bool) : State :=
  let s := s.eraseRoot
  let s := { s with
    vlt := { s.vlt with rat := [], dom := [], dis := [], shreds := [] },
    ctr := { s.ctr with testRoot := [] } }
  s.stage s.stamp 3 (flag onCell 0) group (be 1 s.vlt.rootCount ++ be 1 (bit01 onCell))

/-- The sentinel has lost both cells and main power: it wakes as after a completed zeroisation, its levels at their defaults
and its clock counting from 0 (R469). ROOT_COUNT is lost with the rest of its memory, and the spec gives it no value then. -/
def State.totalLoss (s : State) : State :=
  let (n, s) := s.freeNat
  let s := s.eraseRoot
  { s with
    vlt := { s.vlt with rootCount := n % 256, shadowFault := false },
    snt := { s.snt with
      sensors := State.resetSensors, deferred := false, fullResets := [], locked := false, staged := [], overflow := 0,
      stageCount := 0, group := 0, groupStart := none, powerLoss := true },
    clk := { s.clk with rtcBase := s.baseFor 0, valid := false, leap := none, leapFlag := 0, onRc := false } }

/-! ## The power-fail shutdown (R504, R505) -/

/-- The sentinel leaves main power; with both cells absent it loses everything. -/
def State.toCell (s : State) : State :=
  let s := { s with snt := { s.snt with
      onMain := false, mode := 0xA5C3, modeShadow := 0x5A3C, deferred := false, held := false, responding := none } }
  if s.snt.cellA || s.snt.cellB then s else s.totalLoss

/-- The counts that run since power-up go with it (R390, R417, R424, R477). -/
def State.clearCounts (s : State) : State :=
  let g (e : Nat × Sensor) : Nat × Sensor := (e.1, { e.2 with faults := 0, alarms := 0 })
  { s with
    eng := { s.eng with bank := {}, pke := {}, lattice := {}, hash := {} },
    tow := { s.tow with takeovers := 0 }, cor := {}, snt := { s.snt with sensors := s.snt.sensors.map g },
    obs := {}, pwr := { s.pwr with domains := [] } }

/-- The shutdown: staged entries are copied, a copy being burned completes, everything is erased and the module is down. A
thermal emergency and queued gating requests are dropped. Nothing happens where the module is down already. -/
def State.shutdown (s : State) : State :=
  if s.pwr.shutDown then s
  else
    let s := ((s.copyStaged.fullReset).toCell).clearCounts
    { s with pwr := { s.pwr with
        shutDown := true, downAt := some s.now, inputOk := false, outage := none, holdupOk := false, thermal := false,
        divisor := 1, dip := false, overvolt := false, warm := false,
        cages := s.pwr.cages.map fun e => (e.1, { e.2 with powered := false, exceeds := false, onAt := none }) } }

end Sys2Proof.Machine
end

