-- ==== Sys2Proof/Machine/Sentinel.lean ====
section
/-! DEFINITION. The sentinel: sensors, alarms and their responses, shadows, the staging of entries and the tamper and evidence
verbs (R452 to R478). -/

namespace Sys2Proof.Machine

/-! ## Sensors and levels (R452, R455, R456) -/

/-- A paired sensor of R452, or a logic alarm of R455. -/
def pairedSensor (code : Nat) : Bool := 1 ≤ code && code ≤ 0x0C
def logicAlarm (code : Nat) : Bool := 0x20 ≤ code && code ≤ 0x28

/-- Every code, in ascending order. -/
def sensorCodes : List Nat := (List.range 12).map (· + 1) ++ (List.range 9).map (· + 0x20)

/-- Minimum level number of a code. -/
def sensorMin (code : Nat) : Nat :=
  if code = 0x01 ∨ code = 0x0C ∨ code = 0x20 ∨ code = 0x21 ∨ code = 0x22 then 3
  else if code = 0x02 ∨ code = 0x03 ∨ code = 0x06 ∨ code = 0x27 ∨ code = 0x28 then 2
  else if code = 0x04 ∨ code = 0x05 ∨ code = 0x09 ∨ code = 0x0B then 0
  else 1

/-- Default level number of a code. -/
def sensorDefault (code : Nat) : Nat :=
  if code = 0x01 ∨ code = 0x02 ∨ code = 0x03 ∨ code = 0x0C ∨ code = 0x20 ∨ code = 0x21 ∨ code = 0x22 then 3
  else if code = 0x05 ∨ code = 0x09 ∨ code = 0x0B then 0
  else if 0x23 ≤ code ∧ code ≤ 0x26 then 1
  else 2

/-- Detection bounds of a sensor in ns, on main power and on the cell, where a sensor with no bound is unpowered. -/
def sensorBound (code : Nat) : Nat × Option Nat :=
  if code = 0x01 then (10000, some 2000000) else if code = 0x02 then (100000, some 10000000)
  else if code = 0x03 ∨ code = 0x04 then (1000000, some 100000000) else if code = 0x05 then (1000000, none)
  else if code = 0x06 ∨ code = 0x0C then (10000, some 2000000) else if code = 0x07 then (50, none)
  else if code = 0x08 then (10000, none) else if code = 0x09 then (1000000, some 2000000)
  else if code = 0x0A then (20, none) else if code = 0x0B then (1000000000, some 1000000000)
  else (1000, none)

/-- Wide code of a level number (R456). -/
def levelCode (n : Nat) : BitVec 16 :=
  if n = 0 then 0xA5C3 else if n = 1 then 0xAA33 else if n = 2 then 0x960F else 0xF069

/-- Level number of a wide code. -/
def levelOf (c : BitVec 16) : Option Nat :=
  if c = 0xA5C3 then some 0 else if c = 0xAA33 then some 1 else if c = 0x960F then some 2
  else if c = 0xF069 then some 3 else none

/-- The state of a code. -/
def State.sensor (s : State) (code : Nat) : Sensor :=
  s.snt.sensors.at { code := levelCode (sensorDefault code), shadow := ~~~(levelCode (sensorDefault code)) } code

/-- Change the state of a code. -/
def State.modSensor (s : State) (code : Nat) (f : Sensor → Sensor) : State :=
  { s with snt := { s.snt with sensors := s.snt.sensors.put code (f (s.sensor code)) } }

/-- Configured level number; a level register that fails its shadow or holds no valid code counts as ZEROISE (R468). -/
def Sensor.level (x : Sensor) : Nat := if x.shadow = ~~~x.code then (levelOf x.code).getD 3 else 3

/-- The level that acts: in BLANK and SCRAP every one acts as NOTE (R460). -/
def State.actingLevel (s : State) (code : Nat) : Nat :=
  if s.ctr.state == .blank || s.ctr.state == .scrap then 0 else (s.sensor code).level

/-! ## Groups and entries (R463, R474) -/

/-- The coincidence group of an alarm: one within 1 ms of the first of the open group joins it. -/
def State.joinGroup (s : State) : State :=
  let open_ : Bool := match s.snt.groupStart with
    | some t => s.snt.group != 0 && s.now ≤ t + 1000000
    | none => false
  if open_ then s else { s with snt := { s.snt with group := s.snt.group + 1, groupStart := some s.now } }

/-- Is a staged entry the latest ALARM entry of a sensor, in a group. -/
def alarmEntry (code : Nat) (e : StagedEntry) : Bool := e.kind == 1 && fld e.detail 0 1 == code

/-- Stage an alarm, or merge it into the sensor's latest entry of the group (R474). -/
def State.stageAlarm (s : State) (code dets configured executed eflags : Nat) (reading : BitVec 32) : State :=
  let rep := fun e : StagedEntry => fld e.detail 8 2
  match (List.range s.snt.staged.length).reverse.find? fun i => (s.snt.staged[i]?).any (alarmEntry code) with
  | some i =>
    if (s.snt.staged[i]?).any fun e => e.group == s.snt.group && rep e < 0xFFFF then
      let g (e : StagedEntry) : StagedEntry :=
        { e with eflags := e.eflags ||| 8, detail := patch e.detail 8 (be 2 (rep e + 1)) }
      { s with snt := { s.snt with staged := s.snt.staged.modify i g } }
    else s.stage s.stamp 1 eflags s.snt.group
      (be 1 code ++ be 1 dets ++ be 1 configured ++ be 1 executed ++ be 4 reading.toNat ++ zeros 2)
  | none => s.stage s.stamp 1 eflags s.snt.group
      (be 1 code ++ be 1 dets ++ be 1 configured ++ be 1 executed ++ be 4 reading.toNat ++ zeros 2)

/-- A detector disagreement: an entry at level NOTE, the sensor's count and SNT_DETECTOR_FAULT (R454). -/
def State.disagree (s : State) (code dets : Nat) (group : W32) : State :=
  let s := s.stage s.stamp 2 (flag (!s.snt.onMain) 0 + 4) group (be 1 code ++ be 1 dets)
  let s := s.modSensor code fun x => { x with faults := sat 255 (x.faults + 1) }
  if s.snt.onMain then s.raise 385 noInst 0xFFFF code dets else s

/-! ## Responses (R457, R463) -/

/-- Level of the response that runs: a full reset until its boot begins, or an island reset until its release. -/
def State.runningLevel (s : State) : Option Nat :=
  match s.snt.responding with
  | some l => some l
  | none =>
    if s.eng.bank.resetting || s.eng.pke.resetting || s.eng.lattice.resetting || s.eng.hash.resetting then some 1 else none

/-- An island in an island reset. -/
def State.islandResetting (s : State) (i : Nat) : Bool :=
  match islandKinds i with
  | k :: _ => (s.block k).resetting
  | [] => false

/-- The island an alarm concerns: that of an escalation alarm, or the one reported. -/
def alarmIsland (code island : Nat) : Nat :=
  if code = 0x23 then 3 else if code = 0x24 then 5 else if code = 0x25 then 6 else if code = 0x26 then 4 else island

/-- An alarm-caused FULL_RESET: the third within 3,600 s holds the next start (R459). -/
def State.alarmReset (s : State) (level : Nat) : State :=
  let ts := within s.now 3600000000000 s.snt.fullResets ++ [s.now]
  let s := s.fullReset
  { s with snt := { s.snt with fullResets := ts, locked := s.snt.locked || 3 ≤ ts.length, responding := some level } }

/-- Run a response: an island reset abandons a secure restart, a zeroisation lets a transition complete and goes on into the
reset (R422, R444, R457, R465). -/
def State.respondAlarm (s : State) (level island : Nat) : State :=
  if level = 3 then
    let s := match s.ctr.writing with
      | some w => { (s.writeTransition w) with ctr := { (s.writeTransition w).ctr with writing := none } }
      | none => s
    let again : Bool := s.snt.responding == some 2
    let s := s.zeroise s.snt.group false
    if again then { s with snt := { s.snt with responding := some 3 } } else s.alarmReset 3
  else if level = 2 then s.alarmReset 2
  else if level = 1 then
    ({ s with cor := { s.cor with restarting := false, phase := 0 } }).islandReset island
  else s

/-- A THERMAL alarm starts the thermal emergency: half clocks and shorter lease ceilings (R414, R511). -/
def State.startThermal (s : State) : State :=
  if s.pwr.thermal then s
  else
    let s := s.rebase
    let g (e : Nat × PowerDomain) : Nat × PowerDomain :=
      (e.1, match e.2.queued with
        | some (a, c) => { e.2 with queued := some (a, min c (s.now + 50000)), thermal := true }
        | none => e.2)
    ({ s with pwr := { s.pwr with
        thermal := true, thermalAt := s.now, divisor := 2, domains := s.pwr.domains.map g } }).level 388 true noInst 0xFFFF 0 0

/-- What a sensor's condition changes beside its alarm: the emergency, the crystal, the cells (R452, R495, R523). -/
def State.sensorEffects (s : State) (code : Nat) : State :=
  if code = 0x05 then (if s.snt.onMain then s.startThermal else s)
  else if code = 0x09 then ({ s with clk := { s.clk with onRc := true } }).level 485 true noInst 0xFFFF 0 0
  else s

/-- Raise an alarm: its group and entry, SNT_ALARM, the disagreement beside it, and its response, unless a higher or equal one
runs; on the cell only a zeroisation acts (R454 to R463), and so while a start is held (R466; DEDUCED, log entry 25). -/
def State.alarm (s : State) (code dets : Nat) (reading : BitVec 32) (island : Nat) : State :=
  let s := s.joinGroup
  let configured := s.actingLevel code
  let split : Bool := pairedSensor code && dets != 3
  let cell := !s.snt.onMain
  let isl := alarmIsland code island
  let wanted := if configured = 1 && (islandKinds isl).isEmpty then 2 else configured
  let top := (s.runningLevel).getD 0
  let subsumed : Bool := 0 < wanted && (wanted < top || (wanted == top && (wanted != 1 || s.islandResetting isl)))
  let deferred : Bool := cell && (configured == 1 || configured == 2)
  let executed := if cell then (if configured = 3 then 3 else 0) else if subsumed then top else wanted
  let s := s.stageAlarm code dets configured executed (flag cell 0 + flag deferred 1 + flag split 2) reading
  let s := if split then s.disagree code dets s.snt.group else s
  let s := s.modSensor code fun x => { x with alarms := sat 65535 (x.alarms + 1) }
  let s := if cell then s else s.raise 384 noInst 0xFFFF code executed
  let s := s.sensorEffects code
  if cell then
    if configured = 3 then s.zeroise s.snt.group true
    else { s with snt := { s.snt with deferred := s.snt.deferred || deferred } }
  else if s.snt.held then (if wanted = 3 then s.zeroise s.snt.group false else s)
  else if subsumed then s
  else s.respondAlarm wanted isl

/-- The condition of a sensor ends: the time counts for R453 and R466, and the crystal serves the clock again. -/
def State.conditionEnds (s : State) (code : Nat) : State :=
  let s := s.modSensor code fun x =>
    { x with condition := false, a := false, b := false, clearSince := some s.now }
  if code = 0x09 then ({ s with clk := { s.clk with onRc := false } }).level 485 s.clk.holdover noInst 0xFFFF 0 0 else s

/-- The cells as their monitors report them; reinserted into a module without any supply, the sentinel wakes (R469, R523). -/
def State.cellsReport (s : State) (a b : Bool) : State :=
  let dead : Bool := !s.snt.onMain && !s.snt.cellA && !s.snt.cellB
  let s := { s with snt := { s.snt with cellA := !a, cellB := !b } }
  let gone : Bool := !s.snt.onMain && a && b
  if dead || gone then s.totalLoss else s

/-- Detectors as a number: bit 0 A, bit 1 B. -/
def detectors (a b : Bool) : Nat := flag a 0 + flag b 1

/-- SENSOR_ALARM: a report of a sensor's detectors, whose condition ends with a report of neither, or a logic alarm (R452 to
R455; log entry 25). A condition that persists raises nothing further, nor does one that was clear for less than its bound
(R453). One detector alone raises the alarm of a zeroising sensor, and that of CELL (R523); of any other it is a disagreement. -/
def execSensorAlarm (a : AlarmReport) (s : State) : Host.Outcome State Fault Refusal :=
  let code := a.code
  let dead : Bool := !s.snt.onMain && !s.snt.cellA && !s.snt.cellB
  let bound := sensorBound code
  if logicAlarm code then
    .next ((s.modSensor code fun x => { x with condition := false }).alarm code 0 a.reading a.island)
  else if !pairedSensor code then .next s
  else if code = 0x0B then
    let was := (s.sensor code).condition
    let s := s.cellsReport a.a a.b
    if !a.a && !a.b then .next (s.conditionEnds code)
    else
      let s := s.modSensor code fun x => { x with condition := true, a := a.a, b := a.b }
      if was || (!s.snt.onMain && a.a && a.b) then .next s
      else .next (s.alarm code (detectors a.a a.b) a.reading a.island)
  else if dead || (!s.snt.onMain && bound.2.isNone) then .next s
  else if !a.a && !a.b then .next (s.conditionEnds code)
  else
    let x := s.sensor code
    let span := if s.snt.onMain then bound.1 else bound.2.getD 0
    let soon : Bool := match x.clearSince with
      | some t => s.now < t + span
      | none => false
    let s := s.modSensor code fun y => { y with condition := true, a := a.a || (y.condition && y.a), b := a.b || (y.condition && y.b) }
    if x.condition || soon then .next s
    else if (a.a && a.b) || x.level = 3 then .next (s.alarm code (detectors a.a a.b) a.reading a.island)
    else .next (s.disagree code (detectors a.a a.b) 0)

/-- DETECTOR_DISAGREEMENT: the bound of a sensor that does not zeroise passes with one detector reporting. -/
def execDetectorDisagreement (code : Nat) (detectorB : Bool) (s : State) : Host.Outcome State Fault Refusal :=
  if !pairedSensor code ∨ (s.sensor code).level = 3 ∨ (!s.snt.onMain && (sensorBound code).2.isNone) then .next s
  else .next (s.disagree code (if detectorB then 2 else 1) 0)

/-! ## Shadows (R468) -/

/-- A sentinel register differs from its shadow or holds no valid code. -/
def Sentinel.corrupt (t : Sentinel) : Bool :=
  (t.sensors.any fun e => e.2.shadow != ~~~e.2.code || (levelOf e.2.code).isNone) ||
    t.modeShadow != ~~~t.mode || (t.mode != 0x5A3C && t.mode != 0xA5C3) ||
    t.zeroisedShadow != ~~~t.zeroisedCode || (t.zeroisedCode != 0x6C93 && t.zeroisedCode != 0x936C)

/-- SHADOW_SCAN: every 1 ms; a mismatch or an invalid code raises SHADOW. -/
def execShadowScan (s : State) : Host.Outcome State Fault Refusal :=
  let s := s.upTo s.snt.scanAt
  let s := { s with snt := { s.snt with scanAt := s.now + 1000000 } }
  if s.snt.corrupt then .next (s.alarm 0x21 0 0 0) else .next s

/-! ## The evidence log (R470 to R478) -/

/-- EVIDENCE_COPY: on main power. -/
def execEvidenceCopy (s : State) : Host.Outcome State Fault Refusal :=
  if s.snt.onMain then .next s.copyStaged else .next s

/-- TAMPER_STATUS response. -/
def State.tamperBytes (s : State) : Bytes :=
  be 1 21 ++ zeros 3 ++ (sensorCodes.map fun c =>
    let x := s.sensor c
    be 1 c ++ be 1 x.level ++ be 1 (sensorMin c) ++ be 1 (sensorDefault c) ++
      be 1 (flag x.a 0 + flag x.b 1 + flag x.condition 2) ++ be 1 x.faults ++ be 2 x.alarms).flatten

/-- TAMPER_STATUS. -/
def tamperStatusVerb : Verb where
  opcode := 0x0850
  maxReply := 172
  sender := slice0
  fmt b _ := lenIs b 0
  run _ s := done s s.tamperBytes

/-- TAMPER_STATUS. -/
def execTamperStatus (b : Barge) (s : State) : Host.Outcome State Fault Refusal := verbStep tamperStatusVerb b s

/-- The changes of a TAMPER_CONFIG request: sensor and level. -/
def tamperChanges (p : Bytes) : List (Nat × Nat) :=
  (List.range (fld p 0 1)).map fun i => (fld p (4 + 4 * i) 1, fld p (5 + 4 * i) 1)

/-- May a code be set to a level (R460). -/
def levelAllowed (c : Nat × Nat) : Bool :=
  (pairedSensor c.1 || (0x23 ≤ c.1 && c.1 ≤ 0x26)) && sensorMin c.1 ≤ c.2 && c.2 ≤ 3

/-- Set a level; a change has its CONFIG entry (R460, R472). -/
def State.setLevel (ballot : Nat) (s : State) (c : Nat × Nat) : State :=
  let old := (s.sensor c.1).level
  let s := s.modSensor c.1 fun x => { x with code := levelCode c.2, shadow := ~~~(levelCode c.2) }
  if old = c.2 then s else s.evidence 0x12 (be 1 c.1 ++ be 1 old ++ be 1 c.2 ++ be 8 ballot)

/-- The ballot that runs a barge now, 0 for one sent directly (R460). -/
def State.runningBallot (s : State) (b : Barge) : Nat :=
  match s.cus.ballots.find? fun e => e.2.state == .armed && e.2.opcode == b.opcode &&
      (if e.2.pflags % 2 == 1 then e.2.payload == Config.sha384 b.payload else e.2.payload == b.payload) with
  | some e => e.1
  | none => 0

/-- TAMPER_CONFIG: all changes or none. -/
def tamperConfigVerb : Verb where
  opcode := 0x0851
  sender := slice0
  fmt b s :=
    let n := fld b.payload 0 1
    firstCode [wellFormed (4 ≤ b.payload.length), wellFormed (1 ≤ n && n ≤ 16), lenIs b (4 + 4 * n),
      wellFormed ((tamperChanges b.payload).all levelAllowed), reserved b s 1 3,
      firstCode ((List.range n).map fun i => reserved b s (6 + 4 * i) 2)]
  role _ s := if s.ctr.state == .custody then some 6 else none
  state _ s :=
    if s.ctr.state == .blank || s.ctr.state == .scrap then some (mismatchReply 1 s.ctr.state.code 0x0E) else none
  run b s := done ((tamperChanges b.payload).foldl (State.setLevel (s.runningBallot { b with opcode := 0x0851 })) s) []

/-- TAMPER_CONFIG. -/
def execTamperConfig (b : Barge) (s : State) : Host.Outcome State Fault Refusal := verbStep tamperConfigVerb b s

/-- Held entries from a sequence number on, at most n; 0 and one older than the oldest start at the oldest. -/
def State.entriesFrom (s : State) (first n : Nat) : List Bytes :=
  (s.snt.log.filter fun e => first ≤ fld e 0 8).take n

/-- Chain value before the first entry of an export. -/
def State.chainBeforeSeq (s : State) (seq : Nat) : Bytes :=
  match (s.snt.log.filter fun e => fld e 0 8 < seq).getLast? with
  | some e => sl e 48 16
  | none => fit 16 s.snt.chainBefore

/-- The export of R478. -/
def State.exportBytes (s : State) (first n : Nat) (sign : Bool) : Bytes :=
  let es := s.entriesFrom first n
  let signed : Bool := sign && s.ctr.state == .custody && s.vlt.rootValid
  let seq := match es with
    | e :: _ => fld e 0 8
    | [] => s.snt.logSeq
  let prev := match es with
    | [] => s.snt.chainLast
    | _ :: _ => s.chainBeforeSeq seq
  let last := match es.getLast? with
    | some e => sl e 48 16
    | none => s.snt.chainLast
  let head := be 4 0x44584556 ++ be 2 1 ++ be 1 (bit01 signed) ++ be 1 es.length ++ be 8 s.ctr.moduleId.toNat ++ be 8 seq ++
    be 2 s.ctr.state.code ++ zeros 2 ++ be 4 s.snt.logLost ++ prev ++ last
  let body := head ++ es.flatten
  body ++ (if signed then s.sign384 s.attestKey (Config.sha384 (ascii "DX8300 evidence" ++ body)) else [])

/-- EVIDENCE_EXPORT. -/
def evidenceExportVerb : Verb where
  opcode := 0x0852
  maxReply := 3744
  sender := slice0
  fmt b s := firstCode [lenIs b 12, wellFormed (1 ≤ fld b.payload 8 1 && fld b.payload 8 1 ≤ 56),
    reservedBits b s 9 1 7 1, reserved b s 10 2]
  run b s := done ({ s with draws := s.draws + 1 })
    (s.exportBytes (fld b.payload 0 8) (fld b.payload 8 1) (fld b.payload 9 1 % 2 == 1))

/-- EVIDENCE_EXPORT. -/
def execEvidenceExport (b : Barge) (s : State) : Host.Outcome State Fault Refusal := verbStep evidenceExportVerb b s

/-- EVIDENCE_MARK: the mark never falls (R475, R477). -/
def evidenceMarkVerb : Verb where
  opcode := 0x0853
  sender := slice0
  fmt b s := firstCode [lenIs b 8, wellFormed (fld b.payload 0 8 < s.snt.logSeq)]
  run b s := done { s with snt := { s.snt with logMark := max s.snt.logMark (fld b.payload 0 8) } } []

/-- EVIDENCE_MARK. -/
def execEvidenceMark (b : Barge) (s : State) : Host.Outcome State Fault Refusal := verbStep evidenceMarkVerb b s

end Sys2Proof.Machine
end

