-- ==== Sys2Proof/Machine/Boot.lean ====
section
/-! DEFINITION. From the release of reset to READY: the ledger walk, the image checks, measurements, root generation, the charts,
the keeper's start and the power-on tests (R108 to R119, R131, R139, R194 to R197, R319 to R321, R339 to R343, R425 to R446,
R459, R466, R512 to R515). -/

namespace Sys2Proof.Machine

/-! ## Phase 1: the ledger (R438, R442) -/

/-- The transitions of R438. -/
def lcSuccessor (p t : LifeCycle) : Bool :=
  match p, t with
  | .blank, .foundryTest => true
  | .foundryTest, .custody => true
  | .custody, .returnTest => true
  | .returnTest, .custody => true
  | .scrap, .scrap => false
  | .blank, .scrap => true
  | .foundryTest, .scrap => true
  | .custody, .scrap => true
  | .returnTest, .scrap => true
  | _, _ => false

/-- What a slot's words say. -/
inductive SlotOutcome
  /-- The resulting state. -/
  | goes (t : LifeCycle)
  /-- An uncommitted intent toward RETURN_TEST. -/
  | waits
  /-- The slot is spent, with the target its intent names. -/
  | spent (t : Option LifeCycle)
  /-- Intent and commit name different targets. -/
  | clash
  deriving DecidableEq, Repr

/-- The outcome of a slot that is not blank. -/
def LedgerSlot.outcome (x : LedgerSlot) : SlotOutcome :=
  match wordsTarget true x.intent, wordsTarget false x.commit with
  | some i, some c => if i = c then .goes i else .clash
  | none, some c => .goes c
  | some .scrap, none => .goes .scrap
  | some .returnTest, none => .waits
  | some t, none => .spent (some t)
  | none, none => .spent none

/-- Where the walk over the ledger stands. -/
structure Walk where
  /-- Previous state. -/
  prev : LifeCycle
  /-- A slot raises CHT_LEDGER. -/
  bad : Bool := false
  /-- Slot of an uncommitted RETURN_TEST intent. -/
  waits : Option Nat := none
  /-- Slots that lead to RETURN_TEST, committed or not. -/
  tokens : Nat := 0
  /-- Slots resolved: number, state before, target code and outcome. -/
  log : List (Nat × Nat × Nat × Nat) := []
  deriving DecidableEq, Repr

/-- Resolve one slot. -/
def Walk.take (w : Walk) (i : Nat) (x : LedgerSlot) : Walk :=
  match x.outcome with
  | .goes t =>
    let w := { w with tokens := if t = LifeCycle.returnTest then w.tokens + 1 else w.tokens }
    if lcSuccessor w.prev t then { w with prev := t, log := w.log ++ [(i, w.prev.code, t.code, 0)] }
    else { w with bad := true, log := w.log ++ [(i, w.prev.code, t.code, 2)] }
  | .waits =>
    if w.prev = .custody then
      { w with waits := some i, tokens := w.tokens + 1, log := w.log ++ [(i, w.prev.code, LifeCycle.returnTest.code, 1)] }
    else { w with bad := true, log := w.log ++ [(i, w.prev.code, LifeCycle.returnTest.code, 2)] }
  | .spent t => { w with log := w.log ++ [(i, w.prev.code, (t.map LifeCycle.code).getD 0, 2)] }
  | .clash => { w with bad := true, log := w.log ++ [(i, w.prev.code, 0, 2)] }

/-- The walk from a slot on: it stops at the first blank slot, and bits beyond it raise CHT_LEDGER. -/
def State.walk (s : State) (w : Walk) (i : Nat) : Nat → Walk
  | 0 => w
  | n + 1 =>
    let x := s.lcSlot (some i)
    if x.blank then
      { w with bad := w.bad || (List.range (n + 1)).any fun k => !(s.lcSlot (some (i + k))).blank }
    else State.walk s (w.take i x) (i + 1) n

/-- Does the scrap slot bring the module to SCRAP. -/
def State.scrapped (s : State) : Bool := s.ctr.scrapSlot.outcome == .goes .scrap

/-- The first start in SCRAP completes R440 and overwrites the MRAM key regions with zeros. -/
def State.enterScrap (s : State) : State :=
  let w : LcWrite := { target := .scrap, slot := none, answer := none }
  let s := s.writeTransition w
  { s with
    cus := {}, vlt := { s.vlt with image := [], reservations := [], reservedTo := [], prints := [], pendingKeys := [], shredRegister := [],
                                   shreds := [], domainId := 0 },
    eng := { s.eng with lmsPos := 0, lmsReserved := 0, lmsKeys := [], lmsTop := [] },
    tow := { pairId := s.ctr.moduleId, registrar := s.ctr.moduleId, witnessFrom := s.tow.witnessFrom,
             takeovers := s.tow.takeovers, healthIn := s.tow.healthIn },
    ctr := { s.ctr with state := .scrap, incomplete := none } }

/-- Log the outcome of a slot at the start that resolves it (R472). -/
def State.logSlot (s : State) (e : Nat × Nat × Nat × Nat) : State :=
  if s.ctr.ledgerLog.find e.1 = some e.2.2.2 then s
  else
    let s := s.evidence 0x11 (be 1 e.1 ++ be 2 e.2.1 ++ be 2 e.2.2.1 ++ be 1 e.2.2.2)
    { s with ctr := { s.ctr with ledgerLog := s.ctr.ledgerLog.put e.1 e.2.2.2 } }

/-- An uncommitted RETURN_TEST intent: its token is burned and the root zeroised, if not done (R442, R443). -/
def State.completeReturn (s : State) (tokens : Nat) : State :=
  let s := { s with ctr := { s.ctr with tokensUsed := max s.ctr.tokensUsed tokens } }
  (if s.vlt.rootValid then s.eraseRoot else s).level 420 true noInst 0xFFFF 0 0

/-- Take the outcome of a walk over the ledger: the state, its log entries and an incomplete return test. The reset that completes a
transition to CUSTODY clears VALID (R495). -/
def State.takeWalk (s : State) (w : Walk) : State :=
  let s := { s with
    clk := { s.clk with valid := s.clk.valid && !(w.prev == .custody && s.ctr.state != .custody) }
    ctr := { s.ctr with state := w.prev, incomplete := w.waits } }
  let s := w.log.foldl State.logSlot (if w.prev = .scrap then s.enterScrap else s)
  if w.waits.isSome then s.completeReturn w.tokens else s

/-- Resolve the life-cycle state. -/
def State.resolveLedger (s : State) : State :=
  if s.scrapped then s.enterScrap
  else
    let w := s.walk { prev := .blank } 0 24
    let s := s.takeWalk w
    let bad : Bool := w.bad || !(s.ctr.scrapSlot.blank || s.ctr.scrapSlot.outcome matches .spent _)
    if bad then s.alarm 0x22 0 0 0 else s

/-! ## Phases 2 to 5: images and measurements (R428 to R434) -/

/-- The digest that both image signatures cover. -/
def imageDigest (im : Bytes) : Bytes := Config.sha384 (ascii "DX8300 image" ++ sl im 0 320)

/-- The checks of R429: 0 for a valid image, else the first that fails. The signature block's magic and reserved bytes belong to
check 1, and key indexes of the block that are not the header's fail check 5 (DEDUCED, log entry 37). -/
def State.imageCheck (s : State) (im : Bytes) : Nat :=
  let len := fld im 12 4
  let inside (off n : Nat) : Bool := 6140 ≤ off && off + n ≤ len
  let sig := im.drop 320
  let key (at_ : Nat) (off n : Nat) (hss : Bool) : Bool :=
    match s.vendorKey hss (fld im at_ 1) with
    | some k => k == Config.sha384 (sl im off n)
    | none => false
  if !(fld im 0 4 == 0x44584657 && fld im 4 2 == 1 && 1 ≤ fld im 6 2 && fld im 6 2 ≤ 4095 && fld im 8 1 < 32 && fld im 9 1 ≤ 3 &&
      fld im 10 1 ≤ 3 && len ≤ 58720256 && len ≤ im.length && inside (fld im 24 4) (fld im 28 4) &&
      inside (fld im 32 4) (fld im 36 4) && allZero (sl im 11 1) && allZero (sl im 40 8) && allZero (sl im 241 3) &&
      allZero (sl im 304 16) && fld sig 0 4 == 0x44585347 && allZero (sl sig 6 2)) then 1
  else if !(fld im 8 1).testBit s.ctr.state.ord then 2
  else if fld im 16 8 != 0 && fld im 16 8 != s.ctr.moduleId.toNat then 3
  else if !(key 9 144 97 false && key 10 244 60 true) then 4
  else if !(fld sig 4 1 == fld im 9 1 && fld sig 5 1 == fld im 10 1 && s.vendorSigned false (fld im 9 1) (imageDigest im) (sl sig 8 96) &&
      s.vendorSigned true (fld im 10 1) (imageDigest im) (sl sig 104 5716)) then 5
  else if !(fit 48 (Config.sha384 (sl im (fld im 24 4) (fld im 28 4))) == sl im 48 48 &&
      fit 48 (Config.sha384 (sl im (fld im 32 4) (fld im 36 4))) == sl im 96 48) then 6
  else 0

/-- The life-cycle code and the secure debug enable enter mr0; the arm latch is read and cleared (R434, R446). -/
def State.measureRom (s : State) : State :=
  let c := s.ctr
  let table := (List.range 8).flatMap fun i => fit 48 ((c.vendorKeys[i]?).getD [])
  let m := Config.sha384 (ascii "DX8300 mr0" ++ fit 48 c.romDigest ++ fit 48 (Config.sha384 table) ++ be 2 c.state.code ++
    be 1 (bit01 c.dbgArmed.isSome))
  { s with ctr := { c with mr0 := fit 48 m, dbgSecure := c.dbgArmed, dbgStart := c.dbgArmed.isSome,
                           dbgRights := if c.dbgArmed.isSome then c.dbgArmedRights else 0,
                           dbgArmed := none, dbgArmedRights := 0 } }

/-- The copy to boot: the preferred one if valid, else the other. A trial start that never reached READY makes way for the
other copy with a new record (R430; log entry 34). Answers the copy and whether this is a trial start. -/
def State.chooseCopy (s : State) : State × Option Nat × Bool :=
  let valid (n : Nat) : Bool := s.imageCheck (s.ctr.copy n).image == 0
  let pick (n : Nat) : Option Nat := if valid n then some n else if valid (1 - n) then some (1 - n) else none
  match s.ctr.governing with
  | none => (s, pick 0, false)
  | some (_, seq, pref, trial) =>
    let p := pref % 2
    if trial && s.ctr.trialRun then
      let o := 1 - p
      let c := s.ctr.setCopy o { s.ctr.copy o with record := bootRecord (seq + 1) o false }
      ({ s with ctr := { c with trialRun := false } }, pick o, false)
    else ({ s with ctr := { s.ctr with trialRun := trial } }, pick p, trial && pick p == some p)

/-- Phases 3 to 5: the chosen image is loaded and measured; with none the module enters recovery mode (R431, R434). -/
def State.loadImage (s : State) : State :=
  let s := { s with ctr := { s.ctr with
      check0 := s.imageCheck s.ctr.copy0.image, check1 := s.imageCheck s.ctr.copy1.image } }
  match s.chooseCopy with
  | (s, some n, trial) =>
    let im := (s.ctr.copy n).image
    { s with ctr := { s.ctr with
        booted := n, trial := trial, svn := fld im 6 2, mr1Boot := sl im 48 48,
        mr1 := fit 48 (Config.sha384 (ascii "DX8300 mr1" ++ sl im 48 48 ++ sl im 6 2)),
        mr2 := fit 48 (Config.sha384 (ascii "DX8300 mr2" ++ sl im 96 48 ++ be 1 (bit01 s.ctr.dbgNormal.isSome))) } }
  | (s, none, _) => ({ s with ctr := { s.ctr with recovery := true, trial := false } }).raise 419 noInst 0xFFFF 0 0

/-! ## Phase 6: the root path (R108 to R115, R426, R433) -/

/-- The inverted shadow of the root. -/
def invert (bs : Bytes) : Bytes := bs.map fun b => ~~~b

/-- rat[s] and dis from a root; rtop and every higher value are erased (R113, R114, R119). -/
def State.derive (s : State) (root : Bytes) : State :=
  let top := kdf root (ascii "DX8300 ratchet") (be 8 s.ctr.moduleId.toNat ++ s.ctr.mr0) 384
  { s with vlt := { s.vlt with
      rat := ratchetDown (ascii "DX8300 step") top s.ctr.svn (4095 - s.ctr.svn),
      dis := kdf root (ascii "DX8300 identity") (be 8 s.ctr.moduleId.toNat) 384 } }

/-- Format the vault image, custody tables and reservations: custody is UNESTABLISHED, the module is alone in a domain of its
own, and its device LMS keys are new (R111, R139, R321). -/
def State.formatMram (s : State) : State :=
  let keys := (List.range 128).flatMap fun g => fit 56 (Config.lmsPublic (s.lmsSeedOf g))
  { s with
    cus := {},
    vlt := { s.vlt with image := [], reservations := [], reservedTo := [], prints := [], pendingKeys := [], shredRegister := [], shreds := [],
                        domainId := 0 },
    eng := { s.eng with lmsPos := 0, lmsReserved := 0, lmsKeys := keys, lmsTop := fit 48 (Config.sha384 keys) },
    tow := { pairId := s.ctr.moduleId, registrar := s.ctr.moduleId, witnessFrom := s.tow.witnessFrom,
             takeovers := s.tow.takeovers, healthIn := s.tow.healthIn } }

/-- Both sources have passed their start-up test. -/
def State.bothSources (s : State) : Bool := s.ent.ring.state == .running && s.ent.latch.state == .running

/-- 512 bits of conditioned output of a source, from two of its blocks (R110). -/
def State.rootInput (s : State) (n : Nat) : Bytes × State :=
  let (a, s) := s.conditioned n
  let (b, s) := s.conditioned n
  ((a ++ b).take 64, s)

/-- Root generation, its four steps, and the format (R110, R111). -/
def State.generateRoot (s : State) : State :=
  let (a, s) := s.rootInput 0
  let (b, s) := s.rootInput 1
  let root := sl (fit 48 (Config.sha384 (ascii "DX8300 root" ++ a ++ b ++ be 8 s.ctr.moduleId.toNat))) 0 32
  let n := sat 255 (s.vlt.rootCount + 1)
  let s := { s with
    vlt := { s.vlt with root := root, rootShadow := invert root, rootValid := true, zeroised := false, shadowFault := false,
                        rootCount := n, rootTries := 0 },
    snt := { s.snt with zeroisedCode := 0x6C93, zeroisedShadow := 0x936C } }
  (((s.derive root).evidence 0x10 (be 1 n))).formatMram

/-- The foundry endorsement of the identity key (R436). -/
def State.endorse (s : State) : State :=
  let m := ascii "DX8300 endorse" ++ be 8 s.ctr.moduleId.toNat ++ be 1 s.vlt.rootCount ++ public384 s.identityKey
  { s with draws := s.draws + 1, ctr := { s.ctr with endorsement := s.sign384 s.ctr.foundryKey m } }

/-- A test state draws a fresh root from both entropy sources and formats its regions at every start (R426). R426 does not say how
the two outputs join: the model hashes them without R110's label (DEDUCED, log entry 37). -/
def State.testRootStart (s : State) : State :=
  let (a, s) := s.rootInput 0
  let (b, s) := s.rootInput 1
  let root := sl (fit 48 (Config.sha384 (a ++ b))) 0 32
  (({ s with vlt := { s.vlt with rootTries := 0 }, ctr := { s.ctr with testRoot := root } }).derive root).formatMram

/-- Phase 6 where a root must be drawn: R110's generation in CUSTODY, R426's in a test state. -/
def State.drawRoot (s : State) : State :=
  match s.ctr.state with
  | .foundryTest => s.testRootStart
  | .returnTest => s.testRootStart
  | _ => s.generateRoot.endorse

/-- A first failed try at a root: the next follows 100 ms later (R110; in a test state the same, DEDUCED, log entry 37). -/
def State.rootWaits (s : State) : State :=
  { s with vlt := { s.vlt with rootTries := 1, rootAt := s.now + 100000000 } }

/-! ## Phase 7: the charts (R31, R194 to R197, R202) -/

/-- The fixed chart of recovery mode: one group of all 32 flights, no programs, no reservations, the default worlds (R431;
log entry 13). -/
def recoverySections : Map (List Bytes) :=
  [(0x0001, [[0x03, 0, 0, 0]]),
   (0x0003, [[0, 0, 32, 8, 0, 1, 2, 3, 3, 4, 6, 7, 0, 0, 0, 0, 0, 0, 1, 0, 0, 0, 0, 0]])]

/-- The full chart to run, its bytes, and whether it comes from the other copy (R195). "Those of the failed chart or higher" is read as the
same chart_id with a version at or above the failed chart's (DEDUCED, log entry 30). -/
def State.fullChart (s : State) : Option (Bytes × Map (List Bytes) × Bool) :=
  let c := (s.ctr.copy s.ctr.booted).chart
  let o := (s.ctr.copy (1 - s.ctr.booted)).chart
  match s.validateChart c false with
  | .ok m => some (c, m, false)
  | .error _ =>
    match s.validateChart o false with
    | .ok m => if fld o 16 8 = fld c 16 8 ∧ fld c 24 4 ≤ fld o 24 4 then some (o, m, true) else none
    | .error _ => none

/-- A bank or a stored chart is skipped at start (R196, R205). -/
def State.bankSkip (s : State) : State :=
  ({ s with cht := { s.cht with bankSkipped := true } }).raise 417 noInst 0xFFFF 0 0

/-- Merge one stored partial chart; one that fails, or is bound to another chart_id, is skipped (R196). -/
def State.mergeStored (s : State) (c : Bytes) : State :=
  match s.validateChart c true with
  | .ok m =>
    let signed : Bool := (sectionsOf c).any fun x => x.signed
    { s with
      cht := { s.cht with sections := m, applied := s.cht.applied ++ [c],
                          version := if signed then BitVec.ofNat 32 (fld c 24 4) else s.cht.version },
      ctr := { s.ctr with mr3 := fit 48 (Config.sha384 (s.ctr.mr3 ++ fit 48 (Config.sha384 c))) } }
  | .error _ => s.bankSkip

/-- The settings bank a start selects: the higher sequence of those that qualify (R202). -/
def State.pickBank (s : State) : Option Bool :=
  let a := s.bankOk s.cht.bankA
  let b := s.bankOk s.cht.bankBBytes
  if a && b then some (fld s.cht.bankA 4 4 < fld s.cht.bankBBytes 4 4) else if a then some false else if b then some true else none

/-- The charts of the selected bank, with the bank's registers set. -/
def State.selectBank (s : State) : State × List Bytes :=
  if s.ctr.state == .blank || s.ctr.state == .scrap then (s, [])
  else
    let skipped (bs : Bytes) : Bool := !bs.isEmpty && !s.bankOk bs
    let s := [s.cht.bankA, s.cht.bankBBytes].foldl (fun s bs => if skipped bs then s.bankSkip else s) s
    match s.pickBank with
    | none => (s, [])
    | some n =>
      let bs := s.settingsBank n
      ({ s with cht := { s.cht with bankB := n, bankValid := true, bankSeq := BitVec.ofNat 32 (fld bs 4 4) } },
       splitCharts (sl bs 96 (fld bs 12 4)) (fld bs 10 2))

/-- The settings of the stored charts on the recovery chart. -/
def recoverySettings (m : Map (List Bytes)) (c : Bytes) : Map (List Bytes) :=
  mergeSections false m ((sectionsOf c).filter fun x => x.kind == 0x0020)

/-- Protection defaults of the chart: units' regions and fall-back entries (R184, R398, R400). -/
def protectionRegion (r : Bytes) : Region :=
  { enable := true, lock := false, normal := fld r 5 1 % 2 == 1, perms := fld r 4 1 % 64, first := fld r 8 4, last := fld r 12 4 }

/-- The regions that PROTECTION records set for the units a test picks out. -/
def State.unitRegions (s : State) (p : Nat → Bool) : Map Region :=
  (s.section_ 0x0006).foldl (fun m r =>
    if fld r 0 2 ≤ 140 && p (fld r 0 2) then m.put (32 * fld r 0 2 + fld r 2 2 % 32) (protectionRegion r) else m) []

/-- The fall-back table's entries. -/
def State.fallbackRegions (s : State) : Map Region :=
  (s.section_ 0x0006).foldl (fun m r =>
    if fld r 0 2 = 0xFFFF then m.put (fld r 2 2 % 1024) (protectionRegion r) else m) []

/-- Write the chart's tables to their blocks: clocks, protection and link settings (R194 phase 4). -/
def State.loadTables (s : State) : State :=
  let s := { s with
    cht := { s.cht with
      seq := 1, clocks := (islandCodes.filter fun i => chartClock s.cht.sections i != islandMax i).map fun i =>
        (i, chartClock s.cht.sections i) },
    ixp := { s.ixp with regions := s.unitRegions fun _ => true, fallback := s.fallbackRegions } }
  let link (s : State) (p : Nat) : State := s.modLink p fun l => { l with cfg := s.linkSetting p }
  link (link s 0) 1

/-- Load the charts and form mr3; without a valid full chart the module runs in recovery mode (R194, R195, R434). -/
def State.loadCharts (s : State) : State :=
  let full := if s.ctr.recovery then none else s.fullChart
  match full with
  | some (c, m, alt) =>
    let s := { s with
      cht := { s.cht with sections := m, chartId := BitVec.ofNat 64 (fld c 16 8), version := BitVec.ofNat 32 (fld c 24 4),
                          flashAlt := alt, defaultPrograms := false },
      ctr := { s.ctr with mr3 := fit 48 (Config.sha384 (ascii "DX8300 mr3" ++ fit 48 (Config.sha384 c))) } }
    let (s, charts) := s.selectBank
    (charts.foldl State.mergeStored s).loadTables
  | none =>
    let s := if s.ctr.recovery then s else s.raise 416 noInst 0xFFFF 0 0
    let (s, charts) := s.selectBank
    let m := charts.foldl recoverySettings recoverySections
    ({ s with
      cht := { s.cht with sections := m, defaultPrograms := false },
      ctr := { s.ctr with recovery := true } }).loadTables

/-! ## The boot ROM (R432) -/

/-- Phases 7 and 8: charts, and the secure clusters go to the keeper. -/
def State.finishBoot (s : State) : State :=
  let s := s.loadCharts
  { s with ctr := { s.ctr with bootDone := true } }

/-- Phase 6, then 7 and 8. The boot ROM stays in phase 6 while root generation waits for a source (R110). A root that differs
from its shadow raises ROOT_SHADOW, and boot begins again (R109, R464). -/
def State.rootPhase (s : State) : State :=
  match s.ctr.state with
  | .blank => s.finishBoot
  | .scrap => s.finishBoot
  | .foundryTest => if s.ctr.recovery then s.finishBoot else if s.bothSources then s.drawRoot.finishBoot else s.rootWaits
  | .returnTest => if s.ctr.recovery then s.finishBoot else if s.bothSources then s.drawRoot.finishBoot else s.rootWaits
  | .custody =>
    if s.ctr.incomplete.isSome ∨ s.ctr.recovery then s.finishBoot
    else if s.vlt.rootValid then
      if s.vlt.rootShadow = invert s.vlt.root then ((s.derive s.vlt.root).endorse).finishBoot
      else ({ s with vlt := { s.vlt with shadowFault := true, rootValid := false } }).alarm 0x20 0 0 0
    else if s.bothSources then s.drawRoot.finishBoot
    else s.rootWaits

/-- A sensor at ZEROISE still reports its condition (R466). -/
def State.zeroisingCondition (s : State) : Bool :=
  s.snt.sensors.any fun e => pairedSensor e.1 && e.2.condition && e.2.level == 3 && s.actingLevel e.1 == 3

/-- Phases 1 to 8. A held start stops in phase 1; a ROM digest mismatch halts the controller in phase 2. -/
def State.bootRom (s : State) : State :=
  if s.ctr.bootDone || s.ctr.romFault then s
  else
    let on (x : Source) : Source := if x.state = .off then { x with state := .startup } else x
    let s := { s with snt := { s.snt with responding := none },
                      ent := { s.ent with ring := on s.ent.ring, latch := on s.ent.latch } }
    if s.snt.locked || s.zeroisingCondition then
      ({ s with snt := { s.snt with held := true } }).level 386 true noInst 0xFFFF 0 0
    else
      let s := ({ s with snt := { s.snt with held := false } }).level 386 false noInst 0xFFFF 0 0
      let s := s.copyStaged.resolveLedger
      if s.snt.responding.isSome then s
      else if s.ctr.romHash ≠ s.ctr.romDigest then { s with ctr := { s.ctr with romFault := true } }
      else s.measureRom.loadImage.rootPhase

/-- BOOT: nothing boots while the module is down. -/
def execBoot (s : State) : Host.Outcome State Fault Refusal :=
  if s.pwr.shutDown then .next s else .next s.bootRom

/-- ROOT_GEN_RETRY: 100 ms after a failure; after the third the module stays not READY and ROOT_GEN_FAIL is raised (R110). -/
def execRootGenRetry (s : State) : Host.Outcome State Fault Refusal :=
  if s.vlt.rootTries = 0 ∨ 3 ≤ s.vlt.rootTries ∨ s.ctr.bootDone then .next s
  else
    let s := s.upTo s.vlt.rootAt
    if s.bothSources then .next s.drawRoot.finishBoot
    else
      let n := s.vlt.rootTries + 1
      let s := { s with vlt := { s.vlt with rootTries := n, rootAt := s.now + 100000000 } }
      .next (if 3 ≤ n then s.raise 418 noInst 0xFFFF 0 n else s)

/-- HELD_RELEASE: once every zeroising condition has been clear for 1 s the boot ROM goes on; a start held under R459 waits
for main power to go (R459, R466). -/
def execHeldRelease (s : State) : Host.Outcome State Fault Refusal :=
  if !s.snt.held ∨ s.snt.locked ∨ s.zeroisingCondition then .next s
  else
    let ends := s.snt.sensors.filterMap fun e =>
      if pairedSensor e.1 && e.2.level == 3 then e.2.clearSince.map (· + 1000000000) else none
    .next ((ends.foldl State.upTo s).bootRom)

/-! ## The keeper's start (R513 phase 6) -/

/-- The module starts with secure debug in CUSTODY: vault and custody stay untouched (R446). -/
def State.secureDebugStart (s : State) : Bool := s.ctr.dbgStart && s.ctr.state == .custody

/-- Slot state of a device key (R319). -/
def deviceSlot (key : Bytes) : Slot :=
  { material := fit 64 key, attributes := newAttributes (BitVec.ofNat 64 (7 * 65536 + atSign)) 0x11 true, state := .active,
    epoch := 1, slice := 0, keyType := 0x11, length := 48, usageLimit := BitVec.ofNat 64 (2 ^ 64 - 1) }

/-- A slot with a fresh tag, its image record untouched. -/
def State.loadSlot (s : State) (i : Nat) (x : Slot) : State := s.setSlot i { x with tag := s.slotTag i x }

/-- Load one image record: a slot under its fresh tag, QUARANTINED where it fails authentication (R131). The epoch of such a slot is
not known, which epoch 0 says: any epoch of the partner's copy restores it (R127; log entry 22). -/
def State.loadRecord (s : State) (e : Nat × Bytes) : State :=
  if s.ctr.svn < fld e.2 0 2 then { s with vlt := { s.vlt with floorLocked := true } }
  else
    match s.imageSlot e.1 with
    | some x => s.loadSlot e.1 x
    | none => s.loadSlot e.1 { state := .quarantined }

/-- dom[s] and the handle check key from DK in slot 0 (R116, R119). -/
def State.loadDom (s : State) : State :=
  let top := kdf s.dk (ascii "DX8300 dratchet") (be 8 s.vlt.domainId.toNat) 384
  State.formHck { s with vlt := { s.vlt with dom := ratchetDown (ascii "DX8300 dstep") top s.ctr.svn (4095 - s.ctr.svn) } }

/-- The keeper formats custody: the slice table takes the chart's CUSTODY section (R111, R185). -/
def State.formatCustody (s : State) : State :=
  { s with cus := { s.cus with anchors := s.chartCustody.1, bindings := s.chartCustody.2 } }

/-- The vault: a fresh vik and a fresh hold line key, the device keys, then DK at the first start after root generation, or the
image (R119, R131, R139, R319). -/
def State.loadVault (s : State) : State :=
  let (vik, s) := s.drawFrom 111 32
  let (line, s) := s.drawFrom 111 64
  let s := { s with vlt := { s.vlt with vik := vik, holdKey := line, slots := [], floorLocked := false } }
  let s := if s.secureDebugStart then s
    else if s.vlt.domainId = 0 then
      let (dk, s) := s.drawFrom 111 32
      let (d, s) := s.drawFrom 111 8
      let s := s.formatCustody.setSlot 0 { s.slot 0 with epoch := 1 }
      s.installDk dk (BitVec.ofNat 64 (num d)) true
    else (s.vlt.image.foldl State.loadRecord s).loadDom
  let s := ((s.loadSlot 1 (deviceSlot s.identityKey)).loadSlot 2 (deviceSlot s.attestKey)).loadSlot 3
    (deviceSlot s.sessionKey)
  { s with vlt := { s.vlt with imageLoaded := !s.secureDebugStart, unlocked := !s.secureDebugStart && !s.vlt.floorLocked } }

/-- The identity statement of a start in CUSTODY (R436). -/
def State.identityStatement (s : State) : State :=
  if s.ctr.state != .custody then s
  else
    let c := s.ctr
    let body := be 4 0x44584944 ++ be 2 1 ++ be 2 c.state.code ++ be 8 c.moduleId.toNat ++ be 1 s.vlt.rootCount ++
      be 1 (bit01 c.dbgStart) ++ be 2 c.svn ++ be 2 s.tow.floor ++ be 1 (s.eng.lmsPos / 2 ^ 30) ++ zeros 1 ++
      be 8 s.stamp.toNat ++ fit 48 c.mr0 ++ fit 48 c.mr1 ++ fit 48 c.mr3 ++ public384 s.identityKey ++
      public384 s.attestKey ++ public384 s.sessionKey ++ zeros 1 ++ fit 48 s.eng.lmsTop ++ fit 96 c.endorsement
    { s with draws := s.draws + 1, ctr := { c with identity := body ++ s.sign384 s.identityKey body } }

/-- The keeper starts: vault, LMS signer, context key, identity statement and the shreds it resumes. Without keys, as in
recovery mode, in BLANK or SCRAP and with a transition incomplete, only HEALTH_OUT starts (R418, R431, R443). -/
def State.keeperStart (s : State) : State :=
  let s := { s with cor := { s.cor with
      healthOut := true, keeperDog := { s.cor.keeperDog with kicked := s.now },
      normalDog := { s.cor.normalDog with kicked := s.now } } }
  if s.ctr.recovery || s.ctr.state == .blank || s.ctr.state == .scrap || s.ctr.incomplete.isSome then s
  else
    let s := if s.secureDebugStart then { s with ctr := { s.ctr with mram := some (s.cus, s.vlt) } } else s
    let s := s.loadVault
    let (key, s) := s.drawFrom 111 32
    let s := { s with eng := { s.eng with contextKey := key, imageCount := 0, lmsSeed := true, lmsTrees := treesAt s.eng.lmsPos } }
    let s := s.noteLow.identityStatement
    if s.secureDebugStart then { s with tow := { s.tow with pair := .fenced } }
    else s.vlt.shreds.foldl State.resumeShred s

/-! ## Power-on tests (R339, R340, R343) -/

/-- An engine that fails is locked out until the next reset, and a spare takes its place. -/
def State.lockOut (s : State) (e : EngineKind × Nat) : State :=
  let s := s.modEngine e.1 e.2 fun x => { x with inService := false, lockedOut := true }
  let s := (s.raise 228 e.2 0xFFFF (kindCode e.1) 0).level (engineEvents e.1).2.1 true e.2 0xFFFF 0 0
  ({ s with hlt := { s.hlt with powerOnFail := true } }).mapSpare e.1 e.2

/-- A flight that fails is out until the next reset. -/
def State.lockFlight (s : State) (f : Nat) : State :=
  let s := s.modFlight f fun x => { x with inService := false, out := true }
  let s := { s with hlt := { s.hlt with powerOnFail := true } }
  (s.raise 228 f 0xFFFF 0 0).level 65 true f 0xFFFF 0 0

/-- A source after its start-up test: RUNNING, or out of it after a failure of a test that is free (R333). -/
def State.testSource (s : State) (pass : Nat) (n : Nat) : State :=
  let x := s.source n
  if x.state != .off && x.state != .startup then s
  else if pass.testBit n then s.setSource n { x with state := .running }
  else
    let (a, s) := s.freeBool
    s.failSource n a

/-- The known-answer tests of the generator cores, each that fails raising its event, and the instances as they are instantiated: those that
find no source stay due (R334, R336, R339, R340). -/
def State.generatorTests (s : State) (t : StartTests) : State :=
  let s := { s with ent := { s.ent with genOk := t.generators % 256, drbg := [] } }
  let failed := (List.range 8).filter fun i => !t.generators.testBit i
  let s := failed.foldl (fun (s : State) i => { s with hlt := { s.hlt with powerOnFail := true } }.raise 228 i 0xFFFF 0 0) s
  let s := if s.pairsServing < 2 then s.level 227 true noInst 0xFFFF 0 0 else s
  if s.pairsServing = 0 then s else (List.range 113).foldl State.reseedDue s

/-- The tests of engines and flights at a start. -/
def State.powerOnTests (s : State) (t : StartTests) : State :=
  let ok (e : EngineKind × Nat) : Bool := (kindNumbers e.1).contains e.2
  let s := (t.engines.filter ok).foldl State.lockOut s
  (t.flights.filter fun f => f < 32).foldl State.lockFlight s

/-! ## START -/

/-- A start that finds the lease of its take-over fence gone does not resume it (R371). -/
def State.retestFence (s : State) : State :=
  if s.tow.fence.isSome && !s.tow.holds s.now then
    { s with flt := { s.flt with held := false }, tow := { s.tow with pair := .fenced, fence := none, lease := false } }
  else s

/-- Is a start warm: the power stage holds its calibration, which a shutdown's bleed ends within 60 s; before that the store's voltage,
which the report carries, decides (R512). -/
def State.startWarm (s : State) (cold : Bool) : Bool := s.pwr.calibrated && !(s.pwr.resumed && cold)

/-- START: calibration and hold initialisation, the boot ROM, the keeper, the tests, and READY when its conditions hold. A start
that finds more than 1,024 bad hold lines stops, as does one that is held or whose boot ROM waits (R513, R515). START_MS is free,
since only bounds are given for it. -/
def execStart (t : StartTests) (s : State) : Host.Outcome State Fault Refusal :=
  if s.pwr.shutDown ∨ s.pwr.started then .next s
  else
    let s := { s with pwr := { s.pwr with
        warm := s.startWarm t.cold, badLines := t.badLines, calibrated := true, resumed := false } }
    if 1024 < t.badLines then .next s
    else
      let s := ([0, 1].foldl (fun s n => s.testSource t.sources n) s.retestFence).generatorTests t
      let s := s.bootRom
      if !s.ctr.bootDone then .next s
      else
        let s := (s.keeperStart).powerOnTests t
        let (ms, s) := s.freeNat
        .next ({ s with pwr := { s.pwr with started := true, startMs := sat 65535 ms } }).sourcesChanged

end Sys2Proof.Machine
end

