-- ==== Sys2Proof/Machine/Charter.lean ====
section
/-! DEFINITION. Family 0x08 and the charter controller's own steps: transitions, firmware, attestation and debug
authorisation (R425, R430, R436 to R448). DBG_READ, DBG_WRITE and DBG_CORE are in Debug.lean. -/

namespace Sys2Proof.Machine

/-! ## Life cycle (R438 to R445) -/

/-- The next free slot of the ledger. -/
def Charter.freeSlots (c : Charter) : List Nat := (List.range 24).filter fun i => (c.ledger.at {} i).blank

/-- Return tokens left. -/
def Charter.tokensLeft (c : Charter) : Nat := 7 - c.tokensUsed

/-- lcflags of LC_STATUS. -/
def State.lcflags (s : State) : Nat :=
  flag s.ctr.incomplete.isSome 0 + flag s.ctr.recovery 1 + flag s.ctr.dbgStart 2 + flag s.ctr.dbgNormal.isSome 3

/-- LC_STATUS. -/
def lcStatusVerb : Verb where
  opcode := 0x0801
  maxReply := 16
  fmt b _ := lenIs b 0
  recovery _ := true
  incomplete _ := true
  run _ s :=
    done s (be 2 s.ctr.state.code ++ be 1 s.ctr.state.view ++ be 1 s.lcflags ++ be 1 s.ctr.tokensLeft ++
      be 1 s.ctr.freeSlots.length ++ be 1 s.vlt.rootCount ++ be 1 s.ctr.booted ++ be 2 s.ctr.svn ++ be 1 s.ctr.revoked ++
      zeros 5)

/-- LC_STATUS. -/
def execLcStatus (b : Barge) (s : State) : Host.Outcome State Fault Refusal := verbStep lcStatusVerb b s

/-- LC_STATUS, DX6100 form. -/
def lcStatusDx6100Verb : Verb where
  opcode := 0x0880
  maxReply := 4
  fmt b _ := lenIs b 0
  run _ s := done s (be 1 s.ctr.state.view ++ zeros 3)

/-- LC_STATUS_DX6100. -/
def execLcStatusDx6100 (b : Barge) (s : State) : Host.Outcome State Fault Refusal := verbStep lcStatusDx6100Verb b s

/-- The five states. -/
def lifeCycles : List LifeCycle := [.blank, .foundryTest, .custody, .returnTest, .scrap]

/-- Is a transition carried by LC_TRANSITION (R438): the one out of BLANK to FOUNDRY_TEST is not. -/
def commanded (p t : LifeCycle) : Bool := lcSuccessor p t && !(p == .blank && t == .foundryTest)

/-- Ordinals of the states from which a target can be commanded. -/
def commandedFrom (t : LifeCycle) : Nat := ((lifeCycles.filter fun p => commanded p t).map fun p => 2 ^ p.ord).foldl (· + ·) 0

/-- Pair states other than PRIMARY, SOLO and SEEKING, as a legal bitmap. -/
def notLeading : Nat := 101

/-- STATE_MISMATCH with object 0x08 in PRIMARY, SOLO and SEEKING (R438, R445). -/
def leadingFail (s : State) : Option Reply :=
  if s.tow.pair == .primary || s.tow.pair == .solo || s.tow.pair == .seeking then
    some (mismatchReply 8 s.tow.pair.ord notLeading)
  else none

/-- Object states that refuse a transition: one being written, an unlisted pair, a pair state that leads. -/
def transitionState (b : Barge) (s : State) : Option Reply :=
  if s.ctr.writing.isSome then some (mismatchReply 1 s.ctr.state.code 0)
  else
    match lifeCycleOf (fld b.payload 0 2) with
    | some t =>
      if !commanded s.ctr.state t then some (mismatchReply 1 s.ctr.state.code (commandedFrom t))
      else if s.ctr.state == .custody then leadingFail s else none
    | none => none

/-- LC_TRANSITION. While a RETURN_TEST intent stands uncommitted both its targets are sent directly (R443; log entry 35). -/
def lcTransitionVerb : Verb where
  opcode := 0x0802
  maxReply := 4
  sender := slice0
  fmt b s := firstCode [lenIs b 4, wellFormed (lifeCycleOf (fld b.payload 0 2)).isSome, reserved b s 2 2]
  role _ s := if s.ctr.state == .custody && s.ctr.incomplete.isNone then some 6 else none
  state := transitionState
  recovery b := fld b.payload 0 2 == 0xE187
  incomplete b := fld b.payload 0 2 == 0xA93C || fld b.payload 0 2 == 0xE187
  run b s :=
    let t := (lifeCycleOf (fld b.payload 0 2)).getD .scrap
    let w (slot : Option Nat) : LcWrite := { target := t, slot := slot, answer := some (waiterOf b) }
    let go (x : LcWrite) : Effect :=
      { st := { s with ctr := { s.ctr with writing := some x } }, reply := ⟨stDone, []⟩, later := true }
    if t == .scrap then go (w none)
    else if s.ctr.incomplete.isSome then go (w s.ctr.incomplete)
    else if t == .returnTest && s.ctr.tokensLeft = 0 then fail s stTokens
    else
      match s.ctr.freeSlots with
      | i :: _ => go (w (some i))
      | [] => fail s stTokens

/-- LC_TRANSITION. -/
def execLcTransition (b : Barge) (s : State) : Host.Outcome State Fault Refusal := verbStep lcTransitionVerb b s

/-- LC_WRITE_DONE: every step is written, the response goes out and a full reset follows 10 ms later (R439). -/
def execLcWriteDone (s : State) : Host.Outcome State Fault Refusal :=
  match s.ctr.writing with
  | none => .next s
  | some w =>
    let s := s.writeTransition w
    let s := { s with ctr := { s.ctr with writing := none, resetAt := some (s.now + 10000000) } }
    match w.answer with
    | none => .next s
    | some a => .next (s.answer a ⟨stDone, be 1 (w.slot.getD 0xFF) ++ be 1 s.ctr.tokensLeft ++ zeros 2⟩ [])

/-- DELAYED_FULL_RESET. -/
def execDelayedFullReset (s : State) : Host.Outcome State Fault Refusal :=
  match s.ctr.resetAt with
  | none => .next s
  | some t => .next (s.upTo t).fullReset

/-- FACTORY_TRANSITION: hand-off of BLANK to FOUNDRY_TEST. -/
def execFactoryTransition (s : State) : Host.Outcome State Fault Refusal :=
  if s.ctr.state != .blank ∨ s.ctr.writing.isSome ∨ s.pwr.shutDown ∨ !s.ctr.bootDone then .next s
  else
    match s.ctr.freeSlots with
    | i :: _ => .next { s with ctr := { s.ctr with writing := some { target := .foundryTest, slot := some i, answer := none } } }
    | [] => .next s

/-! ## Firmware (R429, R430, R445) -/

/-- The final chunk: the checks of R429, the domain floor, the digest of the header. -/
def State.stageFinal (s : State) (n : Nat) : Effect :=
  let im := (s.ctr.copy n).image
  let s := { s with ctr := { s.ctr with staging := none } }
  let c := s.imageCheck im
  if c ≠ 0 then refuse s stImage (be 2 c ++ zeros 2)
  else if fld im 6 2 < s.tow.floor then fail s stFloor
  else
    let d := fit 48 (Config.sha384 (sl im 0 320))
    done { s with ctr := { s.ctr with staged := some d } } d

/-- FW_STAGE: firmware is staged in the states that R427 names; chunks come in order from offset 0. -/
def fwStageVerb : Verb where
  opcode := 0x0810
  maxReply := 48
  sender := slice0
  fmt b s :=
    let off := fld b.payload 0 4
    let len := fld b.payload 4 2
    let first : Bool := fld b.payload 6 1 % 2 == 1
    firstCode [wellFormed (8 ≤ b.payload.length && len ≤ 3584), lenIs b (8 + len), wellFormed (off + len ≤ 58720256),
      wellFormed (if first then off == 0 else s.ctr.staging == some off), reservedBits b s 6 1 7 2, reserved b s 7 1]
  state _ s :=
    if s.ctr.state == .blank || s.ctr.state == .scrap then some (mismatchReply 1 s.ctr.state.code 0x0E) else none
  recovery _ := true
  run b s :=
    let n := 1 - s.ctr.booted
    let flags := fld b.payload 6 1
    let c := s.ctr.copy n
    let x : FlashCopy :=
      if flags % 2 = 1 then { c with image := b.payload.drop 8, record := [] }
      else { c with image := c.image ++ b.payload.drop 8 }
    let ctr := s.ctr.setCopy n x
    let s := { s with ctr := { ctr with staging := some x.image.length, staged := none } }
    if flags.testBit 1 then s.stageFinal n else done s []

/-- FW_STAGE. -/
def execFwStage (b : Barge) (s : State) : Host.Outcome State Fault Refusal := verbStep fwStageVerb b s

/-- FW_ACTIVATE. -/
def fwActivateVerb : Verb where
  opcode := 0x0811
  sender := slice0
  fmt b s := firstCode [lenIs b 48, wellFormed (s.ctr.staged == some b.payload)]
  role _ _ := some 6
  state _ s := leadingFail s
  recovery _ := true
  run _ s :=
    let n := 1 - s.ctr.booted
    let seq := match s.ctr.governing with
      | some g => g.2.1 + 1
      | none => 1
    let ctr := s.ctr.setCopy n { s.ctr.copy n with record := bootRecord seq n true }
    done { s with ctr := { ctr with trialRun := false, resetAt := some (s.now + 10000000) } } []

/-- FW_ACTIVATE. -/
def execFwActivate (b : Barge) (s : State) : Host.Outcome State Fault Refusal := verbStep fwActivateVerb b s

/-- FW_STATUS of one copy. -/
def State.copyStatus (s : State) (n : Nat) : Bytes :=
  let im := (s.ctr.copy n).image
  let c := s.imageCheck im
  be 1 (bit01 (c == 0)) ++ be 1 c ++ be 2 (fld im 6 2)

/-- FW_STATUS. -/
def fwStatusVerb : Verb where
  opcode := 0x0812
  maxReply := 12
  sender := slice0
  fmt b _ := lenIs b 0
  recovery _ := true
  run _ s :=
    let (pref, trial) := match s.ctr.governing with
      | some g => (g.2.2.1, g.2.2.2)
      | none => (0, false)
    done s (be 1 s.ctr.booted ++ be 1 pref ++ be 1 (bit01 trial) ++ zeros 1 ++ s.copyStatus 0 ++ s.copyStatus 1)

/-- FW_STATUS. -/
def execFwStatus (b : Barge) (s : State) : Host.Outcome State Fault Refusal := verbStep fwStatusVerb b s

/-! ## Attestation (R436, R437) -/

/-- ATTEST_IDENTITY. -/
def attestIdentityVerb : Verb where
  opcode := 0x0820
  maxReply := 708
  fmt b _ := lenIs b 0
  state _ s := if s.ctr.state == .custody then none else some (mismatchReply 1 s.ctr.state.code 4)
  run _ s := done s (fit 708 s.ctr.identity)

/-- ATTEST_IDENTITY. -/
def execAttestIdentity (b : Barge) (s : State) : Host.Outcome State Fault Refusal := verbStep attestIdentityVerb b s

/-- The 312 bytes of a quote. -/
def State.quoteBytes (s : State) (nonce : Bytes) : Bytes :=
  be 4 0x44585154 ++ be 2 1 ++ zeros 2 ++ be 8 s.ctr.moduleId.toNat ++ be 8 s.stamp.toNat ++ nonce ++ fit 48 s.ctr.mr0 ++
    fit 48 s.ctr.mr1 ++ fit 48 s.ctr.mr2 ++ fit 48 s.ctr.mr3 ++ fit 64 s.hlt.report

/-- ATTEST_QUOTE. A module without its attestation key, as in SCRAP, ends it with KEY_SLOT_BAD (log entry 35). -/
def attestQuoteVerb : Verb where
  opcode := 0x0821
  maxReply := 4880
  fmt b s := firstCode [lenIs b 36, reservedBits b s 32 1 7 1, reserved b s 33 3]
  run b s :=
    let body := s.quoteBytes (sl b.payload 0 32)
    let quote := body ++ s.sign384 s.attestKey body
    let s1 := { s with draws := s.draws + 1 }
    if (s.slot 2).state != .active then fail s stSlotBad
    else if fld b.payload 32 1 % 2 = 0 then done s1 quote
    else if s.lmsSpent then fail s stLmsExhausted
    else if 4096 ≤ s.eng.lmsQueue.length then fail s stClassFull
    else
      { st := { s1 with eng := { s1.eng with lmsQueue := s1.eng.lmsQueue ++ [.quote (waiterOf b) quote] } },
        reply := ⟨stDone, []⟩, later := true }

/-- ATTEST_QUOTE. -/
def execAttestQuote (b : Barge) (s : State) : Host.Outcome State Fault Refusal := verbStep attestQuoteVerb b s

/-- FOUNDRY_CERT_READ: from the copy booted. -/
def foundryCertReadVerb : Verb where
  opcode := 0x0822
  maxReply := 2048
  fmt b s := firstCode [lenIs b 8, wellFormed (fld b.payload 4 2 ≤ 2048), reserved b s 6 2]
  recovery _ := true
  run b s := readBytes s (s.ctr.copy s.ctr.booted).cert (fld b.payload 0 4) (fld b.payload 4 2)

/-- FOUNDRY_CERT_READ. -/
def execFoundryCertRead (b : Barge) (s : State) : Host.Outcome State Fault Refusal := verbStep foundryCertReadVerb b s

/-! ## Ballots as the inner verbs see them (R90, R93) -/

/-- What a ballot of an inner verb binds: a slice's generation, the custody sequence, the chart sequence or the module
sequence (R90, R269). -/
inductive Binds
  | slice | custody | chart | module
  deriving DecidableEq, Repr

/-- A ballot of a slice verb, whose object is the slice's entry (R95). -/
def sliceOpcode (opcode : Nat) : Bool := 0x0220 ≤ opcode && opcode ≤ 0x022A

/-- What an inner opcode binds. -/
def bindsOf (opcode : Nat) : Binds :=
  if sliceOpcode opcode || opcode = 0x0303 || family opcode = 5 then .slice
  else if (0x0201 ≤ opcode && opcode ≤ 0x0204) || opcode = 0x0206 then .custody
  else if family opcode = 9 then .chart else .module

/-- The present target generation. -/
def State.bound (s : State) (opcode target : Nat) : W32 :=
  match bindsOf opcode with
  | .slice => (s.slice target).generation
  | .custody => s.cus.custodySeq
  | .chart => s.cht.seq
  | .module => s.cus.moduleSeq

/-- Step 4 of R93 after the inner verb has run: the ballot is EXECUTED, and what stales the other ballots on its object goes up,
the module sequence or the count of the slice's entry (R90, R95; log entry 41). -/
def State.ballotRan (s : State) (id : Nat) (x : Ballot) : State :=
  let s := s.endBallot id x .executed
  if bindsOf x.opcode = .module then { s with cus := { s.cus with moduleSeq := s.cus.moduleSeq + 1 } }
  else if bindsOf x.opcode = .slice then s.setSlice x.target { s.slice x.target with acts := (s.slice x.target).acts + 1 }
  else s

/-- The ARMED ballot that is bound to a payload by its digest. -/
def State.armedFor (s : State) (opcode : Nat) (payload : Bytes) : Option (Nat × Ballot) :=
  (s.cus.ballots.find? fun e =>
    (e.2.settled s.cus.custodians s.now).state == .armed && e.2.opcode == opcode && e.2.pflags % 2 == 1 && e.2.length == payload.length &&
      e.2.payload == Config.sha384 payload).map fun e => (e.1, e.2.settled s.cus.custodians s.now)

/-! ## Debug authorisation (R446 to R448) -/

/-- DBG_CHALLENGE. -/
def dbgChallengeVerb : Verb where
  opcode := 0x0830
  maxReply := 16
  sender := slice0
  fmt b _ := lenIs b 0
  run _ s :=
    let (c, s) := s.draw 16
    done { s with ctr := { s.ctr with challenge := some (c, s.now + 600000000000) } } c

/-- DBG_CHALLENGE. -/
def execDbgChallenge (b : Barge) (s : State) : Host.Outcome State Fault Refusal := verbStep dbgChallengeVerb b s

/-- Step 1: the certificate's layout. -/
def certFormat (c : Bytes) : Bool :=
  fld c 0 4 == 0x44584443 && fld c 4 2 == 1 &&
    ((fld c 6 1 == 1 && c.length == 5880) || (fld c 6 1 == 2 && c.length == 68 && allZero (sl c 64 2))) &&
    fld c 7 1 < 4 && allZero (sl c 18 2) && fld c 24 4 < 1024 && allZero (sl c 28 4) && allZero (sl c 66 2) &&
    fld c 32 8 ≤ fld c 40 8 && fld c 40 8 ≤ fld c 32 8 + 7 * 86400 * 16777216

/-- Step 8: kind and worlds against the present state. -/
def certAllowed (state : LifeCycle) (kind worlds : Nat) : Bool :=
  match state with
  | .blank => false
  | .foundryTest => kind == 1
  | .returnTest => kind == 1
  | .scrap => kind == 1
  | .custody => kind == 1 || worlds < 2

/-- The first step of R448 that a certificate fails, 0 when all pass. -/
def State.certCheck (s : State) (c : Bytes) : Nat :=
  let m := Config.sha384 (ascii "DX8300 debug" ++ sl c 0 68)
  let fresh : Bool := match s.ctr.challenge with
    | some (x, t) => s.now < t && x == sl c 48 16
    | none => false
  if !certFormat c then 1
  else if fld c 8 8 ≠ s.ctr.moduleId.toNat then 2
  else if fld c 16 2 ≠ s.ctr.state.code then 3
  else if s.ctr.svn < fld c 20 2 ∨ fld c 22 2 < s.ctr.svn then 4
  else if s.stamp.toNat < fld c 32 8 ∨ fld c 40 8 < s.stamp.toNat then 5
  else if !fresh then 6
  else if fld c 6 1 = 1 && !(s.vendorSigned false (fld c 64 1) m (sl c 68 96) && s.vendorSigned true (fld c 65 1) m (sl c 164 5716))
  then 7
  else if !certAllowed s.ctr.state (fld c 6 1) (fld c 7 1) then 8
  else 0

/-- The normal enable takes effect: mr2 is extended, FGL-1 and FGL-2 sessions end (R434, R446). -/
def State.enableNormal (s : State) (c : Bytes) : State :=
  let s := { s with ctr := { s.ctr with
      dbgNormal := some (BitVec.ofNat 64 (fld c 40 8)), dbgRights := fld c 24 4,
      mr2 := fit 48 (Config.sha384 (fit 48 s.ctr.mr2 ++ fit 48 (Config.sha384 (ascii "DX8300 ndbg" ++ c)))) } }
  s.endSessions fun x => x.fgl != 3

/-- An accepted certificate: the challenge is consumed, the entry written, the enables set (R446, R472). -/
def State.acceptCert (s : State) (c : Bytes) : State :=
  let s := { s with ctr := { s.ctr with challenge := none } }
  let s := s.evidence 0x13 (be 1 (fld c 6 1) ++ be 1 (fld c 7 1) ++ be 4 (fld c 24 4) ++ fit 8 (Config.sha384 c))
  let s := if (fld c 7 1).testBit 1 then
      { s with ctr := { s.ctr with dbgArmed := some (BitVec.ofNat 64 (fld c 40 8)), dbgArmedRights := fld c 24 4 } }
    else s
  if (fld c 7 1).testBit 0 then s.enableNormal c else s

/-- The work of DBG_ENABLE. -/
def State.runCert (s : State) (c : Bytes) : Effect :=
  let n := s.certCheck c
  if n = 0 then done (s.acceptCert c) [] else refuse s stCert (be 1 n)

/-- DBG_ENABLE. In CUSTODY a direct send runs while an ARMED ballot names its digest, and executes that ballot. -/
def dbgEnableVerb : Verb where
  opcode := 0x0831
  sender := slice0
  role b s := if s.ctr.state == .custody && (s.armedFor 0x0831 b.payload).isNone then some 6 else none
  run b s :=
    match if s.ctr.state == .custody && b.opcode == 0x0831 then s.armedFor 0x0831 b.payload else none with
    | none => s.runCert b.payload
    | some (id, x) =>
      if x.generation ≠ s.bound 0x0831 0 then
        { st := s.endBallot id x .void, reply := ⟨stBallotStale, be 4 (s.bound 0x0831 0).toNat⟩, touch := [.ballot id true] }
      else
        let e := s.runCert b.payload
        { e with st := e.st.ballotRan id x, touch := [.ballot id true] }

/-- DBG_ENABLE. -/
def execDbgEnable (b : Barge) (s : State) : Host.Outcome State Fault Refusal := verbStep dbgEnableVerb b s

/-- The enables and the arm latch are cleared. -/
def Charter.endDebug (c : Charter) : Charter :=
  { c with dbgNormal := none, dbgSecure := none, dbgArmed := none, dbgRights := 0, dbgArmedRights := 0 }

/-- DBG_END. -/
def dbgEndVerb : Verb where
  opcode := 0x0832
  sender := slice0
  fmt b _ := lenIs b 0
  run _ s := done { s with ctr := s.ctr.endDebug } []

/-- DBG_END. -/
def execDbgEnd (b : Barge) (s : State) : Host.Outcome State Fault Refusal := verbStep dbgEndVerb b s

/-- Enables whose certificate ended by a timestamp are cleared. -/
def Charter.expireDebug (c : Charter) (t : Nat) : Charter :=
  let keep (x : Option W64) : Option W64 := x.filter fun e => t < e.toNat
  let c := { c with dbgNormal := keep c.dbgNormal, dbgSecure := keep c.dbgSecure, dbgArmed := keep c.dbgArmed }
  { c with dbgRights := if c.dbgNormal.isSome || c.dbgSecure.isSome then c.dbgRights else 0,
           dbgArmedRights := if c.dbgArmed.isSome then c.dbgArmedRights else 0 }

/-- Time passes until calendar time reaches a timestamp. -/
def State.upToStamp (s : State) (t : Nat) : State :=
  if t ≤ s.stamp.toNat then s else s.upTo (s.now + ((t - s.stamp.toNat) * 1000000000 + 16777215) / 16777216)

/-- DBG_CERT_EXPIRE: the next not_after among the enables comes. -/
def execDbgCertExpire (s : State) : Host.Outcome State Fault Refusal :=
  let ends := [s.ctr.dbgNormal, s.ctr.dbgSecure, s.ctr.dbgArmed].filterMap fun x => x.map BitVec.toNat
  match ends with
  | [] => .next s
  | e :: es =>
    let t := es.foldl min e
    let s := s.upToStamp t
    .next { s with ctr := s.ctr.expireDebug t }

/-! ## VENDOR_REVOKE (R445) -/

/-- Unrevoked keys of a kind. -/
def Charter.unrevoked (c : Charter) (hss : Bool) : List Nat :=
  (List.range 4).filter fun i => !c.revoked.testBit (if hss then 4 + i else i)

/-- Does an unrevoked vendor key of a kind verify a signature. -/
def State.anyVendor (s : State) (hss : Bool) (msg sig : Bytes) : Bool :=
  (s.ctr.unrevoked hss).any fun i => s.vendorSigned hss i msg sig

/-- VENDOR_REVOKE: an HSS and an ECDSA signature, each under an unrevoked key of its kind (log entry 35). -/
def vendorRevokeVerb : Verb where
  opcode := 0x0840
  sender := slice0
  fmt b s := firstCode [lenIs b 5816, wellFormed (fld b.payload 0 1 < 8), reserved b s 1 3]
  role _ _ := some 6
  run b s :=
    let i := fld b.payload 0 1
    let m := ascii "DX8300 revoke" ++ be 8 s.ctr.moduleId.toNat ++ be 1 i
    if s.ctr.unrevoked (4 ≤ i) = [i % 4] then fail s stAttrDenied
    else if !(s.anyVendor true m (sl b.payload 4 5716) && s.anyVendor false m (sl b.payload 5720 96)) then fail s stSigInvalid
    else done { s with ctr := { s.ctr with revoked := s.ctr.revoked ||| 2 ^ i } } []

/-- VENDOR_REVOKE. -/
def execVendorRevoke (b : Barge) (s : State) : Host.Outcome State Fault Refusal := verbStep vendorRevokeVerb b s

end Sys2Proof.Machine
end

