-- ==== Sys2Proof/Machine/Power.lean ====
section
/-! DEFINITION. The power stage: input, hold-up store, power states, the thermal emergency, cages and the PMBus sideband
(R82, R500 to R511, R515, R517, R520 to R522). -/

namespace Sys2Proof.Machine

/-! ## Input (R500 to R503, R520) -/

/-- INPUT_QUALIFIED: a module that is down comes out of reset, its sentinel on main power; present cages get their feeds 100 ms
later. Main power absent for 1 s lets a start that R459 holds go on, and a shutdown of 60 s has bled the store, so that the next start
is cold (R512). -/
def execInputQualified (millivolts : Nat) (s : State) : Host.Outcome State Fault Refusal :=
  if s.pwr.inputOk ∨ millivolts < 8600 ∨ 63000 < millivolts then .next s
  else
    let s := { s with pwr := { s.pwr with inputOk := true, vin := millivolts, shortL := true } }
    if !s.pwr.shutDown then .next s
    else
      let absent : Bool := match s.pwr.downAt with
        | some t => t + 1000000000 ≤ s.now
        | none => false
      let bled : Bool := match s.pwr.downAt with
        | some t => t + 60000000000 ≤ s.now
        | none => false
      let s := s.fullReset
      let feed (e : Nat × CagePower) : Nat × CagePower :=
        (e.1, if e.2.present then { e.2 with onAt := some (s.now + 100000000) } else e.2)
      .next { s with
        snt := { s.snt with onMain := true, mode := 0x5A3C, modeShadow := 0xA5C3, locked := s.snt.locked && !absent },
        pwr := { s.pwr with
          shutDown := false, downAt := none, calibrated := s.pwr.calibrated && !bled, resumed := true,
          cages := s.pwr.cages.map feed } }

/-- INPUT_OUTAGE: the switch opens and the store carries the bus. -/
def execInputOutage (exceeds : Bool) (s : State) : Host.Outcome State Fault Refusal :=
  if !s.pwr.inputOk then .next s
  else .next { s with pwr := { s.pwr with inputOk := false, outage := some (s.now, exceeds) } }

/-- OUTAGE_END: within 1 ms and with the store at 10.5 V it sets DIP or OVERVOLT and nothing else; a longer one has started
the shutdown. -/
def execOutageEnd (millivolts : Nat) (s : State) : Host.Outcome State Fault Refusal :=
  match s.pwr.outage with
  | none => .next s
  | some (t, exceeds) =>
    if t + 1000000 < s.now then .next s.shutdown
    else
      .next { s with pwr := { s.pwr with
        inputOk := true, vin := millivolts, outage := none, dip := s.pwr.dip || !exceeds, overvolt := s.pwr.overvolt || exceeds } }

/-- OUTAGE_TIMEOUT. -/
def execOutageTimeout (s : State) : Host.Outcome State Fault Refusal :=
  match s.pwr.outage with
  | none => .next s
  | some (t, _) => .next (s.upTo (t + 1000000)).shutdown

/-- The active discharge is connected across the input pins. -/
def State.discharging (s : State) : State := { s with pwr := { s.pwr with discharge := some s.now } }

/-- INPUT_LOSS_TRIP. -/
def execInputLossTrip (s : State) : Host.Outcome State Fault Refusal :=
  if !s.pwr.inputOk then .next s else .next s.shutdown.discharging

/-- DISCHARGE_END. -/
def execDischargeEnd (s : State) : Host.Outcome State Fault Refusal :=
  .next { s with pwr := { s.pwr with discharge := none } }

/-- SHORT_L_BREAK. -/
def execShortLBreak (s : State) : Host.Outcome State Fault Refusal :=
  if !s.pwr.shortL then .next s
  else
    let s := s.shutdown.discharging
    .next { s with pwr := { s.pwr with shortL := false } }

/-- HOLDUP_THRESHOLD: HOLDUP_OK is set at 11.5 V and cleared below 10.5 V, with READY; below it an outage shuts down at once. -/
def execHoldupThreshold (millivolts : Nat) (s : State) : Host.Outcome State Fault Refusal :=
  let s := { s with pwr := { s.pwr with holdup := millivolts } }
  if s.pwr.shutDown then .next s
  else if 11500 ≤ millivolts then
    let s := { s with pwr := { s.pwr with holdupOk := true } }
    .next s.refreshReady
  else if 10500 ≤ millivolts then .next s
  else
    let s := { s with pwr := { s.pwr with holdupOk := false } }
    let s := s.refreshReady
    if s.pwr.outage.isSome then .next s.shutdown else .next s

/-! ## Thermal emergency (R511) -/

/-- THERMAL_QUARTER_CLOCK. -/
def execThermalQuarterClock (s : State) : Host.Outcome State Fault Refusal :=
  if !s.pwr.thermal ∨ s.pwr.divisor ≠ 2 then .next s
  else
    let s := (s.upTo (s.pwr.thermalAt + 100000000)).rebase
    .next { s with pwr := { s.pwr with divisor := 4 } }

/-- THERMAL_END: the islands return to their chart clocks. -/
def execThermalEnd (s : State) : Host.Outcome State Fault Refusal :=
  if !s.pwr.thermal then .next s
  else
    let s := (s.upTo (s.pwr.thermalAt + 1000000000)).rebase
    let s := { s with pwr := { s.pwr with thermal := false, divisor := 1 } }
    .next (s.level 388 false noInst 0xFFFF 0 0)

/-! ## Power states (R416, R507, R508, R510) -/

/-- The chart holds a C0 reservation: PWR_STAT C0_FLOOR. -/
def State.c0Floor (s : State) : Bool := (s.section_ 0x0012).any fun r => fld r 3 1 == 0

/-- Known events ahead, in ns of the monotonic clock (R508; log entry 36). -/
def State.knownEvents (s : State) : List Nat :=
  let epoch := match s.tow.epochs.find s.tow.epoch with
    | some e => if e.closed then [] else [e.opened + 20000]
    | none => []
  let beat := if (s.tow.witness.kind = 1 ∨ s.tow.witness.kind = 2) ∧ s.tow.pair ≠ .unpaired ∧ s.tow.pair ≠ .fenced ∧
      s.tow.pair ≠ .syncing then [s.tow.beats.2.1 + 1000000] else []
  let idle := match s.pwr.idle with
    | some (_, e) => [e]
    | none => []
  s.pwr.timers ++ epoch ++ beat ++ idle ++
    [s.clk.startAt + (s.vlt.scrubs.toNat + 1) * 10000000000,
     s.clk.startAt + ((s.now - s.clk.startAt) / 3600000000000 + 1) * 3600000000000]

/-- ns to the next known event. -/
def State.toNextEvent (s : State) : Nat :=
  match s.knownEvents with
  | [] => 2 ^ 64
  | e :: es => (es.foldl min e) - s.now

/-- Wake time of a power state in ns. -/
def wakeTime (p : Nat) : Nat :=
  if p = 0 then 0 else if p = 1 then 1000 else if p = 2 then 60000 else if p = 3 then 3000000 else 120000000

/-- Break-even time of a power state in ns. -/
def breakEven (p : Nat) : Nat :=
  if p = 0 then 0 else if p = 1 then 2000 else if p = 2 then 200000 else if p = 3 then 10000000 else 500000000

/-- The power state the manager chooses. -/
def State.chosenState (s : State) : Nat :=
  let deepest := if s.c0Floor then 1 else if s.tow.partner ≠ 0 ∨ s.tow.witness.kind ≠ 0 then 3 else 4
  match ((List.range (deepest + 1)).filter fun p => wakeTime p + breakEven p < s.toNextEvent).getLast? with
  | some p => p
  | none => 0

/-- A flight, engine or core in a domain is at work. -/
def State.domainBusy (s : State) (d : Nat) : Bool :=
  let kinds : List EngineKind := [.shuffled, .masked, .hash, .publicKey, .lattice]
  (s.flt.barges.vals.any fun r => r.stage == .context && flightDomain r.flight == d) ||
    (kinds.any fun k => (kindNumbers k).any fun n =>
      engineDomain k n == d && ((s.engine k n).busy || (s.engine k n).suspended)) ||
    (23 ≤ d && d ≤ 30 && s.flt.barges.vals.any fun r => r.stage == .coreQueue)

/-- A domain that holds no lease and is not at work. -/
def State.domainIdle (s : State) (d : Nat) : Bool :=
  !(s.domain d).keeper && !s.domainBusy d

/-- How a power state puts an idle domain down: 1 clock stopped, 2 power removed, 3 retained (R506, R507). Above P4 the islands
that hold the sentinel, the fabric, the links, the memories and the entropy unit are never idle. -/
def putDown (p d : Nat) : Nat :=
  if p = 0 then 0
  else if p = 4 then
    if d = 0 ∨ d = 7 ∨ d = 8 ∨ d = 9 ∨ d = 31 then 0
    else if d = 3 ∨ d = 4 ∨ d = 6 ∨ (23 ≤ d ∧ d ≤ 30) then 3 else 2
  else if (11 ≤ d ∧ d ≤ 17) ∨ (19 ≤ d ∧ d ≤ 21) then (if 2 ≤ p then 2 else 1)
  else if d = 22 then 1
  else if 23 ≤ d ∧ d ≤ 30 then (if p = 3 then 3 else 1)
  else 0

/-- The manager's choice: it touches only idle domains without a lease. -/
def State.evalPower (s : State) : State :=
  let p := s.chosenState
  let was := s.pwr.state
  let s := s.rebase
  let s := { s with pwr := { s.pwr with state := p } }
  let s := (List.range 32).foldl (fun s d =>
    let x := if s.domainIdle d then putDown p d else 0
    if (s.domain d).down = x then s else s.modDomain d fun y => { y with down := x }) s
  if p = was then s else s.raise 450 noInst 0xFFFF 0 p

/-- POWER_STATE_EVAL. -/
def execPowerStateEval (s : State) : Host.Outcome State Fault Refusal :=
  if s.pwr.started then .next s.evalPower else .next s

/-- IDLE_WINDOW_END: a known event. -/
def execIdleWindowEnd (s : State) : Host.Outcome State Fault Refusal :=
  match s.pwr.idle with
  | none => .next s
  | some (_, e) =>
    let s := s.upTo e
    let s := { s with pwr := { s.pwr with idle := none } }
    .next s.evalPower

/-- Time until a domain serves again: the wake time of the state that put it down, that of P2 where its power is gated and that of P1
where its clock alone is (R16, R33; log entry 38). -/
def PowerDomain.wakeNs (x : PowerDomain) (state : Nat) : Nat :=
  max (if x.down = 0 then 0 else wakeTime state) (if x.powerOff then wakeTime 2 else if x.clockOff then wakeTime 1 else 0)

/-- A block that was put down or gated is woken for whoever needs it (R33, R508). -/
def State.wakeDomain (s : State) (d : Nat) : State :=
  if !(s.domain d).stopped then s
  else
    ((s.upTo (s.now + (s.domain d).wakeNs s.pwr.state)).rebase).modDomain d fun x =>
      { x with down := 0, clockOff := false, powerOff := false }

/-- BLOCK_WAKE. -/
def execBlockWake (domain : Nat) (s : State) : Host.Outcome State Fault Refusal :=
  if 31 < domain then .next s else .next (s.wakeDomain domain)

/-! ## Cages (R50, R521) -/

/-- A cage's power state. -/
def State.cage (s : State) (c : Nat) : CagePower := s.pwr.cages.at {} c

/-- Replace a cage's power state. -/
def State.setCage (s : State) (c : Nat) (x : CagePower) : State :=
  { s with pwr := { s.pwr with cages := s.pwr.cages.put c x } }

/-- CAGE_INSERT. -/
def execCageInsert (cage : Nat) (s : State) : Host.Outcome State Fault Refusal :=
  if 2 < cage then .next s
  else .next (s.setCage cage { present := true, onAt := if s.pwr.shutDown then none else some (s.now + 100000000) })

/-- Budget of a cage in mW. -/
def cageBudget (cage : Nat) : Nat := if cage = 2 then 1500 else 12000

/-- CAGE_POWER_ON: a device over its budget, or active in cage 2, is held in low-power mode with its link down. -/
def execCagePowerOn (cage milliwatts : Nat) (active : Bool) (s : State) : Host.Outcome State Fault Refusal :=
  match (s.cage cage).onAt with
  | none => .next s
  | some t =>
    let s := s.upTo t
    let exceeds : Bool := cageBudget cage < milliwatts || (cage == 2 && active)
    let s := s.setCage cage { s.cage cage with powered := true, exceeds := exceeds, onAt := none }
    .next (if exceeds then s.linkDown cage else s)

/-- CAGE_INTERRUPT. -/
def execCageInterrupt (cage status : Nat) (s : State) : Host.Outcome State Fault Refusal :=
  if (s.cage cage).powered then .next (s.setCage cage { s.cage cage with status := status % 256 }) else .next s

/-! ## PMBus (R522; log entry 36) -/

/-- A LINEAR11 word, low byte first, for a value of n over d. -/
def linear11 (command : Nat) (n : Int) (d : Nat) : Bytes :=
  let e := Config.linearExp command
  let m : Int := if e < 0 then n * 2 ^ (-e).toNat / d else n / (d * 2 ^ e.toNat)
  let w := (e % 32).toNat * 2048 + (m % 2048).toNat
  be 1 (w % 256) ++ be 1 (w / 256)

/-- STATUS_INPUT: overvoltage fault and warning, undervoltage warning and fault. -/
def State.pmInput (s : State) : Nat :=
  let (under, exceeds) := match s.pwr.outage with
    | some (_, v) => (!v, v)
    | none => (false, false)
  flag exceeds 7 + flag (60500 < s.pwr.vin) 6 + flag (s.pwr.vin < 9500) 5 + flag under 4

/-- STATUS_TEMPERATURE. -/
def State.pmTemperature (s : State) : Nat := flag s.pwr.thermal 7 + flag (50 < s.pwr.inlet || 100 < s.pwr.junction) 6

/-- STATUS_WORD: MFR, INPUT, VIN_UV, TEMPERATURE and CML. -/
def State.pmWord (s : State) : Nat :=
  flag (!s.pwr.ready) 12 + flag (s.pmInput != 0) 13 + flag (s.pmInput.testBit 4 || s.pmInput.testBit 5) 3 +
    flag (s.pmTemperature != 0) 2 + flag (s.pwr.cml != 0) 1

/-- The ALERT_L pin: low while any STATUS_WORD bit is set (R519). -/
def State.alertLow (s : State) : Bool := s.pmWord != 0

/-- An SMBus block: its count, then its bytes. -/
def smbusBlock (bs : Bytes) : Bytes := be 1 bs.length ++ bs

/-- A hexadecimal digit. -/
def hexChar (n : Nat) : Byte := BitVec.ofNat 8 (if n < 10 then 48 + n else 55 + n)

/-- The module ID as 16 digits. -/
def hex64 (v : W64) : Bytes := (List.range 16).map fun i => hexChar (v.toNat / 16 ^ (15 - i) % 16)

/-- MFR_STATE. -/
def State.pmState (s : State) : Nat :=
  flag s.pwr.ready 0 + flag s.snt.held 1 + flag s.pwr.thermal 2 + 8 * (s.pwr.state % 8)

/-- Input power in 10 mW. -/
def Power.pin (p : Power) : Nat := sat 65535 (p.vin * p.iin / 10000)

/-- The answer to a read command, none for any other. -/
def State.pmAnswer (s : State) (c : Nat) : Option Bytes :=
  let p := s.pwr
  if c = 0x79 then some (be 1 (s.pmWord % 256) ++ be 1 (s.pmWord / 256))
  else if c = 0x7C then some (be 1 s.pmInput)
  else if c = 0x7D then some (be 1 s.pmTemperature)
  else if c = 0x7E then some (be 1 p.cml)
  else if c = 0x88 then some (linear11 c p.vin 1000)
  else if c = 0x89 then some (linear11 c p.iin 1000)
  else if c = 0x97 then some (linear11 c p.pin 100)
  else if c = 0x8D then some (linear11 c p.inlet 1)
  else if c = 0x8E then some (linear11 c p.junction 1)
  else if c = 0x8F then some (linear11 c p.stage 1)
  else if c = 0x98 then some (be 1 0x33)
  else if c = 0x99 then some (smbusBlock (ascii "TBZ"))
  else if c = 0x9A then some (smbusBlock (ascii "DX8300-A"))
  else if c = 0x9E then some (smbusBlock (hex64 s.ctr.moduleId))
  else if c = 0xD0 then some (linear11 c p.holdup 1000)
  else if c = 0xD1 then some (linear11 c p.pcage 100)
  else if c = 0xD2 then some (be 1 s.pmState)
  else none

/-- PMBUS_READ: the power stage answers while the module has power; STATUS_CML clears when read. -/
def execPmbusRead (command : Nat) (s : State) : Host.Outcome State Fault Refusal :=
  if s.pwr.shutDown then .next s
  else
    match s.pmAnswer command with
    | none => .next s
    | some bs =>
      .next { s with out := s.out ++ [.pmbus command bs],
                     pwr := { s.pwr with cml := if command = 0x7E then 0 else s.pwr.cml } }

/-- PMBUS_WRITE: data is refused and sets CML; a command byte alone has no effect. -/
def execPmbusWrite (_command : Nat) (data : Bytes) (s : State) : Host.Outcome State Fault Refusal :=
  if s.pwr.shutDown ∨ data.isEmpty then .next s
  else .next { s with pwr := { s.pwr with cml := s.pwr.cml ||| 0x40 } }

/-! ## PTP lock (R82) -/

/-- PTP_LOCK_LOST. -/
def execPtpLockLost (cage : Nat) (s : State) : Host.Outcome State Fault Refusal :=
  match s.whf.ptp.find cage with
  | some p => if p.locked then .next (s.ptpUnlock cage) else .next s
  | none => .next s

end Sys2Proof.Machine
end

