-- ==== Sys2Proof/Machine/Table.lean ====
section
/-! DEFINITION. The verbs by opcode, but for the register, ballot and debug port verbs, whose own files add them (R19, R36). -/

namespace Sys2Proof.Machine

/-- Family 0x01, sessions. -/
def verbs01 : List Verb :=
  [sessionInfoVerb, moduleInfoVerb, idleAnnounceVerb, moduleInfoDx6100Verb]

/-- Family 0x02, custody. -/
def verbs02 : List Verb :=
  [custodianEnrolVerb, custodianSuspendVerb, custodianReinstateVerb, custodianRevokeVerb, custodianReadVerb,
   custodyEstablishVerb, ballotApproveVerb, ballotWithdrawVerb, ballotStatusVerb, sliceCreateVerb, sliceSetQuotaVerb,
   sliceBindVerb, sliceFreezeVerb, sliceThawVerb, sliceResetVerb, sliceRemoveVerb, sliceSaveVerb, sliceRestoreVerb,
   sliceStatusVerb, sliceMapReadVerb, anchorAddVerb, anchorRemoveVerb]

/-- Family 0x03, key store. -/
def verbs03 : List Verb :=
  [keyGenerateVerb, keyImportWrappedVerb, keyComponentVerb, keyDeleteVerb, keyAttrReadVerb, keyAttrRestrictVerb,
   keyExportWrappedVerb, keyBlobReadVerb, keyBlobLoadVerb, keyShredVerb, certReadVerb, domainBackupVerb,
   shareImportKeyVerb, domainShareImportVerb, keyAttrReadDx6100Verb, keyDeleteDx6100Verb]

/-- Family 0x04, storage. -/
def verbs04 : List Verb :=
  [dkGenerateVerb, dkWrapVerb, dkUnwrapVerb, dkRewrapVerb, dkUnwrapBulkVerb, dkRewrapBulkVerb, bucketCreateVerb,
   bucketReparentVerb, kekLoadVerb, kekEvictVerb, kekShredVerb]

/-- Family 0x05, payment. -/
def verbs05 : List Verb :=
  [pinTranslateVerb, pinTranslate4Verb, pinVerifyVerb, arqcVerifyVerb, arqcVerifyExtVerb, cvvGenerateVerb, cvvVerifyVerb,
   macGenerateVerb, macVerifyVerb, kbImportVerb, kbExportVerb, dectabSetVerb, pinVerifyDx6100Verb,
   pinTranslateDx6100Verb, pinTranslateDukptDx6100Verb, cvvGenerateDx6100Verb, cvvVerifyDx6100Verb,
   macGenerateDx6100Verb, macVerifyDx6100Verb, arqcVerifyExtDx6100Verb, kbImportDx6100Verb, kbExportDx6100Verb]

/-- Family 0x06, engines. -/
def verbs06 : List Verb :=
  [ecdsaSignVerb, ecdsaVerifyVerb, ecdhDeriveVerb, eddsaSignVerb, eddsaVerifyVerb, xdhDeriveVerb, pubkeyReadVerb,
   rsaPrivateVerb, rsaPublicVerb, modOpVerb, kemEncapsVerb, kemDecapsVerb, mldsaSignVerb, mldsaVerifyVerb, hashVerb,
   hmacGenerateVerb, hmacVerifyVerb, opbufAllocVerb, opbufWriteVerb, opbufReadVerb, opbufFreeVerb, aeadSealVerb,
   aeadOpenVerb, rsaPrivateDx6100Verb, rsaPublicDx6100Verb, ecdsaSignDx6100Verb, ecdsaVerifyDx6100Verb]

/-- Family 0x07, towpath, basin and domain. -/
def verbs07 : List Verb :=
  [pairStatusVerb, pairBindVerb, pairSwitchoverVerb, pairPolicyVerb, witnessSetVerb, basinConfigVerb, basinStatusVerb,
   domainStatusVerb, domainJoinVerb, domainAdmitVerb, domainExpelVerb, commitFloorVerb, sliceSpreadVerb,
   keyDistributeVerb, domainRegistrarVerb, pairStatusDxVerb]

/-- Family 0x08, charter and sentinel. -/
def verbs08 : List Verb :=
  [lcStatusVerb, lcTransitionVerb, fwStageVerb, fwActivateVerb, fwStatusVerb, attestIdentityVerb, attestQuoteVerb,
   foundryCertReadVerb, dbgChallengeVerb, dbgEnableVerb, dbgEndVerb, vendorRevokeVerb, tamperStatusVerb,
   tamperConfigVerb, evidenceExportVerb, evidenceMarkVerb, lcStatusDx6100Verb]

/-- Family 0x09, chart. -/
def verbs09 : List Verb :=
  [chartReadVerb, chartStageVerb, chartDiscardVerb, chartApplyVerb, chartStatusVerb, settingsStoreVerb, settingsReadVerb,
   chartStatusDx6100Verb]

/-- Family 0x0A, observability. -/
def verbs0A : List Verb :=
  [recReadVerb, recClearVerb, healthReadVerb, counterReadVerb, timeStatusVerb, timeSetVerb]

/-- The verbs of a family. -/
def familyVerbs (f : Nat) : List Verb :=
  match f with
  | 0x01 => verbs01
  | 0x02 => verbs02
  | 0x03 => verbs03
  | 0x04 => verbs04
  | 0x05 => verbs05
  | 0x06 => verbs06
  | 0x07 => verbs07
  | 0x08 => verbs08
  | 0x09 => verbs09
  | 0x0A => verbs0A
  | _ => []

/-- The verb of an opcode. -/
def baseVerb (opcode : Nat) : Option Verb := (familyVerbs (family opcode)).find? fun v => v.opcode == opcode

/-- The world that serves an opcode (R36): families 0x01 and 0x0A in the normal world, the ballots and the debug port in the
secure one. -/
def opcodeWorld (opcode : Nat) : World :=
  match baseVerb opcode with
  | some v => v.world
  | none => if family opcode = 0x02 ∨ family opcode = 0x08 then .secure else .normal

/-- The world whose core queue a barge of an opcode goes to: an exception of a lock program goes to the secure one (R36). -/
def queueWorld (opcode : Nat) : World := if opcodeWorld opcode = .normal then .normal else .secure

end Sys2Proof.Machine
end

