-- ==== Sys2Proof/Machine/LockKeeper.lean ====
section
/-! DEFINITION. The lock keeper: charges, the pounds and where it places a barge (R152, R155, R158, R161 to R165, R221, R252,
R262, R296, R328, R414). -/

namespace Sys2Proof.Machine

/-! ## Charges -/

/-- Message bytes of a hash verb: inline, or the length of entry k when the operands are given by reference (R324). -/
def messageLength (p : Bytes) (k : Nat) : Nat :=
  if (fld p 9 1).testBit 0 then fld p (28 + 16 * k) 4 else fld p 14 2

/-- Compressions or permutations of a message of n bytes under hash algorithm a (R318, R324): the block of the algorithm, less
the padding that FIPS 180-4 and FIPS 202 add. -/
def compressions (a n : Nat) : Nat :=
  if a = 1 then (n + 8) / 64 + 1 else if a = 2 ∨ a = 3 then (n + 16) / 128 + 1
  else n / (if a = 4 ∨ a = 8 then 136 else if a = 5 then 104 else if a = 6 then 72 else 168) + 1

/-- Block operations of an AEAD barge: ceil(n ÷ 16) + 4, and 10 for each image (R296). -/
def chunkBlocks (n images : Nat) : Nat := (n + 15) / 16 + 4 + 10 * images

/-- Block operations of a MAC barge (R262). -/
def macBlocks (alg n : Nat) : Nat :=
  if alg = 1 then n / 8 + 1 else if alg = 3 then n / 8 + 3 else (n + 15) / 16 + 1

/-- Charge of a DUKPT-capable PIN verb by src_kind (R252). -/
def pinCharge (kind : Nat) : Nat := if kind = 1 then 2625 else if kind = 2 then 2500 else if kind = 3 then 4300 else 250

/-- Charges of the elliptic curve and lattice verbs that R304 and R328 give, by opcode and domain. -/
def curveCharge (opcode domain : Nat) : Option Nat :=
  match opcode, domain with
  | 0x0601, 1 => some 1000
  | 0x0601, 2 => some 2222
  | 0x0601, 3 => some 5067
  | 0x0602, 1 => some 1212
  | 0x0602, 2 => some 2683
  | 0x0602, 3 => some 6165
  | 0x0603, 1 => some 999
  | 0x0603, 2 => some 2203
  | 0x0603, 3 => some 5045
  | 0x0604, 4 => some 853
  | 0x0604, 5 => some 2000
  | 0x0605, 4 => some 1107
  | 0x0605, 5 => some 2473
  | 0x0606, 4 => some 800
  | 0x0606, 5 => some 1867
  | 0x0630, _ => some 1000
  | 0x0631, _ => some 1600
  | 0x0632, _ => some 6667
  | 0x0633, _ => some 700
  | 0x0682, 1 => some 1000
  | 0x0682, 2 => some 2222
  | 0x0683, 1 => some 1212
  | 0x0683, 2 => some 2683
  | _, _ => none

/-- Charges of the RSA verbs that R304 and R328 give, by opcode and size. -/
def rsaCharge (opcode size : Nat) : Option Nat :=
  if opcode = 0x0610 ∨ opcode = 0x0680 then
    if size = 2048 then some 6667 else if size = 3072 then some 18667 else if size = 4096 then some 40000
    else if size = 8192 then some 298667 else none
  else if opcode = 0x0611 ∨ opcode = 0x0681 then
    if size = 2048 then some 167 else if size = 4096 then some 567 else none
  else none

/-- Charge of a family 0x06 program of the default chart. -/
def engineCharge (opcode : Nat) (p : Bytes) : Nat :=
  if opcode = 0x0640 then 6 + compressions (fld p 12 1) (messageLength p 0)
  else if opcode = 0x0641 then 9 + compressions (fld p 12 1) (messageLength p 0)
  else if opcode = 0x0642 then 9 + compressions (fld p 12 1) (messageLength p 1)
  else if opcode = 0x0670 then
    16 * chunkBlocks (fld p 12 4) ((if (fld p 8 1).testBit 0 then 0 else 1) + if (fld p 8 1).testBit 1 then 0 else 1)
  else if opcode = 0x0671 then 16 * chunkBlocks (fld p 52 4 - 16) 0
  else
    match curveCharge opcode (fld p 8 1), rsaCharge opcode (fld p 10 2) with
    | some c, _ => c
    | none, some c => c
    | none, none => Config.defaultCharge opcode p

/-- Charge of a program of the default chart for a request. -/
def programDefault (opcode : Nat) (p : Bytes) : Nat :=
  if opcode = 0x0501 ∨ opcode = 0x0503 then pinCharge (fld p 18 1)
  else if opcode = 0x0530 ∨ opcode = 0x0531 ∨ opcode = 0x0588 ∨ opcode = 0x0589 then
    39 * macBlocks (fld p 8 1) (fld p 12 2)
  else if opcode = 0x0405 then 70 * fld p 16 1
  else if opcode = 0x0406 then 141 * fld p 32 1
  else if family opcode = 6 then engineCharge opcode p
  else
    match baseVerb opcode with
    | some v => v.charge
    | none => 70

/-- The charge of a barge under a program bank: its program's, for a bulk verb once for each entry, or 70 when it is
firmware-assisted (R158, R221). -/
def State.chargeOf (s : State) (bank : Nat) (b : Barge) : Nat :=
  let p := s.programs bank
  match p.group b.opcode with
  | none => 70
  | some _ =>
    match p.record b.opcode with
    | some r =>
      let n := if b.opcode = 0x0405 then fld b.payload 16 1 else if b.opcode = 0x0406 then fld b.payload 32 1 else 1
      p.charge r (b.payload.length / max 1 n) * n
    | none => programDefault b.opcode b.payload

/-- Opcodes of the register, ballot and debug port verbs. -/
def portOpcodes : List Nat := [0x0210, 0x0212, 0x0833, 0x0834, 0x0835, 0x0A01, 0x0A02, 0x0A80]

/-- Is an opcode assigned (R19). -/
def assigned (opcode : Nat) : Bool := portOpcodes.contains opcode || (baseVerb opcode).isSome

/-! ## Leases of the lock keeper (R171, R412 to R417; log entry 37) -/

/-- Domains whose lease a barge's step holds: its flight's while it has a context, and those of every engine of its job. -/
def BargeRec.leases (r : BargeRec) : List Nat :=
  (if r.stage == .context then [flightDomain r.flight] else []) ++
    match r.job with
    | some j => ((j.engine :: j.more).map (engineDomain j.kind)).eraseDups
    | none => []

/-- Barges that hold a lease on a domain. -/
def State.leaseHolders (s : State) (d : Nat) : List Nat :=
  (s.flt.barges.filter fun e => e.2.leases.contains d).map (·.1)

/-! ## The pounds (R165) -/

/-- Barges bound to a flight. -/
def State.inFlight (s : State) (f : Nat) : List BargeRec := s.flt.barges.vals.filter fun r => r.bound && r.flight == f

/-- Pound entries of a flight: a barge that goes to a core queue keeps its entry from its admission on, so that it has one there
(R153; log entry 38). -/
def State.poundEntries (s : State) (f : Nat) : List BargeRec :=
  (s.inFlight f).filter fun r => r.stage == .pound || r.stage == .coreQueue || r.keepsEntry

/-- Barges that wait in a pound or, with their entry kept, in a core queue. -/
def State.poundWaiting (s : State) (f : Nat) : List BargeRec :=
  (s.inFlight f).filter fun r => r.stage == .pound || r.stage == .coreQueue

/-- Contexts in use. -/
def State.contexts (s : State) (f : Nat) : Nat := ((s.inFlight f).filter fun r => r.stage == .context).length

/-- The lowest context of a flight in which no barge stands (R148). -/
def State.freeContext (s : State) (f : Nat) : Nat :=
  let used := ((s.inFlight f).filter fun r => r.stage == .context).map (·.context)
  ((List.range 16).find? fun c => !used.contains c).getD 0

/-- Room in a pound for a class: 256 of its 2,048 entries are kept for C0 and 64 for C3. -/
def State.poundRoom (s : State) (f cls : Nat) : Bool :=
  let es := s.poundEntries f
  let n (c : Nat) : Nat := (es.filter fun r => r.admitted == c).length
  let common := n 1 + n 2 + (n 3 - 64)
  if cls = 0 then n 0 < 256 else if cls = 3 then n 3 < 64 || common < 1728 else common < 1728

/-- Charge waiting and in progress in a flight. -/
def State.flightLoad (s : State) (f : Nat) : Nat := ((s.inFlight f).map (·.charge)).foldl (· + ·) 0

/-- The lowest-numbered flight with the least charge. -/
def State.leastLoaded (s : State) : List Nat → Option Nat
  | [] => none
  | f :: fs =>
    match s.leastLoaded fs with
    | none => some f
    | some g => if s.flightLoad f ≤ s.flightLoad g then some f else some g

/-- Selectors of a storage barge: offset of the KEK selector and the blob the barge carries for it (R213, R224 to R227). -/
def kekSelectors (b : Barge) : List (Nat × Option Bytes) :=
  let p := b.payload
  match b.opcode with
  | 0x0401 => [(0, headBlob b 0)]
  | 0x0402 => [(0, headBlob b 32)]
  | 0x0403 => [(0, headBlob b 64)]
  | 0x0404 => [(0, (twoBlobs p (fld p 45 1) 112).1), (16, (twoBlobs p (fld p 45 1) 112).2)]
  | 0x0405 => [(0, none)]
  | 0x0406 => [(0, none), (16, none)]
  | 0x0412 => [(0, some p)]
  | _ => []

/-- The selector at an offset; KEK_LOAD has none and loads its blob (R230). -/
def selectorOf (b : Barge) (off : Nat) : Bytes :=
  if b.opcode = 0x0412 then zeros 8 ++ sl b.payload 8 8 else sl b.payload off 16

/-- Step 1 of R213: the entry that a transit slot of the flight already holds for a slice and key_id (R152). -/
def State.transitEntry (s : State) (f slice : Nat) (keyId : W64) : Option CacheEntry :=
  s.vlt.cache.find? fun e => e.slice == slice && e.keyId == keyId && !e.marked &&
    (transitSlots f).any fun i => s.vlt.transit.find i == some e.ref && (s.slot i).state == .transit

/-- Flights that hold a cache entry of the barge in a transit slot: by its reference, or by its key_id (R152, R213). -/
def State.affine (s : State) (b : Barge) : List Nat :=
  (List.range 32).filter fun f =>
    (kekSelectors b).any fun x =>
      let sel := selectorOf b x.1
      (s.transitEntry f b.slice (BitVec.ofNat 64 (fld sel 8 8))).isSome ||
        (transitSlots f).any fun i => fld sel 0 8 != 0 && s.vlt.transit.find i == some (BitVec.ofNat 64 (fld sel 0 8))

/-- Where the lock keeper places a barge of a class in a group. -/
def State.place (s : State) (b : Barge) (cls group : Nat) : Option Nat :=
  let fs : List Nat := match s.group group with
    | some g => g.flights.filter fun f => s.flightUp f && s.poundRoom f cls
    | none => []
  match fs.filter (s.affine b).contains with
  | [] => s.leastLoaded fs
  | as => s.leastLoaded as

/-- The pound entries of flights of a group move, in admission order, to the other flights of the group (R166, R414); an entry
that finds no room stays where it is. -/
def State.movePound (s : State) (f : Nat) : State :=
  let es := (s.flt.barges.filter fun e => (e.2.stage == .pound || e.2.stage == .coreQueue) && e.2.flight == f).mergeSort
    fun a b => a.2.order ≤ b.2.order
  es.foldl (fun s e =>
    match (s.groupOfFlight f).bind fun g => s.place e.2.barge e.2.admitted g.code with
    | some g => if g = f then s else s.setBarge e.1 { e.2 with flight := g }
    | none => s) s

end Sys2Proof.Machine
end

