-- ==== Sys2Proof/Machine/Protection.lean ====
section
/-! DEFINITION. Register rights, violation reports and the registers of the protection units (R23 to R28, R392, R395, R397 to
R400, R406 to R411). -/

namespace Sys2Proof.Machine

/-! ## Readers (R25 to R28, R392, R410) -/

/-- Number of a reader: a master's unit, a session's above the units. -/
def readerKey : Reader → Nat
  | .core n => n
  | .session n => n + 256

/-- A reader's copies of the selection registers. -/
def State.copies (s : State) (r : Reader) : ReaderRegs := s.readers.at {} (readerKey r)

/-- Change a reader's copies. -/
def State.modCopies (s : State) (r : Reader) (f : ReaderRegs → ReaderRegs) : State :=
  { s with readers := s.readers.put (readerKey r) (f (s.copies r)) }

/-- The unit of the debug access port. -/
def portUnit : Nat := 140

/-- World of a reader; a host session of slice 0 has the normal-world kernel's rights, and the debug port, a reader by its unit
number, those of the world its enable grants (R446, R449). -/
def State.secureReader (s : State) : Reader → Bool
  | .core n => if n = portUnit then s.ctr.dbgSecure.isSome else s.coreSecure n
  | .session _ => false

/-- The instance a reader has selected in a block. -/
def State.channel (s : State) (r : Reader) (block : Nat) : Nat := (s.copies r).chsel.at 0 block

/-- Instances of a block that CHSEL selects, 0 where it has no channel select (the block table of R45). -/
def blockInstances (block : Nat) : Nat :=
  if block = 1 then 3 else if block = 2 then 4 else if block = 3 then 32 else if block = 4 then 256 else if block = 5 then 32
  else if block = 6 then 8 else if block = 7 then 32 else if block = 8 then 2 else if block = 10 then 4
  else if block = 11 then 64 else if block = 12 then 141 else if block = 13 then 2 else if block = 16 then 32 else 0

/-- A selection beyond the last instance of a block (R26). -/
def State.beyond (s : State) (r : Reader) (block : Nat) : Bool :=
  blockInstances block != 0 && blockInstances block ≤ s.channel r block

/-- The block of a register is woken before the access reaches it (R33); the block-wide registers of the cores stand in no cluster. -/
def State.wakeRegister (s : State) (r : Reader) (addr : Nat) : State :=
  let block := addr / 65536
  let off := addr % 65536
  if block = 11 ∧ 0x40 ≤ off ∧ off < 0x80 then s
  else (blockDomains block (s.channel r block)).foldl State.wakeDomain s

/-! ## Violation reports (R407) -/

/-- What a report says of a refused access. -/
structure Refused where
  unit : Nat
  /-- The master is of the normal world. -/
  normal : Bool
  task : Bool
  /-- 1 protection unit, 2 fall-back table, 3 region controller. -/
  layer : Nat
  kind : AccessKind
  cause : Nat
  length : Nat
  /-- 0 unit region, 1 fall-back entry, 2 region controller. -/
  table : Nat
  index : Nat
  address : Nat
  /-- Tag slice, 0xFFFF for an untagged master. -/
  slice : Nat
  deriving DecidableEq, Repr

/-- KIND of an access. -/
def accessCode : AccessKind → Nat
  | .read => 0 | .write => 1 | .execute => 2

/-- IXP_VINFO. -/
def Refused.info (x : Refused) : Nat :=
  x.layer * 2 ^ 30 + accessCode x.kind * 2 ^ 28 + flag x.normal 27 + flag x.task 26 + x.cause * 2 ^ 23 + x.length % 512

/-- IXP_VREGION. -/
def Refused.region (x : Refused) : Nat := x.unit % 65536 * 65536 + x.table * 2 ^ 14 + x.index % 1024

/-- The 32 bytes of a report. -/
def Refused.bytes (x : Refused) (time seq : Nat) : Bytes :=
  be 8 (x.address % 2 ^ 40) ++ be 4 x.info ++ be 4 x.region ++ be 8 time ++ be 2 x.slice ++ zeros 2 ++ be 4 seq

/-- A full queue of 64 drops the new report and counts it. -/
def VQueue.add (q : VQueue) (r : Bytes) : VQueue :=
  if q.reports.length < 64 then { q with reports := q.reports ++ [r] } else { q with lost := sat 255 (q.lost + 1) }

/-- Form a report, queue it by the master's world and raise the event of its queue. -/
def State.violation (s : State) (x : Refused) : State :=
  let n := s.ixp.seq + 1
  let r := x.bytes s.stamp.toNat n.toNat
  let s := { s with ixp := { s.ixp with seq := n } }
  if x.normal then
    ({ s with ixp := { s.ixp with normalQueue := s.ixp.normalQueue.add r } }).raise 320 x.unit x.slice 0 0
  else ({ s with ixp := { s.ixp with secureQueue := s.ixp.secureQueue.add r } }).raise 321 x.unit x.slice 0 0

/-- Fabric address of register address 0 (R394). -/
def registerBase : Nat := 0x1400000000

/-- A core. -/
def State.core (s : State) (n : Nat) : Core := s.cor.cores.at {} n

/-- Replace a core. -/
def State.setCore (s : State) (n : Nat) (x : Core) : State :=
  { s with cor := { s.cor with cores := s.cor.cores.put n x } }

/-- A core takes an exception at its world's kernel vector (R392, R406). -/
def State.exceptionAt (s : State) (n cause : Nat) : State :=
  (s.setCore n { s.core n with kernel := true }).emit (.interrupt n cause)

/-- A register access without the right: a write raises IXP_REG_DENIED; a core's access is refused under R406 as well, with a
report of cause permission from the register controller (R410). -/
def State.denyRegister (s : State) (r : Reader) (kernel : Bool) (kind : AccessKind) (addr : Nat) : State :=
  let s := if kind = .write then s.raise 322 noInst 0xFFFF 0 0 else s
  match r with
  | .session _ => s
  | .core n =>
    let x : Refused :=
      { unit := n, normal := !s.coreSecure n, task := !kernel, layer := 3, kind := kind, cause := 0, length := 4, table := 2,
        index := 12, address := registerBase + addr, slice := 0xFFFF }
    ((s.violation x).exceptionAt n 1).emit (.access n false [])

/-- A write that is dropped for what it says, such as one to a locked region (R398, R483). -/
def State.dropWrite (s : State) : State := s.raise 322 noInst 0xFFFF 0 0

/-! ## Rights (R410, R411) -/

/-- The fall-back registers. -/
def fallbackRegister (addr : Nat) : Bool := 0xC0040 ≤ addr && addr ≤ 0xC004C

/-- CORE_WD and CORE_SR registers: secure kernel only (R424). -/
def secureOnlyRegister (addr : Nat) : Bool := 0xB0040 ≤ addr && addr ≤ 0xB004C

/-- May a reader read a register. Task privilege reads what its world reads, the secure kernel's own registers apart. -/
def State.mayRead (s : State) (r : Reader) (kernel : Bool) (addr : Nat) : Bool :=
  (s.secureReader r && kernel) || !(fallbackRegister addr || secureOnlyRegister addr)

/-- The per-reader selection registers that are registers of their own. -/
def selectionRegister (addr : Nat) : Bool :=
  (addr % 65536 == 0 && blockInstances (addr / 65536) != 0) ||
    addr == 0xC0010 || addr == 0xC0040 || addr == 0xF0020 || addr == 0xB0060 ||
    (addr % 65536 == 0x80 && [1, 3, 4, 5, 11].contains (addr / 65536))

/-- Does the world of a reader have a normal kernel's right to write a register of a block: the unit or core that it has
selected, the normal watchdog, the event routing, and PWR_GATEREQ (R410, R483). An instance beyond the last has no owner. -/
def State.normalWrite (s : State) (r : Reader) (addr : Nat) : Bool :=
  let block := addr / 65536
  let off := addr % 65536
  let i := s.channel r block
  if block = 1 ∨ block = 2 then true
  else if block = 11 then
    off == 0x50 || off == 0x54 || off == 0x64 || (0x80 ≤ off && (63 < i || !s.coreSecure i))
  else if block = 12 then off == 0x60 || (off < 0x40 && (140 < i || (i < 64 && !s.coreSecure i)))
  else block == 16 && off == 0x28

/-- May a reader write a register: task privilege never writes. -/
def State.mayWrite (s : State) (r : Reader) (kernel : Bool) (addr : Nat) : Bool :=
  let block := addr / 65536
  kernel && ((selectionRegister addr && s.mayRead r kernel addr) ||
    if s.secureReader r then block != 8 && block != 14 else s.normalWrite r addr)

/-- Does a normal-world read answer zeros: a register of an instance of the secure world (R411). -/
def State.hiddenRead (s : State) (r : Reader) (addr : Nat) : Bool :=
  let block := addr / 65536
  let off := addr % 65536
  let i := s.channel r block
  !s.secureReader r &&
    ((block == 11 && 0x80 ≤ off && i < 64 && s.coreSecure i) ||
     (block == 12 && (off == 0x14 || off == 0x18 || off == 0x1C) && i < 64 && s.coreSecure i))

/-! ## Sealed pages (R395) -/

/-- Does a page range touch a sealed region: the vault and the sealed register pages. -/
def touchesSealed (first last : Nat) : Bool :=
  (first ≤ 0x11007FF && 0x1100000 ≤ last) || (first ≤ 0x150003F && 0x1500000 ≤ last)

/-! ## Unit regions and the fall-back table (R397 to R400, R408, R409) -/

/-- A region of a unit. -/
def State.region (s : State) (unit i : Nat) : Region := s.ixp.regions.at {} (32 * unit + i)

/-- A fall-back entry. -/
def State.fallback (s : State) (i : Nat) : Region := s.ixp.fallback.at {} i

/-- The attribute word of a region. -/
def Region.attr (x : Region) : Nat := flag x.enable 31 + flag x.lock 30 + flag x.normal 8 + x.perms

/-- What a region becomes when its attribute word is written: the three shadowed values together, the lock set-only. -/
def Region.commit (x : Region) (first last : Option Nat) (v : Nat) : Region :=
  { enable := v.testBit 31, lock := x.lock || v.testBit 30, normal := v.testBit 8, perms := v % 64,
    first := first.getD x.first, last := last.getD x.last }

/-- Does a world's kernel drop a commit: a locked region, a normal-world write of a secure region, or one that would cover a
sealed page (R398). -/
def commitDropped (secure : Bool) (old new : Region) : Bool :=
  old.lock || (!secure && !new.normal) || touchesSealed new.first new.last

/-- The reader's unit shadow is spent. -/
def ReaderRegs.noUnitShadow (x : ReaderRegs) : ReaderRegs := { x with rbase := none, rlast := none }

/-- The reader's fall-back shadow is spent. -/
def ReaderRegs.noEntryShadow (x : ReaderRegs) : ReaderRegs := { x with fbbase := none, fblast := none }

/-- IXP_RATTR by a reader that has the right. -/
def State.writeRattr (s : State) (r : Reader) (v : Nat) : State :=
  let u := s.channel r 12
  let c := s.copies r
  if 140 < u then s
  else
    let old := s.region u c.rsel
    let new := old.commit c.rbase c.rlast v
    if commitDropped (s.secureReader r) old new then s.dropWrite
    else
      let s := { s with ixp := { s.ixp with regions := s.ixp.regions.put (32 * u + c.rsel) new } }
      s.modCopies r ReaderRegs.noUnitShadow

/-- IXP_RATTR_WRITE. -/
def execIxpRattrWrite (w : RegWrite) (s : State) : Host.Outcome State Fault Refusal :=
  if s.mayWrite w.reader w.kernel 0xC001C then .next ((s.wakeRegister w.reader 0xC001C).writeRattr w.reader w.value.toNat)
  else .next (s.denyRegister w.reader w.kernel .write 0xC001C)

/-- IXP_FBATTR by a reader that has the right. -/
def State.writeFbattr (s : State) (r : Reader) (v : Nat) : State :=
  let c := s.copies r
  if s.beyond r 12 then s
  else
    let old := s.fallback c.fbsel
    let new := old.commit c.fbbase c.fblast v
    if commitDropped (s.secureReader r) old new then s.dropWrite
    else
      let s := { s with ixp := { s.ixp with fallback := s.ixp.fallback.put c.fbsel new } }
      s.modCopies r ReaderRegs.noEntryShadow

/-- IXP_FBATTR_WRITE. -/
def execIxpFbattrWrite (w : RegWrite) (s : State) : Host.Outcome State Fault Refusal :=
  if s.mayWrite w.reader w.kernel 0xC004C then .next ((s.wakeRegister w.reader 0xC004C).writeFbattr w.reader w.value.toNat)
  else .next (s.denyRegister w.reader w.kernel .write 0xC004C)

/-! ## The violation queues (R409) -/

/-- The queue a reader has selected. -/
def State.vqueue (s : State) (r : Reader) : VQueue :=
  if (s.copies r).vqueue = 1 then s.ixp.secureQueue else s.ixp.normalQueue

/-- Remove the head report of the queue a reader has selected. -/
def State.popReport (s : State) (r : Reader) : State :=
  if (s.copies r).vqueue = 1 then
    { s with ixp := { s.ixp with secureQueue := { s.ixp.secureQueue with reports := s.ixp.secureQueue.reports.drop 1 } } }
  else { s with ixp := { s.ixp with normalQueue := { s.ixp.normalQueue with reports := s.ixp.normalQueue.reports.drop 1 } } }

/-- A write of IXP_VCTRL by a reader that has the right: QUEUE first, then POP; a normal-world write of 1 to QUEUE is dropped. -/
def State.writeVctrl (s : State) (r : Reader) (v : Nat) : State :=
  if s.beyond r 12 then s
  else
    let q := v % 2
    let s := if q = 1 ∧ !s.secureReader r then s.dropWrite else s.modCopies r fun c => { c with vqueue := q }
    if v.testBit 1 then s.popReport r else s

/-- POP. -/
def execPop (w : RegWrite) (s : State) : Host.Outcome State Fault Refusal :=
  if s.mayWrite w.reader w.kernel 0xC0060 then .next ((s.wakeRegister w.reader 0xC0060).writeVctrl w.reader w.value.toNat)
  else .next (s.denyRegister w.reader w.kernel .write 0xC0060)

end Sys2Proof.Machine
end

