-- ==== Sys2Proof/Machine/Leases.lean ====
section
/-! DEFINITION. Power and clock leases: gating requests, the keeper's lease and the lease ceiling (R412 to R417). -/

namespace Sys2Proof.Machine

/-- Does anything hold a lease on a domain. -/
def State.leased (s : State) (d : Nat) : Bool := (s.domain d).keeper || !(s.leaseHolders d).isEmpty

/-- The deeper of two actions. -/
def GateAction.deeper : GateAction → GateAction → GateAction
  | .clockOff, .clockOff => .clockOff
  | .clockOff, .powerOff => .powerOff
  | .powerOff, _ => .powerOff

/-- ACTION of a gating request. -/
def GateAction.code : GateAction → Nat
  | .clockOff => 1 | .powerOff => 2

/-- Flights of a domain. -/
def domainFlights (d : Nat) : List Nat := (List.range 32).filter fun f => flightDomain f == d

/-- A domain is gated; a power-off stops the clock first (R415 steps 4 and 5). The pound entries of its flights move (R414). -/
def State.gateDomain (s : State) (d : Nat) (a : GateAction) : State :=
  let t := s.rebase.modDomain d fun x =>
    { x with clockOff := true, powerOff := x.powerOff || a == .powerOff, queued := none, thermal := false, status := 2 }
  (domainFlights d).foldl State.movePound t

/-- Is an engine in service outside a domain that is to be gated, in a domain that is not closed. -/
def State.engineLeft (s : State) (d : Nat) (k : EngineKind) (n : Nat) : Bool :=
  (s.engine k n).inService && !(s.engine k n).lockedOut && engineDomain k n != d && !(s.domain (engineDomain k n)).closed

/-- Every pool part and flight group that uses a domain keeps an engine or flight in service without it (R413). -/
def State.partsWithout (s : State) (d : Nat) : Bool :=
  (s.pools.all fun p =>
    match kindOfCode p.kind with
    | none => true
    | some k =>
      let ns := (List.range p.count).map (p.first + ·)
      !(ns.any fun n => engineDomain k n == d) ||
        ns.any (s.engineLeft d k) || (kindNumbers k).any fun m =>
          s.engineLeft d k m && ns.any fun n => (s.engine k m).standsFor == some n) &&
  (s.groups.all fun g =>
    !(g.flights.any fun f => flightDomain f == d) || g.flights.any fun f => flightDomain f != d && s.flightUp f)

/-- Does the manager refuse a request of the normal world (R413). -/
def State.refusesGate (s : State) (d : Nat) : Bool := !s.normalGateable d || !s.partsWithout d

/-- A gating request: granted at once without a lease; queued with its ceiling on a leased domain, where two requests merge and
the pound entries of the domain's flights move (R414). -/
def State.requestGate (s : State) (d : Nat) (a : GateAction) (normal : Bool) : State :=
  let s := s.modDomain d fun x => { x with action := a.code }
  if normal && s.refusesGate d then
    (s.modDomain d fun x => { x with status := 3 }).raise 449 d 0xFFFF 0 0
  else if s.leased d then
    let ceiling := s.now + if s.pwr.thermal then 50000 else 2000000
    let queued := match (s.domain d).queued with
      | some (b, c) => (b.deeper a, min c ceiling)
      | none => (a, ceiling)
    let s := s.modDomain d fun x => { x with queued := some queued, status := 1, thermal := x.thermal || s.pwr.thermal }
    (domainFlights d).foldl State.movePound s
  else s.gateDomain d a

/-- Clock and power come back at once; a queued request is dropped (R412). -/
def State.restoreDomain (s : State) (d : Nat) : State :=
  s.rebase.modDomain d fun x =>
    { x with clockOff := false, powerOff := false, down := 0, queued := none, thermal := false, status := 2 }

/-! ## PWR_GATE (R412, R417) -/

/-- A write of PWR_GATE by the secure kernel: bits written 0 are restored at once; a bit newly set gates the domain, or places
a gating request where it is leased. -/
def State.writeGate (s : State) (d v : Nat) : State :=
  let x := s.domain d
  let off := v.testBit 1
  let stop := v.testBit 0
  if !off && !stop then s.restoreDomain d
  else
    let s := s.rebase.modDomain d fun y => { y with powerOff := y.powerOff && off, clockOff := y.clockOff && stop }
    if (off && !x.powerOff) || (stop && !x.clockOff) then
      if s.leased d then s.requestGate d (if off then .powerOff else .clockOff) false
      else (domainFlights d).foldl State.movePound (s.modDomain d fun y => { y with powerOff := off, clockOff := stop })
    else s

/-- A write of PWR_GATE without the right: one from the normal world to a leased domain raises IXP_GATE_DENIED as well. -/
def State.denyGate (s : State) (r : Reader) (kernel : Bool) : State :=
  let d := s.channel r 16
  let s := if !s.secureReader r && d < 32 && s.leased d then s.raise 323 d 0xFFFF 0 0 else s
  s.denyRegister r kernel .write 0x100020

/-- PWR_GATE by any reader. -/
def State.gateWrite (s : State) (w : RegWrite) : State :=
  let d := s.channel w.reader 16
  if !s.mayWrite w.reader w.kernel 0x100020 then s.denyGate w.reader w.kernel
  else if 31 < d then s
  else s.writeGate d w.value.toNat

/-- CLK_OFF. -/
def execClkOff (w : RegWrite) (s : State) : Host.Outcome State Fault Refusal := .next (s.gateWrite w)

/-- PWR_OFF. -/
def execPwrOff (w : RegWrite) (s : State) : Host.Outcome State Fault Refusal := .next (s.gateWrite w)

/-! ## PWR_LEASE (R417) -/

/-- PWR_LEASE by a reader that has the right: it takes or releases the keeper's lease. -/
def State.writeLease (s : State) (d v : Nat) : State := s.modDomain d fun x => { x with keeper := v.testBit 30 }

/-- KEEPER_LEASE_WRITE. -/
def execKeeperLeaseWrite (w : RegWrite) (s : State) : Host.Outcome State Fault Refusal :=
  let d := s.channel w.reader 16
  if !s.mayWrite w.reader w.kernel 0x100024 then .next (s.denyRegister w.reader w.kernel .write 0x100024)
  else if 31 < d then .next s
  else .next (s.writeLease d w.value.toNat)

/-! ## PWR_GATEREQ (R412 to R414, R417) -/

/-- ACTION of a write to PWR_GATEREQ by a reader that has the right. -/
def State.writeGatereq (s : State) (d action : Nat) (normal : Bool) : State :=
  if action = 1 then s.requestGate d .clockOff normal
  else if action = 2 then s.requestGate d .powerOff normal
  else if action = 3 then (s.restoreDomain d).modDomain d fun x => { x with action := 3 }
  else s

/-- A write of PWR_GATEREQ with an action by any reader. -/
def State.gatereqWrite (s : State) (w : RegWrite) (action : Nat) : State :=
  let d := s.channel w.reader 16
  if !s.mayWrite w.reader w.kernel 0x100028 then s.denyRegister w.reader w.kernel .write 0x100028
  else if 31 < d then s
  else s.writeGatereq d action (!s.secureReader w.reader)

/-- GATEREQ_CLOCK_OFF. -/
def execGatereqClockOff (w : RegWrite) (s : State) : Host.Outcome State Fault Refusal := .next (s.gatereqWrite w 1)

/-- GATEREQ_POWER_OFF. -/
def execGatereqPowerOff (w : RegWrite) (s : State) : Host.Outcome State Fault Refusal := .next (s.gatereqWrite w 2)

/-- GATEREQ_RESTORE. -/
def execGatereqRestore (w : RegWrite) (s : State) : Host.Outcome State Fault Refusal := .next (s.gatereqWrite w 3)

/-! ## Grant and ceiling (R414 to R416) -/

/-- A queued request is granted once no lease stands. -/
def State.grantQueued (s : State) (d : Nat) : State :=
  match (s.domain d).queued with
  | some (a, _) => if s.leased d then s else s.gateDomain d a
  | none => s

/-- GATE_REQUEST_GRANT: the last lease on the domain was released. -/
def execGateRequestGrant (domain : Nat) (s : State) : Host.Outcome State Fault Refusal := .next (s.grantQueued domain)

/-- The sluice of a domain erases the key ports, operand RAM, state and save RAM of its engines (R415 step 1). -/
def State.sluice (s : State) (d : Nat) : State :=
  let wipe (s : State) (k : EngineKind) : State :=
    let b := s.block k
    s.setBlock k { b with engines := b.engines.map fun e =>
      if (kindNumbers k).contains e.1 && engineDomain k e.1 == d then (e.1, { e.2 with path := {} }) else e }
  [.shuffled, .masked, .hash, .publicKey, .lattice].foldl wipe s

/-- The keeper's device signature, which runs on hash units, ends with its lease on their domain: a quote that waits for it ends with
ABORTED_POWER, and a certificate is signed anew (R311, R415). -/
def State.endKeeperJob (s : State) (d : Nat) : State :=
  match s.eng.lmsQueue with
  | .quote w _ :: rest =>
    if (s.domain d).keeper && (kindNumbers .hash).any fun n => engineDomain .hash n == d then
      State.answer { s with eng := { s.eng with lmsQueue := rest } } w ⟨stAbortPower, []⟩ []
    else s
  | _ => s

/-- Steps 1 to 5 of R415: the domain is erased, its leases are revoked, the barges that held them end with ABORTED_POWER, and
the request is carried out. -/
def State.revokeLeases (s : State) (d : Nat) (a : GateAction) : State :=
  let s := (s.sluice d).raise 448 d 0xFFFF 0 0
  let s := (s.leaseHolders d).foldl (fun s n => s.endBarge n ⟨stAbortPower, []⟩) s
  ((s.endKeeperJob d).modDomain d fun x => { x with keeper := false, revokes := x.revokes + 1 }).gateDomain d a

/-- LEASE_CEILING: where the last lease is gone the request is granted without revocation. -/
def execLeaseCeiling (domain : Nat) (s : State) : Host.Outcome State Fault Refusal :=
  match (s.domain domain).queued with
  | none => .next s
  | some (a, t) =>
    let s := s.upTo t
    .next (if s.leased domain then s.revokeLeases domain a else s.grantQueued domain)

end Sys2Proof.Machine
end

