-- ==== Sys2Proof/Machine/Restart.lean ====
section
/-! DEFINITION. The watchdogs, the secure restart and the restart of the normal world (R398, R418 to R424, R484; log entry 37). -/

namespace Sys2Proof.Machine

/-! ## The start of a secure restart (R419 phases 1 to 3, R420 to R422) -/

/-- Does a barge in a core queue wait for a world: a barge of a family that flights serve waits there for the secure one (R36). -/
def BargeRec.queuedFor (r : BargeRec) (w : World) : Bool := r.stage == .coreQueue && queueWorld r.barge.opcode == w

/-- A response that waits for the secure world ends with ABORTED_RESTART. -/
def State.abortWaiter (s : State) (w : Waiter) : State := s.answer w ⟨stAbortRestart, []⟩ []

/-- The responses that wait for the secure world: of slice sequences, shreds, a transition, a switchover and quotes. -/
def State.secureWaiters (s : State) : List Waiter :=
  (s.cus.slices.vals.filterMap fun x => x.drain.bind fun d => d.answer) ++
    (s.vlt.shreds.vals.flatMap fun q => q.waiting) ++ (s.ctr.writing.bind fun w => w.answer).toList ++
    s.tow.switchAnswer.toList ++
    s.eng.lmsQueue.filterMap fun r => match r with
      | .quote w _ => some w
      | .cert _ => none

/-- Nothing waits for the secure world any more; what was under way goes on without an answer. -/
def State.dropWaiters (s : State) : State :=
  let calm (e : Nat × Slice) : Nat × Slice := (e.1, { e.2 with drain := e.2.drain.map fun d => { d with answer := none } })
  let quiet (e : Nat × ShredSeq) : Nat × ShredSeq := (e.1, { e.2 with waiting := [] })
  let cert (r : LmsRequest) : Bool := match r with
    | .quote _ _ => false
    | .cert _ => true
  { s with
    cus := { s.cus with slices := s.cus.slices.map calm }, vlt := { s.vlt with shreds := s.vlt.shreds.map quiet },
    ctr := { s.ctr with writing := s.ctr.writing.map fun w => { w with answer := none } },
    tow := { s.tow with switchAnswer := none }, eng := { s.eng with lmsQueue := s.eng.lmsQueue.filter cert } }

/-- The units of a world's cores are loaded from the chart again (R398). -/
def State.reloadUnits (s : State) (secure : Bool) : State :=
  let of (u : Nat) : Bool := u < 64 && s.coreSecure u == secure
  let rest := s.ixp.regions.filter fun e => !of (e.1 / 32)
  { s with ixp := { s.ixp with regions := (s.unitRegions of).foldl (fun m e => m.put e.1 e.2) rest } }

/-- The cores of a world start anew. -/
def State.freshCores (s : State) (secure : Bool) : State :=
  { s with cor := { s.cor with cores := s.cor.cores.filter fun e => s.coreSecure e.1 != secure } }

/-- Memory a secure restart clears: the SRAM of secure clusters, and hold pages that are VOLATILE (R402, R419). -/
def State.clearedByRestart (s : State) (a : Nat) : Bool :=
  (0x1200000000 ≤ a && a < 0x1202000000 && s.secureClusters.testBit ((a - 0x1200000000) / 0x400000)) ||
    (a < 0x700000000 && (s.ixp.owners.at 0 (a / 4096)).testBit 12)

/-- The barges and answers that wait for the secure world end. -/
def State.abortSecure (s : State) : State :=
  let s := s.abortBarges (fun r => r.queuedFor .secure) stAbortRestart
  s.secureWaiters.foldl State.abortWaiter s.dropWaiters

/-- The keeper's leases end, and the gatings that waited for them go on. -/
def State.endKeeperLeases (s : State) : State :=
  let free (e : Nat × PowerDomain) : Nat × PowerDomain := (e.1, { e.2 with keeper := false })
  (List.range 32).foldl State.grantQueued { s with pwr := { s.pwr with domains := s.pwr.domains.map free } }

/-- The secure world's memory is cleared. -/
def State.clearSecure (s : State) : State := { s with mem := s.mem.filter fun e => !s.clearedByRestart e.1 }

/-- A secure restart begins: phases 1 to 3, and the escalation of the third within 600 s. -/
def State.startRestart (s : State) (cause : Nat) : State :=
  if !s.pwr.started || s.pwr.shutDown || s.cor.restarting then s
  else
    let ts := within s.now 600000000000 s.cor.restarts ++ [s.now]
    let s := { s with
      cor := { s.cor with restarting := true, phase := 3, cause := cause, count := sat 255 (s.cor.count + 1), restarts := ts,
                          healthOut := false },
      vlt := { s.vlt with unlocked := false, rat := [], dom := [] } }
    let s := (s.abortSecure.endKeeperLeases.clearSecure.reloadUnits true).freshCores true
    if 3 ≤ ts.length then s.alarm 0x27 0 0 0 else s

/-- A secure-world core is halted by the debug port: the keeper watchdog is paused (R450). -/
def State.secureHalted (s : State) : Bool := s.cor.cores.any fun e => s.coreSecure e.1 && e.2.halted

/-! ## The keeper watchdog (R418, R424) -/

/-- What the next kick must be. -/
def Watchdog.expects (w : Watchdog) : W32 := if w.second then 0xA5A5 else 0x5A5A

/-- A correct kick. -/
def Watchdog.kick (w : Watchdog) (now : Nat) : Watchdog := { w with second := !w.second, kicked := now, locked := true }

/-- When a watchdog expires without a kick. -/
def Watchdog.expiry (w : Watchdog) : Nat := w.kicked + w.period * 1000000

/-- CORE_WDKICK by a reader that has the right. -/
def State.kickKeeper (s : State) (v : W32) : State :=
  if s.cor.restarting then s
  else if v = s.cor.keeperDog.expects then { s with cor := { s.cor with keeperDog := s.cor.keeperDog.kick s.now } }
  else s.startRestart 2

/-- CORE_WDKICK. -/
def execCoreWdkick (w : RegWrite) (s : State) : Host.Outcome State Fault Refusal :=
  if !s.mayWrite w.reader w.kernel 0xB0044 then .next (s.denyRegister w.reader w.kernel .write 0xB0044)
  else if s.beyond w.reader 11 then .next s
  else .next (s.kickKeeper w.value)

/-- CORE_SRREQ by a reader that has the right. -/
def State.requestRestart (s : State) (v : W32) : State := if v.toNat.testBit 0 then s.startRestart 3 else s

/-- RESTART. -/
def execRestart (w : RegWrite) (s : State) : Host.Outcome State Fault Refusal :=
  if !s.mayWrite w.reader w.kernel 0xB004C then .next (s.denyRegister w.reader w.kernel .write 0xB004C)
  else if s.beyond w.reader 11 then .next s
  else .next (s.requestRestart w.value)

/-- KEEPER_WATCHDOG_EXPIRE: no correct kick arrived within the period. -/
def execKeeperWatchdogExpire (s : State) : Host.Outcome State Fault Refusal :=
  if !s.pwr.started || s.cor.restarting || s.secureHalted then .next s
  else .next ((s.upTo s.cor.keeperDog.expiry).startRestart 1)

/-- SECURE_KERNEL_EXCEPTION. -/
def execSecureKernelException (core : Nat) (s : State) : Host.Outcome State Fault Refusal :=
  if 63 < core || !s.coreSecure core then .next s else .next (s.startRestart 4)

/-! ## The end of a secure restart (R419 phases 4 to 7, R420, R422, R484) -/

/-- The keeper measurement of the copy booted from equals the boot measurement (R435). -/
def State.keeperMatches (s : State) : Bool :=
  let im := (s.ctr.copy s.ctr.booted).image
  fit 48 (Config.sha384 (sl im (fld im 24 4) (fld im 28 4))) == s.ctr.mr1Boot

/-- Does the keeper of this start hold keys: not in recovery mode, BLANK or SCRAP or with a transition incomplete. -/
def State.keeperKeyed (s : State) : Bool :=
  !s.ctr.recovery && s.ctr.state != .blank && s.ctr.state != .scrap && s.ctr.incomplete.isNone

/-- Phases 5 and 6: rat[s], UNLOCKED and dom[s] again. -/
def State.restoreKeys (s : State) : State :=
  let s := s.derive (if s.ctr.state = .custody then s.vlt.root else s.ctr.testRoot)
  let s := if s.vlt.imageLoaded then s.loadDom else s
  { s with vlt := { s.vlt with unlocked := s.vlt.imageLoaded && !s.vlt.floorLocked } }

/-- Latched S events are delivered once for each source, with their count. -/
def State.deliverHeld (s : State) : State :=
  let hs := s.cor.heldEvents
  let s := { s with cor := { s.cor with heldEvents := [] } }
  (hs.map (·.1)).eraseDups.foldl (fun s n =>
    s.route n (eventInfo noInst 0xFFFF 0 ((hs.filter fun h => h.1 == n).length)) true) s

/-- Phase 7, and what the restart held up. -/
def State.endRestart (s : State) : State :=
  let s := { s with cor := { s.cor with
      restarting := false, phase := 0, healthOut := !s.secureHalted,
      keeperDog := { s.cor.keeperDog with second := false, kicked := s.now } } }
  let s := (s.raise 288 noInst 0xFFFF s.cor.cause 0).deliverHeld
  let before := s.tow.acked
  let s := s.advanceShreds.applyEpochs s.tow.received.length
  if before < s.tow.acked then s.sendTowpath 3 0 [] 0 s.tow.acked else s

/-- The root differs from its shadow in a state that has one. -/
def State.rootSplit (s : State) : Bool := s.ctr.state == .custody && s.vlt.rootShadow != invert s.vlt.root

/-- SECURE_RESTART_COMPLETE: a mismatch escalates and leaves the vault locked. -/
def execSecureRestartComplete (s : State) : Host.Outcome State Fault Refusal :=
  if !s.cor.restarting then .next s
  else if !s.keeperKeyed then .next s.endRestart
  else if !s.keeperMatches then .next (s.alarm 0x27 0 0 0)
  else if s.rootSplit then
    let s := { s with vlt := { s.vlt with shadowFault := true, rootValid := false } }
    .next (s.alarm 0x20 0 0 0)
  else .next s.restoreKeys.endRestart

/-- RESTART_ESCALATE_TIMEOUT: 30 ms after the cause. -/
def execRestartEscalateTimeout (s : State) : Host.Outcome State Fault Refusal :=
  if !s.cor.restarting then .next s
  else .next ((s.upTo (s.cor.restarts.getLastD s.now + 30000000)).alarm 0x27 0 0 0)

/-! ## The normal world (R423) -/

/-- The normal-world clusters restart. -/
def State.startNormalRestart (s : State) : State :=
  if !s.pwr.started || s.pwr.shutDown || s.cor.normalRestarting then s
  else
    let s := { s with cor := { s.cor with normalRestarting := true }, whf := { s.whf with halfOpen := [] } }
    let s := s.endSessions fun x => x.fgl == 1 || x.fgl == 2
    let s := (s.abortBarges (fun r => r.queuedFor .normal) stAbortRestart).reloadUnits false
    s.freshCores false

/-- CORE_NWDKICK by a reader that has the right. -/
def State.kickNormal (s : State) (v : W32) : State :=
  if s.cor.normalRestarting then s
  else if v = s.cor.normalDog.expects then { s with cor := { s.cor with normalDog := s.cor.normalDog.kick s.now } }
  else s.startNormalRestart

/-- CORE_NWDKICK. -/
def execCoreNwdkick (w : RegWrite) (s : State) : Host.Outcome State Fault Refusal :=
  if !s.mayWrite w.reader w.kernel 0xB0054 then .next (s.denyRegister w.reader w.kernel .write 0xB0054)
  else if s.beyond w.reader 11 then .next s
  else .next (s.kickNormal w.value)

/-- NORMAL_WATCHDOG_EXPIRE. -/
def execNormalWatchdogExpire (s : State) : Host.Outcome State Fault Refusal :=
  if !s.pwr.started || s.cor.normalRestarting then .next s
  else .next (s.upTo s.cor.normalDog.expiry).startNormalRestart

/-- The normal-world image of the copy booted from measures as its header says. -/
def State.normalMatches (s : State) : Bool :=
  let im := (s.ctr.copy s.ctr.booted).image
  fit 48 (Config.sha384 (sl im (fld im 32 4) (fld im 36 4))) == sl im 96 48

/-- NORMAL_RESTART_COMPLETE: a mismatch escalates. -/
def execNormalRestartComplete (s : State) : Host.Outcome State Fault Refusal :=
  if !s.cor.normalRestarting then .next s
  else if !s.ctr.recovery && !s.normalMatches then .next (s.alarm 0x28 0 0 0)
  else
    let s := { s with cor := { s.cor with
        normalRestarting := false, normalDog := { s.cor.normalDog with second := false, kicked := s.now } } }
    .next (s.raise 289 noInst 0xFFFF 0 0)

end Sys2Proof.Machine
end

