-- ==== Sys2Proof/Machine/RegisterMap.lean ====
section
/-! DEFINITION. The value of every management register, block by block (R23 to R28, R45, R56, R111, R127, R172, R173, R205, R297,
R298, R329, R330, R346, R347, R390, R391, R408, R409, R417, R424, R451, R479, R483, R491, R498, R516, R517). -/

namespace Sys2Proof.Machine

/-! ## Blocks 1 to 3: wharf, lock keeper, flights -/

/-- WHF_LINKSTAT. -/
def Link.stat (l : Link) : Nat :=
  flag l.up 31 + flag l.anDone 30 + flag l.trainFail 29 + l.fec % 4 * 2 ^ 27 + l.mode % 8 * 2 ^ 24

/-- A wharf register of a cage. -/
def State.wharfRegister (s : State) (i off : Nat) : Nat :=
  let l := s.link i
  if off = 0x10 then l.cfg.toNat else if off = 0x14 then l.stat
  else if off = 0x18 then l.fecCorr.toNat else if off = 0x1C then l.fecUncorr.toNat
  else if off = 0x20 then l.dropFrame.toNat else if off = 0x24 then l.dropAuth.toNat
  else if off = 0x28 then l.dropReplay.toNat
  else if off = 0x2C then s.sessionCount fun x => x.fgl == 3 && x.cage == i
  else if off = 0x30 then s.sessionCount fun x => x.fgl != 3 && x.cage == i
  else 0

/-- A lock keeper register of a class. -/
def State.keeperRegister (s : State) (i off : Nat) : Nat :=
  let c := s.classRegs i
  if off = 0x10 then c.admits.toNat else if off = 0x14 then c.full.toNat else if off = 0x18 then c.inelig.toNat
  else if off = 0x1C then c.overflow.toNat else if off = 0x20 then c.waitMax.toNat
  else if off = 0x24 then c.late.toNat
  else 0

/-- A C0 barge holds a flight while it has one of its contexts (R151). -/
def State.clearing (s : State) (f : Nat) : Bool :=
  (s.inFlight f).any fun r => r.stage == .context && r.admitted == 0

/-- FLT_STAT. -/
def State.flightStat (s : State) (f : Nat) : Nat :=
  flag (s.flight f).inService 31 + flag (s.clearing f) 30 +
    (match s.groupOfFlight f with
     | some g => g.code % 8 * 2 ^ 24
     | none => 0) + s.contexts f % 32 * 65536 + s.epochHold f % 2048

/-- FLT_LOCKS0 and FLT_LOCKS1. -/
def State.flightLocks (s : State) (f : Nat) : Nat × Nat :=
  match s.groupOfFlight f with
  | none => (0, 0)
  | some g =>
    let at_ (i : Nat) : Nat := g.locks.getD i 0 % 8
    (((List.range 10).map fun i => at_ i * 8 ^ i).foldl (· + ·) 0, at_ 11 * 128 + at_ 10 * 16 + g.locks.length % 16)

/-- FLT_POUND. -/
def State.poundRegister (s : State) (f : Nat) : Nat :=
  let es := s.poundWaiting f
  es.length % 4096 * 65536 + (es.filter fun r => r.admitted == 0).length % 512

/-- A flight register. -/
def State.flightRegister (s : State) (f off : Nat) : Nat :=
  if off = 0x10 then s.flightStat f else if off = 0x14 then (s.flightLocks f).1
  else if off = 0x18 then (s.flightLocks f).2 else if off = 0x1C then s.poundRegister f
  else if off = 0x20 then (s.flight f).fault.toNat
  else 0

/-! ## Blocks 4 to 8: cipher bank, public-key, lattice and hash engines, entropy -/

/-- Attached CIPHER locks in ascending order of flight and then position (R183). -/
def State.attachedLocks (s : State) : List (Nat × Nat) :=
  (List.range 32).flatMap fun f =>
    match s.groupOfFlight f with
    | some g => ((List.range 16).filter g.attached.testBit).map fun i => (f, i)
    | none => []

/-- Bound cores in ascending order. -/
def State.boundCores (s : State) : List Nat :=
  (List.range 256).filter fun c => s.pools.any fun p => p.kind == 6 && p.first ≤ c && c < p.first + p.count

/-- Flight and position of the attached lock that a bound core serves; a mapped spare serves that of the core it stands in for. -/
def State.coreLock (s : State) (core : Nat) : Option (Nat × Nat) :=
  let c := (s.engine (coreKind core) core).standsFor.getD core
  (s.boundCores.findIdx? (· == c)).bind fun k => s.attachedLocks[k]?

/-- Flight of a bound core. -/
def State.coreFlight (s : State) (core : Nat) : Nat := ((s.coreLock core).map (·.1)).getD 0

/-- Is a core bound to an attached CIPHER lock. -/
def State.coreBound (s : State) (core : Nat) : Bool :=
  match s.partOf (coreKind core) core with
  | some p => p.kind == 6
  | none => false

/-- BNK_STAT. -/
def State.coreStat (s : State) (core : Nat) : Nat :=
  let k := coreKind core
  let e := s.engine k core
  flag (e.inService && !e.lockedOut) 31 + flag (k == .masked) 30 + flag (s.coreBound core) 29 + flag e.busy 28 +
    flag e.suspended 27 + flag e.lockedOut 26 + (if s.coreBound core then s.coreFlight core * 65536 else 0) +
    (match s.recordOf k core with
     | some p => p.kind % 8 * 256
     | none => 0) +
    match s.partOf k core with
    | some p => p.part % 256
    | none => 0

/-- A FAULT register: COUNT and the W1C bits. -/
def Engine.fault (e : Engine) : Nat := e.faultCount % 16 * 16 + e.faultBits.toNat % 16

/-- An ESCAL register. -/
def EngineBlock.escal (b : EngineBlock) (now : Nat) : Nat :=
  b.islandResets % 256 * 256 + sat 2 (within now 1000000000 b.window).length

/-- A cipher bank register of a core, or of the whole bank. -/
def State.bankRegister (s : State) (core off : Nat) : Nat :=
  let e := s.engine (coreKind core) core
  if off = 0x10 then s.coreStat core else if off = 0x14 then e.ops.toNat else if off = 0x18 then e.aux.toNat
  else if off = 0x1C then e.fault else if off = 0x20 then e.reseeds.toNat
  else if off = 0x40 then s.eng.counters.length % 2 ^ 17 else if off = 0x44 then s.eng.kekCounters.length % 2 ^ 15
  else if off = 0x48 then (s.eng.chambers.map fun c => 2 ^ c.1).foldl (· + ·) 0 % 2 ^ 32
  else if off = 0x4C then s.eng.parked.length % 2 ^ 17 else if off = 0x50 then s.eng.bank.escal s.now
  else 0

/-- PKE_STAT, LAT_STAT and HSH_STAT. -/
def State.engineStat (s : State) (k : EngineKind) (n : Nat) : Nat :=
  let e := s.engine k n
  flag (e.inService && !e.lockedOut) 31 + flag e.busy 30 + flag (s.isSpare k n) 29 + flag e.lockedOut 28 +
    match s.partOf k n with
    | some p => p.part % 256
    | none => 0

/-- A register of a public-key or lattice engine or a hash unit. -/
def State.engineRegister (s : State) (k : EngineKind) (n off : Nat) : Nat :=
  let e := s.engine k n
  if off = 0x10 then s.engineStat k n else if off = 0x14 then e.fault else if off = 0x18 then e.ops.toNat
  else if off = 0x1C ∧ k ≠ .hash then e.aux.toNat
  else if off = 0x40 then (s.block k).escal s.now
  else 0

/-- The LMS registers of the hash block. -/
def State.lmsRegister (s : State) (off : Nat) : Nat :=
  if off = 0x44 then s.eng.lmsPos / 2 ^ 30 % 128 else if off = 0x48 then s.eng.lmsPos % 2 ^ 30
  else if off = 0x4C then s.eng.lmsReserved % 2 ^ 30 else if off = 0x50 then s.eng.lmsTokens % 512
  else 0

/-- An entropy register of a source, or of the whole unit. -/
def State.entropyRegister (s : State) (i off : Nat) : Nat :=
  let x := s.source i
  if off = 0x10 then x.state.ord * 2 ^ 29 + sat 255 (within s.now 3600000000000 x.fails).length * 65536
  else if off = 0x14 then x.rctFail.toNat else if off = 0x18 then x.aptFail.toNat else if off = 0x1C then x.blocks.toNat
  else if off = 0x40 then s.ent.genOk % 256 * 2 ^ 24 + (s.ent.drbg.filter fun e => e.2.stalled).length % 128
  else if off = 0x44 then s.ent.reseeds.toNat
  else 0

/-! ## Blocks 9 and 11 to 13: vault, control cores, protection, towpath -/

/-- A vault register. -/
def State.vaultRegister (s : State) (off : Nat) : Nat :=
  let n (p : Slot → Bool) : Nat := (s.vlt.slots.filter fun e => p e.2).length
  if off = 0x10 then flag s.vlt.unlocked 31 + flag s.vlt.imageLoaded 30 + n fun x => x.state == .quarantined
  else if off = 0x14 then n fun x => x.state != .free
  else if off = 0x18 then s.vlt.scrubs.toNat
  else 0

/-- CORE_EVCFG of an event source; a reserved one reads 0 (R483). -/
def State.evcfg (s : State) (n : Nat) : Nat :=
  if !eventSources.contains n then 0
  else
    let c := s.eventCfg n
    flag (!eventSecure n) 31 + flag (eventLevel n) 30 + flag c.record 29 +
      flag (s.obs.conditions.any fun x => x.1 == n) 28 + c.clusters % 256

/-- CORE_WDCFG and CORE_NWDCFG. -/
def Watchdog.cfg (w : Watchdog) : Nat := flag w.locked 31 + w.period % 128

/-- A block-wide CORE register. -/
def State.coreRegister (s : State) (r : Reader) (off : Nat) : Nat :=
  if off = 0x40 then s.cor.keeperDog.cfg
  else if off = 0x48 then
    flag s.cor.restarting 31 + s.cor.phase % 8 * 2 ^ 28 + s.cor.count % 256 * 65536 + s.cor.cause % 16
  else if off = 0x50 then s.cor.normalDog.cfg
  else if off = 0x60 then (s.copies r).evsel else if off = 0x64 then s.evcfg (s.copies r).evsel
  else 0

/-- Is the master of a protection unit in the secure world (R393); the debug port's world is that of each access. -/
def State.unitSecure (s : State) (u : Nat) : Bool := if u < 64 then s.coreSecure u else true

/-- A register of a protection unit or the fall-back table, or of the selected violation queue. -/
def State.protectRegister (s : State) (r : Reader) (u off : Nat) : Nat :=
  let c := s.copies r
  let x := s.region u c.rsel
  let y := s.fallback c.fbsel
  let q := s.vqueue r
  let h := q.reports.headD []
  if off = 0x10 then c.rsel else if off = 0x14 then c.rbase.getD x.first else if off = 0x18 then c.rlast.getD x.last
  else if off = 0x1C then x.attr else if off = 0x20 then flag (!s.unitSecure u) 31 + s.ixp.misses.at 0 u % 65536
  else if off = 0x40 then c.fbsel else if off = 0x44 then c.fbbase.getD y.first
  else if off = 0x48 then c.fblast.getD y.last else if off = 0x4C then y.attr
  else if off = 0x60 then q.lost % 256 * 65536 + q.reports.length % 256 * 256 + c.vqueue
  else if off = 0x64 then fld h 0 4 % 256 else if off = 0x68 then fld h 4 4 else if off = 0x6C then fld h 8 4
  else if off = 0x70 then fld h 12 4 else if off = 0x74 then fld h 16 4 else if off = 0x78 then fld h 20 4
  else if off = 0x7C then fld h 24 2
  else 0

/-- Counters of a towpath channel. -/
def State.towChannel (s : State) (i : Nat) : TowChannel := if i = 0 then s.tow.chan0 else s.tow.chan1

/-- STATE of channel 1: 0 none, 1 member, 2 registrar, 3 joining. A module whose domain is its own is its registrar. -/
def State.domainRole (s : State) : Nat :=
  if s.tow.join.isSome then 3 else if s.tow.registrar = s.tow.pairId then if s.tow.members.isEmpty then 0 else 2 else 1

/-- TOW_STAT. -/
def State.towStat (s : State) (i : Nat) : Nat :=
  let up0 : Bool := (s.link 2).up && s.tow.link.any fun l => l.live
  let up1 : Bool := (s.link 1).up && s.tow.links.any fun l => l.live
  if i = 0 then
    flag up0 31 + s.tow.pair.ord * 2 ^ 28 + flag s.tow.lease 27 + s.tow.witness.kind % 4 * 2 ^ 25 +
      bit01 (s.tow.link.any fun l => l.live)
  else flag up1 31 + s.domainRole * 2 ^ 28 + (s.tow.links.filter fun l => l.live).length % 1024

/-- A towpath register of a channel, or of both. -/
def State.towRegister (s : State) (i off : Nat) : Nat :=
  let c := s.towChannel i
  if off = 0x10 then s.towStat i else if off = 0x14 then c.tx.toNat else if off = 0x18 then c.rx.toNat
  else if off = 0x1C then c.dropAuth.toNat else if off = 0x20 then c.resent.toNat else if off = 0x24 then c.ackMax.toNat
  else if off = 0x40 then s.tow.acked / 2 ^ 32 % 2 ^ 32 else if off = 0x44 then s.tow.acked % 2 ^ 32
  else if off = 0x48 then s.tow.term % 2 ^ 32 else if off = 0x4C then s.tow.floorIndex % 65536 * 65536 + s.tow.floor % 4096
  else if off = 0x50 then (s.tow.members.length + 1) % 2048 else if off = 0x54 then s.tow.takeovers.toNat
  else 0

/-! ## Blocks 14 to 16: sentinel, charter, power -/

/-- A SNT_SENS register. -/
def State.sensRegister (s : State) (code : Nat) : Nat :=
  let x := s.sensor code
  let paired : Bool := pairedSensor code
  x.code.toNat * 65536 + sensorMin code * 2 ^ 14 + sensorDefault code * 2 ^ 12 + flag (x.a && paired) 11 +
    flag (x.b && paired) 10 + flag x.condition 9 + flag paired 8 + x.faults % 256

/-- SNT_STAT. -/
def State.sentinelStat (s : State) : Nat :=
  flag s.snt.onMain 31 + flag s.snt.cellA 30 + flag s.snt.cellB 29 + flag s.snt.held 28 + flag s.runningLevel.isSome 27 +
    s.runningLevel.getD 0 % 4 * 2 ^ 25 + flag s.snt.deferred 24 +
    sat 255 (within s.now 3600000000000 s.snt.fullResets).length * 65536

/-- The monotonic clock as SNT_MONO reads it. -/
def State.monotonic (s : State) : Nat := s.now - s.clk.startAt

/-- A sentinel register; the HI words of the clocks are the reader's latched ones. -/
def State.sentinelRegister (s : State) (r : Reader) (off : Nat) : Nat :=
  let latched (addr : Nat) : Nat := (s.copies r).latch.at 0 addr
  if off = 0x10 then
    flag s.vlt.rootValid 31 + flag s.vlt.zeroised 30 + flag s.vlt.shadowFault 29 + sat 255 s.vlt.rootCount
  else if off = 0x14 then s.sentinelStat
  else if off = 0x18 then s.snt.staged.length % 128 * 65536 + s.snt.overflow % 65536
  else if off = 0x20 then s.snt.logSeq / 2 ^ 32 % 2 ^ 32 else if off = 0x24 then s.snt.logSeq % 2 ^ 32
  else if off = 0x28 then s.snt.logMark / 2 ^ 32 % 2 ^ 32 else if off = 0x2C then s.snt.logMark % 2 ^ 32
  else if off = 0x30 then sat 0xFFFFFFFF s.snt.logLost else if off = 0x34 then s.snt.group.toNat
  else if off = 0x40 then s.stamp.toNat % 2 ^ 32 else if off = 0x44 then latched 0xE0044
  else if off = 0x48 then s.timestat
  else if off = 0x4C then s.monotonic % 2 ^ 32 else if off = 0x50 then latched 0xE0050
  else if 0x100 ≤ off ∧ sensorCodes.contains ((off - 0x100) / 4) then s.sensRegister ((off - 0x100) / 4)
  else 0

/-- CHT_MRWORD: a word of the selected measurement register. -/
def State.mrWord (s : State) (sel : Nat) : Nat :=
  let word := sel % 16
  let reg := sel / 16
  let v := if reg = 0 then s.ctr.mr0 else if reg = 1 then s.ctr.mr1 else if reg = 2 then s.ctr.mr2
    else if reg = 3 then s.ctr.mr3 else s.ctr.mr1Boot
  if 4 < reg ∨ 11 < word then 0xFFFFFFFF else fld (fit 48 v) (4 * word) 4

/-- CHT_DBGSTAT: RIGHTS is that of the enable in force, else of the certificate that armed the latch. -/
def Charter.dbgStat (c : Charter) : Nat :=
  flag c.dbgNormal.isSome 31 + flag c.dbgStart 30 + flag c.dbgArmed.isSome 29 +
    (if c.dbgNormal.isSome || c.dbgSecure.isSome then c.dbgRights else c.dbgArmedRights) % 1024

/-- CHT_CHARTSTAT. -/
def Chart.stat (c : Chart) : Nat :=
  c.mode.ord * 2 ^ 30 + flag c.unstored 29 + flag c.bankSkipped 28 + flag c.flashAlt 27 + flag c.bankB 26 +
    flag c.bankValid 25 + c.staging.bytes.length % 2 ^ 18

/-- A charter register. -/
def State.charterRegister (s : State) (r : Reader) (off : Nat) : Nat :=
  let c := s.ctr
  let sel := (s.copies r).mrsel
  if off = 0x10 then
    c.state.code * 65536 + c.state.view % 4 * 64 + flag c.incomplete.isSome 5 + flag c.writing.isSome 4 + flag c.recovery 3
  else if off = 0x14 then c.revoked % 256 * 2 ^ 24 + c.freeSlots.length % 32 * 2 ^ 19 + c.tokensLeft % 8 * 65536
  else if off = 0x18 then
    c.booted % 2 * 2 ^ 31 + flag c.trial 30 + c.check0 % 8 * 2 ^ 27 + c.check1 % 8 * 2 ^ 24 + c.svn % 4096
  else if off = 0x20 then sel else if off = 0x24 then s.mrWord sel else if off = 0x28 then c.dbgStat
  else if off = 0x40 then s.cht.seq.toNat else if off = 0x44 then s.cht.stat
  else if off = 0x48 then s.cht.chartId.toNat / 2 ^ 32 else if off = 0x4C then s.cht.chartId.toNat % 2 ^ 32
  else if off = 0x50 then s.cht.version.toNat else if off = 0x54 then s.cht.bankSeq.toNat
  else 0

/-- PWR_DOMSTAT. -/
def State.domainStat (s : State) (d : Nat) : Nat :=
  let x := s.domain d
  flag (!x.powerOff && x.down != 2) 31 + flag (!x.stopped) 30 + flag (!x.powerOff && x.down == 3) 29 +
    flag (s.normalGateable d) 28 + s.pwr.loads.at 0 d % 65536

/-- PWR_LEASE. -/
def State.leaseRegister (s : State) (d : Nat) : Nat :=
  let x := s.domain d
  flag (s.leased d) 31 + flag x.keeper 30 + flag x.queued.isSome 29 + flag x.thermal 27 +
    sat 255 (s.leaseHolders d).length * 65536 +
    match x.queued with
    | some (_, t) => sat 2000 ((t - s.now) / 1000)
    | none => 0

/-- PWR_STAT. -/
def State.powerStat (s : State) : Nat :=
  let p := s.pwr
  flag p.ready 31 + flag p.warm 30 + flag p.thermal 29 + flag p.holdupOk 28 + flag p.inputOk 27 + flag p.dip 26 +
    flag p.overvolt 25 + flag s.c0Floor 24 + p.state % 8 * 65536 + sat 65535 p.startMs

/-- A signed byte. -/
def signedByte (v : Int) : Nat := (BitVec.ofInt 8 v).toNat

/-- PWR_CAGE. -/
def State.cageRegister (s : State) : Nat :=
  ((List.range 3).map fun i =>
    let c := s.cage i
    flag c.exceeds (8 + i) + flag c.present (4 + i) + flag c.powered i).foldl (· + ·) 0

/-- A power register of a domain, or of the whole manager. -/
def State.powerRegister (s : State) (d off : Nat) : Nat :=
  let x := s.domain d
  let p := s.pwr
  if off = 0x10 then s.domainStat d else if off = 0x20 then flag x.powerOff 1 + flag x.clockOff 0
  else if off = 0x24 then s.leaseRegister d else if off = 0x28 then x.status % 4 * 2 ^ 30 + x.action % 4
  else if off = 0x2C then x.revokes.toNat else if off = 0x40 then s.powerStat
  else if off = 0x44 then p.iin % 65536 * 65536 + p.vin % 65536 else if off = 0x48 then p.pcage % 65536 * 65536 + p.pin
  else if off = 0x4C then p.holdup % 65536
  else if off = 0x50 then signedByte p.inlet * 2 ^ 24 + signedByte p.junction * 65536 + signedByte p.stage * 256
  else if off = 0x54 then sat 0xFFFFFFFF (s.toNextEvent / 1000) else if off = 0x58 then s.cageRegister
  else 0

/-! ## Counter sites (R490, R491) -/

/-- Is an offset one of a counter site's registers. -/
def siteOffset (block off : Nat) : Bool :=
  blockCounters block != 0 && 0x80 ≤ off && off ≤ (if block = 11 then 0x9C else 0x94)

/-- The counter a reader has selected. -/
def State.counterSel (s : State) (r : Reader) (block : Nat) : Nat := (s.copies r).pcsel.at 0 block

/-- A register of a counter site. -/
def State.siteRegister (s : State) (r : Reader) (block i off : Nat) : Nat :=
  let n := s.counterSel r block
  let c := s.counter block i n
  let latched : Nat := (s.copies r).latch.at 0 (block * 65536 + off)
  if off = 0x80 then n
  else if blockCounters block ≤ n then 0xFFFFFFFF
  else if off = 0x84 then c.pcfg else if off = 0x88 then c.value.toNat % 2 ^ 32
  else if off = 0x90 then s.cycles (siteIsland block i) % 2 ^ 32
  else if off = 0x98 then s.obs.psample.at 0 i % 2 ^ 32
  else latched

/-! ## The whole space -/

/-- BLKID of a block (R45). -/
def blockId (block : Nat) : Nat :=
  block * 2 ^ 24 + 0x10000 + if blockInstances block = 0 then 1 else blockInstances block

/-- A register of a block that is none of the common ones. -/
def State.ownRegister (s : State) (r : Reader) (block i off : Nat) : Nat :=
  if siteOffset block off then s.siteRegister r block i off
  else if block = 1 then s.wharfRegister i off else if block = 2 then s.keeperRegister i off
  else if block = 3 then s.flightRegister i off else if block = 4 then s.bankRegister i off
  else if block = 5 then s.engineRegister .publicKey i off else if block = 6 then s.engineRegister .lattice i off
  else if block = 7 then s.engineRegister .hash i off + s.lmsRegister off
  else if block = 8 then s.entropyRegister i off else if block = 9 then s.vaultRegister off
  else if block = 11 then s.coreRegister r off else if block = 12 then s.protectRegister r i off
  else if block = 13 then s.towRegister i off else if block = 14 then s.sentinelRegister r off
  else if block = 15 then s.charterRegister r off else if block = 16 then s.powerRegister i off
  else 0

/-- What a reader that has the right reads at an address of the register space. -/
def State.registerValue (s : State) (r : Reader) (addr : Nat) : Nat :=
  let block := addr / 65536
  let off := addr % 65536
  let i := s.channel r block
  if off = 0 then (if blockInstances block = 0 then 0 else i)
  else if s.beyond r block then 0xFFFFFFFF
  else if off = 4 then blockId block
  else if s.hiddenRead r addr && !selectionRegister addr then 0
  else s.ownRegister r block i off % 2 ^ 32

end Sys2Proof.Machine
end

