-- ==== Sys2Proof/Machine/Registers.lean ====
section
/-! DEFINITION. Register reads and writes by cores and slice 0 sessions, and the verbs that carry them (R24 to R28, R56, R172,
R390, R406, R410, R411, R417, R424, R451, R468, R483, R490, R491, R498, R499, R517; log entry 39). -/

namespace Sys2Proof.Machine

/-! ## Reads -/

/-- The HI register that a LO register latches for its reader, and the high word latched (R491, R498). -/
def State.highWord (s : State) (r : Reader) (addr : Nat) : Option (Nat × Nat) :=
  let block := addr / 65536
  let off := addr % 65536
  let i := s.channel r block
  if addr = 0xE0040 then some (0xE0044, s.stamp.toNat / 2 ^ 32)
  else if addr = 0xE004C then some (0xE0050, s.monotonic / 2 ^ 32 % 2 ^ 32)
  else if !siteOffset block off || blockCounters block ≤ s.counterSel r block then none
  else if off = 0x88 then some (addr + 4, (s.counter block i (s.counterSel r block)).value.toNat / 2 ^ 32)
  else if off = 0x90 then some (addr + 4, s.cycles (siteIsland block i) / 2 ^ 32 % 2 ^ 32)
  else if off = 0x98 then some (addr + 4, s.obs.psample.at 0 i / 2 ^ 32)
  else none

/-- Does a read of an address compare a sentinel register with its shadow and find it wrong (R468). -/
def State.readFindsShadow (s : State) (addr : Nat) : Bool :=
  let code := (addr - 0xE0100) / 4
  let x := s.sensor code
  (addr == 0xE0014 && (s.snt.modeShadow != ~~~s.snt.mode || (s.snt.mode != 0x5A3C && s.snt.mode != 0xA5C3))) ||
    (addr == 0xE0010 && (s.snt.zeroisedShadow != ~~~s.snt.zeroisedCode || (s.snt.zeroisedCode != 0x6C93 && s.snt.zeroisedCode != 0x936C))) ||
    (0xE0100 ≤ addr && sensorCodes.contains code && (x.shadow != ~~~x.code || (levelOf x.code).isNone))

/-- What a read with the right leaves behind: the latch of a LO register that was read truly, and SHADOW for a sentinel
register that fails. -/
def State.afterRead (s : State) (r : Reader) (addr : Nat) : State :=
  if s.beyond r (addr / 65536) || s.hiddenRead r addr then s
  else
    let s := match s.highWord r addr with
      | some (hi, v) => s.modCopies r fun c => { c with latch := c.latch.put hi v }
      | none => s
    if s.readFindsShadow addr then s.alarm 0x21 0 0 0 else s

/-- LO_READ_LATCH: a read of a register by a core answers its value; the row's command does so for any register. -/
def State.readRegister (s : State) (w : RegRead) : State :=
  if !s.mayRead w.reader w.kernel w.address then s.denyRegister w.reader w.kernel .read w.address
  else
    let s := s.wakeRegister w.reader w.address
    let v := s.registerValue w.reader w.address
    let s := s.afterRead w.reader w.address
    match w.reader with
    | .core n => s.emit (.access n true (be 4 v))
    | .session _ => s

/-- Is an address one of the register space, aligned (R24). -/
def registerAddress (addr : Nat) : Bool := addr % 4 == 0 && 0x10000 ≤ addr && addr < 0x110000

/-- LO_READ_LATCH. -/
def execLoReadLatch (r : RegRead) (s : State) : Host.Outcome State Fault Refusal :=
  if registerAddress r.address then .next (s.readRegister r) else .next s

/-! ## Writes of the wharf's link registers (R48, R50, R56) -/

/-- Bits of WHF_LINKCFG that hold a value. -/
def linkMask : W32 := 0xBFF

/-- The PCS and FEC of a cage are reset and the link trains again: a host port through down, the towpath finding its
partner silent. -/
def State.retrain (s : State) (cage : Nat) : State :=
  (s.linkDown cage).modLink cage fun l => { l with anRestart := none }

/-- RESET_PCS on a cage: the other fields are unchanged. -/
def State.resetPcs (s : State) (cage : Nat) (v : W32) : State := if v.toNat.testBit 10 then s.retrain cage else s

/-- A write of WHF_LINKCFG on a cage: one that sets RESET_PCS changes no field, and cage 2 keeps its fields. -/
def State.writeLinkcfg (s : State) (cage : Nat) (v : W32) : State :=
  if cage = 2 || v.toNat.testBit 10 then s.resetPcs cage v
  else (s.modLink cage fun l => { l with cfg := v &&& linkMask }).retrain cage

/-- A write of WHF_LINKCFG by any reader; an instance beyond the last drops it. -/
def State.linkcfgBy (s : State) (w : RegWrite) (f : State → Nat → State) : State :=
  if !s.mayWrite w.reader w.kernel 0x10010 then s.denyRegister w.reader w.kernel .write 0x10010
  else if s.beyond w.reader 1 then s
  else f (s.wakeRegister w.reader 0x10010) (s.channel w.reader 1)

/-- WHF_LINKCFG_WRITE. -/
def execWhfLinkcfgWrite (w : RegWrite) (s : State) : Host.Outcome State Fault Refusal :=
  .next (s.linkcfgBy w fun s c => s.writeLinkcfg c w.value)

/-- RESET_PCS: a write of WHF_LINKCFG that sets that bit. -/
def execResetPcs (w : RegWrite) (s : State) : Host.Outcome State Fault Refusal :=
  .next (s.linkcfgBy w fun s c => s.resetPcs c w.value)

/-! ## Writes of counter sites (R491) -/

/-- The event of a PCFG value. -/
def pcfgEvent (v : Nat) : Nat := v % 1024

/-- A write of PCFG: OVF clears by 1; one of the normal world that selects an S source is dropped. -/
def State.writePcfg (s : State) (r : Reader) (block i n : Nat) (v : W32) : State :=
  if !s.secureReader r && pcfgEvent v.toNat < 512 && eventSecure (pcfgEvent v.toNat) then s.dropWrite
  else
    let c := s.counter block i n
    s.setCounter block i n
      { c with cfg := v &&& 0xE00003FF, ovf := c.ovf && !v.toNat.testBit 28, stood := c.stood && c.event == pcfgEvent v.toNat }

/-- A write of PCNT_LO: the counter is set from the word and the reader's PCNT_HI shadow. -/
def State.writePcnt (s : State) (r : Reader) (block i n : Nat) (v : W32) : State :=
  let c := s.counter block i n
  s.setCounter block i n { c with value := BitVec.ofNat 48 ((s.copies r).shadow.at 0 block * 2 ^ 32 + v.toNat) }

/-- A write of a counter site's register by a reader that has the right. -/
def State.writeSite (s : State) (r : Reader) (block i off : Nat) (v : W32) : State :=
  let n := s.counterSel r block
  if off = 0x80 then s.modCopies r fun c => { c with pcsel := c.pcsel.put block (v.toNat % 8) }
  else if blockCounters block ≤ n then s
  else if off = 0x84 then s.writePcfg r block i n v
  else if off = 0x88 then s.writePcnt r block i n v
  else if off = 0x8C then s.modCopies r fun c => { c with shadow := c.shadow.put block (v.toNat % 65536) }
  else s

/-- PCNT_LO_WRITE at a counter site's block. -/
def execPcntLoWrite (w : RegWrite) (block : Nat) (s : State) : Host.Outcome State Fault Refusal :=
  if blockCounters block = 0 then .next s
  else if !s.mayWrite w.reader w.kernel (block * 65536 + 0x88) then
    .next (s.denyRegister w.reader w.kernel .write (block * 65536 + 0x88))
  else if s.beyond w.reader block then .next s
  else .next ((s.wakeRegister w.reader (block * 65536 + 0x88)).writeSite w.reader block (s.channel w.reader block) 0x88 w.value)

/-! ## Writes of the other registers -/

/-- A write of CORE_EVCFG (R483). The secure kernel sets any cluster of an N source, and secure clusters of an S source; the
normal kernel changes normal clusters of an N source and nothing else; every other write is dropped. -/
def State.writeEvcfg (s : State) (r : Reader) (v : Nat) : State :=
  let n := (s.copies r).evsel
  if !eventSources.contains n then s
  else
    let c := s.eventCfg n
    let new : EventCfg := { record := v.testBit 29, clusters := v % 256 }
    let touched : Nat := new.clusters ^^^ c.clusters
    let allowed : Bool :=
      if s.secureReader r then
        !eventSecure n || (!new.record && (List.range 8).all fun k => !new.clusters.testBit k || s.secureClusters.testBit k)
      else
        !eventSecure n && new.record == c.record &&
          (List.range 8).all fun k => !touched.testBit k || !s.secureClusters.testBit k
    if allowed then { s with obs := { s.obs with events := s.obs.events.put n new } } else s.dropWrite

/-- A write of CORE_WDCFG or CORE_NWDCFG: PERIOD 1 to 100, ignored once LOCKED. -/
def Watchdog.setPeriod (w : Watchdog) (v : Nat) : Watchdog :=
  let p := v % 128
  if w.locked || p = 0 || 100 < p then w else { w with period := p }

/-- A write of a block-wide CORE register. -/
def State.writeCore (s : State) (r : Reader) (off : Nat) (v : W32) : State :=
  if off = 0x40 then { s with cor := { s.cor with keeperDog := s.cor.keeperDog.setPeriod v.toNat } }
  else if off = 0x44 then s.kickKeeper v else if off = 0x4C then s.requestRestart v
  else if off = 0x50 then { s with cor := { s.cor with normalDog := s.cor.normalDog.setPeriod v.toNat } }
  else if off = 0x54 then s.kickNormal v
  else if off = 0x60 then s.modCopies r fun c => { c with evsel := v.toNat % 512 }
  else if off = 0x64 then s.writeEvcfg r v.toNat
  else s

/-- A write of a protection register. -/
def State.writeProtect (s : State) (r : Reader) (off : Nat) (v : W32) : State :=
  let n := v.toNat
  if off = 0x10 then s.modCopies r fun c => { c with rsel := n % 32, rbase := none, rlast := none }
  else if off = 0x14 then s.modCopies r fun c => { c with rbase := some (n % 2 ^ 28) }
  else if off = 0x18 then s.modCopies r fun c => { c with rlast := some (n % 2 ^ 28) }
  else if off = 0x1C then s.writeRattr r n
  else if off = 0x40 then s.modCopies r fun c => { c with fbsel := n % 1024, fbbase := none, fblast := none }
  else if off = 0x44 then s.modCopies r fun c => { c with fbbase := some (n % 2 ^ 28) }
  else if off = 0x48 then s.modCopies r fun c => { c with fblast := some (n % 2 ^ 28) }
  else if off = 0x4C then s.writeFbattr r n
  else if off = 0x60 then s.writeVctrl r n
  else s

/-- The W1C bits of a FAULT register clear where 1 is written. -/
def State.clearFault (s : State) (k : EngineKind) (n : Nat) (mask v : W32) : State :=
  s.modEngine k n fun e => { e with faultBits := e.faultBits &&& ~~~(v &&& mask) }

/-- A write of a power register. -/
def State.writePower (s : State) (r : Reader) (d off : Nat) (v : W32) : State :=
  let n := v.toNat
  if off = 0x20 then s.writeGate d n
  else if off = 0x24 then s.writeLease d n
  else if off = 0x28 then s.writeGatereq d (n % 4) (!s.secureReader r)
  else if off = 0x40 then
    { s with pwr := { s.pwr with dip := s.pwr.dip && !n.testBit 26, overvolt := s.pwr.overvolt && !n.testBit 25 } }
  else s

/-- Set a value of a towpath channel. -/
def State.writeTow (s : State) (i off : Nat) (v : W32) : State :=
  if off ≠ 0x24 then s
  else if i = 0 then { s with tow := { s.tow with chan0 := { s.tow.chan0 with ackMax := v &&& 0xFFFFFF } } }
  else { s with tow := { s.tow with chan1 := { s.tow.chan1 with ackMax := v &&& 0xFFFFFF } } }

/-- A write of a charter register: the selection, and W1C of BANK_SKIPPED. -/
def State.writeCharter (s : State) (r : Reader) (off : Nat) (v : W32) : State :=
  if off = 0x20 then s.modCopies r fun c => { c with mrsel := v.toNat % 128 }
  else if off = 0x44 then { s with cht := { s.cht with bankSkipped := s.cht.bankSkipped && !v.toNat.testBit 28 } }
  else s

/-- A write of a block's own register, to the selected instance. -/
def State.writeOwn (s : State) (r : Reader) (block i off : Nat) (v : W32) : State :=
  if siteOffset block off then s.writeSite r block i off v
  else if block = 1 ∧ off = 0x10 then s.writeLinkcfg i v
  else if block = 1 ∧ off = 0x14 then s.modLink i fun l => { l with trainFail := l.trainFail && !v.toNat.testBit 29 }
  else if block = 2 ∧ off = 0x20 then s.modClass i fun c => { c with waitMax := v &&& 0xFFFFFF }
  else if block = 3 ∧ off = 0x20 then s.modFlight i fun f => { f with fault := f.fault &&& ~~~(v &&& 7) }
  else if block = 4 ∧ off = 0x1C then s.clearFault (coreKind i) i 7 v
  else if block = 5 ∧ off = 0x14 then s.clearFault .publicKey i 7 v
  else if block = 6 ∧ off = 0x14 then s.clearFault .lattice i 15 v
  else if block = 7 ∧ off = 0x14 then s.clearFault .hash i 7 v
  else if block = 11 then s.writeCore r off v else if block = 12 then s.writeProtect r off v
  else if block = 13 then s.writeTow i off v else if block = 15 then s.writeCharter r off v
  else if block = 16 then s.writePower r i off v
  else s

/-- The write of a register by a reader that has the right: a CHSEL copy, nothing for an instance beyond the last, else the
block's own register; a register without a write access ignores it. -/
def State.writeRegister (s : State) (r : Reader) (addr : Nat) (v : W32) : State :=
  let block := addr / 65536
  let off := addr % 65536
  if off = 0 then
    if blockInstances block = 0 then s
    else s.modCopies r fun c =>
      { c with chsel := c.chsel.put block (v.toNat % 65536),
               rbase := if block = 12 then none else c.rbase, rlast := if block = 12 then none else c.rlast }
  else if s.beyond r block then s
  else s.writeOwn r block (s.channel r block) off v

/-! ## The verbs (R24, R28, R410, R499) -/

/-- READ_REG: a barge of another slice, or an address a slice 0 session may not read, is refused. -/
def readRegVerb : Verb where
  opcode := 0x0A01
  world := .normal
  maxReply := 4
  fmt b _ := firstCode [lenIs b 4, wellFormed (registerAddress (fld b.payload 0 4))]
  sender b s := b.slice == 0 && s.mayRead (.session b.session) true (fld b.payload 0 4)
  run b s :=
    let addr := fld b.payload 0 4
    let s := s.wakeRegister (.session b.session) addr
    done (s.afterRead (.session b.session) addr) (be 4 (s.registerValue (.session b.session) addr))

/-- READ_REG. -/
def execReadReg (b : Barge) (s : State) : Host.Outcome State Fault Refusal := verbStep readRegVerb b s

/-- The DX6100 form of READ_REG. -/
def readRegDx6100Verb : Verb := { readRegVerb with opcode := 0x0A80 }

/-- READ_REG_DX6100. -/
def execReadRegDx6100 (b : Barge) (s : State) : Host.Outcome State Fault Refusal := verbStep readRegDx6100Verb b s

/-- WRITE_REG: one without the right raises IXP_REG_DENIED, of a barge of another slice too; so does one from the normal world
to PWR_GATE of a leased domain raise IXP_GATE_DENIED. -/
def writeRegVerb : Verb where
  opcode := 0x0A02
  world := .normal
  frozenOk := true
  fmt b _ := firstCode [lenIs b 8, wellFormed (registerAddress (fld b.payload 0 4))]
  run b s :=
    let addr := fld b.payload 0 4
    let r : Reader := .session b.session
    if b.slice ≠ 0 then fail (s.denyRegister r true .write addr) stNotAuthorised
    else if !s.mayWrite r true addr then
      fail (if addr = 0x100020 then s.denyGate r true else s.denyRegister r true .write addr) stNotAuthorised
    else done ((s.wakeRegister r addr).writeRegister r addr (BitVec.ofNat 32 (fld b.payload 4 4))) []

/-- WRITE_REG. -/
def execWriteReg (b : Barge) (s : State) : Host.Outcome State Fault Refusal := verbStep writeRegVerb b s

end Sys2Proof.Machine
end

