-- ==== Sys2Proof/Machine/Fabric.lean ====
section
/-! DEFINITION. The fabric: its address map and memories, the three layers that check an access, and what a refusal does (R33,
R184, R392 to R407; log entries 5 and 40). -/

namespace Sys2Proof.Machine

/-! ## The address map (R394) -/

/-- What stands at a fabric address. -/
inductive Place
  | hold
  | mram
  /-- Byte of the vault. -/
  | vault (off : Nat)
  /-- SRAM of a cluster. -/
  | sram (cluster : Nat)
  /-- Byte of a flash copy. -/
  | flash (copy off : Nat)
  /-- Byte of the management registers. -/
  | registers (addr : Nat)
  | rootPath
  | sentinelFile
  | lineKeys
  | keyPorts
  | sessionPort
  | unmapped
  deriving DecidableEq, Repr

/-- The place of an address. -/
def placeOf (a : Nat) : Place :=
  if a < 0x700000000 then .hold
  else if 0x1000000000 ≤ a ∧ a < 0x1001000000 then .mram
  else if 0x1100000000 ≤ a ∧ a < 0x1100800000 then .vault (a - 0x1100000000)
  else if 0x1200000000 ≤ a ∧ a < 0x1202000000 then .sram ((a - 0x1200000000) / 0x400000)
  else if 0x1300000000 ≤ a ∧ a < 0x1308000000 then .flash ((a - 0x1300000000) / 0x4000000) ((a - 0x1300000000) % 0x4000000)
  else if 0x1400000000 ≤ a ∧ a < 0x1400110000 then .registers (a - 0x1400000000)
  else if 0x1500000000 ≤ a ∧ a < 0x1500010000 then .rootPath
  else if 0x1500010000 ≤ a ∧ a < 0x1500020000 then .sentinelFile
  else if 0x1500020000 ≤ a ∧ a < 0x1500030000 then .lineKeys
  else if 0x1500030000 ≤ a ∧ a < 0x1500040000 then .keyPorts
  else if 0x1500040000 ≤ a ∧ a < 0x1500041000 then .sessionPort
  else .unmapped

/-- The region controller before a place; an unmapped address has none. -/
def Place.controller : Place → Option Nat
  | .hold => some 0 | .mram => some 1 | .vault _ => some 2 | .sram n => some (3 + n) | .flash _ _ => some 11
  | .registers _ => some 12 | .rootPath => some 13 | .sentinelFile => some 13 | .lineKeys => some 13
  | .keyPorts => some 13 | .sessionPort => some 13 | .unmapped => none

/-- A sealed place (R395). -/
def Place.sealed : Place → Bool
  | .vault _ => true | .rootPath => true | .sentinelFile => true | .lineKeys => true | .keyPorts => true
  | .hold => false | .mram => false | .sram _ => false | .flash _ _ => false | .registers _ => false
  | .sessionPort => false | .unmapped => false

/-- The power domains that a place stands in, for a reader whose selections count (R394, R506). -/
def State.placeDomains (s : State) (r : Reader) : Place → List Nat
  | .hold => islandDomains 0x09 | .vault _ => islandDomains 0x08 | .sram n => islandDomains (0x0A + n)
  | .mram => islandDomains 0x14 | .flash _ _ => islandDomains 0x14
  | .registers a => blockDomains (a / 65536) (s.channel r (a / 65536))
  | .rootPath => [] | .sentinelFile => [] | .lineKeys => [] | .keyPorts => [] | .sessionPort => islandDomains 0x01
  | .unmapped => []

/-! ## Memory (log entry 5) -/

/-- Does an unlisted byte at an address read 0: hold and cluster SRAM. -/
def plainByte (a : Nat) : Bool := a < 0x700000000 || (0x1200000000 ≤ a && a < 0x1202000000)

/-- Memory as data is in its one form: addresses rise, and no entry equals what an unlisted byte reads as. -/
def Memory.wf (m : Map Byte) : Bool := m.sorted && m.all fun e => !(plainByte e.1 && e.2 == 0)

/-- Write one byte, keeping the form. -/
def Memory.write (m : Map Byte) (a : Nat) (v : Byte) : Map Byte :=
  if plainByte a && v == 0 then m.del a else m.put a v

/-- Read one byte, given the free value of a byte of MRAM or flash that nothing has written. -/
def Memory.read (m : Map Byte) (free : Byte) (a : Nat) : Byte := m.at (if plainByte a then 0 else free) a

/-- Bytes of a slot as the vault window shows them. -/
def windowBytes (x : Slot) : Bytes := fit 112 (slotBytes x) ++ fit 16 x.tag

/-- Bytes of a flash copy: its image, and the boot record at the start of its last 4 KiB sector (R427, R430); none where the layout is not
given. -/
def State.flashByte (s : State) (copy off : Nat) : Option Byte :=
  if off < 0x3FFF000 then ((s.ctr.copy copy).image)[off]? else ((s.ctr.copy copy).record)[off - 0x3FFF000]?

/-- The root path is open during boot, until the charter controller hands over to the keeper (R108). -/
def State.rootPathOpen (s : State) : Bool := !s.ctr.bootDone && !s.ctr.romFault

/-- One byte as an access reads it; the sealed register files have no layout in the spec and read a free value. -/
def State.loadByte (s : State) (r : Reader) (free : Byte) (a : Nat) : Byte :=
  match placeOf a with
  | .hold =>
    (match s.bufferAt a with
     | some (_, _, bs, off) => bs.getD off 0
     | none => Memory.read s.mem free a)
  | .mram => Memory.read s.mem free a
  | .sram _ => Memory.read s.mem free a
  | .vault off => (windowBytes (s.slot (off / 128))).getD (off % 128) 0
  | .flash c off =>
    (match s.flashByte c off with
     | some v => v
     | none => Memory.read s.mem free a)
  | .registers addr => BitVec.ofNat 8 (s.registerValue r (addr / 4 * 4) / 256 ^ (3 - addr % 4))
  | .rootPath => free
  | .sentinelFile => free
  | .lineKeys => free
  | .keyPorts => free
  | .sessionPort => free
  | .unmapped => free

/-- Write one byte of a memory; the vault's integrity engine forms the slot's tag anew (R125). -/
def State.storeByte (s : State) (a : Nat) (v : Byte) : State :=
  match placeOf a with
  | .vault off =>
    let i := off / 128
    let bs := patch (windowBytes (s.slot i)) (off % 128) [v]
    let x := slotOfBytes bs []
    s.setSlot i { x with tag := s.slotTag i x }
  | .flash c off =>
    if 0x3FFF000 ≤ off && off - 0x3FFF000 < (s.ctr.copy c).record.length then
      { s with ctr := s.ctr.setCopy c { s.ctr.copy c with record := patch (s.ctr.copy c).record (off - 0x3FFF000) [v] } }
    else if off < (s.ctr.copy c).image.length then
      { s with ctr := s.ctr.setCopy c { s.ctr.copy c with image := patch (s.ctr.copy c).image off [v] } }
    else { s with mem := Memory.write s.mem a v }
  | .hold =>
    (match s.bufferAt a with
     | some (i, x, bs, off) => s.setBuffer i { x with bytes := some (patch bs off [v]) }
     | none => { s with mem := Memory.write s.mem a v })
  | .mram => { s with mem := Memory.write s.mem a v }
  | .sram _ => { s with mem := Memory.write s.mem a v }
  | .registers _ => s
  | .rootPath => s
  | .sentinelFile => s
  | .lineKeys => s
  | .keyPorts => s
  | .sessionPort => s
  | .unmapped => s

/-- Write bytes from an address on. -/
def State.storeBytes (s : State) (a : Nat) : Bytes → State
  | [] => s
  | v :: vs => (s.storeByte a v).storeBytes (a + 1) vs

/-! ## Registers over the fabric (R394, R410) -/

/-- The register words of a range. -/
def wordsOf (addr len : Nat) : List Nat := (List.range (len / 4)).map fun k => addr + 4 * k

/-- Read a range of registers in address order, with what each read leaves behind. -/
def State.readWords (s : State) (r : Reader) : List Nat → Bytes × State
  | [] => ([], s)
  | a :: as =>
    let v := be 4 (s.registerValue r a)
    let (vs, s) := (s.afterRead r a).readWords r as
    (v ++ vs, s)

/-- Write a range of registers in address order. -/
def State.writeWords (s : State) (r : Reader) (data : Bytes) : List Nat → State
  | [] => s
  | a :: as => (s.writeRegister r a (BitVec.ofNat 32 (fld data 0 4))).writeWords r (data.drop 4) as

/-! ## The three layers (R395 to R403) -/

/-- Who makes an access. -/
structure Master where
  unit : Nat
  normal : Bool
  task : Bool
  /-- Slice and generation of a tagged master. -/
  tag : Option (Nat × W32)
  deriving DecidableEq, Repr

/-- The tag of an access: the slice and generation of the barge that a flight or an engine serves; cores, the wharf, the towpath mirror and
the charter controller carry none (R393). -/
def State.tagOf (s : State) (x : FabricAccess) : Option (Nat × W32) :=
  if x.unit < 64 || 136 ≤ x.unit then none
  else
    match s.flt.barges.find x.barge with
    | some r => some (r.barge.slice, r.barge.generation)
    | none => x.tag

/-- The master of a fabric access. -/
def State.master (s : State) (x : FabricAccess) : Master :=
  { unit := x.unit, normal := !s.unitSecure x.unit, task := x.task && x.unit < 64, tag := s.tagOf x }

/-- A core at kernel privilege. -/
def Master.kernelCore (m : Master) : Bool := m.unit < 64 && !m.task

/-- Permission bit of a kind at a privilege (R184). -/
def permBit (task : Bool) : AccessKind → Nat
  | .read => if task then 3 else 0 | .write => if task then 4 else 1 | .execute => if task then 5 else 2

/-- Does a region grant a master an access. -/
def Region.grants (x : Region) (m : Master) (k : AccessKind) : Bool :=
  x.perms.testBit (permBit m.task k) && (!m.normal || x.normal)

/-- Does an enabled region contain a page. -/
def Region.holds (x : Region) (page : Nat) : Bool := x.enable && x.first ≤ page && page ≤ x.last

/-- The deciding region of a unit for a page. -/
def State.decidingRegion (s : State) (unit page : Nat) : Option Nat :=
  (List.range 32).find? fun i => (s.region unit i).holds page

/-- The deciding fall-back entry for a page and a world: the lowest-numbered. -/
def State.decidingEntry (s : State) (normal : Bool) (page : Nat) : Option Nat :=
  (s.ixp.fallback.find? fun e => e.2.holds page && e.2.normal == normal).map (·.1)

/-- What a layer says of a byte: allowed, or the layer, cause, table and index that refuse it; the index is none where
nothing decided. -/
abbrev Verdict := Option (Nat × Nat × Nat × Option Nat)

/-- Layers 1 and 2 for a page. -/
def State.unitVerdict (s : State) (m : Master) (k : AccessKind) (page : Nat) : Verdict :=
  match s.decidingRegion m.unit page with
  | some i => if (s.region m.unit i).grants m k then none else some (1, 0, 0, some i)
  | none =>
    match s.decidingEntry m.normal page with
    | some i => if (s.fallback i).grants m k then none else some (2, 0, 1, some i)
    | none => some (2, 1, 1, none)

/-- May a master reach a hold page by its owner record (R402). -/
def ownerAllows (m : Master) (rec : Nat) : Bool :=
  let kind := rec / 2 ^ 14 % 4
  if m.normal then kind == 2
  else
    match m.tag with
    | some (slice, _) => (kind == 3 && rec % 4096 == slice) || (kind == 1 && rec.testBit 13)
    | none => kind != 0

/-- The region controller of a byte: none, or the cause of its refusal. -/
def State.controllerCause (s : State) (m : Master) (k : AccessKind) (a : Nat) : Option Nat :=
  let late : Bool := match m.tag with
    | some (slice, gen) => k == .write && (s.slice slice).generation != gen
    | none => false
  let permit (ok : Bool) : Option Nat := if ok then none else some 0
  let unlockIf (ok : Bool) : Option Nat := if ok then none else some 4
  if late then some 3
  else
    match placeOf a with
    | .hold => if ownerAllows m (s.ownerOf (a / 4096)) then none else some 2
    | .mram => permit (!m.normal && m.tag.isNone)
    | .vault _ => unlockIf (m.kernelCore && !m.normal && k != .execute && s.vlt.unlocked)
    | .sram n => permit (if m.normal then !s.secureClusters.testBit n else true)
    | .flash _ _ =>
      (match k with
       | .read => permit m.tag.isNone
       | .write => permit (m.unit == 139)
       | .execute => permit false)
    | .registers addr =>
      (match k with
       | .read => permit (m.unit < 64 && s.mayRead (.core m.unit) (!m.task) (addr / 4 * 4))
       | .write => permit (m.unit < 64 && s.mayWrite (.core m.unit) (!m.task) (addr / 4 * 4))
       | .execute => permit false)
    | .rootPath => unlockIf (m.unit == 139 && s.rootPathOpen && k != .execute)
    | .sentinelFile => unlockIf (m.unit == 139 && k != .execute)
    | .lineKeys => unlockIf false
    | .keyPorts => unlockIf false
    | .sessionPort => permit (m.kernelCore && k == .write)
    | .unmapped => some 5

/-- All three layers for a byte; a sealed place is its controller's alone. -/
def State.verdict (s : State) (m : Master) (k : AccessKind) (a : Nat) : Verdict :=
  let third : Verdict := (s.controllerCause m k a).map fun c => (3, c, 2, (placeOf a).controller)
  if (placeOf a).sealed then third
  else if !s.engineAllows m.unit k a then some (1, 0, 0, none)
  else
    match s.unitVerdict m k (a / 4096) with
    | some v => some v
    | none => third

/-- The first forbidden byte of a range and what refuses it. -/
def State.firstForbidden (s : State) (m : Master) (k : AccessKind) (a len : Nat) : Option (Nat × (Nat × Nat × Nat × Option Nat)) :=
  (List.range len).findSome? fun i => (s.verdict m k (a + i)).map fun v => (a + i, v)

/-- Does an access look in the fall-back table: a byte of it has no deciding region. -/
def State.looksUp (s : State) (m : Master) (a len : Nat) : Bool :=
  [a, a + len - 1].any fun b => !(placeOf b).sealed && (s.decidingRegion m.unit (b / 4096)).isNone

/-! ## Refusals (R406, R407) -/

/-- Report a refusal; the index is free where no region, entry or controller decided. -/
def State.reportRefusal (s : State) (m : Master) (x : FabricAccess) (addr : Nat)
    (v : Nat × Nat × Nat × Option Nat) : State :=
  let (index, s) := match v.2.2.2 with
    | some i => (i, s)
    | none => s.freeNat
  let rep : Refused :=
    { unit := m.unit, normal := m.normal, task := m.task, layer := v.1, kind := x.kind, cause := v.2.1, length := x.length,
      table := v.2.2.1, index := index, address := addr, slice := match m.tag with
        | some (slice, _) => slice
        | none => 0xFFFF }
  s.violation rep

/-- The job of a flight or engine ends with FAULT_DETECTED; this counts in no escalation window. -/
def State.endRefused (s : State) (n : Nat) : State :=
  match s.flt.barges.find n with
  | none => s
  | some r =>
    if r.job.isSome then s.endJob n stFault
    else s.modBarge n fun r => { r with reply := some ⟨stFault, []⟩ }

/-- What a refusal does to its master: of the towpath mirror, the segment being written is not acknowledged. -/
def State.refusedMaster (s : State) (m : Master) (x : FabricAccess) (layer cause : Nat) : State :=
  if m.unit < 64 then
    let s := if layer = 3 ∧ x.kind = .write ∧ (placeOf x.address).controller = some 12 then s.dropWrite else s
    (s.exceptionAt m.unit 1).emit (.access m.unit false [])
  else if m.unit < 136 then
    if cause = 3 then (s.endJob x.barge stFault).discharge x.barge else s.endRefused x.barge
  else if m.unit = 136 then
    let (c, s) := s.freeNat
    s.dropFrame (c % 2)
  else if m.unit = 137 then s.dropFrame 2
  else if m.unit = 138 then { s with tow := { s.tow with mirrorRefused := true } }
  else s

/-- Refuse an access as a whole: no byte is read or written. -/
def State.refuseAccess (s : State) (m : Master) (x : FabricAccess) (f : Nat × (Nat × Nat × Nat × Option Nat)) : State :=
  let cause := f.2.2.1
  let d := s.channel (.core m.unit) 16
  let gate : Bool := f.2.1 == 3 && x.kind == .write && m.normal && m.unit < 64 && (f.1 - registerBase) / 4 == 0x40008 &&
    registerBase ≤ f.1
  let s := if gate && d < 32 && s.leased d then s.raise 323 d 0xFFFF 0 0 else s
  let s := if cause = 3 then s else s.reportRefusal m x f.1 f.2
  s.refusedMaster m x f.2.1 cause

/-! ## The access -/

/-- A length that its master can issue: cores up to 64 bytes; a transfer of a hardware master is split into accesses of up to 256. -/
def accessFits (x : FabricAccess) : Bool :=
  1 ≤ x.length && (64 ≤ x.unit || x.length ≤ 64) && x.unit ≤ 139 &&
    x.address + x.length ≤ 2 ^ 40 && (x.kind != .write || x.data.length == x.length)

/-- Is a range of registers a whole number of words. -/
def registerShape (addr len : Nat) : Bool := addr % 4 == 0 && len % 4 == 0 && 0x10000 ≤ addr && addr + len ≤ 0x110000

/-- Wake what is down of the places an access touches (R33). -/
def State.wakePlaces (s : State) (r : Reader) (a len : Nat) : State :=
  ([a, a + len - 1].flatMap fun b => s.placeDomains r (placeOf b)).foldl State.wakeDomain s

/-- Carry out an allowed access. -/
def State.performAccess (s : State) (x : FabricAccess) : State :=
  let r : Reader := .core x.unit
  let s := s.wakePlaces r x.address x.length
  match placeOf x.address with
  | .registers addr =>
    let words := wordsOf addr x.length
    (match x.kind with
     | .write => (s.writeWords r x.data words).emit (.access x.unit true [])
     | .read =>
       let (bs, s) := s.readWords r words
       s.emit (.access x.unit true bs)
     | .execute => s)
  | _ =>
    match x.kind with
    | .write => (s.storeBytes x.address x.data).emit (.access x.unit true [])
    | _ =>
      let (free, s) := s.freeBytes x.length
      let bs := (List.range x.length).map fun i => s.loadByte r (free.getD i 0) (x.address + i)
      s.emit (.access x.unit true bs)

/-- Does an access of the right length reach the register space in another shape than whole words: the register controller
refuses it (log entry 40). -/
def misshapen (x : FabricAccess) : Bool :=
  match placeOf x.address with
  | .registers addr => !registerShape addr x.length
  | _ => false

/-- Count an access that the fall-back table decides (R400, R492). -/
def State.countLookup (s : State) (m : Master) (x : FabricAccess) : State :=
  if s.looksUp m x.address x.length then
    let s := { s with ixp := { s.ixp with misses := s.ixp.misses.put m.unit (sat 65535 (s.ixp.misses.at 0 m.unit + 1)) } }
    if m.unit < 64 then s.countSite 11 m.unit 514 1 else s
  else s

/-- Check one access of at most 256 bytes and carry it out or refuse it; false where it is refused. -/
def State.accessOnce (s : State) (x : FabricAccess) : State × Bool :=
  let m := s.master x
  let s := s.countLookup m x
  match s.firstForbidden m x.kind x.address x.length with
  | some f => (s.refuseAccess m x f, false)
  | none =>
    if misshapen x then (s.refuseAccess m x (x.address, 3, 0, 2, some 12), false)
    else (s.performAccess x, true)

/-- The accesses of up to 256 bytes that a transfer is split into (R404). -/
def accessParts (x : FabricAccess) : List FabricAccess :=
  (List.range ((x.length + 255) / 256)).map fun i =>
    { x with address := x.address + 256 * i, length := min 256 (x.length - 256 * i), data := sl x.data (256 * i) 256 }

/-- The accesses of a transfer, one after another, up to the first refused. -/
def State.accessAll (s : State) : List FabricAccess → State
  | [] => s
  | x :: xs =>
    let (s, ok) := s.accessOnce x
    if ok then s.accessAll xs else s

/-- An access or a transfer: a write of an engine, the wharf DMA, the towpath mirror or the charter controller is checked over its whole
range before its first access, and a refusal leaves all of it unwritten (R404, R405). -/
def State.access (s0 : State) (x : FabricAccess) : State :=
  let s := if x.unit < 64 then s0.setCore x.unit { s0.core x.unit with kernel := !x.task } else s0
  let m := s.master x
  if x.kind = .write ∧ 96 ≤ x.unit then
    match (accessParts x).find? fun p => (s.firstForbidden m p.kind p.address p.length).isSome with
    | some p => (s.accessOnce p).1
    | none => s.accessAll (accessParts x)
  else s.accessAll (accessParts x)

/-- FABRIC_ACCESS: one that no master can issue does nothing; the debug port's accesses are those of the DBG verbs. -/
def execFabricAccess (x : FabricAccess) (s : State) : Host.Outcome State Fault Refusal :=
  if accessFits x then .next (s.access x) else .next s

end Sys2Proof.Machine
end

