-- ==== Sys2Proof/Machine/Debug.lean ====
section
/-! DEFINITION. The debug access port: DBG_READ, DBG_WRITE and DBG_CORE (R395, R446, R449, R450; log entry 40). -/

namespace Sys2Proof.Machine

/-! ## Grants (R446, R449) -/

/-- The secure enable stands: it grants both worlds. -/
def State.dbgSecureOn (s : State) : Bool := s.ctr.dbgSecure.isSome

/-- The normal world is enabled. -/
def State.dbgNormalOn (s : State) : Bool := s.ctr.dbgNormal.isSome || s.dbgSecureOn

/-- A right of the certificate in force. -/
def State.dbgRight (s : State) (i : Nat) : Bool := s.dbgNormalOn && s.ctr.dbgRights.testBit i

/-- Is a world enabled. -/
def State.dbgWorld (s : State) (secure : Bool) : Bool := if secure then s.dbgSecureOn else s.dbgNormalOn

/-- May the port read, or write, a byte of a locked region. -/
def State.dbgGrants (s : State) (write : Bool) (a : Nat) : Bool :=
  let port : Reader := .core portUnit
  match placeOf a with
  | .sram n => s.dbgRight (if write then 1 else 0) && s.dbgWorld (s.secureClusters.testBit n)
  | .hold =>
    let kind := s.ownerOf (a / 4096) / 2 ^ 14 % 4
    (kind == 2 && s.dbgRight (if write then 3 else 2)) ||
      (kind == 1 && s.dbgSecureOn && s.dbgRight (if write then 3 else 2)) ||
      (kind == 3 && s.dbgSecureOn && !write && s.dbgRight 4)
  | .mram => !write && s.dbgSecureOn && s.dbgRight 5
  | .flash _ _ => !write && s.dbgRight 6
  | .registers addr =>
    a % 4 == addr % 4 && 0x10000 ≤ addr &&
      if write then s.dbgRight 8 && s.mayWrite port true (addr / 4 * 4)
      else s.dbgRight 7 && s.mayRead port true (addr / 4 * 4)
  | .vault _ => false
  | .rootPath => false
  | .sentinelFile => false
  | .lineKeys => false
  | .keyPorts => false
  | .sessionPort => false
  | .unmapped => false

/-- What the port makes of a 4-byte access: a sealed byte, or one without a grant, refuses it. An access to registers is one
to an aligned word. -/
inductive PortAnswer
  | granted | sealed | denied
  deriving DecidableEq, Repr

/-- The decision for one 4-byte access. -/
def State.portDecides (s : State) (write : Bool) (a : Nat) : PortAnswer :=
  let bytes := (List.range 4).map (a + ·)
  let isRegister (b : Nat) : Bool := match placeOf b with
    | .registers _ => true
    | _ => false
  if bytes.any fun b => (placeOf b).sealed then .sealed
  else if bytes.all (s.dbgGrants write) && (a % 4 == 0 || !bytes.any isRegister) then .granted
  else .denied

/-- A refused access raises its event. -/
def State.portRefuses (s : State) : PortAnswer → State
  | .granted => s
  | .sealed => s.raise 421 noInst 0xFFFF 0 0
  | .denied => s.raise 422 noInst 0xFFFF 0 0

/-! ## DBG_READ and DBG_WRITE (R450) -/

/-- One 4-byte read. -/
def State.portRead (s : State) (a : Nat) : Bytes × State :=
  let s := s.wakePlaces (.core portUnit) a 4
  match placeOf a with
  | .registers addr =>
    let v := be 4 (s.registerValue (.core portUnit) addr)
    (v, s.afterRead (.core portUnit) addr)
  | _ =>
    let (free, s) := s.freeBytes 4
    ((List.range 4).map fun i => s.loadByte (.core portUnit) (free.getD i 0) (a + i), s)

/-- Reads in address order: the data, and whether every one was granted. -/
def State.portReads (s : State) (a : Nat) : Nat → Bytes × Bool × State
  | 0 => ([], true, s)
  | n + 1 =>
    match s.portDecides false a with
    | .granted =>
      let (v, s) := s.portRead a
      let (vs, ok, s) := s.portReads (a + 4) n
      (v ++ vs, ok, s)
    | d =>
      let (vs, _, s) := (s.portRefuses d).portReads (a + 4) n
      (be 4 0xA5A5A5A5 ++ vs, false, s)

/-- One 4-byte write. -/
def State.portWrite (s : State) (a : Nat) (data : Bytes) : State :=
  let s := s.wakePlaces (.core portUnit) a 4
  match placeOf a with
  | .registers addr => s.writeRegister (.core portUnit) addr (BitVec.ofNat 32 (fld data 0 4))
  | _ => s.storeBytes a data

/-- Writes in address order. -/
def State.portWrites (s : State) (a : Nat) (data : Bytes) : Nat → Bool × State
  | 0 => (true, s)
  | n + 1 =>
    match s.portDecides true a with
    | .granted => (s.portWrite a (sl data 0 4)).portWrites (a + 4) (data.drop 4) n
    | d => (false, ((s.portRefuses d).portWrites (a + 4) (data.drop 4) n).2)

/-- A length of the port's verbs. -/
def portLength (n : Nat) : Option W16 := wellFormed (n % 4 == 0 && n ≤ 3584)

/-- DBG_READ: the response carries all the data, refused words as 0xA5A5_A5A5. -/
def dbgReadVerb : Verb where
  opcode := 0x0833
  maxReply := 3584
  fmt b _ := firstCode [lenIs b 12, portLength (fld b.payload 8 4)]
  sender := slice0
  run b s :=
    let (data, ok, s) := s.portReads (fld b.payload 0 8) (fld b.payload 8 4 / 4)
    if ok then done s data else refuse s stAccess data

/-- DBG_READ. -/
def execDbgRead (b : Barge) (s : State) : Host.Outcome State Fault Refusal := verbStep dbgReadVerb b s

/-- DBG_WRITE: a refused word is dropped, the others are written. -/
def dbgWriteVerb : Verb where
  opcode := 0x0834
  fmt b _ := firstCode [portLength (fld b.payload 8 4), lenIs b (12 + fld b.payload 8 4)]
  sender := slice0
  run b s :=
    let (ok, s) := s.portWrites (fld b.payload 0 8) (b.payload.drop 12) (fld b.payload 8 4 / 4)
    if ok then done s [] else fail s stAccess

/-- DBG_WRITE. -/
def execDbgWrite (b : Barge) (s : State) : Host.Outcome State Fault Refusal := verbStep dbgWriteVerb b s

/-! ## DBG_CORE (R450) -/

/-- Register words that a running core has come to, which the spec leaves to the core's own instructions: free values. -/
def State.freeWords (s : State) : Map W32 × State :=
  let (bs, s) := s.freeBytes 256
  ((List.range 64).map fun i => (i, BitVec.ofNat 32 (fld bs (4 * i) 4)), s)

/-- HEALTH_OUT is held low while a secure-world core is halted; the watchdog counts anew once none is. -/
def State.healthAfterHalt (s : State) (was : Bool) : State :=
  if s.secureHalted then { s with cor := { s.cor with healthOut := false } }
  else if was then
    { s with cor := { s.cor with
        healthOut := s.pwr.started && !s.cor.restarting, keeperDog := { s.cor.keeperDog with kicked := s.now } } }
  else s

/-- Halt, resume, step or read a core that the port may act on; a step of a running core does nothing. -/
def State.dbgCore (s : State) (n action : Nat) : Effect :=
  let was := s.secureHalted
  let x := s.core n
  if action = 1 then
    if x.halted then done s []
    else
      let (ws, s) := s.freeWords
      done ((s.setCore n { x with halted := true, words := ws }).healthAfterHalt was) []
  else if action = 2 then done ((s.setCore n { x with halted := false, words := [] }).healthAfterHalt was) []
  else if action = 3 then
    if x.halted then
      let (ws, s) := s.freeWords
      done (s.setCore n { x with words := ws }) []
    else done s []
  else if x.halted then done s ((List.range 64).flatMap fun i => be 4 (x.words.at 0 i).toNat)
  else
    let (ws, s) := s.freeWords
    done s ((List.range 64).flatMap fun i => be 4 (Map.at ws 0 i).toNat)

/-- DBG_CORE. -/
def dbgCoreVerb : Verb where
  opcode := 0x0835
  maxReply := 256
  fmt b s := firstCode
    [lenIs b 4, wellFormed (fld b.payload 0 1 < 64 && 1 ≤ fld b.payload 1 1 && fld b.payload 1 1 ≤ 4), reserved b s 2 2]
  sender := slice0
  run b s :=
    let n := fld b.payload 0 1
    if s.dbgRight 9 && s.dbgWorld (s.coreSecure n) then s.dbgCore n (fld b.payload 1 1)
    else fail (s.portRefuses .denied) stAccess

/-- DBG_CORE. -/
def execDbgCore (b : Barge) (s : State) : Host.Outcome State Fault Refusal := verbStep dbgCoreVerb b s

end Sys2Proof.Machine
end

