-- ==== Sys2Proof/Machine/Ballots.lean ====
section
/-! DEFINITION. BALLOT_PROPOSE and BALLOT_EXECUTE, and the table of every verb (R88, R90 to R96, R269, R351; log entry 41). -/

namespace Sys2Proof.Machine

/-! ## The inner request -/

/-- The inner barge of a proposal or an execution: the verbs of family 0x05 and KEY_COMPONENT act for the target slice. -/
def innerBarge (s : State) (b : Barge) (opcode target : Nat) (payload : Bytes) : Barge :=
  let b : Barge := { b with opcode := opcode, payload := payload }
  if opcode = 0x0303 ∨ family opcode = 5 then { b with slice := target, generation := (s.slice target).generation } else b

/-- The slice that an inner payload of a family 0x02 slice verb names: SLICE_BIND in bytes 4 and 5, the others in their first two
(R97, R99). -/
def innerTarget (opcode : Nat) (payload : Bytes) : Option Nat :=
  if sliceOpcode opcode then some (fld payload (if opcode = 0x0222 then 4 else 0) 2 % 4096) else none

/-- Is the target of a proposal one that its inner verb can have: its own slice for a slice verb, any slice for KEY_COMPONENT and
family 0x05, 0 for the others (R90, R96). -/
def targetFits (opcode target : Nat) (digest : Bool) (payload : Bytes) : Bool :=
  match bindsOf opcode with
  | .slice =>
    (match innerTarget opcode payload with
     | some t => digest || t == target
     | none => true)
  | _ => target == 0

/-- The role of a digest-bound act whose payload decides it: the payload is not seen until execution, so the first chunk of a save or a
restore and a zone key exchange are taken for what a ballot carries (R90, R96, R268; log entry 41). -/
def digestRole (opcode : Nat) : Option Nat :=
  if opcode = 0x0227 || opcode = 0x0228 then some 1
  else if [0x0540, 0x0541, 0x0590, 0x0591].contains opcode then some 3 else none

/-- The dual-controlled verb of an inner opcode with its role. -/
def dualControlled (s : State) (b : Barge) (opcode : Nat) (digest : Bool) : Option (Verb × Nat) :=
  (baseVerb opcode).bind fun v =>
    ((if digest then digestRole opcode else none).orElse fun _ => v.role b s).map fun r => (v, r)

/-- Verbs of family 0x07 that act on the module alone (R351). -/
def aloneOpcodes : List Nat := [0x0704, 0x0705, 0x0710]

/-- May a module that does not serve propose an inner verb. -/
def localInner (opcode : Nat) : Bool := family opcode == 8 || family opcode == 9 || aloneOpcodes.contains opcode

/-! ## BALLOT_PROPOSE -/

/-- Fields of a proposal. -/
structure Proposal where
  opcode : Nat
  target : Nat
  length : Nat
  digest : Bool
  inner : Bytes

/-- The proposal of a payload. -/
def proposalOf (p : Bytes) : Proposal :=
  { opcode := fld p 0 2, target := fld p 2 2 % 4096, length := fld p 4 2, digest := fld p 6 1 % 2 == 1, inner := p.drop 8 }

/-- The inner barge of a proposal. -/
def Proposal.barge (x : Proposal) (s : State) (b : Barge) : Barge := innerBarge s b x.opcode x.target x.inner

/-- Format of the proposal and of its inner request, then their version checks, then NOT_PRIMARY where a module that does not serve
takes no such ballot, in the order of R22; the format of a digest-bound payload is checked at execution. -/
def proposeFormat (b : Barge) (s : State) : Option W16 :=
  let x := proposalOf b.payload
  let ib := x.barge s b
  firstCode
    [wellFormed (8 ≤ b.payload.length),
     wellFormed (if x.digest then x.inner.length == 48 && 1 ≤ x.length && x.length ≤ 8192
                 else x.inner.length == x.length && x.length ≤ 3072),
     reservedBits b s 2 2 15 12, reservedBits b s 6 1 7 1, reserved b s 7 1,
     wellFormed (dualControlled s ib x.opcode x.digest).isSome,
     wellFormed (targetFits x.opcode x.target x.digest x.inner),
     match baseVerb x.opcode with
     | some v => if x.digest then none else v.fmt ib s
     | none => none,
     (firstFail [darkFail b.opcode s, lockedFail b s, darkFail x.opcode s, lockedFail ib s,
       must (s.tow.pair.serves || localInner x.opcode) stNotPrimary]).map fun r => r.status]

/-- The state that a proposal needs while custody is UNESTABLISHED (R88). -/
def proposeState (b : Barge) (s : State) : Option Reply :=
  if !s.cus.established && (proposalOf b.payload).opcode != 0x0206 then some (mismatchReply 2 0 2) else none

/-- Ballots OPEN or ARMED. -/
def State.liveBallots (s : State) : Nat := (s.cus.ballots.filter fun e => !e.2.state.terminal).length

/-- The next ballot ID: bit 63 marks one of a module that does not serve, bits 47 to 0 count, and bits 62 to 48 keep the IDs of the
domain's pairs, and of their modules' local ballots, apart: how they are kept apart is open (R90; log entry 47). -/
def State.nextBallot (s : State) : Nat :=
  let serves := s.tow.pair.serves
  (s.cus.ballotCount + 1) % 2 ^ 48 + 2 ^ 48 * (Config.ballotSpace serves (if serves then s.tow.pairId else s.ctr.moduleId)).toNat +
    if serves then 0 else 2 ^ 63

/-- The ballot digest (R91). -/
def State.ballotDigest (s : State) (id : Nat) (x : Proposal) (generation : W32) : Bytes :=
  let d := if x.digest then x.inner else Config.sha384 x.inner
  fit 48 (Config.sha384 (ascii "DX8300 ballot" ++ be 8 s.vlt.domainId.toNat ++ be 8 s.ctr.moduleId.toNat ++ be 8 id ++
    be 2 x.opcode ++ be 2 x.target ++ be 4 generation.toNat ++ be 1 (bit01 x.digest) ++ be 2 x.length ++ d))

/-- May the proposing slice send the inner request. Of a digest-bound payload only the target slice is seen, so the anchor that
ANCHOR_REMOVE names is judged at execution (R90, R96, R98; log entry 41). -/
def Proposal.mayAct (x : Proposal) (v : Verb) (ib : Barge) (s : State) : Bool :=
  if !x.digest then v.sender ib s
  else if x.opcode = 0x0231 then ib.slice == 0
  else v.sender { ib with payload := zeros (if x.opcode = 0x0222 then 4 else 0) ++ be 2 x.target ++ zeros 4 } s

/-- The work of BALLOT_PROPOSE. -/
def State.propose (s : State) (b : Barge) : Effect :=
  let x := proposalOf b.payload
  let ib := x.barge s b
  match dualControlled s ib x.opcode x.digest with
  | none => fail s stBadFormat
  | some (v, role) =>
    if !x.mayAct v ib s then fail s stNotAuthorised
    else
      if 256 ≤ s.liveBallots then fail s stClassFull
      else
        let id := s.nextBallot
        let gen := s.bound x.opcode x.target
        let bd := s.ballotDigest id x gen
        let y : Ballot :=
          { opcode := x.opcode, target := x.target, generation := gen, pflags := bit01 x.digest, length := x.length,
            payload := x.inner, bd := bd, role := role, m := s.quorum role, window := s.window role, state := .open_,
            proposer := b.session, expires := s.now + 3600000000000, isLocal := !s.tow.pair.serves,
            acts := (s.slice x.target).acts }
        let s := { s with cus := { s.cus with ballotCount := s.cus.ballotCount + 1 } }
        doneWith (s.setBallot id y)
          (be 8 id ++ bd ++ be 4 gen.toNat ++ be 1 role ++ be 1 y.m ++ be 2 y.window) [.ballot id false]

/-- BALLOT_PROPOSE. -/
def ballotProposeVerb : Verb where
  opcode := 0x0210
  maxReply := 64
  changing := true
  anyPair := true
  recovery b := b.slice == 0
  sender b _ := b.slice == 0
  fmt := proposeFormat
  state := proposeState
  run b s := s.propose b

/-- BALLOT_PROPOSE. -/
def execBallotPropose (b : Barge) (s : State) : Host.Outcome State Fault Refusal := verbStep ballotProposeVerb b s

/-! ## BALLOT_EXECUTE -/

/-- The ballot a payload names. -/
def namedBallot (b : Barge) (s : State) : Option (Nat × Ballot) :=
  let id := fld b.payload 0 8
  (s.ballot id).map fun x => (id, x)

/-- The inner barge of an execution: the ballot's payload, or the one presented. It keeps the opcode BALLOT_EXECUTE, under which
a response that comes later goes out. -/
def executedBarge (b : Barge) (s : State) (x : Ballot) : Barge :=
  let p := if x.pflags % 2 = 1 then sl b.payload 12 (fld b.payload 8 2) else x.payload
  { innerBarge s b x.opcode x.target p with opcode := b.opcode }

/-- Format: a presented payload is padded to a multiple of 4, an inline ballot is executed with nothing following, and the response
must fit the session's limit. -/
def executeFormat (b : Barge) (s : State) : Option W16 :=
  let n := fld b.payload 8 2
  firstCode
    [wellFormed (12 ≤ b.payload.length), lenIs b (12 + padded n), reserved b s 10 2,
     match namedBallot b s with
     | some (_, x) =>
       (match baseVerb x.opcode with
        | some v =>
          firstCode [wellFormed (x.pflags % 2 = 1 ∨ n = 0),
            (sizeFail { v with maxReply := 16 + v.maxReply } b s).map fun r => r.status]
        | none => none)
     | none => none]

/-- Does running the ballot destroy only: the inner verb changes no key, or destroys (R360). -/
def executeDestroys (b : Barge) (s : State) : Bool :=
  match namedBallot b s with
  | none => true
  | some (_, x) =>
    match baseVerb x.opcode with
    | some v => !v.changing || v.destructive (executedBarge b s x) s
    | none => true

/-- The checks of an inner verb at step 4, as if it had arrived directly, but for its role and its target's state. -/
def innerGate (v : Verb) (b : Barge) (s : State) : Option Reply :=
  firstFail
    [(v.fmt b s).map fun c => ⟨c, []⟩, darkFail v.opcode s, lockedFail { b with opcode := v.opcode } s, primaryFail v s, modeFail v b s,
     if !s.cus.established && v.opcode != 0x0206 then some (mismatchReply 2 0 2) else none,
     must (v.sender b s) stNotAuthorised, frozenFail v b s, soloFail v b s]

/-- Bytes that a DONE of a ballot carries before the inner response, once it has run. -/
def State.ranReply (s : State) (id : Nat) : Bytes :=
  match s.ballot id with
  | some x => ballotReply id x s.cus.custodians s.now
  | none => be 8 id ++ be 1 2 ++ zeros 7

/-- A response that comes later carries the ballot's bytes first. -/
def State.headWaiters (s : State) (x : Ballot) (head : Bytes) : State :=
  let top (w : Waiter) : Waiter := { w with head := head }
  if x.opcode = 0x0802 then
    { s with ctr := { s.ctr with writing := s.ctr.writing.map fun w => { w with answer := w.answer.map top } } }
  else if x.opcode = 0x0703 then { s with tow := { s.tow with switchAnswer := s.tow.switchAnswer.map top } }
  else
    let y := s.slice x.target
    s.setSlice x.target { y with drain := y.drain.map fun d => { d with answer := d.answer.map top } }

/-- Step 4: the inner verb has run. -/
def finishBallot (s0 : State) (id : Nat) (x : Ballot) (e : Effect) : Effect :=
  let s := if (e.st.ballot id).isSome then e.st.ballotRan id x else e.st
  let ran : List Touch := if bindsOf x.opcode = .slice then [.ballot id true, .slice x.target true] else [.ballot id true]
  let head := s.ranReply id
  if e.later then { e with st := ((s.headWaiters x head).mirror s0 ran) }
  else if e.reply.status = stDone then
    { st := s, reply := ⟨stDone, head ++ e.reply.payload⟩, touch := e.touch ++ ran }
  else { st := s, reply := e.reply, touch := e.touch ++ ran }

/-- The work of BALLOT_EXECUTE on an ARMED ballot, steps 1 to 4 of R93. -/
def State.executeBallot (s : State) (b : Barge) (id : Nat) (x : Ballot) (v : Verb) : Effect :=
  let p := sl b.payload 12 (fld b.payload 8 2)
  let ib := executedBarge b s x
  let gen := s.bound x.opcode x.target
  if x.pflags % 2 = 1 ∧ ¬(p.length = x.length ∧ fit 48 (Config.sha384 p) = fit 48 x.payload) then fail s stBadFormat
  else if gen ≠ x.generation ∨ (bindsOf x.opcode = .slice ∧ (s.slice x.target).acts ≠ x.acts) then
    { st := s.endBallot id x .void, reply := ⟨stBallotStale, be 4 gen.toNat⟩, touch := [.ballot id true] }
  else
    match v.state ib s, (if x.opcode = 0x0206 then s.roleBelow else none) with
    | some r, _ => { st := s, reply := r }
    | none, some role => { st := s, reply := roleReply stQuorumUnreachable role }
    | none, none =>
      finishBallot s id x (match firstFail [must (targetFits x.opcode x.target false ib.payload) stBadFormat, innerGate v ib s] with
        | some r => { st := s, reply := r }
        | none => v.workFrom ib 111 s)

/-- BALLOT_EXECUTE. -/
def ballotExecuteVerb : Verb where
  opcode := 0x0212
  maxReply := 16
  changing := true
  destructive := executeDestroys
  anyPair := true
  recovery b := b.slice == 0
  sender b _ := b.slice == 0
  fmt := executeFormat
  state b s := ballotState 2 b s
  run b s :=
    match namedBallot b s with
    | none => fail s stHandle
    | some (id, x) =>
      match baseVerb x.opcode with
      | some v => s.executeBallot b id x v
      | none => fail s stBadFormat

/-- BALLOT_EXECUTE. -/
def execBallotExecute (b : Barge) (s : State) : Host.Outcome State Fault Refusal := verbStep ballotExecuteVerb b s

/-! ## Every verb -/

/-- The register, ballot and debug port verbs. -/
def portVerbs : List Verb :=
  [ballotProposeVerb, ballotExecuteVerb, dbgReadVerb, dbgWriteVerb, dbgCoreVerb, readRegVerb, writeRegVerb, readRegDx6100Verb]

/-- The verb of an opcode (R19). -/
def verbOf (opcode : Nat) : Option Verb :=
  match portVerbs.find? fun v => v.opcode == opcode with
  | some v => some v
  | none => baseVerb opcode

end Sys2Proof.Machine
end

