-- ==== Sys2Proof/Machine/Admission.lean ====
section
/-! DEFINITION. The requests of host sessions and forwarded barges, admission by the lock keeper, the taking of a flight context,
and what moves a flight in and out of service (R66, R67, R71, R72, R79, R149 to R153, R161 to R166, R168, R170, R171, R218, R377,
R378; log entry 38). -/

namespace Sys2Proof.Machine

/-! ## The C0 conditions (R168, R170) -/

/-- Keep the judgement of R170 up to date. -/
def State.judge (s : State) (n : Nat) : State :=
  s.modBarge n fun r => { r with onTime := r.onTime && s.c0Holds r }

/-! ## Admission (R161) -/

/-- Count a CLASS_FULL of a class. -/
def State.countFull (s : State) (cls slice : Nat) : State :=
  (s.modClass cls fun c => { c with full := c.full + 1 }).raise 33 cls slice stClassFull.toNat 0

/-- End a barge that was never admitted. -/
def State.refuseBarge (s : State) (n : Nat) (c : W16) : State := s.endBarge n ⟨c, []⟩

/-- Check 2: a class that its slice, program or payload does not have. -/
def State.ineligible (s : State) (b : Barge) (group : Nat) : Bool :=
  (b.cls ≤ 1 && (s.classRight (b.slice, group, b.cls)).isNone) ||
    (b.cls == 0 && (((s.programs s.cht.bank).terms b.opcode).isNone || 512 < b.payload.length))

/-- What a reservation grants a barge with a charge: its class with a draw on the bucket, class 2 by overflow, or nothing. -/
def State.grant (s : State) (b : Barge) (group charge : Nat) : Option (Nat × Bool) :=
  if 1 < b.cls then some (b.cls, false)
  else
    match s.classRight (b.slice, group, b.cls) with
    | none => none
    | some v =>
      if 1000000 * charge ≤ s.bucketLevel (b.slice, group, b.cls) v then some (b.cls, true)
      else if v.overflow then some (2, false) else none

/-- Is a barge firmware-assisted: its opcode has no lock program, or a world serves it (R36, R155). -/
def State.assists (s : State) (r : BargeRec) (v : Verb) : Bool :=
  v.world != .flight || ((s.programs r.bank).group r.barge.opcode).isNone

/-- May the lock program of a family 0x04 to 0x06 barge raise an exception to the secure world: one that FW_ASSIST marks, or a default
one that is not C0-eligible (R36, R156, R157; log entry 29). -/
def State.mayRaise (s : State) (r : BargeRec) : Bool :=
  4 ≤ family r.barge.opcode && family r.barge.opcode ≤ 6 &&
    match s.recordFor r with
    | some rec => fwAssist rec
    | none => !defaultC0.contains r.barge.opcode

/-- May a barge leave its flight for a core queue. -/
def State.mayLeave (s : State) (r : BargeRec) : Bool :=
  s.mayRaise r || match verbOf r.barge.opcode with
    | some v => s.assists r v
    | none => false

/-- Admit a barge as a class into a flight's pound. -/
def State.admitBarge (s : State) (n : Nat) (r : BargeRec) (group charge cls flight : Nat) (drawn : Bool) : State :=
  let b := r.barge
  let k := (b.slice, group, b.cls)
  let s := match s.classRight k with
    | some v => if drawn then s.setBucket k (s.bucketLevel k v - charge * 1000000) else s
    | none => s
  let s := s.modClass cls fun c => { c with admits := c.admits + 1 }
  let s := if b.cls ≤ 1 && cls == 2 then s.modClass b.cls fun c => { c with overflow := c.overflow + 1 } else s
  let r := { r with
    stage := .pound, order := s.flt.nextOrder, flight := flight, charge := charge, bucket := drawn, bank := s.cht.bank, admitted := cls,
    poundAt := s.now }
  let r := { r with keepsEntry := s.mayLeave r }
  (({ s with flt := { s.flt with nextOrder := s.flt.nextOrder + 1 } }.setBarge n r).judge n).countSite 3 flight 512 1

/-- Checks 2 to 5 of R161 for a barge whose opcode is assigned and lit. -/
def State.checkAdmission (s : State) (n : Nat) (r : BargeRec) : State :=
  let b := r.barge
  let group := s.groupFor s.cht.bank b.opcode
  let charge := s.chargeOf s.cht.bank b
  if s.ineligible b group then (s.modClass b.cls fun c => { c with inelig := c.inelig + 1 }).refuseBarge n stIneligible
  else if b.cls == 0 && s.cor.restarting then s.refuseBarge n stRestarting
  else
    match s.grant b group charge with
    | none => (s.countFull b.cls b.slice).refuseBarge n stClassFull
    | some (cls, drawn) =>
      match s.place b cls group with
      | none => (s.countFull b.cls b.slice).refuseBarge n stClassFull
      | some f => s.admitBarge n r group charge cls f drawn

/-- The stored result that a repeat of a data-key verb fills again (R72, R218). -/
def State.storedResult (s : State) (b : Barge) : Option Reply :=
  if b.idem ≠ 0 && refillOpcodes.contains b.opcode then
    (s.idemEntry b.slice b.generation b.idem).bind fun e => e.result.map fun x => ⟨x.1, x.2⟩
  else none

/-- Answer a repeat with its stored result, dek filled again. -/
def State.answerRefill (s : State) (n : Nat) (r : BargeRec) (reply : Reply) : State :=
  let b := r.barge
  let reply := match verbOf b.opcode with
    | some v => v.refill b s reply
    | none => reply
  (s.dropBarge n).respond b.session r.pn b.opcode b.cls b.requestId reply true

/-! ## Requests of a session, and forwarded barges (R66, R67, R71, R79, R377, R378) -/

/-- The barge record of R66, as an FGL-1 or FGL-2 request spells it. -/
def bargeRecord (b : Barge) : Bytes :=
  be 2 b.opcode ++ be 1 b.cls ++ zeros 1 ++ be 8 b.requestId.toNat ++ be 8 b.idem.toNat ++ be 2 b.payload.length ++ zeros 2 ++
    pad4 b.payload

/-- Hand a barge of a forwarded session, in progress since its request, to the interlink (R377, R378). -/
def State.forward (s : State) (b : Barge) (home : W64) (raw : Bytes) : State :=
  let ends (c : W16) : State := s.respond b.session b.pn b.opcode b.cls b.requestId ⟨c, []⟩ false
  if 262144 ≤ s.tow.forwards.length then ends stClassFull
  else
    match s.serverOf home with
    | none => ends stUnreachable
    | some m =>
      let tag := s.tow.forwardTag + 1
      let f : Forward := { session := b.session, pn := b.pn, opcode := b.opcode, cls := b.cls, request := b.requestId,
                           deadline := s.now + 100000000 }
      let s := { s with tow := { s.tow with forwardTag := tag, forwards := s.tow.forwards.put tag f } }
      s.sendInterlink m 0x02
        (be 8 tag ++ be 2 b.slice ++ zeros 2 ++ be 4 b.generation.toNat ++ raw)

/-- The gate knows the session's limit_agreed, and the home pair does not: a barge whose largest response cannot pass is refused here
(R63, R69; log entry 19). -/
def State.gateFail (s : State) (b : Barge) : Option Reply := (verbOf b.opcode).bind fun v => sizeFail v b s

/-- Take in one record of an authenticated REQUEST. -/
def State.takeRecord (s : State) (sid pn : Nat) (x : Session) (clean : Bool) (r : RequestRecord) : State :=
  let b : Barge := { session := sid, pn := pn, slice := x.slice, generation := x.generation, cls := r.cls % 4,
                     opcode := r.opcode, requestId := r.requestId, idem := r.idem, payload := r.payload }
  if !clean then s.answerNow b ⟨stReserved, []⟩
  else if 3 < r.cls then s.answerNow b ⟨stBadFormat, []⟩
  else if !r.clean then s.answerNow b ⟨stReserved, []⟩
  else
    match s.forwardHome x.slice with
    | some home =>
      match firstFail [intakeFail b s, s.gateFail b] with
      | some r => s.answerNow b r
      | none => (s.busyWith b).forward b home r.raw
    | none => s.takeIn b

/-- REQUEST. -/
def execRequest (d : Datagram) (s : State) : Host.Outcome State Fault Refusal :=
  let (s, opened) := s.wake.openDatagram 0x10 d
  match opened, s.session (dgSession d) with
  | some body, some x =>
    let sid := dgSession d
    match requestRecords body with
    | none =>
      .next (s.sendSealed sid 0x3F (alertBody stBadFormat ++ be 8 (dgPn d)) d.cage d.source)
    | some rs =>
      let clean := dgClean d && allZero (sl body 1 3)
      let s := s.endIdle.setGather sid (dgPn d) (some { outstanding := rs.length, source := d.source, cage := d.cage })
      .next (rs.foldl (fun s r => s.takeRecord sid (dgPn d) x clean r) s)
  | _, _ => .next s

/-- A barge that has entered by a session of a slice with another home leaves for the interlink without admission (R375, R377). -/
def State.sendOn (s : State) (n : Nat) : State :=
  match s.flt.barges.find n with
  | none => s
  | some r =>
    if r.stage != .arrived || (s.tow.foreign.find r.barge.session).isSome then s
    else
      match s.forwardHome r.barge.slice with
      | some home => (s.dropBarge n).forward r.barge home (bargeRecord r.barge)
      | none => s

/-- FGL1_REQUEST: held beyond sixteen outstanding (R79). A frame shorter than its header, or whose length field disagrees with
it, closes the connection like one that is too long (log entry 10). -/
def execFgl1Request (session : Nat) (frame : Bytes) (s : State) : Host.Outcome State Fault Refusal :=
  match s.session session with
  | none => .next s
  | some x =>
    if x.fgl ≠ 1 then .next s
    else if 65535 < frame.length ∨ frame.length < 8 ∨ frame.length ≠ 2 + fld frame 0 2 then .next (s.closeTcp session x)
    else
      let s := (s.wake.endIdle).modSession session fun x => { x with lastHeard := s.now, idle := s.idleS }
      if 16 ≤ x.order.length then
        .next (s.modSession session fun x => { x with held := x.held ++ [frame] })
      else .next ((s.fgl1Accept session frame).sendOn s.flt.nextBarge)

/-- FGL2_REQUEST (R79); a frame shorter than its header or of another length closes the connection (log entry 10). -/
def execFgl2Request (session : Nat) (frame : Bytes) (s : State) : Host.Outcome State Fault Refusal :=
  match s.session session with
  | none => .next s
  | some x =>
    if x.fgl ≠ 2 then .next s
    else if 1048576 < frame.length ∨ frame.length < 16 ∨ frame.length ≠ 4 + fld frame 0 4 then .next (s.closeTcp session x)
    else
      let s := (s.wake.endIdle).modSession session fun x => { x with lastHeard := s.now, idle := s.idleS }
      let b : Barge := { session := session, pn := 0, slice := x.slice, generation := x.generation, cls := 2,
                         opcode := fld frame 4 2, requestId := BitVec.ofNat 64 (fld frame 8 8), idem := 0,
                         payload := frame.drop 16 }
      if fld frame 6 2 ≠ 0 then .next (s.answerNow b ⟨stReserved, []⟩)
      else
        match intakeFail b s with
        | some r => .next (s.answerNow b r)
        | none => .next ((s.enter b .arrived).sendOn s.flt.nextBarge)

/-- BARGE_ADMIT: a held FGL-1 request of a slice with another home, taken since, leaves for the interlink. -/
def execBargeAdmit (barge : Nat) (s : State) : Host.Outcome State Fault Refusal :=
  match s.flt.barges.find barge with
  | none => .next s
  | some r =>
    let b := r.barge
    if r.stage ≠ .arrived || s.holdsAdmission b.opcode then .next s
    else if (s.forwardHome b.slice).isSome && (s.tow.foreign.find b.session).isNone then .next (s.sendOn barge)
    else
      match s.storedResult b with
      | some reply => .next (s.answerRefill barge r reply)
      | none =>
        if !assigned b.opcode then .next (s.refuseBarge barge stBadFormat)
        else
          match darkFail b.opcode s with
          | some reply => .next (s.endBarge barge reply)
          | none => .next (s.checkAdmission barge r)

/-! ## Taking a context (R148, R153, R164) -/

/-- C2 weight of a slice (R164, R188). -/
def State.weight (s : State) (slice : Nat) : Nat :=
  match (s.section_ 0x0013).find? fun r => fld r 0 2 % 4096 == slice with
  | some r => max 1 (fld r 2 1)
  | none => 1

/-- Group code of a flight. -/
def State.groupCode (s : State) (f : Nat) : Nat :=
  match s.groupOfFlight f with
  | some g => g.code
  | none => 0

/-- Slices with C2 barges that wait in a pound of a group. -/
def State.waitingSlices (s : State) (group : Nat) : List Nat :=
  ((s.flt.barges.vals.filter fun r =>
    r.stage == .pound && r.admitted == 2 && r.reply.isNone && s.groupCode r.flight == group).map fun r => r.barge.slice).eraseDups

/-- Deficit of a slice in a group. -/
def State.deficit (s : State) (group slice : Nat) : Nat :=
  match s.flt.deficits.find? fun e => e.1 == (group, slice) with
  | some e => e.2
  | none => 0

/-- The earliest admitted of a list of barges. -/
def firstAdmitted (es : List (Nat × BargeRec)) : Option (Nat × BargeRec) :=
  es.foldl (fun m e =>
    match m with
    | none => some e
    | some x => if e.2.order < x.2.order then some e else some x) none

/-- Rounds a slice needs before its deficit covers a charge. -/
def State.roundsFor (s : State) (group : Nat) (r : BargeRec) : Nat :=
  let q := 1000 * s.weight r.barge.slice
  (r.charge - s.deficit group r.barge.slice + q - 1) / q

/-- The C2 barge of a pound that the round robin serves next, with the rounds it takes: the fewest, then the lowest slice. -/
def State.robinPick (s : State) (group : Nat) (es : List (Nat × BargeRec)) : Option ((Nat × BargeRec) × Nat) :=
  let heads := ((es.map fun e => e.2.barge.slice).eraseDups.filterMap fun id => firstAdmitted (es.filter fun e => e.2.barge.slice == id))
  heads.foldl (fun m e =>
    let k := s.roundsFor group e.2
    match m with
    | none => some (e, k)
    | some (x, j) => if k < j || (k == j && e.2.barge.slice < x.2.barge.slice) then some (e, k) else some (x, j)) none

/-- The deficits after a C2 barge was picked in k rounds: every waiting slice gains k quanta, the picked one pays, and a
slice with nothing left waiting returns to 0. -/
def State.chargeRobin (s : State) (group k : Nat) (r : BargeRec) : State :=
  let kept := s.flt.deficits.filter fun e => e.1.1 != group
  let now_ := (s.waitingSlices group).map fun id =>
    ((group, id), s.deficit group id + k * 1000 * s.weight id - if id = r.barge.slice then r.charge else 0)
  { s with flt := { s.flt with deficits := kept ++ now_ } }

/-- After a barge has left its pound, slices of the group with no C2 barge waiting have no deficit. -/
def State.trimRobin (s : State) (group : Nat) : State :=
  let ws := s.waitingSlices group
  { s with flt := { s.flt with deficits := s.flt.deficits.filter fun e => e.1.1 != group || ws.contains e.1.2 } }

/-- C3 barges wait and have had less than 2 % of the group's served charge. -/
def State.shareDue (s : State) (group : Nat) : Bool :=
  let x := s.flt.served.at (0, 0) group
  x.2 * 50 ≤ x.1

/-- Charge served in a group; counted while C3 barges wait. -/
def State.countServed (s : State) (group : Nat) (r : BargeRec) : State :=
  let waits : Bool := s.flt.barges.vals.any fun x => x.stage == .pound && x.admitted == 3 && s.groupCode x.flight == group
  let x := s.flt.served.at (0, 0) group
  let c3 : Nat := if r.admitted = 3 then r.charge else 0
  let served : Map (Nat × Nat) :=
    if waits || r.admitted == 3 then s.flt.served.put group (x.1 + r.charge, x.2 + c3) else s.flt.served.del group
  { s with flt := { s.flt with served := served } }

/-- The barge of a flight's pound that takes the next context, with the rounds of the round robin it took. The round robin runs over
the pounds of the group's flights that have a free context: the C2 barge it picks may wait in another of them, and then none of this
flight's takes a context before it (R164). -/
def State.nextBarge (s : State) (f : Nat) : Option ((Nat × BargeRec) × Nat) :=
  let all := s.flt.barges.filter fun e => e.2.stage == .pound && s.flightUp e.2.flight && s.contexts e.2.flight < 16
  let es := all.filter fun e => e.2.flight == f
  let group := s.groupCode f
  let of (c : Nat) : List (Nat × BargeRec) := es.filter fun e => e.2.admitted == c
  let back (c : Nat) : Option (Nat × BargeRec) := firstAdmitted ((of c).filter fun e => e.2.reply.isSome)
  let plain (c : Nat) : Option ((Nat × BargeRec) × Nat) :=
    (match back c with
     | some e => some e
     | none => firstAdmitted (of c)).map fun e => (e, 0)
  let robin : Option ((Nat × BargeRec) × Nat) :=
    match back 2 with
    | some e => some (e, 0)
    | none =>
      if (of 2).isEmpty then none
      else s.robinPick group (all.filter fun e => e.2.admitted == 2 && e.2.reply.isNone && s.groupCode e.2.flight == group)
  let pick (os : List (Option ((Nat × BargeRec) × Nat))) : Option ((Nat × BargeRec) × Nat) := os.findSome? id
  (if s.shareDue group then pick [plain 0, plain 3, plain 1, robin] else pick [plain 0, plain 1, robin, plain 3]).filter fun x =>
    x.1.2.flight == f

/-- Suspend a job on a bound core into save RAM, with the key and handle of its barge. -/
def State.suspendJob (s : State) (n : Nat) (r : BargeRec) (j : Job) : State :=
  let (type, handle) : Nat × W64 := match r.keys.head? with
    | some k => (k.2.1.keyType, s.slotHandle k.1)
    | none => (0, 0)
  (s.saveJob j.engine type (jobMode r.barge.opcode r.barge.payload) handle).modBarge n fun r =>
    { r with job := some { j with suspended := true } }

/-- A C0 barge takes a context: lower-class jobs on attached locks of its flight are suspended into save RAM, but for one that is in
its last block, which completes (R151, R282). Whether one is, is free. -/
def State.suspendJobs (s : State) (f : Nat) : State :=
  (s.flt.barges.filter fun e => e.2.stage == .context && e.2.flight == f && e.2.admitted != 0).foldl (fun s e =>
    match e.2.job with
    | some j =>
      if j.attached && !j.suspended then
        let (last, s) := s.freeBool
        if last then s else s.suspendJob e.1 e.2 j
      else s
    | none => s) s

/-- Longest pound wait of a class, 24 bits. -/
def State.noteWait (s : State) (r : BargeRec) : State :=
  s.modClass r.admitted fun c => { c with waitMax := BitVec.ofNat 32 (max c.waitMax.toNat (min (s.now - r.poundAt) (2 ^ 24 - 1))) }

/-- A barge takes a context of its flight. -/
def State.enterContext (s : State) (n : Nat) (r : BargeRec) (rounds : Nat) : State :=
  let group := s.groupCode r.flight
  let s := s.wakeDomain (flightDomain r.flight)
  let s := if r.reply.isSome then s
    else
      let s := s.noteWait r
      if r.admitted = 2 then s.chargeRobin group rounds r else s
  let s := s.setBarge n
    { r with stage := .context, context := s.freeContext r.flight, barge := { r.barge with payload := fillFields r.barge.payload r.cut }, cut := [] }
  let s := if r.reply.isSome then s else (s.trimRobin group).countServed group r
  (if r.admitted = 0 then s.suspendJobs r.flight else s).judge n

/-- BARGE_TAKE_CONTEXT. -/
def execBargeTakeContext (flight : Nat) (s : State) : Host.Outcome State Fault Refusal :=
  if 31 < flight || !s.flightUp flight || 16 ≤ s.contexts flight then .next s
  else
    match s.nextBarge flight with
    | none => .next s
    | some ((n, r), k) => .next (s.enterContext n r k)

/-! ## Flights in and out of service (R166) -/

/-- FLT_FAULT bit of a cause. -/
def flightBit : FlightCause → W32
  | .guard => 1 | .sequencer => 2 | .context => 4

/-- FLIGHT_FAULT. -/
def execFlightFault (flight : Nat) (cause : FlightCause) (s : State) : Host.Outcome State Fault Refusal :=
  if 31 < flight then .next s
  else
    let times := within s.now 1000000000 (s.flight flight).faults ++ [s.now]
    let out : Bool := (s.flight flight).out || 3 ≤ times.length
    let fresh : Bool := out && !(s.flight flight).out
    let s := s.modFlight flight fun x => { x with inService := false, fault := x.fault ||| flightBit cause, faults := times, out := out }
    let s := s.countFault.raise 64 flight 0xFFFF stFault.toNat (flightBit cause).toNat
    let s := s.abortBarges (fun r => r.stage == .context && r.flight == flight) stFault
    let s := s.movePound flight
    .next ((if fresh then s.level 65 true flight 0xFFFF 0 0 else s).refreshReady)

/-- FLIGHT_RETURN. -/
def execFlightReturn (flight : Nat) (s : State) : Host.Outcome State Fault Refusal :=
  if 31 < flight || (s.flight flight).inService || (s.flight flight).out then .next s
  else .next (s.modFlight flight fun x => { x with inService := true }).refreshReady

end Sys2Proof.Machine
end

