-- ==== Sys2Proof/Machine/Steps.lean ====
section
/-! DEFINITION. The steps of a barge in a flight, lock by lock, and the way through a core queue and back (R34 to R40, R102,
R124, R126, R130, R131, R134, R137, R144, R146 to R153, R213 to R217, R290, R372, R421; log entry 42). -/

namespace Sys2Proof.Machine

/-! ## The steps of a program (R147, R150, R151, R155, R156) -/

/-- Lock codes that a default program steps through between KEYFETCH and FORMAT (R160, R259; log entry 29). -/
def engineSteps (opcode : Nat) : List Nat :=
  if [0x0501, 0x0502, 0x0503, 0x0510, 0x0511, 0x0580, 0x0581, 0x0582, 0x058C].contains opcode then [3, 3]
  else if kekOpcodes.contains opcode ∨ pooledDefault.contains opcode ∨ opcode = 0x0670 ∨ opcode = 0x0671 then [3]
  else if opcode = 0x0640 ∨ opcode = 0x0641 ∨ opcode = 0x0642 then [4]
  else if opcode / 256 = 6 ∧ opcode / 16 ≠ 0x065 then [5] else []

/-- Offsets of the key handles in the payload of a lock-program verb. -/
def handleOffsets (opcode : Nat) : List Nat :=
  if [0x0501, 0x0502, 0x0503, 0x0580, 0x0581, 0x0582].contains opcode then [0, 8]
  else if [0x0305, 0x0380, 0x0510, 0x0511, 0x058C].contains opcode ∨ pooledDefault.contains opcode ∨
      [0x0601, 0x0603, 0x0604, 0x0606, 0x0607, 0x0610, 0x0631, 0x0632, 0x0641, 0x0642, 0x0670, 0x0671, 0x0680, 0x0682].contains opcode
    then [0] else []

/-- Lock codes of a default program. -/
def defaultSteps (opcode : Nat) : List Nat :=
  let fetch : List Nat := if kekOpcodes.contains opcode || !(handleOffsets opcode).isEmpty then [2] else []
  [0, 1] ++ fetch ++ engineSteps opcode ++ [6, 7]

/-- Positions of lock codes along a series, each the first at or after the one before. -/
def positionsFrom (locks : List Nat) (pos : Nat) : List Nat → List Nat
  | [] => []
  | c :: cs =>
    match (List.range locks.length).find? fun i => pos ≤ i && locks[i]? == some c with
    | some i => i :: positionsFrom locks (i + 1) cs
    | none => positionsFrom locks pos cs

/-- The steps a barge runs, as lock positions: those of its program's record, ended by FORMAT and EMIT; of a default program; or
PARSE, POLICY, FORMAT and EMIT around a core queue (R155, R156). -/
def State.plan (s : State) (r : BargeRec) : List Nat :=
  match s.groupOfFlight r.flight with
  | none => []
  | some g =>
    let last := g.locks.length - 1
    match s.recordFor r with
    | some rec => if (stepPositions rec).getLast? == some last then stepPositions rec else stepPositions rec ++ [last - 1, last]
    | none =>
      positionsFrom g.locks 0 (if ((s.programs r.bank).group r.barge.opcode).isNone then [0, 1, 6, 7] else defaultSteps r.barge.opcode)

/-- The lock position of a barge's next step. -/
def State.stepPosition (s : State) (r : BargeRec) : Option Nat := (s.plan r)[r.steps]?

/-- The locks a barge has yet to pass, as positions: one on which its own attached job still runs is not passed yet (R147, R151). -/
def State.ahead (s : State) (r : BargeRec) : List Nat :=
  ((r.job.filter (·.attached)).map (·.position)).toList ++ (s.plan r).drop r.steps

/-- A lock is occupied by an attached job that runs on its bound core, for the whole of the job (R148, R149). -/
def State.lockHeld (s : State) (f pos : Nat) : Bool :=
  s.flt.barges.any fun e => e.2.flight == f && e.2.job.any fun j => j.attached && !j.suspended && j.position == pos

/-- Clearing: a C0 barge of the flight has the lock yet to pass (R151). -/
def State.blocked (s : State) (r : BargeRec) (pos : Nat) : Bool :=
  r.admitted != 0 && (s.inFlight r.flight).any fun x => x.stage == .context && x.admitted == 0 && (s.ahead x).contains pos

/-- A barge in a context, free of jobs, whose next step is at a lock of a code that may start a step for it (R148, R151, R156). -/
def State.mayStep (s : State) (r : BargeRec) (lock : Nat) : Bool :=
  r.stage == .context && r.job.isNone &&
    match s.groupOfFlight r.flight, s.stepPosition r with
    | some g, some pos => g.locks[pos]? == some lock && !s.blocked r pos && !s.lockHeld r.flight pos
    | _, _ => false

/-- Position of the step that runs now. -/
def State.position (s : State) (r : BargeRec) : Nat := (s.stepPosition r).getD 0

/-- Does the lock program of a family 0x04 to 0x06 barge raise its exception to the secure world (R36, R156, R157; log entry 29). -/
def State.raises (s : State) (r : BargeRec) : Bool :=
  s.mayRaise r && Config.programRaises (match s.recordFor r with
    | some rec => bare rec
    | none => []) r.barge.opcode r.barge.payload

/-- Is a barge served before another: a higher class, then an earlier admission (R150). -/
def BargeRec.before (a b : BargeRec) : Bool := a.admitted < b.admitted || (a.admitted == b.admitted && a.order < b.order)

/-! ## What the work of a barge reads (R144, R146, R213, R215, R290) -/

/-- Offsets of the key handles of a barge: the fields its program's record gives rule 3, or those of the default layout (R182). -/
def State.handlesOf (s : State) (r : BargeRec) : List Nat :=
  match s.recordFor r with
  | some rec => ((fieldsOf rec).filter fun x => x.rule == 3).map (·.offset)
  | none => if ((s.programs r.bank).group r.barge.opcode).isNone then [] else handleOffsets r.barge.opcode

/-- Vault slots that the handles of a barge name. -/
def State.namedSlots (s : State) (r : BargeRec) : List Nat :=
  let b := r.barge
  let at_ (off : Nat) : Option Nat :=
    if b.payload.length < off + 8 then none
    else (s.live (fld b.payload off 8)).filter fun i => (s.slot i).slice == b.slice || b.slice == 0
  ((s.handlesOf r).filterMap at_).eraseDups

/-- Vault slots that KEYFETCH has yet to read for a barge. -/
def State.slotsLeft (s : State) (r : BargeRec) : List Nat :=
  (s.namedSlots r).filter fun i => !(r.keys.any fun k => k.1 == i)

/-- KEK selectors that KEYFETCH has yet to resolve for a barge. -/
def keksLeft (r : BargeRec) : List (Nat × Option Bytes) := (kekSelectors r.barge).drop r.keks.length

/-- Write 8 bytes over a payload. -/
def patchRef (p : Bytes) (off : Nat) (v : W64) : Bytes := p.take off ++ be 8 v.toNat ++ p.drop (off + 8)

/-- The request with its selectors naming the cache entries that KEYFETCH has resolved. -/
def resolvedBarge (r : BargeRec) : Barge :=
  let one (b : Barge) (x : (Nat × Option Bytes) × CacheEntry) : Barge :=
    if b.opcode = 0x0412 then b else { b with payload := patchRef b.payload x.1.1 x.2.ref }
  ((kekSelectors r.barge).zip r.keks).foldl one r.barge

/-- Keys that KEYFETCH has read and whose slot has changed since: the barge goes on with what it read (R146). -/
def State.movedKeys (s : State) (r : BargeRec) : List (Nat × Slot × Option Bytes) :=
  r.keys.filter fun k => (s.slot k.1).epoch != k.2.1.epoch || (s.slot k.1).state != k.2.1.state ||
    (s.slot k.1).attributes != k.2.1.attributes

/-- Put a slot and its blob where a barge's work reads them. -/
def State.putKey (s : State) (k : Nat × Slot × Option Bytes) : State :=
  { s.setSlot k.1 k.2.1 with vlt := { (s.setSlot k.1 k.2.1).vlt with blobs := putOpt s.vlt.blobs k.1 k.2.2 } }

/-- The verbs that read a decimalisation table. -/
def verifiesPin (opcode : Nat) : Bool := opcode == 0x0503 || opcode == 0x0580

/-- The tables a barge reads at POLICY and keeps for its work (R256). -/
def State.tablesRead (s : State) (b : Barge) : Option (Map Bytes) :=
  if verifiesPin b.opcode then some (s.slice b.slice).decTabs else none

/-- Put decimalisation tables where the work of a barge of a slice reads them (R256). -/
def State.putTables (s : State) (slice : Nat) (t : Option (Map Bytes)) : State :=
  match t with
  | some t => s.setSlice slice { s.slice slice with decTabs := t }
  | none => s

/-- The state as the work of a barge sees it: the keys it fetched, the tables it read, the entries it pinned, and no claim of its
own. -/
def State.view (s : State) (n : Nat) (r : BargeRec) : State :=
  let s := ((s.movedKeys r).foldl State.putKey s).putTables r.barge.slice r.decTabs
  let unclaim (p : Nat × Parked) : Nat × Parked := if p.2.claim == some n then (p.1, { p.2 with claim := none }) else p
  let s := { s with eng := { s.eng with parked := s.eng.parked.map unclaim, taken := r.taken } }
  if r.keks.isEmpty then s
  else
    let keep (e : CacheEntry) : Bool := !(r.keks.any fun x => x.ref == e.ref)
    let own : List CacheEntry := r.keks.map fun e => { e with marked := false }
    { s with vlt := { s.vlt with shredRegister := [], cache := s.vlt.cache.filter keep ++ own } }

/-- Undo the view after the work: slots and tables that had changed stay as they had become, the cache keeps its entries with
their times of use. -/
def State.unview (s s0 : State) (r : BargeRec) : State :=
  let s := (s0.movedKeys r).foldl (fun s k => s.putKey (k.1, s0.slot k.1, s0.vlt.blobs.find k.1)) s
  let s := s.putTables r.barge.slice (r.decTabs.map fun _ => (s0.slice r.barge.slice).decTabs)
  if r.keks.isEmpty then s
  else
    let ran := s.vlt.cache
    let used (e : CacheEntry) : CacheEntry :=
      if r.keks.any fun x => x.ref == e.ref then
        { e with used := match ran.find? fun x => x.ref == e.ref with
            | some x => x.used
            | none => e.used }
      else e
    let kept := s0.vlt.cache.map used
    { s with vlt := { s.vlt with shredRegister := s0.vlt.shredRegister, cache := kept } }

/-! ## The order of service (R150, R159) -/

/-- An engine that could take a job now; a C0 job may run beside a suspended one, whose state stands in save RAM. -/
def State.idleEngine (s : State) (c0 : Bool) (k : EngineKind) (n : Nat) : Bool :=
  s.serves k n && !(s.engine k n).busy && (c0 || !(s.engine k n).suspended) && !(s.block k).resetting &&
    !(s.domain (engineDomain k n)).closed

/-- Pooled engines that a barge may be granted, in number order: those of parts that serve its group, less the C0 reserve for a
lower class. -/
def State.grantable (s : State) (k : EngineKind) (r : BargeRec) : List Nat :=
  let idle := (kindNumbers k).filter (s.idleEngine false k)
  let inPart (p : PoolPart) : List Nat := idle.filter fun n => s.partOf k n == some p
  (s.pools.filter fun p => kindOfCode p.kind == some k && p.kind != 6 && p.groups.testBit (s.groupCode r.flight)).flatMap fun p =>
    let ns := inPart p
    if r.admitted = 0 then ns else ns.drop p.reserve

/-- The lowest of a list. -/
def lowest (ns : List Nat) : Option Nat := ns.min?

/-- A job needs masked cores: its program's step says so, or its keys do (R123, R182). -/
def State.masks (s : State) (r : BargeRec) : Bool :=
  match (s.recordFor r).filter fun rec => r.steps < stepCount rec with
  | some rec => stepMasked rec r.steps
  | none => r.keys.any fun k => keyClass k.2.1.attributes == 3 || keyClass k.2.1.attributes == 4 || keyClass k.2.1.attributes == 5

/-- Kind of engine a PKE step uses: lattice verbs and keys go to the lattice engines. -/
def pkeKind (r : BargeRec) : EngineKind :=
  if [0x0630, 0x0631, 0x0632, 0x0633].contains r.barge.opcode || r.keys.any fun k => 0x30 ≤ k.2.1.keyType then .lattice
  else .publicKey

/-- Cores bound to the attached lock at a position of a flight that serve (R149, R183). -/
def State.boundTo (s : State) (f pos : Nat) : List Nat :=
  (kindNumbers .masked).filter fun n => s.serves .masked n && s.coreBound n && s.coreLock n == some (f, pos)

/-- A bound core of the attached lock at a position of a flight, or the spare that stands in for it, is not out until the next reset
(R279). -/
def State.coreStays (s : State) (f pos : Nat) : Bool :=
  (kindNumbers .masked).any fun n => s.coreBound n && s.coreLock n == some (f, pos) && !(s.engine .masked n).lockedOut

/-- Does the next CIPHER step of a barge run on the bound core of its lock: a job that the core may not serve runs as a pooled job, and so
does every job once the core stays out (R149, R279). -/
def State.onBound (s : State) (r : BargeRec) : Bool :=
  s.masks r && ((s.groupOfFlight r.flight).any fun g => g.attached.testBit (s.position r)) && s.coreStays r.flight (s.position r)

/-- The pooled engine kind that the next step of a barge draws on at a lock code. -/
def State.poolOfStep (s : State) (r : BargeRec) (lock : Nat) : Option EngineKind :=
  if lock = 3 then if s.onBound r then none else some (if s.masks r then .masked else .shuffled)
  else if lock = 4 then some .hash else if lock = 5 then some (pkeKind r) else none

/-- Note with a barge the lock of its next step and the pool it draws on (R492). -/
def State.lookAhead (s : State) (r : BargeRec) : BargeRec :=
  match s.groupOfFlight r.flight, s.stepPosition r with
  | some g, some pos => { r with nextLock := g.locks.getD pos 0, nextPool := s.poolOfStep r (g.locks.getD pos 0) }
  | _, _ => { r with nextLock := 0, nextPool := none }

/-- A step has run at a lock. -/
def State.pass (s : State) (n : Nat) : State :=
  (s.modBarge n fun r => s.lookAhead { r with drawWait := none, passed := r.passed ++ [s.position r], steps := r.steps + 1 }).judge n

/-- Data bytes of a job that is split into segments of 4 KiB beyond that length (R278). -/
def segmentBytes (b : Barge) : Nat :=
  if b.opcode = 0x0670 then fld b.payload 12 4 else if b.opcode = 0x0671 then fld b.payload 52 4 - 16 else 0

/-- A core whose second port holds the key of a barge, else the lowest of those it may be granted (R273). -/
def State.preferred (s : State) (n : Nat) (k : EngineKind) (cores : List Nat) : Option Nat :=
  match cores.find? fun c => (s.engine k c).path.nextFor == some n with
  | some c => some c
  | none => lowest cores

/-- The job a CIPHER step would start: on the bound core of its lock, or on a pooled core with one more for each further segment, eight
at once. -/
def State.cipherJob (s : State) (n : Nat) (r : BargeRec) : Option Job :=
  if s.onBound r then
    (lowest ((s.boundTo r.flight (s.position r)).filter (s.idleEngine (r.admitted == 0) .masked))).map fun e =>
      { kind := .masked, engine := e, attached := true, position := s.position r }
  else
    let kind : EngineKind := if s.masks r then .masked else .shuffled
    (s.preferred n kind (s.grantable kind r)).map fun e =>
      let parts := (segmentBytes r.barge + 4095) / 4096
      let more := ((s.grantable kind r).filter (· != e)).take (min 7 (parts - 1))
      { kind := kind, engine := e, attached := false, position := s.position r,
        segments := if parts ≤ 1 then 0 else parts + 1, more := more }

/-! ## The work of a barge (R130, R137, R166, R280, R284, R285, R311, R335, R337, R360) -/

/-- The lock code of a barge's next step. -/
def State.lockOf (s : State) (r : BargeRec) : Option Nat :=
  match s.groupOfFlight r.flight, s.stepPosition r with
  | some g, some pos => g.locks[pos]?
  | _, _ => none

/-- The instance that a world's work for a barge draws on: the world's own, but for a key, which comes from the flight's (R335). -/
def worldDrawer (r : BargeRec) : Nat :=
  if makesKeys r.barge.opcode then 39 + r.flight else if queueWorld r.barge.opcode = .normal then 112 else 111

/-- The instance that the work of a barge draws on: its world's in a core queue, at a PKE lock that of the engine it is granted, and
else its flight's (R335). -/
def State.drawerOf (s : State) (r : BargeRec) : Nat :=
  if r.stage == .coreQueue then worldDrawer r
  else if s.lockOf r = some 5 then
    (if pkeKind r = .lattice then 103 else 71) + (lowest (s.grantable (pkeKind r) r)).getD 0
  else 39 + r.flight

/-- The work of a verb for a barge; that of KEK_LOAD is done once its load is. -/
def State.effectOf (s : State) (n : Nat) (r : BargeRec) (v : Verb) : Effect :=
  match if r.barge.opcode = 0x0412 then r.keks.head? else none with
  | some e => done s (be 8 e.ref.toNat ++ be 8 e.keyId.toNat)
  | none =>
    let e := v.workFrom (resolvedBarge r) (s.drawerOf r) (s.view n r)
    { e with st := e.st.unview s r }

/-- What the world does with a barge: its object states first, then its work. -/
def worldEffect (v : Verb) (r : BargeRec) (s : State) : Effect :=
  match v.state r.barge s with
  | some reply => { st := s, reply := reply }
  | none => v.workFrom r.barge (worldDrawer r) s

/-- What the world does with an assisted barge: it reads the decimalisation tables the barge read at POLICY (R256). -/
def State.worldWork (s : State) (r : BargeRec) (v : Verb) : Effect :=
  let e := worldEffect v r (s.putTables r.barge.slice r.decTabs)
  { e with st := e.st.putTables r.barge.slice (r.decTabs.map fun _ => (s.slice r.barge.slice).decTabs) }

/-- Entries of a table that differ between two states, as they stood in the first. -/
def changedFrom {α : Type} [DecidableEq α] (before after : Map α) : List (Nat × Option α) :=
  ((before.keys ++ after.keys).eraseDups.filter fun k => before.find k != after.find k).map fun k => (k, before.find k)

/-- Slots that a touch rewrites. -/
def touchedSlot : Touch → Option Nat
  | .slot i => some i | .slotErased i => some i | .blob _ => none | .custodian _ _ => none | .ballot _ _ => none
  | .generation _ => none | .slice _ _ => none | .bindings _ => none | .anchor _ _ => none | .established => none
  | .shred _ _ _ _ => none | .domain _ _ => none | .ledger _ => none | .sequence _ => none
  | .directory _ => none | .dirAnchor _ _ => none

/-- Keep an effect with a barge until EMIT, with all that undoes it; a result for an operand buffer waits for its job's commit, and the
buffer stays as it was (R130, R166, R280, R311, R360). -/
def State.keepEffect (s0 : State) (n : Nat) (b : Barge) (e : Effect) : State :=
  let results := e.result b
  let bufs := if results.isEmpty then e.st.eng.opBufs else s0.eng.opBufs
  { e.st with eng := { e.st.eng with opBufs := bufs } }.modBarge n fun r =>
    { r with
      reply := some (e.readBack s0).reply, touch := e.touch, prior := (e.touch.filterMap s0.priorOf).reverse,
      undo := (e.touch.filterMap touchedSlot).map fun i => (i, s0.slot i, s0.vlt.image.at [] i), results := results,
      undoBufs := (changedFrom s0.eng.opBufs bufs).map fun (u : Nat × Option OpBuf) => (u.1, u.2, bufs.find u.1),
      undoParked := changedFrom s0.eng.parked e.st.eng.parked }

/-- A barge waits for a lease block or a share unit, up to 100 µs: what its work has reserved and claimed stays, and the values it has drawn
are bound to it (R137, R216, R284, R285). -/
def State.awaitLease (s : State) (n : Nat) (e : Effect) : State :=
  (s.keepClaims e.st).modBarge n fun r => { r with leaseWait := some (r.leaseWait.getD (s.now + 100000)), taken := e.st.eng.taken }

/-- A barge waits for a draw, up to 100 µs: none of its work is done, and the instances that are dry stall (R337). -/
def State.awaitDraw (s : State) (n : Nat) (e : Effect) : State :=
  (s.noteStalls e.st).modBarge n fun r => { r with drawWait := some (r.drawWait.getD (s.now + 100000)) }

/-- The work of a barge finds its block spent and the next one not ready: it waits (R285). -/
def State.workWaits (s : State) (n : Nat) (r : BargeRec) : Option State :=
  if r.reply.isSome then none
  else
    match verbOf r.barge.opcode with
    | some v =>
      let e := s.effectOf n r v
      if (s.slice r.barge.slice).generation == r.barge.generation && e.reply.status == stMirror then some (s.awaitLease n e) else none
    | none => none

/-- The work of a barge finds an instance dry, where no draw is sure to be served: the state in which it waits (R337). -/
def State.starves (s : State) (n : Nat) (r : BargeRec) : Option State :=
  if r.reply.isSome || s.servesDraws then none
  else
    match verbOf r.barge.opcode with
    | some v =>
      let e := if r.stage == .coreQueue then s.worldWork r v else s.effectOf n r v
      if (s.slice r.barge.slice).generation == r.barge.generation && e.starved s then some (s.awaitDraw n e) else none
    | none => none

/-- Run the work of a barge once; one of an old generation writes nothing (R102). -/
def State.work (s : State) (n : Nat) (r : BargeRec) : State :=
  if r.reply.isSome then s
  else if (s.slice r.barge.slice).generation != r.barge.generation then s.modBarge n fun r => { r with reply := some ⟨stDone, []⟩ }
  else
    match verbOf r.barge.opcode with
    | none => s.modBarge n fun r => { r with reply := some ⟨stBadFormat, []⟩ }
    | some v => s.keepEffect n r.barge (s.effectOf n r v)

/-! ## Turns (R150, R292, R337) -/

/-- Bytes of the output of a barge's CIPHER job: one longer than 64 goes to the chamber, whether it passes or not (R291). -/
def jobOutput (b : Barge) : Nat :=
  if b.opcode = 0x0670 then fld b.payload 12 4 + 16 else if b.opcode = 0x0671 then fld b.payload 52 4 - 16 else 0

/-- The chamber of a barge's flight is free, or held by this barge, or the barge needs none (R291, R292). -/
def State.chamberFree (s : State) (n : Nat) (r : BargeRec) : Bool :=
  jobOutput r.barge ≤ 64 || (s.eng.chambers.find r.flight).all fun c => c.owner == n

/-- Does the response of a barge wait for an epoch. -/
def State.heldForEpoch (s : State) (r : BargeRec) : Bool := s.awaitsPartner && !r.touch.isEmpty

/-- Room in the transit slots for the next key of a barge: one is free, or one holds its entry (R152). -/
def State.transitRoom (s : State) (r : BargeRec) : Bool :=
  ((transitSlots r.flight).any fun i => (s.slot i).state == .free) ||
    match keksLeft r with
    | (off, _) :: _ => (s.transitEntry r.flight r.barge.slice (BitVec.ofNat 64 (fld (selectorOf r.barge off) 8 8))).isSome
    | [] => (s.slotsLeft r).head?.all fun i => !allows (s.slot i).attributes atHoldResident

/-- A barge waits at a lock for its turn, and for nothing else: the step would run for it now. A draw on a stalled instance waits
(R337). -/
def State.stepReady (s : State) (n : Nat) (r : BargeRec) (lock : Nat) : Bool :=
  s.mayStep r lock && !(3 ≤ lock && lock ≤ 6 && (s.starves n r).isSome) &&
    (if lock = 2 then s.vlt.unlocked && !(s.vlt.loads.any fun l => l.2.1 == n) && s.transitRoom r
     else if lock = 3 then s.chamberFree n r && (s.cipherJob n r).isSome
     else if lock = 4 then !(s.grantable .hash r).isEmpty
     else if lock = 5 then !(s.grantable (pkeKind r) r).isEmpty
     else if lock = 7 then r.reply.isSome && !(s.heldForEpoch r && 1024 ≤ s.epochHold r.flight)
     else true)

/-- A barge waits for a lease block or a share unit that is still not there: it lets the lock serve others (R137, R150). -/
def State.leaseHolds (s : State) (n : Nat) (r : BargeRec) : Bool :=
  r.leaseWait.isSome && match verbOf r.barge.opcode with
    | some v => if s.assists r v then (worldEffect v r s).waits else (s.effectOf n r v).reply.status == stMirror
    | none => false

/-- Barges that wait at the lock of a barge's next step and are served before it. -/
def State.aheadAtLock (s : State) (n : Nat) (r : BargeRec) (lock : Nat) : Bool :=
  s.flt.barges.any fun e =>
    e.1 != n && e.2.flight == r.flight && s.stepPosition e.2 == s.stepPosition r && e.2.before r && s.stepReady e.1 e.2 lock &&
      !s.leaseHolds e.1 e.2

/-- Barges of any flight that wait for an engine of the pool a barge draws on and are granted one before it. -/
def State.aheadInPool (s : State) (n : Nat) (r : BargeRec) (lock : Nat) (k : EngineKind) : Nat :=
  (s.flt.barges.filter fun e =>
    e.1 != n && e.2.before r && s.poolOfStep e.2 lock == some k && s.stepReady e.1 e.2 lock &&
      (s.grantable k e.2).any (s.grantable k r).contains).length

/-- A step may start for a barge: it waits at a lock of a code and it is its turn there and in the pool it draws on (R150). -/
def State.turn (s : State) (n : Nat) (r : BargeRec) (lock : Nat) : Bool :=
  s.stepReady n r lock && !s.aheadAtLock n r lock &&
    match s.poolOfStep r lock with
    | some k => s.aheadInPool n r lock k < (s.grantable k r).length
    | none => true

/-- What an engine or FORMAT lock does for a barge whose step may not start: it waits for its draw, where that is all it lacks (R337). -/
def State.standsBy (s : State) (n : Nat) (r : BargeRec) (lock : Nat) : State :=
  if s.mayStep r lock then (s.starves n r).getD s else s

/-! ## PARSE -/

/-- PARSE by the field table of a barge's program, in the table's order. -/
def State.fieldFail (s : State) (r : BargeRec) : Option Reply := (s.recordFor r).bind fun rec => parseTable rec r.barge s

/-- PARSE_STEP: the field table of the program's record, then the format and reserved-field checks of the verb (R5, R22, R182). -/
def execParseStep (barge : Nat) (s : State) : Host.Outcome State Fault Refusal :=
  match s.flt.barges.find barge with
  | none => .next s
  | some r =>
    if !s.turn barge r 0 then .next s
    else
      match firstFail [s.fieldFail r, (verbOf r.barge.opcode).bind fun v => parseFail v r.barge s] with
      | some reply => .next (s.endBarge barge reply)
      | none => .next (s.pass barge)

/-! ## POLICY (R22, R36, R124, R137, R290, R421) -/

/-- Codes that POLICY itself decides: those of class 2 but a quota met by a load, attributes, usage, nonces and handles. -/
def policyCode (c : W16) : Bool :=
  (statusClass c == 2 && c != stQuota) || c == stAttrDenied || c == stUsageExhausted || c == stNonceExhausted || c == stHandle

/-- The parked job that a chunk of AEAD_SEAL goes on with. -/
def parkedJob (b : Barge) : Option Nat :=
  if b.opcode = 0x0670 ∧ fld b.payload 8 1 % 2 = 0 then some (fld b.payload 32 8) else none

/-- Is the parked job claimed by another barge. -/
def State.claimedByOther (s : State) (n : Nat) (b : Barge) : Bool :=
  match (parkedJob b).bind s.eng.parked.find with
  | some p => p.claim.isSome && p.claim != some n
  | none => false

/-- Claim the parked job that a barge's image restores; an image that fails a check claims nothing (R290). -/
def State.claim (s : State) (n : Nat) (b : Barge) : State :=
  match (parkedJob b).map fun _ => s.restoreImageOf b (sl b.payload 16 192) with
  | some (.ok (j, _, _)) => { s with eng := { s.eng with parked := s.eng.parked.mod j fun p => { p with claim := some n } } }
  | some (.error _) => s
  | none => s

/-- POLICY of a lock-program barge: what its work would end with decides, and a lease block that is not ready is waited for; the
blocks reserved and the units claimed for it stay so. A program that raises its exception leaves its flight here, with its charge. -/
def State.policyProgram (s : State) (n : Nat) (r : BargeRec) (v : Verb) : State :=
  let e := s.effectOf n r v
  if policyCode e.reply.status then s.endBarge n e.reply
  else if s.claimedByOther n r.barge then s.endBarge n ⟨stAuthFail, []⟩
  else if e.reply.status = stMirror then s.awaitLease n e
  else
    let tabs := s.tablesRead r.barge
    let s := ((s.claim n r.barge).modBarge n fun r => { r with leaseWait := none, decTabs := tabs }).pass n
    if s.raises r then s.modBarge n fun r => { r with stage := .coreQueue } else s

/-- POLICY of the key handles in the field table of a barge's program (R142, R182). -/
def State.handleFail (s : State) (r : BargeRec) : Option Reply := (s.recordFor r).bind fun rec => policyTable rec r.barge s

/-- Work of a flight's family that must go to the secure world ends at once while that restarts (R421). -/
def State.worldFail (s : State) (r : BargeRec) (v : Verb) : Option Reply :=
  must (!(s.cor.restarting && v.world == .flight && (s.assists r v || s.raises r))) stRestarting

/-- POLICY_STEP: the checks of R22 from the pair state on; a firmware-assisted barge leaves its context for the core queue of its
world. -/
def execPolicyStep (barge : Nat) (s : State) : Host.Outcome State Fault Refusal :=
  match s.flt.barges.find barge with
  | none => .next s
  | some r =>
    if !s.turn barge r 1 then .next s
    else
      match verbOf r.barge.opcode with
      | none => .next (s.endBarge barge ⟨stBadFormat, []⟩)
      | some v =>
        match firstFail [restartFail v s, s.worldFail r v, policyFail v r.barge s, s.handleFail r] with
        | some reply => .next (s.endBarge barge reply)
        | none =>
          if s.assists r v then
            let e := worldEffect v r s
            if e.waits then .next (s.awaitLease barge e)
            else .next ((s.pass barge).modBarge barge fun r =>
              { r with stage := .coreQueue, leaseWait := none, decTabs := s.tablesRead r.barge })
          else .next (s.policyProgram barge r v)

/-- LEASE_WAIT_TIMEOUT. -/
def execLeaseWaitTimeout (barge : Nat) (s : State) : Host.Outcome State Fault Refusal :=
  match s.flt.barges.find barge with
  | none => .next s
  | some r =>
    match r.leaseWait with
    | none => .next s
    | some t => .next ((s.upTo t).endBarge barge ⟨stMirror, []⟩)

/-- A barge waits for nothing but a draw: in a core queue, or at the lock of its work (R337). -/
def State.waitsForDraw (s : State) (n : Nat) (r : BargeRec) : Bool :=
  (s.starves n r).isSome && (r.stage == .coreQueue || ([3, 4, 5, 6].any fun lock => s.mayStep r lock))

/-- DRBG_DRAW_TIMEOUT: a barge waited 100 µs for a draw on a stalled instance and ends with FAULT_DETECTED; no value is
consumed (R337). -/
def execDrbgDrawTimeout (barge : Nat) (s : State) : Host.Outcome State Fault Refusal :=
  match s.flt.barges.find barge with
  | none => .next s
  | some r =>
    if !s.waitsForDraw barge r then .next s
    else .next ((s.upTo (r.drawWait.getD s.now)).endBarge barge ⟨stFault, []⟩)

/-! ## KEYFETCH (R126, R131, R134, R152, R213 to R215) -/

/-- How a fetch goes on: it is complete, it waits, or the barge ends. -/
inductive FetchResult
  | ok (s : State)
  | wait (s : State)
  | ends (s : State) (reply : Reply)

/-- A transit slot of a flight that holds a key by its reference or handle, or a free one for it (R120, R152). -/
def State.transitFor (s : State) (f : Nat) (name : W64) : Option Nat :=
  match (transitSlots f).find? fun i => s.vlt.transit.find i == some name && (s.slot i).state == .transit with
  | some i => some i
  | none => (transitSlots f).find? fun i => (s.slot i).state == .free

/-- A key in a transit slot, with its tag (R125); a key longer than its 64 bytes stands there as far as it goes (log entry 22). -/
def State.fillTransit (s : State) (i : Nat) (name : W64) (x : Slot) : State :=
  let s := s.writeSlot i x
  { s with vlt := { s.vlt with transit := s.vlt.transit.put i name } }

/-- Read one vault slot into the context; a hold-resident key is unwrapped into a transit slot of the flight (R120, R132). -/
def State.takeSlot (s : State) (n i : Nat) (key : Bytes) : FetchResult :=
  let x := s.slot i
  let note (s : State) (js : List Nat) : State :=
    s.modBarge n fun r => { r with fetched := r.fetched ++ i :: js, keys := r.keys ++ [(i, s.slot i, s.vlt.blobs.find i)] }
  if allows x.attributes atHoldResident then
    match (s.flt.barges.find n).bind fun r => s.transitFor r.flight (s.slotHandle i) with
    | none => .wait s
    | some j =>
      .ok (note (s.fillTransit j (s.slotHandle i)
        { state := .transit, slice := x.slice, keyId := x.keyId, attributes := x.attributes, lineage := x.lineage, keyType := x.keyType,
          length := 64, material := fit 64 key }) [j])
  else .ok (note s [])

/-- Read one named vault slot with its tag check into the context. -/
def State.fetchSlot (s : State) (n guardErrors i : Nat) : FetchResult :=
  let x := s.slot i
  if x.state == .quarantined then .ends s ⟨stSlotBad, []⟩
  else if 2 ≤ guardErrors then .ends (s.quarantine i) ⟨stGuard, []⟩
  else
    let s := if guardErrors = 1 then s.raise 256 noInst x.slice 0 i else s
    match s.fetch i with
    | (s, .error r) => if r.status = stSlotBad then .ends s r else .ok (s.modBarge n fun r => { r with keys := r.keys ++ [(i, x, none)] })
    | (s, .ok k) => s.takeSlot n i k

/-- A KEK in a transit slot. -/
def transitKey (e : CacheEntry) (kek : Bytes) : Slot :=
  { state := .transit, slice := e.slice, keyId := e.keyId, attributes := e.attributes, lineage := e.lineage, keyType := 3,
    length := 32, material := fit 64 kek }

/-- Take a resolved entry into the context: verified, pinned, and unwrapped into a transit slot of the flight (R134). -/
def State.takeEntry (s : State) (n : Nat) (r : BargeRec) (e : CacheEntry) : FetchResult :=
  match s.transitFor r.flight e.ref with
  | none => .wait s
  | some i =>
    let fresh : Bool := !r.pinned.contains e.ref
    let pin (x : CacheEntry) : CacheEntry := if fresh && x.ref == e.ref then { x with pins := x.pins + 1 } else x
    let s := s.fillTransit i e.ref (transitKey e (s.kekOf e))
    let s := { s with vlt := { s.vlt with cache := s.vlt.cache.map pin } }
    .ok (s.modBarge n fun r =>
      { r with fetched := r.fetched ++ [i], keks := r.keks ++ [e], pinned := if fresh then r.pinned ++ [e.ref] else r.pinned })

/-- The entry a load has pinned for a selector. -/
def State.loadedFor (s : State) (r : BargeRec) (keyId : W64) : Option CacheEntry :=
  s.vlt.cache.find? fun e => r.pinned.contains e.ref && e.keyId == keyId && !(r.keks.any fun x => x.ref == e.ref)

/-- Resolve one selector (R213); a blob to load starts a load, which CACHE_LOAD_DONE ends. A KEK that was shredded since its load is not
fetched any more (R233). -/
def State.fetchKek (s : State) (n : Nat) (r : BargeRec) (off : Nat) (blob : Option Bytes) : FetchResult :=
  let sel := selectorOf r.barge off
  let keyId : W64 := BitVec.ofNat 64 (fld sel 8 8)
  match s.loadedFor r keyId with
  | some e => if s.voided e then .ends s badHandle else s.takeEntry n r e
  | none =>
    let held := if r.barge.opcode = 0x0412 then [] else ((s.transitEntry r.flight r.barge.slice keyId).filter fun e => !s.voided e).toList
    match s.selectKek r.barge.slice sel none 2 held, blob with
    | (s, .ok e), _ => s.takeEntry n r e
    | (s, .error reply), none => .ends s reply
    | (s, .error reply), some bl =>
      if reply.status ≠ stCacheMiss then .ends s reply
      else if blobKeyId bl ≠ keyId then .ends s badHandle
      else if s.vlt.loads.any fun l => l.2.1 == n then .wait s
      else
        let read := if fld bl 4 1 = 1 then none else (s.cached r.barge.slice (blobLineage bl)).map (·.ref)
        .wait { s with vlt := { s.vlt with loads := s.vlt.loads ++ [(r.barge.slice, n, bl, read)] } }

/-- KEYFETCH of the next key of a barge: its KEK selectors first, then its vault slots. -/
def State.fetchNext (s : State) (n guardErrors : Nat) (r : BargeRec) : FetchResult :=
  match keksLeft r, s.slotsLeft r with
  | (off, blob) :: _, _ => s.fetchKek n r off blob
  | [], i :: _ => s.fetchSlot n guardErrors i
  | [], [] => .ok s

/-- Keys that a barge has yet to fetch, as they stand now. -/
def State.fetchLeft (s : State) (n : Nat) : Bool :=
  match s.flt.barges.find n with
  | some r => !(keksLeft r).isEmpty || !(s.slotsLeft r).isEmpty
  | none => false

/-- KEYFETCH_STEP: one key (R147). A default program stays at the lock until every key it names is fetched; a record says how many steps
there are. It waits while the vault is locked, its flight's transit slots are taken or its load runs. -/
def execKeyfetchStep (barge guardErrors : Nat) (s : State) : Host.Outcome State Fault Refusal :=
  match s.flt.barges.find barge with
  | none => .next s
  | some r =>
    if !s.turn barge r 2 then .next s
    else
      let s := s.wakeDomain 3
      let s := if (kekSelectors r.barge).isEmpty then s else s.wakeDomain 4
      match r.reply with
      | some reply => .next (s.endBarge barge reply)
      | none =>
        match s.fetchNext barge guardErrors r with
        | .wait s => .next s
        | .ends s reply => .next (s.endBarge barge reply)
        | .ok s => .next (if (s.recordFor r).isNone && s.fetchLeft barge then s else s.pass barge)

/-! ## Engine steps (R123, R147 to R151, R159, R273, R278, R291, R292) -/

/-- CIPHER locks before a position of a flight's series. -/
def State.cipherLocks (s : State) (f pos : Nat) : Nat :=
  ((s.groupOfFlight f).map fun g => ((g.locks.take pos).filter (· == 3)).length).getD 0

/-- The key a cipher job loads: the keys of its barge in the order KEYFETCH read them, one for each CIPHER lock in turn and the last one
from there on (log entry 42). -/
def State.jobKey (s : State) (r : BargeRec) (pos : Nat) : Bytes :=
  let keys := r.keks.map s.kekOf ++ r.keys.map fun k => k.2.1.material.take k.2.1.length
  keys.getD (min (s.cipherLocks r.flight pos) (keys.length - 1)) []

/-- Type of that key; a KEK is of type 3. -/
def State.jobKeyType (s : State) (r : BargeRec) (pos : Nat) : Nat :=
  let types := r.keks.map (fun _ => 3) ++ r.keys.map fun k => k.2.1.keyType
  types.getD (min (s.cipherLocks r.flight pos) (types.length - 1)) 0

/-- Give a public-key or lattice engine its descriptor, its operands and its key: a key whose blob is in the hold is opened by the blob
opener, any other arrives at the key port (R300, R302). -/
def State.loadOperands (s : State) (n : Nat) (j : Job) : State :=
  match (s.flt.barges.find n).bind fun r => (pkFormOf r.barge.opcode).map fun f => (r, f) with
  | none => s
  | some (r, f) =>
    let held := r.keys.find? fun k => allows k.2.1.attributes atHoldResident
    let key := match held.map fun k => (s.fetch k.1).2 with
      | some (.ok k) => k
      | some (.error _) => []
      | none => s.jobKey r j.position
    let type := ((r.keys.head?).map fun k => k.2.1.keyType).getD 0
    s.modEngine j.kind j.engine fun e =>
      { e with path := { e.path with
          keyPort := if held.isSome then [] else key, opened := if held.isSome then key else [], operands := s.operandRam r.barge,
          descriptor := f.descriptor r.barge n (Config.stagingPlace r.flight r.context)
            ((held.map fun k => Config.blobPlace k.1).getD 0) type } }

/-- Set some cores up for the job of a barge, each with its key and its block, and busy (R273 to R275). -/
def State.setUpCores (s : State) (n : Nat) (r : BargeRec) (j : Job) (cores : List Nat) : State :=
  let key := s.jobKey r j.position
  let fixed := typeBallast (s.jobKeyType r j.position)
  cores.foldl (fun s e => (s.setUp j.kind e fixed key (exact 16 (Config.modeBlock r.barge.opcode r.barge.payload key)) n).modEngine j.kind e
    fun x => { x with busy := true }) s

/-- Start a job of a step on an engine, with its key and its first block. -/
def State.startJob (s : State) (n : Nat) (j : Job) : State :=
  match s.flt.barges.find n with
  | none => s
  | some r =>
    let s := s.wakeDomain (engineDomain j.kind j.engine)
    let s :=
      if isCipher j.kind then
        let s := (s.setUpCores n r j (j.engine :: j.more)).unstage n
        if j.attached then s else s.countSite 4 0 513 1
      else (s.loadOperands n j).modEngine j.kind j.engine fun x => { x with busy := true }
    (s.pass n).modBarge n fun r => { r with job := some j }

/-- Take the chamber for a long result, and write there what the job puts out: of an opening that fails, the plaintext that is never
released, which is free (R291). -/
def State.takeChamber (s : State) (n : Nat) (r : BargeRec) : State :=
  let len := jobOutput r.barge
  match s.flt.barges.find n with
  | none => s
  | some x =>
    if len ≤ 64 then s
    else
      let (bs, s) : Bytes × State := match x.reply with
        | some y => if y.status = stDone then (y.payload.drop (y.payload.length - len), s) else s.freeBytes len
        | none => ([], s)
      { s with eng := { s.eng with chambers := s.eng.chambers.put r.flight ⟨n, bs⟩ } }

/-- A pooled shuffled core in the last block of its job takes the key of the barge that is granted it next into its second key port; which
core has come so far, if any, is free (R273; log entry 42). -/
def State.stageKey (s : State) (n : Nat) (r : BargeRec) : State :=
  let busy := (kindNumbers .shuffled).filter fun c =>
    s.serves .shuffled c && (s.engine .shuffled c).busy && (s.engine .shuffled c).path.nextFor.isNone &&
      (s.partOf .shuffled c).any fun p => p.kind == 1 && p.groups.testBit (s.groupCode r.flight)
  let staged : Bool := s.eng.bank.engines.any fun e => e.2.path.nextFor == some n
  if s.onBound r || s.masks r || staged || s.aheadAtLock n r 3 then s
  else
    let (k, s) := s.freeNat
    match busy[k]? with
    | none => s
    | some c =>
      let key := s.jobKey r (s.position r)
      s.modEngine .shuffled c fun e => { e with path := { e.path with nextPort := key, nextFor := some n } }

/-- CIPHER_STEP: the job is dispatched when a core and the chamber are free; its counter draws are made and stay consumed. -/
def execCipherStep (barge : Nat) (s : State) : Host.Outcome State Fault Refusal :=
  match s.flt.barges.find barge with
  | none => .next s
  | some r =>
    if !s.turn barge r 3 then
      .next (if s.mayStep r 3 && (s.cipherJob barge r).isNone then s.stageKey barge r else s.standsBy barge r 3)
    else
      match s.cipherJob barge r, s.workWaits barge r with
      | none, _ => .next s
      | some _, some t => .next t
      | some j, none => .next (((s.work barge r).takeChamber barge r).startJob barge j)

/-- HASH_STEP. -/
def execHashStep (barge : Nat) (s : State) : Host.Outcome State Fault Refusal :=
  match s.flt.barges.find barge with
  | none => .next s
  | some r =>
    if !s.turn barge r 4 then .next (s.standsBy barge r 4)
    else
      match lowest (s.grantable .hash r), s.workWaits barge r with
      | none, _ => .next s
      | some _, some t => .next t
      | some e, none => .next ((s.work barge r).startJob barge { kind := .hash, engine := e, attached := false, position := s.position r })

/-- PKE_STEP. -/
def execPkeStep (barge : Nat) (s : State) : Host.Outcome State Fault Refusal :=
  match s.flt.barges.find barge with
  | none => .next s
  | some r =>
    if !s.turn barge r 5 then .next (s.standsBy barge r 5)
    else
      match lowest (s.grantable (pkeKind r) r), s.workWaits barge r with
      | none, _ => .next s
      | some _, some t => .next t
      | some e, none => .next ((s.work barge r).startJob barge { kind := pkeKind r, engine := e, attached := false, position := s.position r })

/-! ## FORMAT and EMIT (R38, R40, R130, R153, R162) -/

/-- FORMAT_STEP: the response is built; a program without an engine step does its work here. -/
def execFormatStep (barge : Nat) (s : State) : Host.Outcome State Fault Refusal :=
  match s.flt.barges.find barge with
  | none => .next s
  | some r =>
    if !s.turn barge r 6 then .next (s.standsBy barge r 6)
    else
      match s.workWaits barge r with
      | some t => .next t
      | none => .next ((s.work barge r).pass barge)

/-- EMIT_STEP: the result goes to the wharf, or to the epoch hold when that has room; a difference of generation discards it. -/
def execEmitStep (barge : Nat) (s : State) : Host.Outcome State Fault Refusal :=
  match s.flt.barges.find barge with
  | none => .next s
  | some r =>
    if !s.turn barge r 7 then .next s
    else
      match r.reply with
      | none => .next s
      | some reply =>
        let s := (s.judge barge).discharge barge
        let s := s.judgeLate r
        let s := s.completeWith r.prior r.request r.pn r.flight { st := s, reply := reply, touch := r.touch }
        .next (s.countSite 3 r.flight 513 1).switchAdvance

/-! ## Firmware-assisted barges (R36, R102, R153) -/

/-- A barge comes back to its flight, to its FORMAT step: into a free context, or ahead of its class in the pound. -/
def State.comeBack (s : State) (n : Nat) (f : Nat) : State :=
  let stage : BargeStage := if s.flightUp f && s.contexts f < 16 then .context else .pound
  let s := s.modBarge n fun r =>
    s.lookAhead { r with stage := stage, drawWait := none, context := s.freeContext f, steps := (s.plan r).length - 2 }
  match s.flt.barges.find n with
  | some r => if stage == .context && r.admitted == 0 then s.suspendJobs f else s
  | none => s

/-- Block operations of a KEK verb of the secure world (R236). -/
def worldBlocks (b : Barge) : Option Nat :=
  if b.opcode = 0x0410 then some 39 else if b.opcode = 0x0411 then some 78 else none

/-- A KEK verb of the secure world has done its block operations on a core of the shuffled pool's part 2 (R236); which core is
free. -/
def State.worldJob (s : State) (b : Barge) (r : Reply) : State :=
  match worldBlocks b with
  | none => s
  | some n =>
    let cores := (kindNumbers .shuffled).filter fun c => s.serves .shuffled c && (s.partOf .shuffled c).any fun p => p.part == 2
    if r.status = stDone then s.shuffledJob cores { blocks := n } else s

/-- A world's work needs one of its clusters up: where all are put down or gated, the lowest is woken (R33, R508; log entry 38). -/
def State.wakeWorld (s : State) (w : World) : State :=
  let mine := (List.range 8).filter fun c => s.secureClusters.testBit c == (w != .normal)
  if mine.any fun c => !(s.domain (23 + c)).stopped then s
  else
    match mine.head? with
    | some c => s.wakeDomain (23 + c)
    | none => s

/-- Work on keys reaches the vault and the hold (R33). -/
def State.wakeKeys (s : State) (opcode : Nat) : State :=
  if 2 ≤ family opcode && family opcode ≤ 6 then (s.wakeDomain 3).wakeDomain 4 else s

/-- FW_ASSIST_RETURN: the world has done its work; a response that a later command releases takes the barge's record with it. -/
def execFwAssistReturn (barge : Nat) (s : State) : Host.Outcome State Fault Refusal :=
  match s.flt.barges.find barge with
  | none => .next s
  | some r =>
    if r.stage ≠ .coreQueue then .next s
    else if (s.slice r.barge.slice).generation != r.barge.generation then .next (s.discharge barge)
    else
      match verbOf r.barge.opcode with
      | none => .next (s.endBarge barge ⟨stBadFormat, []⟩)
      | some v =>
        let s := (s.wakeWorld (queueWorld r.barge.opcode)).wakeKeys r.barge.opcode
        let e := s.worldWork r v
        if e.starved s then .next (s.awaitDraw barge e)
        else if e.later then .next ((e.st.recordIdem r.barge none false).discharge barge)
        else .next (((s.keepEffect barge r.barge e).worldJob r.barge e.reply).comeBack barge r.flight)

/-! ## Drains that run out (R102, R144, R372) -/

/-- DRAIN_TIMEOUT: barges still running 50 ms into a drain end with ABORTED_HOST. -/
def execDrainTimeout (d : Drain) (s : State) : Host.Outcome State Fault Refusal :=
  match d with
  | .slice n =>
    match (s.slice n).drain with
    | none => .next s
    | some q =>
      .next ((s.upTo q.deadline).abortBarges (fun r => r.barge.slice == n && r.barge.generation == q.oldGeneration) stAbortHost)
  | .shred n =>
    match s.vlt.shreds.find n with
    | none => .next s
    | some q => if q.phase < 3 then .next ((s.upTo q.deadline).abortBarges (shredInUse q) stAbortHost) else .next s
  | .switchover =>
    if s.tow.switchover && s.tow.pair == .primary then
      .next (((s.upTo s.tow.switchDrain).abortBarges BargeRec.running stAbortHost).switchAdvance)
    else .next s

end Sys2Proof.Machine
end

