-- ==== Sys2Proof/Machine/Jobs.lean ====
section
/-! DEFINITION. How jobs end on the engines, the faults of engines with the alarms they raise, and the resumption of suspended jobs
(R151, R272 to R282, R291, R304, R305, R310 to R313, R316 to R318, R322, R329, R342; log entries 25, 42 and 43). -/

namespace Sys2Proof.Machine

/-- The job a barge runs now, of a kind. -/
def runningJob (r : BargeRec) (p : EngineKind → Bool) : Option Job :=
  r.job.bind fun j => if p j.kind && !j.suspended then some j else none

/-- The engines of a job that has ended are free and erased, but for the output register, which waits for the wharf (R273, R291). -/
def State.leaveEngines (s : State) (j : Job) : State :=
  let moved := (j.engine :: j.more).any fun n => (s.engine j.kind n).moves
  let s := (j.engine :: j.more).foldl (fun s n => s.modEngine j.kind n fun e => { e.idle with path := e.path.erased }) s
  if moved then s.fillPlaces j.kind else s

/-- A job leaves its engine at its commit: its result is written, unless its slice's generation has advanced since, and a chamber
that holds a refused opening is erased (R291, R303, R311, R313). -/
def State.finishJob (s : State) (n : Nat) (j : Job) : State :=
  let s := (s.leaveEngines j).modBarge n fun r => { r with job := none, results := [] }
  match s.flt.barges.find n with
  | none => s
  | some r =>
    if (r.reply.any fun y => y.status != stDone) then
      { s with eng := { s.eng with chambers := s.eng.chambers.filter fun c => c.2.owner != n } }
    else s

/-- The results of a barge's job are written to their operand buffers (R303, R313). -/
def State.writeResults (s : State) (r : BargeRec) : State :=
  if (s.slice r.barge.slice).generation = r.barge.generation then r.results.foldl State.commitResult s else s

/-! ## What cipher jobs do (R214, R219, R236, R247 to R262, R277, R296) -/

/-- Block operations of one wrap or unwrap of a data key, its key derivation among them (R219). -/
def keyBlocks (suite length : Nat) : Nat :=
  if suite = 1 then (if length = 32 then 27 else 15) else if length = 32 then 12 else 11

/-- Block operations of a rewrap of a wrapped key to a suite (R219, R236). -/
def rewrapBlocks (wrapped : Bytes) (suite : Nat) : Nat :=
  keyBlocks (fld wrapped 0 1) (fld wrapped 1 1) + keyBlocks suite (fld wrapped 1 1)

/-- The wrapped keys of a bulk request of n entries whose first entry stands at an offset (R226). -/
def bulkKeys (p : Bytes) (off n : Nat) : List Bytes := (List.range n).map fun i => sl p (off + 76 * i + 12) 64

/-- Bits set in a counter. -/
def bitsSet (x n : Nat) : Nat := ((List.range n).filter x.testBit).length

/-- Work of n block operations under keys of one type. -/
def typedWork (type n : Nat) : JobWork := { blocks := n, ballast := n * typeBallast type }

/-- A MAC of n bytes: algorithm 3 runs on single DES (R262, R272). -/
def macWork (alg type n : Nat) : JobWork :=
  if alg = 3 then { blocks := macBlocks 3 n, ballast := 10 * macBlocks 3 n } else typedWork type (macBlocks alg n)

/-- A CVV: a single-DES block and a TDES block (R257, R272). -/
def cvvWork : JobWork := { blocks := 2, ballast := 12 }

/-- A chunk: two blocks under its sealing key, the others under AES-256 keys (R293, R296). -/
def chunkWork (type n images : Nat) : JobWork := { blocks := chunkBlocks n images, ballast := 2 * typeBallast type }

/-- The decryption of a PIN block on the first CIPHER lock, with the derivation of its key: g bits stand in a DUKPT counter (R247, R250 to
R252). -/
def pinWork (kind format ksnLow : Nat) : JobWork :=
  if kind = 1 then { blocks := 3 + 2 * bitsSet ksnLow 21, loads := 2 + bitsSet ksnLow 21 }
  else if kind = 2 then { blocks := 4 + bitsSet ksnLow 32, loads := 3 + bitsSet ksnLow 32 }
  else if kind = 3 then { blocks := 6 + 2 * bitsSet ksnLow 32, loads := 3 + bitsSet ksnLow 32 }
  else { blocks := if format = 4 then 2 else 1 }

/-- Derivations and the CMAC subkey of an ARQC, on the first CIPHER lock (R258, R259). -/
def arqcKeys (scheme type : Nat) : JobWork :=
  if scheme = 1 then { blocks := 4, loads := 2 } else if type = 1 then { blocks := 3, loads := 3 } else { blocks := 5, loads := 3 }

/-- The data of an ARQC and, once it verifies, the ARPC, on the second lock (R259, R260). -/
def arqcData (ext : Bool) (p : Bytes) (verified : Bool) : JobWork :=
  let n := fld p 14 2
  let scheme := fld p 8 1
  let mac (m : Nat) : Nat := if scheme = 1 then m / 8 + 3 else (m + 15) / 16
  let arpc := if !ext || !verified || fld p 11 1 = 0 then 0 else if fld p 11 1 = 1 then 1 else mac (12 + fld p 40 1)
  { blocks := mac n + arpc }

/-- What the first CIPHER job of a command does, where the spec fixes it. -/
def firstWork (b : Barge) (type : Nat) : Option JobWork :=
  let p := b.payload
  match b.opcode with
  | 0x0401 => some { blocks := keyBlocks (fld p 26 1) (fld p 27 1) }
  | 0x0402 => some { blocks := keyBlocks (fld p 26 1) (fld p 27 1) }
  | 0x0403 => some { blocks := keyBlocks (fld p 32 1) (fld p 33 1) }
  | 0x0404 => some { blocks := rewrapBlocks (sl p 48 64) (fld p 44 1) }
  | 0x0405 => some { blocks := ((bulkKeys p 20 (fld p 16 1)).map fun k => keyBlocks (fld k 0 1) (fld k 1 1)).sum }
  | 0x0406 => some { blocks := ((bulkKeys p 36 (fld p 32 1)).map fun k => rewrapBlocks k (fld p 33 1)).sum }
  | 0x0412 => some { blocks := if fld p 4 1 = 1 then 36 else 39 }
  | 0x0501 => some (pinWork (fld p 18 1) (fld p 16 1) (if fld p 18 1 = 1 then fld p 32 10 else fld p 40 4))
  | 0x0502 => some (pinWork 0 4 0)
  | 0x0503 => some (pinWork (fld p 18 1) (fld p 17 1) (if fld p 18 1 = 1 then fld p 32 10 else fld p 40 4))
  | 0x0580 => some (pinWork 0 (fld p 17 1) 0)
  | 0x0581 => some (pinWork 0 0 0)
  | 0x0582 => some (pinWork 1 (fld p 16 1) (fld p 32 10))
  | 0x0510 => some (arqcKeys 2 type)
  | 0x0511 => some (arqcKeys (fld p 8 1) type)
  | 0x058C => some (arqcKeys 1 type)
  | 0x0520 => some cvvWork
  | 0x0521 => some cvvWork
  | 0x0584 => some cvvWork
  | 0x0585 => some cvvWork
  | 0x0530 => some (macWork (fld p 8 1) type (fld p 12 2))
  | 0x0531 => some (macWork (fld p 8 1) type (fld p 12 2))
  | 0x0588 => some (macWork (fld p 8 1) type (fld p 12 2))
  | 0x0589 => some (macWork (fld p 8 1) type (fld p 12 2))
  | 0x0670 => some (chunkWork type (fld p 12 4) ((if (fld p 8 1).testBit 0 then 0 else 1) + if (fld p 8 1).testBit 1 then 0 else 1))
  | 0x0671 => some (chunkWork type (fld p 52 4 - 16) 0)
  | _ => none

/-- What the second CIPHER job of a command does, where the spec fixes it. -/
def secondWork (b : Barge) (verified : Bool) : Option JobWork :=
  let p := b.payload
  match b.opcode with
  | 0x0501 => some { blocks := if fld p 17 1 = 4 then 2 else 1 }
  | 0x0502 => some { blocks := 2 }
  | 0x0581 => some { blocks := 1 }
  | 0x0582 => some { blocks := if fld p 17 1 = 4 then 2 else 1 }
  | 0x0503 => some { blocks := fld p 16 1 }
  | 0x0580 => some { blocks := 1 }
  | 0x0510 => some (arqcData false p verified)
  | 0x0511 => some (arqcData true p verified)
  | 0x058C => some (arqcData true p verified)
  | _ => none

/-- What a cipher job does: a command's first and second CIPHER job where the spec fixes them; any further one a program's record may have
does a free number of blocks (log entry 42). -/
def State.jobWork (s : State) (r : BargeRec) (j : Job) : JobWork × State :=
  let lock := s.cipherLocks r.flight j.position
  let work := if lock = 0 then firstWork r.barge (s.jobKeyType r j.position)
    else if lock = 1 then secondWork r.barge (r.reply.any fun y => y.status == stDone) else none
  match work with
  | some w => (w, s)
  | none =>
    let (n, s) := s.freeNat
    (typedWork (s.jobKeyType r j.position) n, s)

/-! ## The ends of cipher jobs (R276, R278, R279, R291) -/

/-- The part of a job that is left has run on a core: the state, and whether the core stops for want of a seed (R276). -/
def State.ranOn (s : State) (j : Job) (core : Nat) (w : JobWork) : State × Bool :=
  let s := s.countBlocks j.kind core w
  (s, (s.engine j.kind core).seedless.isSome)

/-- A cipher job commits: what its segments have not counted is counted on its first core, and the block stands in the output register; a
core that lacks a seed keeps its job. -/
def State.commitCipher (s : State) (n : Nat) (r : BargeRec) (j : Job) : State :=
  let (w, t) := s.jobWork r j
  let (t, stops) := t.ranOn j j.engine { w with blocks := w.blocks - j.counted }
  if stops then s.copySeeds t j.kind j.engine else ((t.joinOutput j.kind j.engine).writeResults r).finishJob n j

/-- A split job takes further cores as they come free, up to eight and to the segments it has left, after the barges that are served
before it (R278, R159). -/
def State.joinCores (s : State) (n : Nat) (r : BargeRec) (j : Job) : State :=
  let mine := j.engine :: j.more
  let free := (s.grantable j.kind r).filter fun c => !mine.contains c
  let cores := free.take (min (min (j.segments - 1) 8 - mine.length) (free.length - s.aheadInPool n r 3 j.kind))
  (s.setUpCores n r j cores).modBarge n fun r => { r with job := some { j with more := j.more ++ cores } }

/-- The split jobs that run take what cores have come free (R278). -/
def State.spreadSegments (s : State) : State :=
  s.flt.barges.foldl (fun s e =>
    match (s.flt.barges.find e.1).bind fun r => r.job.map fun j => (r, j) with
    | some (r, j) => if 2 ≤ j.segments && isCipher j.kind && !j.suspended then s.joinCores e.1 r j else s
    | none => s) s

/-- One segment of a split job has ended, of 256 blocks unless it is the last: its core is free unless a further segment runs on it; a core
that lacks a seed keeps its segment. -/
def State.endSegment (s : State) (n : Nat) (r : BargeRec) (j : Job) : State :=
  let left := j.segments - 1
  let more : Bool := left - 1 ≤ j.more.length
  let core := (j.more.getLast?).getD j.engine
  let blocks := min 256 ((segmentBytes r.barge + 15) / 16 - j.counted)
  let (t, stops) := s.ranOn j core { blocks := blocks }
  if stops then s.copySeeds t j.kind core
  else
    let t := t.countSite 4 0 515 1
    let job := { j with segments := left, counted := j.counted + blocks }
    if more && !j.more.isEmpty then
      ((t.leaveEngines { j with engine := core, more := [] }).modBarge n fun r =>
        { r with job := some { job with more := j.more.dropLast } }).spreadSegments
    else t.modBarge n fun r => { r with job := some job }

/-- A core that stopped for want of the seed of its key load takes it up again once its stream serves. -/
def State.retrySetUp (s : State) (n : Nat) (r : BargeRec) (j : Job) : State :=
  let stopped := (j.engine :: j.more).filter fun c => (s.engine j.kind c).seedless.isSome && (s.engine j.kind c).path.roundKeys.isEmpty
  if j.kind = .masked then s.setUpCores n r j stopped else s

/-! ## Alarms of the islands (R281, R312; log entry 25) -/

/-- The sentinel answers the escalation alarms whose lines stand, within the step that raised them; a logic alarm's reading is free. -/
def State.answerAlarms (s : State) : State :=
  [0x23, 0x24, 0x25, 0x26].foldl (fun s code =>
    if (s.sensor code).condition then
      let (x, s) := s.freeNat
      (s.modSensor code fun x => { x with condition := false }).alarm code 0 (BitVec.ofNat 32 x) 0
    else s) s

/-- An engine fault with the alarm it may raise. -/
def State.faultAnswered (s : State) (k : EngineKind) (n : Nat) (faultBit : W32) (status : W16) : State :=
  (s.faultEngine k n faultBit status).answerAlarms

/-- CIPHER_JOB_DONE: the job commits, or one of its segments ends; a fault ends it with the fault's status and takes the core
out of service. -/
def execCipherJobDone (barge : Nat) (end_ : JobEnd) (s : State) : Host.Outcome State Fault Refusal :=
  match s.flt.barges.find barge with
  | none => .next s
  | some r =>
    match runningJob r isCipher with
    | none => .next s
    | some j =>
      match end_ with
      | .commit =>
        let s := s.retrySetUp barge r j
        if (j.engine :: j.more).any fun c => j.kind == .masked && (s.engine j.kind c).path.roundKeys.isEmpty then .next s
        else if j.segments = 0 then .next (s.commitCipher barge r j).spreadSegments
        else if j.segments = 1 then .next s
        else .next (s.endSegment barge r j)
      | .guard => .next (s.faultAnswered j.kind j.engine 1 stGuard)
      | .control => .next (s.faultAnswered j.kind j.engine 2 stFault)
      | .maskgen => .next (s.faultAnswered j.kind j.engine 4 stFault)

/-- SEGMENT_COMBINE: every segment has ended; the partial GHASH values are joined and the job commits. -/
def execSegmentCombine (barge : Nat) (s : State) : Host.Outcome State Fault Refusal :=
  match s.flt.barges.find barge with
  | none => .next s
  | some r =>
    match runningJob r isCipher with
    | none => .next s
    | some j => if j.segments = 1 then .next (s.commitCipher barge r j).spreadSegments else .next s

/-- A job was ended by a check of R305 or R306: not for an all-zero secret of R307, nor for a buffer range or a key size (log entry 27). -/
def rejectedJob (b : Barge) (c : W16) : Bool :=
  (c == stInputZero && b.opcode != 0x0606) || c == stNoncanonical || c == stNotOnCurve || c == stSigInvalid ||
    (c == stOperand && [0x0611, 0x0681, 0x0620].contains b.opcode)

/-- Count a public-key or lattice job: committed, or ended by a check of R305 or R306 (R329). -/
def State.countJob (s : State) (r : BargeRec) (j : Job) : State :=
  let ok : Bool := r.reply.any fun y => y.status == stDone
  let rejected : Bool := r.reply.any fun y => rejectedJob r.barge y.status
  if ok then
    let s := s.countOps j.kind j.engine 1
    if j.kind = .publicKey then s.countSite 5 0 512 1 else s
  else if j.kind = .publicKey && rejected then
    (s.modEngine j.kind j.engine fun e => { e with aux := e.aux + 1 }).countSite 5 0 513 1
  else s

/-- PKE_JOB_DONE: the twin computations agree and the job commits or rejects, or they differ (R304, R305, R310). -/
def execPkeJobDone (barge : Nat) (twin : Bool) (s : State) : Host.Outcome State Fault Refusal :=
  match s.flt.barges.find barge with
  | none => .next s
  | some r =>
    match runningJob r (· == .publicKey) with
    | none => .next s
    | some j =>
      if twin then .next (((s.countJob r j).writeResults r).finishJob barge j)
      else .next ((s.countSite 5 0 514 1).faultAnswered .publicKey j.engine 4 stFault)

/-- LATTICE_JOB_DONE: the release check passes and the job commits, or it fails; ML-DSA signing that reaches 256 iterations ends
with FAULT_DETECTED and its engine stays in service (R313, R316, R317). -/
def execLatticeJobDone (barge iterations : Nat) (release : Bool) (s : State) : Host.Outcome State Fault Refusal :=
  match s.flt.barges.find barge with
  | none => .next s
  | some r =>
    match runningJob r (· == .lattice) with
    | none => .next s
    | some j =>
      let signs : Bool := r.barge.opcode == 0x0632
      let run := if signs then min iterations 256 else 0
      let s := s.modEngine .lattice j.engine fun e => { e with aux := e.aux + BitVec.ofNat 32 run }
      if signs && 256 ≤ iterations then
        .next ((s.endJob barge stFault).modEngine .lattice j.engine fun e => { e with faultBits := e.faultBits ||| 8 })
      else if release then .next (((s.countJob r j).writeResults r).finishJob barge j)
      else .next (s.faultAnswered .lattice j.engine 4 stFault)

/-- HASH_JOB_DONE. -/
def execHashJobDone (barge compressions : Nat) (s : State) : Host.Outcome State Fault Refusal :=
  match s.flt.barges.find barge with
  | none => .next s
  | some r =>
    match runningJob r (· == .hash) with
    | none => .next s
    | some j =>
      .next (((s.countOps .hash j.engine compressions).writeResults r).finishJob barge j)

/-- SUSPENDED_JOB_RESUME: no C0 barge of the flight has the lock yet to pass, and the bound core is free (R151). -/
def execSuspendedJobResume (barge : Nat) (s : State) : Host.Outcome State Fault Refusal :=
  match s.flt.barges.find barge with
  | none => .next s
  | some r =>
    match r.job with
    | none => .next s
    | some j =>
      if !j.suspended || s.blocked r j.position || (s.engine j.kind j.engine).busy then .next s
      else
        let s := s.loadKey j.kind j.engine (s.jobKey r j.position) barge
        if (s.engine j.kind j.engine).seedless.isSome then .next s
        else
          let s := s.modEngine j.kind j.engine fun e =>
            { e with busy := true, suspended := false, path := { e.path with shares := savedShares e.path.saveRam, saveRam := [] } }
          .next (s.modBarge barge fun r => { r with job := some { j with suspended := false } })

/-! ## Faults of engines (R276, R279, R281, R310, R312, R322, R342) -/

/-- BNK_CORE_FAULT (R279). -/
def execBnkCoreFault (core : Nat) (cause : EngineCause) (s : State) : Host.Outcome State Fault Refusal :=
  .next (s.faultAnswered (coreKind core) core (causeBit cause) (causeStatus cause))

/-- SEED_TIMEOUT: the job of a core without its seed has waited 100 µs (R276). -/
def execSeedTimeout (core : Nat) (s : State) : Host.Outcome State Fault Refusal :=
  match (s.engine (coreKind core) core).seedless with
  | none => .next s
  | some t => if (s.jobsOn (coreKind core) core).isEmpty then .next s else .next ((s.upTo t).faultAnswered (coreKind core) core 4 stFault)

/-- ENGINE_FAULT (R310). -/
def execEngineFault (kind : EngineKind) (engine : Nat) (cause : EngineCause) (s : State) : Host.Outcome State Fault Refusal :=
  .next (s.faultAnswered kind engine (causeBit cause) (causeStatus cause))

/-- PERIODIC_KAT: a pooled engine or spare repeats its known answers every 3,600 s; a failure counts as a fault (R342). -/
def execPeriodicKat (kind : EngineKind) (engine : Nat) (pass : Bool) (s : State) : Host.Outcome State Fault Refusal :=
  if !s.katMayRun kind engine then .next s
  else
    let s := s.upTo (max (s.engine kind engine).katAt (s.clk.startAt + 3600000000000))
    let s := s.modEngine kind engine fun e => { e with katAt := s.now + 3600000000000 }
    .next (if pass then s else s.faultAnswered kind engine 0 stFault)

/-- DEVICE_SIGNATURE_DONE (R322). -/
def execDeviceSignatureDone (verified : Bool) (s : State) : Host.Outcome State Fault Refusal := .next (s.signHead verified).answerAlarms

end Sys2Proof.Machine
end

