-- ==== Sys2Proof/Machine/Dispatch.lean ====
section
/-! DEFINITION. The meaning of every command, one arm per row of the opcode table. -/

namespace Sys2Proof.Machine

/-- The effect of a command on everything but the queue. -/
def exec (i : Instr) (s : State) : Host.Outcome State Fault Refusal :=
  match i with
  | .readReg b => Sys2Proof.Machine.execReadReg b s
  | .writeReg b => Sys2Proof.Machine.execWriteReg b s
  | .readRegDx6100 b => Sys2Proof.Machine.execReadRegDx6100 b s
  | .loReadLatch r => Sys2Proof.Machine.execLoReadLatch r s
  | .pcntLoWrite w block => Sys2Proof.Machine.execPcntLoWrite w block s
  | .whfLinkcfgWrite w => Sys2Proof.Machine.execWhfLinkcfgWrite w s
  | .resetPcs w => Sys2Proof.Machine.execResetPcs w s
  | .ixpRattrWrite w => Sys2Proof.Machine.execIxpRattrWrite w s
  | .ixpFbattrWrite w => Sys2Proof.Machine.execIxpFbattrWrite w s
  | .pop w => Sys2Proof.Machine.execPop w s
  | .clkOff w => Sys2Proof.Machine.execClkOff w s
  | .pwrOff w => Sys2Proof.Machine.execPwrOff w s
  | .keeperLeaseWrite w => Sys2Proof.Machine.execKeeperLeaseWrite w s
  | .gatereqClockOff w => Sys2Proof.Machine.execGatereqClockOff w s
  | .gatereqPowerOff w => Sys2Proof.Machine.execGatereqPowerOff w s
  | .gatereqRestore w => Sys2Proof.Machine.execGatereqRestore w s
  | .coreWdkick w => Sys2Proof.Machine.execCoreWdkick w s
  | .coreNwdkick w => Sys2Proof.Machine.execCoreNwdkick w s
  | .restart w => Sys2Proof.Machine.execRestart w s
  | .fabricAccess a => Sys2Proof.Machine.execFabricAccess a s
  | .hostFrameRx f => Sys2Proof.Machine.execHostFrameRx f s
  | .arpRequest q => Sys2Proof.Machine.execArpRequest q s
  | .neighbourSolicitation q => Sys2Proof.Machine.execNeighbourSolicitation q s
  | .echoRequest q => Sys2Proof.Machine.execEchoRequest q s
  | .hostLinkUp cage partner => Sys2Proof.Machine.execHostLinkUp cage partner s
  | .hostLinkDown cage trainFail => Sys2Proof.Machine.execHostLinkDown cage trainFail s
  | .anRestartTimeout cage => Sys2Proof.Machine.execAnRestartTimeout cage s
  | .helloC d => Sys2Proof.Machine.execHelloC d s
  | .finishC d => Sys2Proof.Machine.execFinishC d s
  | .request d => Sys2Proof.Machine.execRequest d s
  | .close d => Sys2Proof.Machine.execClose d s
  | .ping d => Sys2Proof.Machine.execPing d s
  | .responseGatherTimeout session pn => Sys2Proof.Machine.execResponseGatherTimeout session pn s
  | .handshakeTimeout session => Sys2Proof.Machine.execHandshakeTimeout session s
  | .sessionIdleTimeout session => Sys2Proof.Machine.execSessionIdleTimeout session s
  | .sendKeyUpdate session => Sys2Proof.Machine.execSendKeyUpdate session s
  | .prevKeyDiscard session => Sys2Proof.Machine.execPrevKeyDiscard session s
  | .idemEntryExpire slice generation key => Sys2Proof.Machine.execIdemEntryExpire slice generation key s
  | .tlsHandshake h => Sys2Proof.Machine.execTlsHandshake h s
  | .fgl1Request session frame => Sys2Proof.Machine.execFgl1Request session frame s
  | .fgl2Request session frame => Sys2Proof.Machine.execFgl2Request session frame s
  | .beaconTimer cage => Sys2Proof.Machine.execBeaconTimer cage s
  | .ptpMessage m => Sys2Proof.Machine.execPtpMessage m s
  | .sessionInfo b => Sys2Proof.Machine.execSessionInfo b s
  | .moduleInfo b => Sys2Proof.Machine.execModuleInfo b s
  | .moduleInfoDx6100 b => Sys2Proof.Machine.execModuleInfoDx6100 b s
  | .idleAnnounce b => Sys2Proof.Machine.execIdleAnnounce b s
  | .idleWindowEnd => Sys2Proof.Machine.execIdleWindowEnd s
  | .bargeAdmit barge => Sys2Proof.Machine.execBargeAdmit barge s
  | .bargeTakeContext flight => Sys2Proof.Machine.execBargeTakeContext flight s
  | .parseStep barge => Sys2Proof.Machine.execParseStep barge s
  | .policyStep barge => Sys2Proof.Machine.execPolicyStep barge s
  | .keyfetchStep barge guardErrors => Sys2Proof.Machine.execKeyfetchStep barge guardErrors s
  | .cipherStep barge => Sys2Proof.Machine.execCipherStep barge s
  | .hashStep barge => Sys2Proof.Machine.execHashStep barge s
  | .pkeStep barge => Sys2Proof.Machine.execPkeStep barge s
  | .formatStep barge => Sys2Proof.Machine.execFormatStep barge s
  | .emitStep barge => Sys2Proof.Machine.execEmitStep barge s
  | .cipherJobDone barge end_ => Sys2Proof.Machine.execCipherJobDone barge end_ s
  | .pkeJobDone barge twin => Sys2Proof.Machine.execPkeJobDone barge twin s
  | .latticeJobDone barge iterations release => Sys2Proof.Machine.execLatticeJobDone barge iterations release s
  | .hashJobDone barge compressions => Sys2Proof.Machine.execHashJobDone barge compressions s
  | .segmentCombine barge => Sys2Proof.Machine.execSegmentCombine barge s
  | .fwAssistReturn barge => Sys2Proof.Machine.execFwAssistReturn barge s
  | .suspendedJobResume barge => Sys2Proof.Machine.execSuspendedJobResume barge s
  | .flightFault flight cause => Sys2Proof.Machine.execFlightFault flight cause s
  | .flightReturn flight => Sys2Proof.Machine.execFlightReturn flight s
  | .epochClose => Sys2Proof.Machine.execEpochClose s
  | .epochSegment frame => Sys2Proof.Machine.execEpochSegment frame s
  | .epochAck frame => Sys2Proof.Machine.execEpochAck frame s
  | .segmentResend epoch => Sys2Proof.Machine.execSegmentResend epoch s
  | .custodianEnrol b => Sys2Proof.Machine.execCustodianEnrol b s
  | .custodianSuspend b => Sys2Proof.Machine.execCustodianSuspend b s
  | .custodianReinstate b => Sys2Proof.Machine.execCustodianReinstate b s
  | .custodianRevoke b => Sys2Proof.Machine.execCustodianRevoke b s
  | .custodianRead b => Sys2Proof.Machine.execCustodianRead b s
  | .custodyEstablish b => Sys2Proof.Machine.execCustodyEstablish b s
  | .ballotPropose b => Sys2Proof.Machine.execBallotPropose b s
  | .ballotApprove b => Sys2Proof.Machine.execBallotApprove b s
  | .ballotExecute b => Sys2Proof.Machine.execBallotExecute b s
  | .ballotWithdraw b => Sys2Proof.Machine.execBallotWithdraw b s
  | .ballotStatus b => Sys2Proof.Machine.execBallotStatus b s
  | .approvalExpire ballot custodian => Sys2Proof.Machine.execApprovalExpire ballot custodian s
  | .ballotExpire ballot => Sys2Proof.Machine.execBallotExpire ballot s
  | .ballotRecordDiscard ballot => Sys2Proof.Machine.execBallotRecordDiscard ballot s
  | .holdOffEnd custodian => Sys2Proof.Machine.execHoldOffEnd custodian s
  | .sliceCreate b => Sys2Proof.Machine.execSliceCreate b s
  | .sliceSetQuota b => Sys2Proof.Machine.execSliceSetQuota b s
  | .sliceBind b => Sys2Proof.Machine.execSliceBind b s
  | .sliceFreeze b => Sys2Proof.Machine.execSliceFreeze b s
  | .sliceThaw b => Sys2Proof.Machine.execSliceThaw b s
  | .sliceReset b => Sys2Proof.Machine.execSliceReset b s
  | .sliceRemove b => Sys2Proof.Machine.execSliceRemove b s
  | .sliceDrainDone slice => Sys2Proof.Machine.execSliceDrainDone slice s
  | .drainTimeout d => Sys2Proof.Machine.execDrainTimeout d s
  | .sliceSave b => Sys2Proof.Machine.execSliceSave b s
  | .sliceRestore b => Sys2Proof.Machine.execSliceRestore b s
  | .sliceTransferAbandon slice => Sys2Proof.Machine.execSliceTransferAbandon slice s
  | .sliceStatus b => Sys2Proof.Machine.execSliceStatus b s
  | .sliceMapRead b => Sys2Proof.Machine.execSliceMapRead b s
  | .anchorAdd b => Sys2Proof.Machine.execAnchorAdd b s
  | .anchorRemove b => Sys2Proof.Machine.execAnchorRemove b s
  | .keyGenerate b => Sys2Proof.Machine.execKeyGenerate b s
  | .keyImportWrapped b => Sys2Proof.Machine.execKeyImportWrapped b s
  | .keyComponent b => Sys2Proof.Machine.execKeyComponent b s
  | .keyDelete b => Sys2Proof.Machine.execKeyDelete b s
  | .keyAttrRead b => Sys2Proof.Machine.execKeyAttrRead b s
  | .keyAttrRestrict b => Sys2Proof.Machine.execKeyAttrRestrict b s
  | .keyExportWrapped b => Sys2Proof.Machine.execKeyExportWrapped b s
  | .keyBlobRead b => Sys2Proof.Machine.execKeyBlobRead b s
  | .keyBlobLoad b => Sys2Proof.Machine.execKeyBlobLoad b s
  | .keyShred b => Sys2Proof.Machine.execKeyShred b s
  | .shredDrainDone shred => Sys2Proof.Machine.execShredDrainDone shred s
  | .shredCertSigned shred => Sys2Proof.Machine.execShredCertSigned shred s
  | .certRead b => Sys2Proof.Machine.execCertRead b s
  | .domainBackup b => Sys2Proof.Machine.execDomainBackup b s
  | .shareImportKey b => Sys2Proof.Machine.execShareImportKey b s
  | .domainShareImport b => Sys2Proof.Machine.execDomainShareImport b s
  | .shareWindowExpire => Sys2Proof.Machine.execShareWindowExpire s
  | .keyAttrReadDx6100 b => Sys2Proof.Machine.execKeyAttrReadDx6100 b s
  | .keyDeleteDx6100 b => Sys2Proof.Machine.execKeyDeleteDx6100 b s
  | .pendingSlotExpire slot => Sys2Proof.Machine.execPendingSlotExpire slot s
  | .vaultScrubPass guardErrors => Sys2Proof.Machine.execVaultScrubPass guardErrors s
  | .vaultSlotRestore slot => Sys2Proof.Machine.execVaultSlotRestore slot s
  | .slotFetch frame => Sys2Proof.Machine.execSlotFetch frame s
  | .slotReply frame => Sys2Proof.Machine.execSlotReply frame s
  | .leaseWaitTimeout barge => Sys2Proof.Machine.execLeaseWaitTimeout barge s
  | .chartRead b => Sys2Proof.Machine.execChartRead b s
  | .chartStage b => Sys2Proof.Machine.execChartStage b s
  | .chartDiscard b => Sys2Proof.Machine.execChartDiscard b s
  | .chartApply b => Sys2Proof.Machine.execChartApply b s
  | .chartStatus b => Sys2Proof.Machine.execChartStatus b s
  | .settingsStore b => Sys2Proof.Machine.execSettingsStore b s
  | .settingsRead b => Sys2Proof.Machine.execSettingsRead b s
  | .chartStatusDx6100 b => Sys2Proof.Machine.execChartStatusDx6100 b s
  | .stagingExpire => Sys2Proof.Machine.execStagingExpire s
  | .programBankDrained => Sys2Proof.Machine.execProgramBankDrained s
  | .chartDrainTimeout => Sys2Proof.Machine.execChartDrainTimeout s
  | .islandClockSettled island => Sys2Proof.Machine.execIslandClockSettled island s
  | .dkGenerate b => Sys2Proof.Machine.execDkGenerate b s
  | .dkWrap b => Sys2Proof.Machine.execDkWrap b s
  | .dkUnwrap b => Sys2Proof.Machine.execDkUnwrap b s
  | .dkRewrap b => Sys2Proof.Machine.execDkRewrap b s
  | .dkUnwrapBulk b => Sys2Proof.Machine.execDkUnwrapBulk b s
  | .dkRewrapBulk b => Sys2Proof.Machine.execDkRewrapBulk b s
  | .bucketCreate b => Sys2Proof.Machine.execBucketCreate b s
  | .bucketReparent b => Sys2Proof.Machine.execBucketReparent b s
  | .kekLoad b => Sys2Proof.Machine.execKekLoad b s
  | .kekEvict b => Sys2Proof.Machine.execKekEvict b s
  | .kekShred b => Sys2Proof.Machine.execKekShred b s
  | .cacheLoadDone barge => Sys2Proof.Machine.execCacheLoadDone barge s
  | .pinTranslate b => Sys2Proof.Machine.execPinTranslate b s
  | .pinTranslate4 b => Sys2Proof.Machine.execPinTranslate4 b s
  | .pinVerify b => Sys2Proof.Machine.execPinVerify b s
  | .arqcVerify b => Sys2Proof.Machine.execArqcVerify b s
  | .arqcVerifyExt b => Sys2Proof.Machine.execArqcVerifyExt b s
  | .cvvGenerate b => Sys2Proof.Machine.execCvvGenerate b s
  | .cvvVerify b => Sys2Proof.Machine.execCvvVerify b s
  | .macGenerate b => Sys2Proof.Machine.execMacGenerate b s
  | .macVerify b => Sys2Proof.Machine.execMacVerify b s
  | .kbImport b => Sys2Proof.Machine.execKbImport b s
  | .kbExport b => Sys2Proof.Machine.execKbExport b s
  | .dectabSet b => Sys2Proof.Machine.execDectabSet b s
  | .pinVerifyDx6100 b => Sys2Proof.Machine.execPinVerifyDx6100 b s
  | .pinTranslateDx6100 b => Sys2Proof.Machine.execPinTranslateDx6100 b s
  | .pinTranslateDukptDx6100 b => Sys2Proof.Machine.execPinTranslateDukptDx6100 b s
  | .cvvGenerateDx6100 b => Sys2Proof.Machine.execCvvGenerateDx6100 b s
  | .cvvVerifyDx6100 b => Sys2Proof.Machine.execCvvVerifyDx6100 b s
  | .macGenerateDx6100 b => Sys2Proof.Machine.execMacGenerateDx6100 b s
  | .macVerifyDx6100 b => Sys2Proof.Machine.execMacVerifyDx6100 b s
  | .arqcVerifyExtDx6100 b => Sys2Proof.Machine.execArqcVerifyExtDx6100 b s
  | .kbImportDx6100 b => Sys2Proof.Machine.execKbImportDx6100 b s
  | .kbExportDx6100 b => Sys2Proof.Machine.execKbExportDx6100 b s
  | .aeadSeal b => Sys2Proof.Machine.execAeadSeal b s
  | .aeadOpen b => Sys2Proof.Machine.execAeadOpen b s
  | .bnkCoreFault core cause => Sys2Proof.Machine.execBnkCoreFault core cause s
  | .bnkCoreReturn core pass => Sys2Proof.Machine.execBnkCoreReturn core pass s
  | .seedTimeout core => Sys2Proof.Machine.execSeedTimeout core s
  | .parkedJobExpire job => Sys2Proof.Machine.execParkedJobExpire job s
  | .ecdsaSign b => Sys2Proof.Machine.execEcdsaSign b s
  | .ecdsaVerify b => Sys2Proof.Machine.execEcdsaVerify b s
  | .ecdhDerive b => Sys2Proof.Machine.execEcdhDerive b s
  | .eddsaSign b => Sys2Proof.Machine.execEddsaSign b s
  | .eddsaVerify b => Sys2Proof.Machine.execEddsaVerify b s
  | .xdhDerive b => Sys2Proof.Machine.execXdhDerive b s
  | .pubkeyRead b => Sys2Proof.Machine.execPubkeyRead b s
  | .rsaPrivate b => Sys2Proof.Machine.execRsaPrivate b s
  | .rsaPublic b => Sys2Proof.Machine.execRsaPublic b s
  | .modOp b => Sys2Proof.Machine.execModOp b s
  | .kemEncaps b => Sys2Proof.Machine.execKemEncaps b s
  | .kemDecaps b => Sys2Proof.Machine.execKemDecaps b s
  | .mldsaSign b => Sys2Proof.Machine.execMldsaSign b s
  | .mldsaVerify b => Sys2Proof.Machine.execMldsaVerify b s
  | .hash b => Sys2Proof.Machine.execHash b s
  | .hmacGenerate b => Sys2Proof.Machine.execHmacGenerate b s
  | .hmacVerify b => Sys2Proof.Machine.execHmacVerify b s
  | .opbufAlloc b => Sys2Proof.Machine.execOpbufAlloc b s
  | .opbufWrite b => Sys2Proof.Machine.execOpbufWrite b s
  | .opbufRead b => Sys2Proof.Machine.execOpbufRead b s
  | .opbufFree b => Sys2Proof.Machine.execOpbufFree b s
  | .rsaPrivateDx6100 b => Sys2Proof.Machine.execRsaPrivateDx6100 b s
  | .rsaPublicDx6100 b => Sys2Proof.Machine.execRsaPublicDx6100 b s
  | .ecdsaSignDx6100 b => Sys2Proof.Machine.execEcdsaSignDx6100 b s
  | .ecdsaVerifyDx6100 b => Sys2Proof.Machine.execEcdsaVerifyDx6100 b s
  | .engineFault kind engine cause => Sys2Proof.Machine.execEngineFault kind engine cause s
  | .engineReturn kind engine pass => Sys2Proof.Machine.execEngineReturn kind engine pass s
  | .deviceSignatureDone verified => Sys2Proof.Machine.execDeviceSignatureDone verified s
  | .lmsTreeBuilt level tree => Sys2Proof.Machine.execLmsTreeBuilt level tree s
  | .entSourceFail source adaptive => Sys2Proof.Machine.execEntSourceFail source adaptive s
  | .sourceRestartTimeout source => Sys2Proof.Machine.execSourceRestartTimeout source s
  | .sourceStartupPass source => Sys2Proof.Machine.execSourceStartupPass source s
  | .drbgReseed drbg => Sys2Proof.Machine.execDrbgReseed drbg s
  | .drbgDrawTimeout barge => Sys2Proof.Machine.execDrbgDrawTimeout barge s
  | .genPairFail core => Sys2Proof.Machine.execGenPairFail core s
  | .readyRecoveryDelay => Sys2Proof.Machine.execReadyRecoveryDelay s
  | .periodicKat kind engine pass => Sys2Proof.Machine.execPeriodicKat kind engine pass s
  | .healthReportTick => Sys2Proof.Machine.execHealthReportTick s
  | .healthReportChange => Sys2Proof.Machine.execHealthReportChange s
  | .towpathHello frame => Sys2Proof.Machine.execTowpathHello frame s
  | .towpathBeat frame => Sys2Proof.Machine.execTowpathBeat frame s
  | .beatSendTimer => Sys2Proof.Machine.execBeatSendTimer s
  | .partnerSilent pcsLoss => Sys2Proof.Machine.execPartnerSilent pcsLoss s
  | .auditTimer => Sys2Proof.Machine.execAuditTimer s
  | .auditFrame frame => Sys2Proof.Machine.execAuditFrame frame s
  | .standbyKatTimer pass => Sys2Proof.Machine.execStandbyKatTimer pass s
  | .switchoverFrame frame => Sys2Proof.Machine.execSwitchoverFrame frame s
  | .syncDone => Sys2Proof.Machine.execSyncDone s
  | .witnessBeatTimer => Sys2Proof.Machine.execWitnessBeatTimer s
  | .witnessAnswer m => Sys2Proof.Machine.execWitnessAnswer m s
  | .leaseLapse => Sys2Proof.Machine.execLeaseLapse s
  | .witnessGrant m => Sys2Proof.Machine.execWitnessGrant m s
  | .witnessDeny m => Sys2Proof.Machine.execWitnessDeny m s
  | .witnessBeatRx m => Sys2Proof.Machine.execWitnessBeatRx m s
  | .witnessClaimRx m => Sys2Proof.Machine.execWitnessClaimRx m s
  | .witnessReleaseRx m => Sys2Proof.Machine.execWitnessReleaseRx m s
  | .healthInHigh => Sys2Proof.Machine.execHealthInHigh s
  | .healthInLow => Sys2Proof.Machine.execHealthInLow s
  | .fenceDone => Sys2Proof.Machine.execFenceDone s
  | .noEntropySwitchover => Sys2Proof.Machine.execNoEntropySwitchover s
  | .interlinkHello d => Sys2Proof.Machine.execInterlinkHello d s
  | .interlinkHelloTimer => Sys2Proof.Machine.execInterlinkHelloTimer s
  | .interlinkForward d => Sys2Proof.Machine.execInterlinkForward d s
  | .forwardReply d => Sys2Proof.Machine.execForwardReply d s
  | .forwardTimeout tag => Sys2Proof.Machine.execForwardTimeout tag s
  | .directoryUpdate d => Sys2Proof.Machine.execDirectoryUpdate d s
  | .domainRecord d => Sys2Proof.Machine.execDomainRecord d s
  | .domainAck d => Sys2Proof.Machine.execDomainAck d s
  | .domainPull d => Sys2Proof.Machine.execDomainPull d s
  | .shareClaim d => Sys2Proof.Machine.execShareClaim d s
  | .shareGrant d => Sys2Proof.Machine.execShareGrant d s
  | .joinRequest d => Sys2Proof.Machine.execJoinRequest d s
  | .joinGrant d => Sys2Proof.Machine.execJoinGrant d s
  | .interlinkRefusal d => Sys2Proof.Machine.execInterlinkRefusal d s
  | .admissionExpire joiner => Sys2Proof.Machine.execAdmissionExpire joiner s
  | .pairStatus b => Sys2Proof.Machine.execPairStatus b s
  | .pairBind b => Sys2Proof.Machine.execPairBind b s
  | .pairSwitchover b => Sys2Proof.Machine.execPairSwitchover b s
  | .pairPolicy b => Sys2Proof.Machine.execPairPolicy b s
  | .witnessSet b => Sys2Proof.Machine.execWitnessSet b s
  | .basinConfig b => Sys2Proof.Machine.execBasinConfig b s
  | .basinStatus b => Sys2Proof.Machine.execBasinStatus b s
  | .domainStatus b => Sys2Proof.Machine.execDomainStatus b s
  | .domainJoin b => Sys2Proof.Machine.execDomainJoin b s
  | .domainAdmit b => Sys2Proof.Machine.execDomainAdmit b s
  | .domainExpel b => Sys2Proof.Machine.execDomainExpel b s
  | .commitFloor b => Sys2Proof.Machine.execCommitFloor b s
  | .sliceSpread b => Sys2Proof.Machine.execSliceSpread b s
  | .keyDistribute b => Sys2Proof.Machine.execKeyDistribute b s
  | .domainRegistrar b => Sys2Proof.Machine.execDomainRegistrar b s
  | .pairStatusDx6100 b => Sys2Proof.Machine.execPairStatusDx6100 b s
  | .gateRequestGrant domain => Sys2Proof.Machine.execGateRequestGrant domain s
  | .leaseCeiling domain => Sys2Proof.Machine.execLeaseCeiling domain s
  | .keeperWatchdogExpire => Sys2Proof.Machine.execKeeperWatchdogExpire s
  | .secureKernelException core => Sys2Proof.Machine.execSecureKernelException core s
  | .secureRestartComplete => Sys2Proof.Machine.execSecureRestartComplete s
  | .restartEscalateTimeout => Sys2Proof.Machine.execRestartEscalateTimeout s
  | .normalWatchdogExpire => Sys2Proof.Machine.execNormalWatchdogExpire s
  | .normalRestartComplete => Sys2Proof.Machine.execNormalRestartComplete s
  | .lcStatus b => Sys2Proof.Machine.execLcStatus b s
  | .lcTransition b => Sys2Proof.Machine.execLcTransition b s
  | .lcWriteDone => Sys2Proof.Machine.execLcWriteDone s
  | .delayedFullReset => Sys2Proof.Machine.execDelayedFullReset s
  | .factoryTransition => Sys2Proof.Machine.execFactoryTransition s
  | .fwStage b => Sys2Proof.Machine.execFwStage b s
  | .fwActivate b => Sys2Proof.Machine.execFwActivate b s
  | .fwStatus b => Sys2Proof.Machine.execFwStatus b s
  | .attestIdentity b => Sys2Proof.Machine.execAttestIdentity b s
  | .attestQuote b => Sys2Proof.Machine.execAttestQuote b s
  | .foundryCertRead b => Sys2Proof.Machine.execFoundryCertRead b s
  | .dbgChallenge b => Sys2Proof.Machine.execDbgChallenge b s
  | .dbgEnable b => Sys2Proof.Machine.execDbgEnable b s
  | .dbgEnd b => Sys2Proof.Machine.execDbgEnd b s
  | .dbgRead b => Sys2Proof.Machine.execDbgRead b s
  | .dbgWrite b => Sys2Proof.Machine.execDbgWrite b s
  | .dbgCore b => Sys2Proof.Machine.execDbgCore b s
  | .dbgCertExpire => Sys2Proof.Machine.execDbgCertExpire s
  | .vendorRevoke b => Sys2Proof.Machine.execVendorRevoke b s
  | .lcStatusDx6100 b => Sys2Proof.Machine.execLcStatusDx6100 b s
  | .boot => Sys2Proof.Machine.execBoot s
  | .rootGenRetry => Sys2Proof.Machine.execRootGenRetry s
  | .start t => Sys2Proof.Machine.execStart t s
  | .sensorAlarm a => Sys2Proof.Machine.execSensorAlarm a s
  | .heldRelease => Sys2Proof.Machine.execHeldRelease s
  | .shadowScan => Sys2Proof.Machine.execShadowScan s
  | .evidenceCopy => Sys2Proof.Machine.execEvidenceCopy s
  | .tamperStatus b => Sys2Proof.Machine.execTamperStatus b s
  | .tamperConfig b => Sys2Proof.Machine.execTamperConfig b s
  | .evidenceExport b => Sys2Proof.Machine.execEvidenceExport b s
  | .evidenceMark b => Sys2Proof.Machine.execEvidenceMark b s
  | .thermalQuarterClock => Sys2Proof.Machine.execThermalQuarterClock s
  | .thermalEnd => Sys2Proof.Machine.execThermalEnd s
  | .recorderWrite => Sys2Proof.Machine.execRecorderWrite s
  | .recRead b => Sys2Proof.Machine.execRecRead b s
  | .recClear b => Sys2Proof.Machine.execRecClear b s
  | .healthRead b => Sys2Proof.Machine.execHealthRead b s
  | .counterRead b => Sys2Proof.Machine.execCounterRead b s
  | .timeStatus b => Sys2Proof.Machine.execTimeStatus b s
  | .timeSet b => Sys2Proof.Machine.execTimeSet b s
  | .counterWrap block site counter => Sys2Proof.Machine.execCounterWrap block site counter s
  | .timeLeap => Sys2Proof.Machine.execTimeLeap s
  | .inputQualified millivolts => Sys2Proof.Machine.execInputQualified millivolts s
  | .inputOutage exceeds => Sys2Proof.Machine.execInputOutage exceeds s
  | .outageTimeout => Sys2Proof.Machine.execOutageTimeout s
  | .inputLossTrip => Sys2Proof.Machine.execInputLossTrip s
  | .dischargeEnd => Sys2Proof.Machine.execDischargeEnd s
  | .holdupThreshold millivolts => Sys2Proof.Machine.execHoldupThreshold millivolts s
  | .shortLBreak => Sys2Proof.Machine.execShortLBreak s
  | .powerStateEval => Sys2Proof.Machine.execPowerStateEval s
  | .cageInsert cage => Sys2Proof.Machine.execCageInsert cage s
  | .cagePowerOn cage milliwatts active => Sys2Proof.Machine.execCagePowerOn cage milliwatts active s
  | .cageInterrupt cage status => Sys2Proof.Machine.execCageInterrupt cage status s
  | .pmbusRead command => Sys2Proof.Machine.execPmbusRead command s
  | .pmbusWrite command data => Sys2Proof.Machine.execPmbusWrite command data s
  | .towpathLinkUp => Sys2Proof.Machine.execTowpathLinkUp s
  | .detectorDisagreement code detectorB => Sys2Proof.Machine.execDetectorDisagreement code detectorB s
  | .outageEnd millivolts => Sys2Proof.Machine.execOutageEnd millivolts s
  | .islandRelease island => Sys2Proof.Machine.execIslandRelease island s
  | .witnessLeaseExpiry pair => Sys2Proof.Machine.execWitnessLeaseExpiry pair s
  | .blockWake domain => Sys2Proof.Machine.execBlockWake domain s
  | .ptpLockLost cage => Sys2Proof.Machine.execPtpLockLost cage s
  | .lmsBucketToken => Sys2Proof.Machine.execLmsBucketToken s

end Sys2Proof.Machine
end

