-- ==== Sys2Proof/Machine/Step.lean ====
section
/-! DEFINITION. One step of the block: take the command at the front of the queue. -/

namespace Sys2Proof.Machine

/-- Nanoseconds by which the monotonic clock advances when the block idles (log entry 1). -/
def idleTick : Nat := 1000

/-- Time passes while no command waits (R495, R498; log entry 1). -/
def State.tick (s : State) (ns : Nat) : State :=
  s.upTo (s.now + ns)

/-- One step: the command at the front of the queue runs with the rest of the queue; on an empty
queue the block idles for one tick. -/
def step (s : State) : Host.Outcome State Fault Refusal :=
  match s.pending with
  | [] => .next (s.tick idleTick)
  | i :: rest => exec i { s with pending := rest }

/-- The state with the command a table word spells put at the front of its queue; unchanged where
the word spells none. -/
def State.withFetchWord (s : State) (nbits w : Nat) : State :=
  match decodeTableWord nbits w with
  | none => s
  | some i => { s with pending := i :: s.pending }

end Sys2Proof.Machine
end

