-- ==== Sys2Proof/Safety.lean ====
section
/-! DEFINITION. The terms in which claims are made: when a request meets its verb's own work, which commands may change memory, and
what every step keeps. -/

namespace Sys2Proof.Machine

/-! ## When a request meets its verb's own work -/

/-- The barge as its verb serves it: the row fixes the opcode, and a verb whose result passes the seal port takes no
idempotency key (R19, R326). -/
def Verb.served (v : Verb) (b : Barge) : Barge := { b with opcode := v.opcode, idem := if v.noIdem then 0 else b.idem }

/-- A request is taken in and runs: its idempotency key decides nothing, its session has room and no request of the same
request_id, and no admission is held (R71, R72, R74, R171). -/
def Verb.takesIn (v : Verb) (b : Barge) (s : State) : Prop :=
  idemOutcome (v.served b) s = .run ∧ intakeFail (v.served b) s = none ∧ s.holdsAdmission v.opcode = false

/-- The response of a verb's work to a request, released or held as R38 and R40 say. -/
def Verb.completed (v : Verb) (b : Barge) (s : State) (e : Effect) : State :=
  (s.busyWith (v.served b)).complete (v.served b) b.pn 0 e

/-- A request whose work finds no lease block or unit ready: it keeps the blocks and units claimed for it and becomes a barge of the
lock keeper, which waits at POLICY with the values drawn for it (R137, R216, R284). -/
def Verb.waiting (v : Verb) (b : Barge) (s : State) (e : Effect) : State :=
  let w := s.busyWith (v.served b)
  (((w.keepClaims e.st).addRecord (v.served b) .arrived).modBarge w.flt.nextBarge fun r => { r with taken := e.st.eng.taken }).recordIdem
    (v.served b) none false

/-- A request whose work finds an instance stalled: none of it is done, and it becomes a barge of the lock keeper, which waits for its
draw (R337). -/
def Verb.starving (v : Verb) (b : Barge) (s : State) (e : Effect) : State :=
  (((s.busyWith (v.served b)).noteStalls e.st).addRecord (v.served b) .arrived).recordIdem (v.served b) none false

/-- How a request whose checks have passed goes on after its verb's work. -/
def Verb.goesOn (v : Verb) (b : Barge) (s : State) (e : Effect) : State :=
  if e.starved (s.busyWith (v.served b)) then v.starving b s e else if e.waits then v.waiting b s e else v.completed b s e

/-- What a verb's row does: a request that is taken in and passes the checks of R22 runs its verb's own work, and its response is
completed, unless it must wait for a lease block, a unit or a random value; one that a check refuses is answered with that check's
status and changes nothing else. -/
def servesRow (row : Barge → Instr) (v : Verb) : Prop :=
  ∀ (b : Barge) (s : State), v.takesIn b s →
    let e := v.workFrom (v.served b) v.drawer (s.busyWith (v.served b))
    (gate v (v.served b) (s.busyWith (v.served b)) = none → exec (row b) s = .next (v.goesOn b s e)) ∧
    (∀ r, gate v (v.served b) (s.busyWith (v.served b)) = some r →
      exec (row b) s = .next (v.completed b s { st := s.busyWith (v.served b), reply := r }))

/-- The checks of a verb that come before that of dual control (R22, R107, R182). -/
def Verb.beforeBallot (v : Verb) (b : Barge) (s : State) : Option Reply :=
  firstFail
    [restartFail v s, (s.runningRecord b.opcode).bind fun r => parseTable r b s, parseFail v b s, darkFail b.opcode s,
     lockedFail b s, primaryFail v s, modeFail v b s, v.state b s,
     custodyFail v b s,
     must (v.sender b s) stNotAuthorised]

/-- What a dual-controlled row does when it is sent directly: a check that refuses answers its status, and one that passes the
checks before that of dual control answers QUORUM_REQUIRED with its role and the size of its quorum; it changes nothing else
(R84, R107). -/
def needsBallot (row : Barge → Instr) (v : Verb) : Prop :=
  ∀ (b : Barge) (s : State) (r : Nat), v.takesIn b s →
    (∀ c, v.beforeBallot (v.served b) (s.busyWith (v.served b)) = some c →
      exec (row b) s = .next (v.completed b s { st := s.busyWith (v.served b), reply := c })) ∧
    (v.beforeBallot (v.served b) (s.busyWith (v.served b)) = none → v.role (v.served b) (s.busyWith (v.served b)) = some r →
      exec (row b) s = .next (v.completed b s
        { st := s.busyWith (v.served b), reply := ⟨stQuorum, be 1 r ++ be 1 ((s.busyWith (v.served b)).quorum r) ++ zeros 2⟩ }))

/-! ## Memory (log entry 5) -/

/-- Commands that may store to memory: a core's access, the debug port's write, and the steps that do a barge's work. -/
def stores : Instr → Bool
  | .fabricAccess _ => true
  | .dbgWrite _ => true
  | .cipherStep _ => true
  | .hashStep _ => true
  | .pkeStep _ => true
  | .formatStep _ => true
  | .fwAssistReturn _ => true
  | _ => false

/-- Commands that may reset the module or restart its secure world, and so take bytes away from memory: register reads and
writes, alarms and the engine faults that may raise one, boots, restarts and the ends of the supply. -/
def clears : Instr → Bool
  | .readReg _ => true
  | .writeReg _ => true
  | .readRegDx6100 _ => true
  | .loReadLatch _ => true
  | .coreWdkick _ => true
  | .restart _ => true
  | .keeperWatchdogExpire => true
  | .secureKernelException _ => true
  | .secureRestartComplete => true
  | .restartEscalateTimeout => true
  | .normalRestartComplete => true
  | .delayedFullReset => true
  | .dbgRead _ => true
  | .boot => true
  | .start _ => true
  | .sensorAlarm _ => true
  | .heldRelease => true
  | .shadowScan => true
  | .inputQualified _ => true
  | .outageTimeout => true
  | .inputLossTrip => true
  | .holdupThreshold _ => true
  | .shortLBreak => true
  | .outageEnd _ => true
  | .cipherJobDone _ _ => true
  | .pkeJobDone _ _ => true
  | .latticeJobDone _ _ _ => true
  | .bnkCoreFault _ _ => true
  | .engineFault _ _ _ => true
  | .seedTimeout _ => true
  | .periodicKat _ _ _ => true
  | .deviceSignatureDone _ => true
  | _ => false

/-- What every step keeps: memory in its one form. -/
def State.Inv (s : State) : Prop := Memory.wf s.mem = true

end Sys2Proof.Machine
end

