-- ==== Sys2Proof/WellFormed.lean ====
section
/-! DEFINITION. Which commands the spec admits as commands at all: operands inside the ranges of the rows (R11, R26, R31, R49, R56,
R66, R120, R392, R456, R506). What a command of the right shape meets, a refusal or an effect, is the machine's to say. -/

namespace Sys2Proof

/-- A reader's number: a session's, or a control core's or the debug port's unit (R27, R392). -/
def Reader.wellFormed : Reader → Bool
  | .session n => n < 2 ^ 73
  | .core n => n < 64 || n == 140

/-- A register read by an address of 32 bits (R24). -/
def RegRead.wellFormed (r : RegRead) : Bool := r.reader.wellFormed && r.address < 2 ^ 32

/-- A register write. -/
def RegWrite.wellFormed (w : RegWrite) : Bool := w.reader.wellFormed

/-- A barge's fields inside their widths (R66); session numbers of forwarded barges lie above 2^72 (log entry 7). -/
def Barge.wellFormed (b : Barge) : Bool :=
  b.session < 2 ^ 73 && b.pn < 2 ^ 64 && b.slice < 4096 && b.cls < 4 && b.opcode < 65536 && b.payload.length < 2 ^ 32

/-- A fabric access of a protection unit inside the address space (R393, R404). -/
def FabricAccess.wellFormed (a : FabricAccess) : Bool :=
  a.unit < 141 && a.address < 2 ^ 40 && 0 < a.length && (a.kind != .write || a.data.length == a.length)

/-- A frame from one of the three cages. -/
def HostFrame.wellFormed (f : HostFrame) : Bool := f.cage < 3

/-- An address query with an IPv4 or IPv6 target. -/
def AddrQuery.wellFormed (q : AddrQuery) : Bool :=
  q.cage < 3 && (q.target.length == 4 || q.target.length == 16) && q.sender.length == 6 + q.target.length

/-- Modes 0 to 7 (R49). -/
def LinkPartner.wellFormed (p : LinkPartner) : Bool := p.modes < 256

/-- A datagram with a source address and port (R57). -/
def Datagram.wellFormed (d : Datagram) : Bool := d.cage < 3 && d.source.length == 18

/-- A TLS hello of an FGL generation that TCP carries (R78). -/
def TlsHello.wellFormed (h : TlsHello) : Bool := h.cage < 3 && (h.fgl == 1 || h.fgl == 2)

/-- A PTP message of a cage. -/
def PtpMessage.wellFormed (m : PtpMessage) : Bool := m.cage < 3 && m.transport < 3

/-- A witness message of 128 bytes (R365). -/
def WitnessMsg.wellFormed (m : WitnessMsg) : Bool := m.bytes.length == 128

/-- A slice number in a drain. -/
def Drain.wellFormed : Drain → Bool
  | .slice n => n < 4096
  | .shred _ => true
  | .switchover => true

/-- The numbers of an engine kind: cores 0 to 223 and 224 to 255, 32 hash units, 32 public-key engines, 8 lattice engines. -/
def kindHas : EngineKind → Nat → Bool
  | .shuffled, n => n < 224
  | .masked, n => 224 ≤ n && n < 256
  | .hash, n => n < 32
  | .publicKey, n => n < 32
  | .lattice, n => n < 8

/-- What power-on tests report: engines and flights that exist. -/
def StartTests.wellFormed (t : StartTests) : Bool :=
  (t.engines.all fun e => kindHas e.1 e.2) && (t.flights.all fun f => f < 32) && t.generators < 256 && t.sources < 4

/-- An alarm code and an island number. -/
def AlarmReport.wellFormed (a : AlarmReport) : Bool := a.code < 256 && a.island < 0x16

/-- The chart's island codes (R180). -/
def islandNumber (i : Nat) : Bool := 1 ≤ i && i ≤ 0x15

/-- A command whose operands lie in the ranges of its row. -/
def Instr.wellFormed (i : Instr) : Bool :=
  match i with
  | .readReg b => b.wellFormed
  | .writeReg b => b.wellFormed
  | .readRegDx6100 b => b.wellFormed
  | .loReadLatch r => r.wellFormed
  | .pcntLoWrite w block => w.wellFormed && block < 21
  | .whfLinkcfgWrite w => w.wellFormed
  | .resetPcs w => w.wellFormed
  | .ixpRattrWrite w => w.wellFormed
  | .ixpFbattrWrite w => w.wellFormed
  | .pop w => w.wellFormed
  | .clkOff w => w.wellFormed
  | .pwrOff w => w.wellFormed
  | .keeperLeaseWrite w => w.wellFormed
  | .gatereqClockOff w => w.wellFormed
  | .gatereqPowerOff w => w.wellFormed
  | .gatereqRestore w => w.wellFormed
  | .coreWdkick w => w.wellFormed
  | .coreNwdkick w => w.wellFormed
  | .restart w => w.wellFormed
  | .fabricAccess a => a.wellFormed
  | .hostFrameRx f => f.wellFormed
  | .arpRequest q => q.wellFormed
  | .neighbourSolicitation q => q.wellFormed
  | .echoRequest q => q.wellFormed
  | .hostLinkUp cage partner => cage < 3 && partner.wellFormed
  | .hostLinkDown cage _ => cage < 3
  | .anRestartTimeout cage => cage < 3
  | .helloC d => d.wellFormed
  | .finishC d => d.wellFormed
  | .request d => d.wellFormed
  | .close d => d.wellFormed
  | .ping d => d.wellFormed
  | .responseGatherTimeout _ _ => true
  | .handshakeTimeout _ => true
  | .sessionIdleTimeout _ => true
  | .sendKeyUpdate _ => true
  | .prevKeyDiscard _ => true
  | .idemEntryExpire slice _ _ => slice < 4096
  | .tlsHandshake h => h.wellFormed
  | .fgl1Request _ _ => true
  | .fgl2Request _ _ => true
  | .beaconTimer cage => cage < 3
  | .ptpMessage m => m.wellFormed
  | .sessionInfo b => b.wellFormed
  | .moduleInfo b => b.wellFormed
  | .moduleInfoDx6100 b => b.wellFormed
  | .idleAnnounce b => b.wellFormed
  | .idleWindowEnd => true
  | .bargeAdmit _ => true
  | .bargeTakeContext flight => flight < 32
  | .parseStep _ => true
  | .policyStep _ => true
  | .keyfetchStep _ _ => true
  | .cipherStep _ => true
  | .hashStep _ => true
  | .pkeStep _ => true
  | .formatStep _ => true
  | .emitStep _ => true
  | .cipherJobDone _ _ => true
  | .pkeJobDone _ _ => true
  | .latticeJobDone _ _ _ => true
  | .hashJobDone _ _ => true
  | .segmentCombine _ => true
  | .fwAssistReturn _ => true
  | .suspendedJobResume _ => true
  | .flightFault flight _ => flight < 32
  | .flightReturn flight => flight < 32
  | .epochClose => true
  | .epochSegment _ => true
  | .epochAck _ => true
  | .segmentResend _ => true
  | .custodianEnrol b => b.wellFormed
  | .custodianSuspend b => b.wellFormed
  | .custodianReinstate b => b.wellFormed
  | .custodianRevoke b => b.wellFormed
  | .custodianRead b => b.wellFormed
  | .custodyEstablish b => b.wellFormed
  | .ballotPropose b => b.wellFormed
  | .ballotApprove b => b.wellFormed
  | .ballotExecute b => b.wellFormed
  | .ballotWithdraw b => b.wellFormed
  | .ballotStatus b => b.wellFormed
  | .approvalExpire _ _ => true
  | .ballotExpire _ => true
  | .ballotRecordDiscard _ => true
  | .holdOffEnd _ => true
  | .sliceCreate b => b.wellFormed
  | .sliceSetQuota b => b.wellFormed
  | .sliceBind b => b.wellFormed
  | .sliceFreeze b => b.wellFormed
  | .sliceThaw b => b.wellFormed
  | .sliceReset b => b.wellFormed
  | .sliceRemove b => b.wellFormed
  | .sliceDrainDone slice => slice < 4096
  | .drainTimeout d => d.wellFormed
  | .sliceSave b => b.wellFormed
  | .sliceRestore b => b.wellFormed
  | .sliceTransferAbandon slice => slice < 4096
  | .sliceStatus b => b.wellFormed
  | .sliceMapRead b => b.wellFormed
  | .anchorAdd b => b.wellFormed
  | .anchorRemove b => b.wellFormed
  | .keyGenerate b => b.wellFormed
  | .keyImportWrapped b => b.wellFormed
  | .keyComponent b => b.wellFormed
  | .keyDelete b => b.wellFormed
  | .keyAttrRead b => b.wellFormed
  | .keyAttrRestrict b => b.wellFormed
  | .keyExportWrapped b => b.wellFormed
  | .keyBlobRead b => b.wellFormed
  | .keyBlobLoad b => b.wellFormed
  | .keyShred b => b.wellFormed
  | .shredDrainDone _ => true
  | .shredCertSigned _ => true
  | .certRead b => b.wellFormed
  | .domainBackup b => b.wellFormed
  | .shareImportKey b => b.wellFormed
  | .domainShareImport b => b.wellFormed
  | .shareWindowExpire => true
  | .keyAttrReadDx6100 b => b.wellFormed
  | .keyDeleteDx6100 b => b.wellFormed
  | .pendingSlotExpire slot => slot < 65536
  | .vaultScrubPass _ => true
  | .vaultSlotRestore slot => slot < 65536
  | .slotFetch _ => true
  | .slotReply _ => true
  | .leaseWaitTimeout _ => true
  | .chartRead b => b.wellFormed
  | .chartStage b => b.wellFormed
  | .chartDiscard b => b.wellFormed
  | .chartApply b => b.wellFormed
  | .chartStatus b => b.wellFormed
  | .settingsStore b => b.wellFormed
  | .settingsRead b => b.wellFormed
  | .chartStatusDx6100 b => b.wellFormed
  | .stagingExpire => true
  | .programBankDrained => true
  | .chartDrainTimeout => true
  | .islandClockSettled island => islandNumber island
  | .dkGenerate b => b.wellFormed
  | .dkWrap b => b.wellFormed
  | .dkUnwrap b => b.wellFormed
  | .dkRewrap b => b.wellFormed
  | .dkUnwrapBulk b => b.wellFormed
  | .dkRewrapBulk b => b.wellFormed
  | .bucketCreate b => b.wellFormed
  | .bucketReparent b => b.wellFormed
  | .kekLoad b => b.wellFormed
  | .kekEvict b => b.wellFormed
  | .kekShred b => b.wellFormed
  | .cacheLoadDone _ => true
  | .pinTranslate b => b.wellFormed
  | .pinTranslate4 b => b.wellFormed
  | .pinVerify b => b.wellFormed
  | .arqcVerify b => b.wellFormed
  | .arqcVerifyExt b => b.wellFormed
  | .cvvGenerate b => b.wellFormed
  | .cvvVerify b => b.wellFormed
  | .macGenerate b => b.wellFormed
  | .macVerify b => b.wellFormed
  | .kbImport b => b.wellFormed
  | .kbExport b => b.wellFormed
  | .dectabSet b => b.wellFormed
  | .pinVerifyDx6100 b => b.wellFormed
  | .pinTranslateDx6100 b => b.wellFormed
  | .pinTranslateDukptDx6100 b => b.wellFormed
  | .cvvGenerateDx6100 b => b.wellFormed
  | .cvvVerifyDx6100 b => b.wellFormed
  | .macGenerateDx6100 b => b.wellFormed
  | .macVerifyDx6100 b => b.wellFormed
  | .arqcVerifyExtDx6100 b => b.wellFormed
  | .kbImportDx6100 b => b.wellFormed
  | .kbExportDx6100 b => b.wellFormed
  | .aeadSeal b => b.wellFormed
  | .aeadOpen b => b.wellFormed
  | .bnkCoreFault core _ => core < 256
  | .bnkCoreReturn core _ => core < 256
  | .seedTimeout core => core < 256
  | .parkedJobExpire _ => true
  | .ecdsaSign b => b.wellFormed
  | .ecdsaVerify b => b.wellFormed
  | .ecdhDerive b => b.wellFormed
  | .eddsaSign b => b.wellFormed
  | .eddsaVerify b => b.wellFormed
  | .xdhDerive b => b.wellFormed
  | .pubkeyRead b => b.wellFormed
  | .rsaPrivate b => b.wellFormed
  | .rsaPublic b => b.wellFormed
  | .modOp b => b.wellFormed
  | .kemEncaps b => b.wellFormed
  | .kemDecaps b => b.wellFormed
  | .mldsaSign b => b.wellFormed
  | .mldsaVerify b => b.wellFormed
  | .hash b => b.wellFormed
  | .hmacGenerate b => b.wellFormed
  | .hmacVerify b => b.wellFormed
  | .opbufAlloc b => b.wellFormed
  | .opbufWrite b => b.wellFormed
  | .opbufRead b => b.wellFormed
  | .opbufFree b => b.wellFormed
  | .rsaPrivateDx6100 b => b.wellFormed
  | .rsaPublicDx6100 b => b.wellFormed
  | .ecdsaSignDx6100 b => b.wellFormed
  | .ecdsaVerifyDx6100 b => b.wellFormed
  | .engineFault kind engine _ => kindHas kind engine
  | .engineReturn kind engine _ => kindHas kind engine
  | .deviceSignatureDone _ => true
  | .lmsTreeBuilt level _ => level < 3
  | .entSourceFail source _ => source < 2
  | .sourceRestartTimeout source => source < 2
  | .sourceStartupPass source => source < 2
  | .drbgReseed drbg => drbg < 113
  | .drbgDrawTimeout _ => true
  | .genPairFail core => core < 8
  | .readyRecoveryDelay => true
  | .periodicKat kind engine _ => kindHas kind engine
  | .healthReportTick => true
  | .healthReportChange => true
  | .towpathHello _ => true
  | .towpathBeat _ => true
  | .beatSendTimer => true
  | .partnerSilent _ => true
  | .auditTimer => true
  | .auditFrame _ => true
  | .standbyKatTimer _ => true
  | .switchoverFrame _ => true
  | .syncDone => true
  | .witnessBeatTimer => true
  | .witnessAnswer m => m.wellFormed
  | .leaseLapse => true
  | .witnessGrant m => m.wellFormed
  | .witnessDeny m => m.wellFormed
  | .witnessBeatRx m => m.wellFormed
  | .witnessClaimRx m => m.wellFormed
  | .witnessReleaseRx m => m.wellFormed
  | .healthInHigh => true
  | .healthInLow => true
  | .fenceDone => true
  | .noEntropySwitchover => true
  | .interlinkHello _ => true
  | .interlinkHelloTimer => true
  | .interlinkForward _ => true
  | .forwardReply _ => true
  | .forwardTimeout _ => true
  | .directoryUpdate _ => true
  | .domainRecord _ => true
  | .domainAck _ => true
  | .domainPull _ => true
  | .shareClaim _ => true
  | .shareGrant _ => true
  | .joinRequest _ => true
  | .joinGrant _ => true
  | .interlinkRefusal _ => true
  | .admissionExpire _ => true
  | .pairStatus b => b.wellFormed
  | .pairBind b => b.wellFormed
  | .pairSwitchover b => b.wellFormed
  | .pairPolicy b => b.wellFormed
  | .witnessSet b => b.wellFormed
  | .basinConfig b => b.wellFormed
  | .basinStatus b => b.wellFormed
  | .domainStatus b => b.wellFormed
  | .domainJoin b => b.wellFormed
  | .domainAdmit b => b.wellFormed
  | .domainExpel b => b.wellFormed
  | .commitFloor b => b.wellFormed
  | .sliceSpread b => b.wellFormed
  | .keyDistribute b => b.wellFormed
  | .domainRegistrar b => b.wellFormed
  | .pairStatusDx6100 b => b.wellFormed
  | .gateRequestGrant domain => domain < 32
  | .leaseCeiling domain => domain < 32
  | .keeperWatchdogExpire => true
  | .secureKernelException core => core < 64
  | .secureRestartComplete => true
  | .restartEscalateTimeout => true
  | .normalWatchdogExpire => true
  | .normalRestartComplete => true
  | .lcStatus b => b.wellFormed
  | .lcTransition b => b.wellFormed
  | .lcWriteDone => true
  | .delayedFullReset => true
  | .factoryTransition => true
  | .fwStage b => b.wellFormed
  | .fwActivate b => b.wellFormed
  | .fwStatus b => b.wellFormed
  | .attestIdentity b => b.wellFormed
  | .attestQuote b => b.wellFormed
  | .foundryCertRead b => b.wellFormed
  | .dbgChallenge b => b.wellFormed
  | .dbgEnable b => b.wellFormed
  | .dbgEnd b => b.wellFormed
  | .dbgRead b => b.wellFormed
  | .dbgWrite b => b.wellFormed
  | .dbgCore b => b.wellFormed
  | .dbgCertExpire => true
  | .vendorRevoke b => b.wellFormed
  | .lcStatusDx6100 b => b.wellFormed
  | .boot => true
  | .rootGenRetry => true
  | .start t => t.wellFormed
  | .sensorAlarm a => a.wellFormed
  | .heldRelease => true
  | .shadowScan => true
  | .evidenceCopy => true
  | .tamperStatus b => b.wellFormed
  | .tamperConfig b => b.wellFormed
  | .evidenceExport b => b.wellFormed
  | .evidenceMark b => b.wellFormed
  | .thermalQuarterClock => true
  | .thermalEnd => true
  | .recorderWrite => true
  | .recRead b => b.wellFormed
  | .recClear b => b.wellFormed
  | .healthRead b => b.wellFormed
  | .counterRead b => b.wellFormed
  | .timeStatus b => b.wellFormed
  | .timeSet b => b.wellFormed
  | .counterWrap block site counter => block < 21 && site < 6 && counter < 256
  | .timeLeap => true
  | .inputQualified millivolts => millivolts < 65536
  | .inputOutage _ => true
  | .outageTimeout => true
  | .inputLossTrip => true
  | .dischargeEnd => true
  | .holdupThreshold millivolts => millivolts < 65536
  | .shortLBreak => true
  | .powerStateEval => true
  | .cageInsert cage => cage < 3
  | .cagePowerOn cage milliwatts _ => cage < 3 && milliwatts < 65536
  | .cageInterrupt cage status => cage < 3 && status < 256
  | .pmbusRead command => command < 256
  | .pmbusWrite command _ => command < 256
  | .towpathLinkUp => true
  | .detectorDisagreement code _ => code < 256
  | .outageEnd millivolts => millivolts < 65536
  | .islandRelease island => islandNumber island
  | .witnessLeaseExpiry _ => true
  | .blockWake domain => domain < 32
  | .ptpLockLost cage => cage < 3
  | .lmsBucketToken => true

end Sys2Proof
end

