-- ==== Sys2Proof/Certificates/Slice0/Obligations.lean ====
section
/-! DEFINITION. The statements for the provers, one definition each. Where a statement rests on a choice of the model its docstring
names the log entry. -/

open Sys2Proof Sys2Proof.Machine

/-! ## The block -/

/-- A step runs the command at the front of the queue on the state with the rest of the queue. The queue is the model's own
(log entry 1). -/
def Obligations.StepRunsFrontCommand : Prop :=
  ∀ (c : Instr) (rest : List Instr) (s : State),
    step { s with pending := c :: rest } = exec c { s with pending := rest }

/-- With no command waiting a step lets one microsecond pass: the clock moves on by 1,000 ns, what is judged and counted while time
passes is judged and counted, and everything but the clocks, the observability unit, the lock keeper's records, the draws and the
output stays as it was. The tick is the model's choice of log entry 1. -/
def Obligations.StepIdlesOnEmptyQueue : Prop :=
  ∀ s : State, s.pending = [] →
    let u := s.upTo (s.now + 1000)
    step s = .next { s with clk := u.clk, obs := u.obs, flt := u.flt, draws := u.draws, out := u.out } ∧ u.now = s.now + 1000

/-- Every command answers a next state on every state: no command of the table faults or is refused. -/
def Obligations.EveryCommandAnswers : Prop :=
  ∀ (c : Instr) (s : State), ∃ t, exec c s = .next t

/-- No command changes the queue of waiting commands. -/
def Obligations.CommandsLeaveQueue : Prop :=
  ∀ (c : Instr) (s t : State), exec c s = .next t → t.pending = s.pending

/-- Every byte of memory is unchanged by every command but those that may store and those that may reset the module. -/
def Obligations.CommandsLeaveMemory : Prop :=
  ∀ (c : Instr) (s t : State), stores c = false → clears c = false → exec c s = .next t → t.mem = s.mem

/-- A command that may reset the module or restart its secure world writes no byte: what memory lists after it was listed
before. -/
def Obligations.ResetsOnlyClearMemory : Prop :=
  ∀ (c : Instr) (s t : State), clears c = true → exec c s = .next t → t.mem.Sublist s.mem

/-- Every step keeps memory in its one form: addresses rise strictly, and no entry equals what an unlisted byte reads as. -/
def Obligations.StepKeepsMemoryForm : Prop :=
  ∀ s t : State, s.Inv → step s = .next t → t.Inv

/-- Reset memory is in its one form. -/
def Obligations.ResetMeetsMemoryForm : Prop := State.reset.Inv

/-- A store writes the bytes it names and no other: each byte of the data reads back, and every byte outside reads as before, in
hold, MRAM and cluster SRAM, whatever the free value of unlisted MRAM is (log entry 5). -/
def Obligations.StoreBytesFrame : Prop :=
  ∀ (s : State) (r : Reader) (free : Byte) (a : Nat) (data : Bytes),
    (∀ i < data.length, placeOf (a + i) = .hold ∨ placeOf (a + i) = .mram ∨ ∃ c, placeOf (a + i) = .sram c) →
    (∀ i, ∀ h : i < data.length, (s.storeBytes a data).loadByte r free (a + i) = data[i]) ∧
    (∀ b, b < a ∨ a + data.length ≤ b → (s.storeBytes a data).loadByte r free b = s.loadByte r free b)

/-! ## The verb families -/

/-- Family 0x01, sessions: a request that is taken in and passes the checks of R22 runs its verb's own work and is completed, or
waits at POLICY where that work finds no lease block or unit, and one that a check refuses is answered with that check's status.
-/
def Obligations.SessionVerbsServe : Prop :=
  servesRow .sessionInfo sessionInfoVerb ∧ servesRow .moduleInfo moduleInfoVerb ∧
  servesRow .moduleInfoDx6100 moduleInfoDx6100Verb ∧ servesRow .idleAnnounce idleAnnounceVerb

/-- Family 0x02, custody and slices, but for the verbs that always need a ballot: a request that is taken in and passes the
checks of R22 runs its verb's own work and is completed, or waits at POLICY where that work finds no lease block or unit, and one
that a check refuses is answered with that check's status. -/
def Obligations.CustodyVerbsServe : Prop :=
  servesRow .custodianEnrol custodianEnrolVerb ∧ servesRow .custodianRead custodianReadVerb ∧
  servesRow .ballotPropose ballotProposeVerb ∧ servesRow .ballotApprove ballotApproveVerb ∧
  servesRow .ballotExecute ballotExecuteVerb ∧ servesRow .ballotWithdraw ballotWithdrawVerb ∧
  servesRow .ballotStatus ballotStatusVerb ∧ servesRow .sliceFreeze sliceFreezeVerb ∧ servesRow .sliceSave sliceSaveVerb ∧
  servesRow .sliceRestore sliceRestoreVerb ∧ servesRow .sliceStatus sliceStatusVerb ∧ servesRow .sliceMapRead sliceMapReadVerb

/-- Family 0x03, the key store, but for the verbs that always need a ballot: a request that is taken in and passes the checks of
R22 runs its verb's own work and is completed, or waits at POLICY where that work finds no lease block or unit, and one that a
check refuses is answered with that check's status. -/
def Obligations.KeyStoreVerbsServe : Prop :=
  servesRow .keyGenerate keyGenerateVerb ∧ servesRow .keyImportWrapped keyImportWrappedVerb ∧
  servesRow .keyDelete keyDeleteVerb ∧ servesRow .keyAttrRead keyAttrReadVerb ∧ servesRow .keyAttrRestrict keyAttrRestrictVerb ∧
  servesRow .keyExportWrapped keyExportWrappedVerb ∧ servesRow .keyBlobRead keyBlobReadVerb ∧
  servesRow .keyBlobLoad keyBlobLoadVerb ∧ servesRow .keyShred keyShredVerb ∧ servesRow .certRead certReadVerb ∧
  servesRow .shareImportKey shareImportKeyVerb ∧ servesRow .domainShareImport domainShareImportVerb ∧
  servesRow .keyAttrReadDx6100 keyAttrReadDx6100Verb ∧ servesRow .keyDeleteDx6100 keyDeleteDx6100Verb

/-- Family 0x04, storage: a request that is taken in and passes the checks of R22 runs its verb's own work and is completed, or
waits at POLICY where that work finds no lease block or unit, and one that a check refuses is answered with that check's status.
-/
def Obligations.StorageVerbsServe : Prop :=
  servesRow .dkGenerate dkGenerateVerb ∧ servesRow .dkWrap dkWrapVerb ∧ servesRow .dkUnwrap dkUnwrapVerb ∧
  servesRow .dkRewrap dkRewrapVerb ∧ servesRow .dkUnwrapBulk dkUnwrapBulkVerb ∧ servesRow .dkRewrapBulk dkRewrapBulkVerb ∧
  servesRow .bucketCreate bucketCreateVerb ∧ servesRow .bucketReparent bucketReparentVerb ∧ servesRow .kekLoad kekLoadVerb ∧
  servesRow .kekEvict kekEvictVerb ∧ servesRow .kekShred kekShredVerb

/-- Family 0x05, payment, but for the verbs that always need a ballot: a request that is taken in and passes the checks of R22
runs its verb's own work and is completed, or waits at POLICY where that work finds no lease block or unit, and one that a check
refuses is answered with that check's status. -/
def Obligations.PaymentVerbsServe : Prop :=
  servesRow .pinTranslate pinTranslateVerb ∧ servesRow .pinTranslate4 pinTranslate4Verb ∧ servesRow .pinVerify pinVerifyVerb ∧
  servesRow .arqcVerify arqcVerifyVerb ∧ servesRow .arqcVerifyExt arqcVerifyExtVerb ∧ servesRow .cvvGenerate cvvGenerateVerb ∧
  servesRow .cvvVerify cvvVerifyVerb ∧ servesRow .macGenerate macGenerateVerb ∧ servesRow .macVerify macVerifyVerb ∧
  servesRow .kbImport kbImportVerb ∧ servesRow .kbExport kbExportVerb ∧ servesRow .pinVerifyDx6100 pinVerifyDx6100Verb ∧
  servesRow .pinTranslateDx6100 pinTranslateDx6100Verb ∧ servesRow .pinTranslateDukptDx6100 pinTranslateDukptDx6100Verb ∧
  servesRow .cvvGenerateDx6100 cvvGenerateDx6100Verb ∧ servesRow .cvvVerifyDx6100 cvvVerifyDx6100Verb ∧
  servesRow .macGenerateDx6100 macGenerateDx6100Verb ∧ servesRow .macVerifyDx6100 macVerifyDx6100Verb ∧
  servesRow .arqcVerifyExtDx6100 arqcVerifyExtDx6100Verb ∧ servesRow .kbImportDx6100 kbImportDx6100Verb ∧
  servesRow .kbExportDx6100 kbExportDx6100Verb

/-- Family 0x06, the engines: a request that is taken in and passes the checks of R22 runs its verb's own work and is completed,
or waits at POLICY where that work finds no lease block or unit, and one that a check refuses is answered with that check's
status. -/
def Obligations.EngineVerbsServe : Prop :=
  servesRow .aeadSeal aeadSealVerb ∧ servesRow .aeadOpen aeadOpenVerb ∧ servesRow .ecdsaSign ecdsaSignVerb ∧
  servesRow .ecdsaVerify ecdsaVerifyVerb ∧ servesRow .ecdhDerive ecdhDeriveVerb ∧ servesRow .eddsaSign eddsaSignVerb ∧
  servesRow .eddsaVerify eddsaVerifyVerb ∧ servesRow .xdhDerive xdhDeriveVerb ∧ servesRow .pubkeyRead pubkeyReadVerb ∧
  servesRow .rsaPrivate rsaPrivateVerb ∧ servesRow .rsaPublic rsaPublicVerb ∧ servesRow .modOp modOpVerb ∧
  servesRow .kemEncaps kemEncapsVerb ∧ servesRow .kemDecaps kemDecapsVerb ∧ servesRow .mldsaSign mldsaSignVerb ∧
  servesRow .mldsaVerify mldsaVerifyVerb ∧ servesRow .hash hashVerb ∧ servesRow .hmacGenerate hmacGenerateVerb ∧
  servesRow .hmacVerify hmacVerifyVerb ∧ servesRow .opbufAlloc opbufAllocVerb ∧ servesRow .opbufWrite opbufWriteVerb ∧
  servesRow .opbufRead opbufReadVerb ∧ servesRow .opbufFree opbufFreeVerb ∧ servesRow .rsaPrivateDx6100 rsaPrivateDx6100Verb ∧
  servesRow .rsaPublicDx6100 rsaPublicDx6100Verb ∧ servesRow .ecdsaSignDx6100 ecdsaSignDx6100Verb ∧
  servesRow .ecdsaVerifyDx6100 ecdsaVerifyDx6100Verb

/-- Family 0x07, the pair, the basin and the domain, but for the verbs that always need a ballot: a request that is taken in and
passes the checks of R22 runs its verb's own work and is completed, or waits at POLICY where that work finds no lease block or
unit, and one that a check refuses is answered with that check's status. -/
def Obligations.PairVerbsServe : Prop :=
  servesRow .pairStatus pairStatusVerb ∧ servesRow .basinStatus basinStatusVerb ∧ servesRow .domainStatus domainStatusVerb ∧
  servesRow .domainJoin domainJoinVerb ∧ servesRow .keyDistribute keyDistributeVerb ∧ servesRow .pairStatusDx6100 pairStatusDxVerb

/-- Family 0x08, the charter and the sentinel, but for the verbs that always need a ballot: a request that is taken in and passes
the checks of R22 runs its verb's own work and is completed, or waits at POLICY where that work finds no lease block or unit, and
one that a check refuses is answered with that check's status. -/
def Obligations.CharterVerbsServe : Prop :=
  servesRow .lcStatus lcStatusVerb ∧ servesRow .lcTransition lcTransitionVerb ∧ servesRow .fwStage fwStageVerb ∧
  servesRow .fwStatus fwStatusVerb ∧ servesRow .attestIdentity attestIdentityVerb ∧ servesRow .attestQuote attestQuoteVerb ∧
  servesRow .foundryCertRead foundryCertReadVerb ∧ servesRow .dbgChallenge dbgChallengeVerb ∧
  servesRow .dbgEnable dbgEnableVerb ∧ servesRow .dbgEnd dbgEndVerb ∧ servesRow .dbgRead dbgReadVerb ∧
  servesRow .dbgWrite dbgWriteVerb ∧ servesRow .dbgCore dbgCoreVerb ∧ servesRow .lcStatusDx6100 lcStatusDx6100Verb ∧
  servesRow .tamperStatus tamperStatusVerb ∧ servesRow .tamperConfig tamperConfigVerb ∧
  servesRow .evidenceExport evidenceExportVerb ∧ servesRow .evidenceMark evidenceMarkVerb

/-- Family 0x09, the chart, but for the verbs that always need a ballot: a request that is taken in and passes the checks of R22
runs its verb's own work and is completed, or waits at POLICY where that work finds no lease block or unit, and one that a check
refuses is answered with that check's status. -/
def Obligations.ChartVerbsServe : Prop :=
  servesRow .chartRead chartReadVerb ∧ servesRow .chartStage chartStageVerb ∧ servesRow .chartDiscard chartDiscardVerb ∧
  servesRow .chartStatus chartStatusVerb ∧ servesRow .settingsRead settingsReadVerb ∧
  servesRow .chartStatusDx6100 chartStatusDx6100Verb

/-- Family 0x0A, observability: a request that is taken in and passes the checks of R22 runs its verb's own work and is
completed, or waits at POLICY where that work finds no lease block or unit, and one that a check refuses is answered with that
check's status. -/
def Obligations.ObservabilityVerbsServe : Prop :=
  servesRow .readReg readRegVerb ∧ servesRow .writeReg writeRegVerb ∧ servesRow .readRegDx6100 readRegDx6100Verb ∧
  servesRow .recRead recReadVerb ∧ servesRow .recClear recClearVerb ∧ servesRow .healthRead healthReadVerb ∧
  servesRow .counterRead counterReadVerb ∧ servesRow .timeStatus timeStatusVerb ∧ servesRow .timeSet timeSetVerb

/-- Dual control. Each verb that needs a ballot answers QUORUM_REQUIRED when it is sent directly and no check before that
refuses it, and the check's status else. BALLOT_EXECUTE of an armed ballot whose payload is inline or matches its digest ends the
ballot as stale where its target has moved on; else, where the state and the quorum allow it, the checks of a direct arrival
decide and the inner verb's own work runs on the ballot's payload. -/
def Obligations.DualControlNeedsBallot : Prop :=
  needsBallot .keyComponent keyComponentVerb ∧ needsBallot .domainBackup domainBackupVerb ∧
  needsBallot .dectabSet dectabSetVerb ∧ needsBallot .kbImport kbImportVerb ∧ needsBallot .kbImportDx6100 kbImportDx6100Verb ∧
  needsBallot .timeSet timeSetVerb ∧
  needsBallot .chartApply chartApplyVerb ∧ needsBallot .settingsStore settingsStoreVerb ∧ needsBallot .pairBind pairBindVerb ∧
  needsBallot .pairPolicy pairPolicyVerb ∧ needsBallot .witnessSet witnessSetVerb ∧
  needsBallot .custodianEnrol custodianEnrolVerb ∧ needsBallot .custodianSuspend custodianSuspendVerb ∧
  needsBallot .custodianReinstate custodianReinstateVerb ∧ needsBallot .custodianRevoke custodianRevokeVerb ∧
  needsBallot .custodyEstablish custodyEstablishVerb ∧ needsBallot .sliceCreate sliceCreateVerb ∧
  needsBallot .sliceSetQuota sliceSetQuotaVerb ∧ needsBallot .sliceBind sliceBindVerb ∧ needsBallot .sliceThaw sliceThawVerb ∧
  needsBallot .sliceReset sliceResetVerb ∧ needsBallot .sliceRemove sliceRemoveVerb ∧ needsBallot .sliceSave sliceSaveVerb ∧
  needsBallot .sliceRestore sliceRestoreVerb ∧ needsBallot .anchorAdd anchorAddVerb ∧
  needsBallot .anchorRemove anchorRemoveVerb ∧ needsBallot .tamperConfig tamperConfigVerb ∧
  needsBallot .basinConfig basinConfigVerb ∧ needsBallot .domainJoin domainJoinVerb ∧
  needsBallot .domainAdmit domainAdmitVerb ∧ needsBallot .domainExpel domainExpelVerb ∧
  needsBallot .commitFloor commitFloorVerb ∧ needsBallot .sliceSpread sliceSpreadVerb ∧
  needsBallot .domainRegistrar domainRegistrarVerb ∧ needsBallot .lcTransition lcTransitionVerb ∧
  needsBallot .fwActivate fwActivateVerb ∧ needsBallot .dbgEnable dbgEnableVerb ∧ needsBallot .vendorRevoke vendorRevokeVerb ∧
  ∀ (b : Barge) (s : State) (id : Nat) (x : Ballot) (v : Verb), ballotExecuteVerb.takesIn b s →
    let c := ballotExecuteVerb.served b
    let u := s.busyWith c
    let w := u.drawAs ballotExecuteVerb.drawer
    let done := fun e : Effect => ballotExecuteVerb.goesOn b s { e with st := e.st.drawAs u.ent.drawer }
    let p := sl c.payload 12 (fld c.payload 8 2)
    let inner := executedBarge c w x
    let stale := w.bound x.opcode x.target ≠ x.generation ∨ bindsOf x.opcode = .slice ∧ (w.slice x.target).acts ≠ x.acts
    gate ballotExecuteVerb c u = none → namedBallot c w = some (id, x) → baseVerb x.opcode = some v →
    x.pflags % 2 = 0 ∨ p.length = x.length ∧ fit 48 (Config.sha384 p) = fit 48 x.payload →
    (stale → exec (.ballotExecute b) s = .next (done
      { st := w.endBallot id x .void, reply := ⟨stBallotStale, be 4 (w.bound x.opcode x.target).toNat⟩,
        touch := [.ballot id true] })) ∧
    (¬stale → v.state inner w = none → x.opcode ≠ 0x0206 ∨ w.roleBelow = none →
      let fail := firstFail [must (targetFits x.opcode x.target false inner.payload) stBadFormat, innerGate v inner w]
      exec (.ballotExecute b) s = .next (done (finishBallot w id x (match fail with
        | some r => { st := w, reply := r }
        | none => v.workFrom inner 111 w))))

/-! ## Registers, protection, leases and restarts -/

/-- Register reads, counter writes and link registers by a reader that has the right. An access first wakes the block it reaches.
LO_READ_LATCH answers a core the register's value and latches the high word; PCNT_LO_WRITE sets the selected counter from the
word and the shadow; WHF_LINKCFG_WRITE sets a host cage's settings and trains the link again; RESET_PCS trains the link of any
cage again and changes no field, and without that bit cage 2 keeps everything. A selection beyond the last instance or the last
counter drops the write (R26). -/
def Obligations.RegisterCommandsAct : Prop :=
  (∀ (s : State) (r : Reader) (k : Bool) (addr : Nat), registerAddress addr = true → s.mayRead r k addr = true →
    let w := s.wakeRegister r addr
    (∀ n, r = .core n → exec (.loReadLatch ⟨r, k, addr⟩) s =
      .next ((w.afterRead r addr).emit (.access n true (be 4 (w.registerValue r addr))))) ∧
    (∀ n, r = .session n → exec (.loReadLatch ⟨r, k, addr⟩) s = .next (w.afterRead r addr))) ∧
  (∀ (s : State) (x : RegWrite) (block : Nat), blockCounters block ≠ 0 →
    s.mayWrite x.reader x.kernel (block * 65536 + 0x88) = true →
    let w := s.wakeRegister x.reader (block * 65536 + 0x88)
    let i := s.channel x.reader block
    let n := w.counterSel x.reader block
    (s.beyond x.reader block = false → n < blockCounters block →
      exec (.pcntLoWrite x block) s = .next (w.setCounter block i n { w.counter block i n with
        value := BitVec.ofNat 48 ((w.copies x.reader).shadow.at 0 block * 2 ^ 32 + x.value.toNat) })) ∧
    (s.beyond x.reader block = false → blockCounters block ≤ n → exec (.pcntLoWrite x block) s = .next w) ∧
    (s.beyond x.reader block = true → exec (.pcntLoWrite x block) s = .next s)) ∧
  (∀ (s : State) (x : RegWrite), s.mayWrite x.reader x.kernel 0x10010 = true →
    let w := s.wakeRegister x.reader 0x10010
    let c := s.channel x.reader 1
    (c < 2 → x.value.toNat.testBit 10 = false →
      exec (.whfLinkcfgWrite x) s = .next ((w.modLink c fun l => { l with cfg := x.value &&& 0xBFF }).retrain c)) ∧
    (c < 3 → x.value.toNat.testBit 10 = true →
      exec (.resetPcs x) s = .next (w.retrain c) ∧ exec (.whfLinkcfgWrite x) s = .next (w.retrain c)) ∧
    (c < 3 → x.value.toNat.testBit 10 = false → exec (.resetPcs x) s = .next w) ∧
    (c = 2 → x.value.toNat.testBit 10 = false → exec (.whfLinkcfgWrite x) s = .next w) ∧
    (3 ≤ c → exec (.resetPcs x) s = .next s ∧ exec (.whfLinkcfgWrite x) s = .next s))

/-- Unit regions, fall-back entries and the violation queue by a reader that has the right, whose access wakes the block first: a
commit of a unit's region or of a fall-back entry that the rules of locked, foreign and sealed places do not drop writes it with
its shadows and clears the shadows, and one that they drop is dropped; POP takes the oldest report of the selected queue. -/
def Obligations.ProtectionCommandsAct : Prop :=
  (∀ (s : State) (x : RegWrite), s.mayWrite x.reader x.kernel 0xC001C = true → s.channel x.reader 12 < 141 →
    let w := s.wakeRegister x.reader 0xC001C
    let u := w.channel x.reader 12
    let c := w.copies x.reader
    let new := (w.region u c.rsel).commit c.rbase c.rlast x.value.toNat
    (commitDropped (w.secureReader x.reader) (w.region u c.rsel) new = false →
      exec (.ixpRattrWrite x) s =
        .next (({ w with ixp := { w.ixp with regions := w.ixp.regions.put (32 * u + c.rsel) new } } : State).modCopies x.reader
          ReaderRegs.noUnitShadow)) ∧
    (commitDropped (w.secureReader x.reader) (w.region u c.rsel) new = true →
      exec (.ixpRattrWrite x) s = .next w.dropWrite)) ∧
  (∀ (s : State) (x : RegWrite), s.mayWrite x.reader x.kernel 0xC004C = true → s.beyond x.reader 12 = false →
    let w := s.wakeRegister x.reader 0xC004C
    let c := w.copies x.reader
    let new := (w.fallback c.fbsel).commit c.fbbase c.fblast x.value.toNat
    (commitDropped (w.secureReader x.reader) (w.fallback c.fbsel) new = false →
      exec (.ixpFbattrWrite x) s =
        .next (({ w with ixp := { w.ixp with fallback := w.ixp.fallback.put c.fbsel new } } : State).modCopies x.reader
          ReaderRegs.noEntryShadow)) ∧
    (commitDropped (w.secureReader x.reader) (w.fallback c.fbsel) new = true →
      exec (.ixpFbattrWrite x) s = .next w.dropWrite)) ∧
  (∀ (s : State) (x : RegWrite), s.mayWrite x.reader x.kernel 0xC0060 = true → s.beyond x.reader 12 = false →
    x.value.toNat.testBit 1 = true →
    let w := s.wakeRegister x.reader 0xC0060
    (x.value.toNat % 2 = 0 → exec (.pop x) s = .next ((w.modCopies x.reader fun c => { c with vqueue := 0 }).popReport x.reader)) ∧
    (x.value.toNat % 2 = 1 → w.secureReader x.reader = true →
      exec (.pop x) s = .next ((w.modCopies x.reader fun c => { c with vqueue := 1 }).popReport x.reader)) ∧
    (x.value.toNat % 2 = 1 → w.secureReader x.reader = false →
      exec (.pop x) s = .next (w.dropWrite.popReport x.reader)))

/-- A register command without the right changes no register: it raises IXP_WRITE_DENIED for a write, and a core's is reported
to its violation queue, interrupts it and is answered as refused. -/
def Obligations.RegisterCommandsDenied : Prop :=
  ∀ (s : State) (w : RegWrite),
    (s.mayWrite w.reader w.kernel 0x10010 = false →
      exec (.whfLinkcfgWrite w) s = .next (s.denyRegister w.reader w.kernel .write 0x10010) ∧
      exec (.resetPcs w) s = .next (s.denyRegister w.reader w.kernel .write 0x10010)) ∧
    (s.mayWrite w.reader w.kernel 0xC001C = false →
      exec (.ixpRattrWrite w) s = .next (s.denyRegister w.reader w.kernel .write 0xC001C)) ∧
    (s.mayWrite w.reader w.kernel 0xC004C = false →
      exec (.ixpFbattrWrite w) s = .next (s.denyRegister w.reader w.kernel .write 0xC004C)) ∧
    (s.mayWrite w.reader w.kernel 0xC0060 = false →
      exec (.pop w) s = .next (s.denyRegister w.reader w.kernel .write 0xC0060)) ∧
    (s.mayWrite w.reader w.kernel 0x100024 = false →
      exec (.keeperLeaseWrite w) s = .next (s.denyRegister w.reader w.kernel .write 0x100024)) ∧
    (s.mayWrite w.reader w.kernel 0xB0044 = false →
      exec (.coreWdkick w) s = .next (s.denyRegister w.reader w.kernel .write 0xB0044)) ∧
    (s.mayWrite w.reader w.kernel 0xB004C = false →
      exec (.restart w) s = .next (s.denyRegister w.reader w.kernel .write 0xB004C))

/-- A selection beyond a block's last instance: every register of the block but CHSEL reads all ones, a write is dropped, and a
read leaves nothing behind, for it is no error. -/
def Obligations.BeyondLastInstance : Prop :=
  ∀ (s : State) (r : Reader) (addr : Nat) (v : W32), s.beyond r (addr / 65536) = true → addr % 65536 ≠ 0 →
    s.registerValue r addr = 0xFFFFFFFF ∧ s.writeRegister r addr v = s ∧ s.afterRead r addr = s

/-- Gating and leases. With the right: a write of PWR_GATE, by CLK_OFF and PWR_OFF alike, gates the clock and the power of a domain
that nothing leases as its two bits say, and places a gating request on a leased one whose bits it newly sets; PWR_LEASE takes or
releases the keeper's lease and nothing else; PWR_GATEREQ asks for clock-off and power-off, and restores at once. A queued request
is granted once no lease stands; at its ceiling the leases are revoked, or it is granted where the last is gone. -/
def Obligations.LeaseCommandsAct : Prop :=
  (∀ (s : State) (w : RegWrite), s.mayWrite w.reader w.kernel 0x100020 = true → s.channel w.reader 16 < 32 →
    let d := s.channel w.reader 16
    (s.leased d = false → (s.domain d).clockOff = false → (s.domain d).powerOff = false →
      (w.value.toNat % 4 = 1 → ∃ t, exec (.clkOff w) s = .next t ∧ (t.domain d).clockOff = true ∧ (t.domain d).powerOff = false) ∧
      (w.value.toNat % 4 = 3 → ∃ t, exec (.pwrOff w) s = .next t ∧ (t.domain d).clockOff = true ∧ (t.domain d).powerOff = true)) ∧
    (s.leased d = false → w.value.toNat % 4 ≠ 0 →
      ∃ t, exec (.clkOff w) s = .next t ∧ exec (.pwrOff w) s = .next t ∧
        (t.domain d).clockOff = w.value.toNat.testBit 0 ∧ (t.domain d).powerOff = w.value.toNat.testBit 1) ∧
    (w.value.toNat % 4 = 0 →
      ∃ t, exec (.clkOff w) s = .next t ∧ exec (.pwrOff w) s = .next t ∧
        (t.domain d).clockOff = false ∧ (t.domain d).powerOff = false) ∧
    (s.leased d = true → w.value.toNat % 4 ≠ 0 →
      let off := w.value.toNat.testBit 1
      let stop := w.value.toNat.testBit 0
      let y := s.rebase.modDomain d fun x => { x with powerOff := x.powerOff && off, clockOff := x.clockOff && stop }
      let t := if off = true ∧ (s.domain d).powerOff = false ∨ stop = true ∧ (s.domain d).clockOff = false then
        y.requestGate d (if off then .powerOff else .clockOff) false else y
      exec (.clkOff w) s = .next t ∧ exec (.pwrOff w) s = .next t)) ∧
  (∀ (s : State) (w : RegWrite), s.mayWrite w.reader w.kernel 0x100024 = true → s.channel w.reader 16 < 32 →
    exec (.keeperLeaseWrite w) s =
      .next (s.modDomain (s.channel w.reader 16) fun x => { x with keeper := w.value.toNat.testBit 30 })) ∧
  (∀ (s : State) (w : RegWrite), s.mayWrite w.reader w.kernel 0x100028 = true → s.channel w.reader 16 < 32 →
    let d := s.channel w.reader 16
    exec (.gatereqClockOff w) s = .next (s.requestGate d .clockOff (!s.secureReader w.reader)) ∧
    exec (.gatereqPowerOff w) s = .next (s.requestGate d .powerOff (!s.secureReader w.reader)) ∧
    ∃ t, exec (.gatereqRestore w) s = .next t ∧ (t.domain d).clockOff = false ∧ (t.domain d).powerOff = false ∧
      (t.domain d).queued = none) ∧
  (∀ (s : State) (d : Nat) (a : GateAction) (ceiling : Nat), (s.domain d).queued = some (a, ceiling) →
    (s.leased d = false → exec (.gateRequestGrant d) s = .next (s.gateDomain d a)) ∧
    ((s.upTo ceiling).leased d = true → exec (.leaseCeiling d) s = .next ((s.upTo ceiling).revokeLeases d a)) ∧
    ((s.upTo ceiling).leased d = false → exec (.leaseCeiling d) s = .next ((s.upTo ceiling).gateDomain d a)))

/-- The watchdogs and restarts. By a reader with the right, the kick that is due moves a watchdog on at once, notes its time and
locks it, and any other restarts its world, the secure one with cause 2; RESTART's bit 0 restarts the secure world with cause 3, a
keeper watchdog that lapses with cause 1 and a secure kernel exception with cause 4, and a normal watchdog that lapses restarts
the normal world. A secure restart ends with its keys again where measurement and root agree, without keys on a module that holds
none, and in the alarm of what differs; 30 ms after its cause it ends in RESTART_ESC. A normal restart ends with event 289 where
its measurement agrees or in recovery mode, and else in NWD_ESC. What a restart does as it begins stands in
SecureRestartBegins, a normal one in the last clause here. -/
def Obligations.RestartCommandsAct : Prop :=
  (∀ (s : State) (w : RegWrite), s.mayWrite w.reader w.kernel 0xB0044 = true → s.beyond w.reader 11 = false →
    s.cor.restarting = false →
    let due : W32 := if s.cor.keeperDog.second then 0xA5A5 else 0x5A5A
    (w.value = due → exec (.coreWdkick w) s = .next { s with cor := { s.cor with keeperDog :=
      { s.cor.keeperDog with second := !s.cor.keeperDog.second, kicked := s.now, locked := true } } }) ∧
    (w.value ≠ due → exec (.coreWdkick w) s = .next (s.startRestart 2))) ∧
  (∀ (s : State) (w : RegWrite), s.mayWrite w.reader w.kernel 0xB0054 = true → s.beyond w.reader 11 = false →
    s.cor.normalRestarting = false →
    let due : W32 := if s.cor.normalDog.second then 0xA5A5 else 0x5A5A
    (w.value = due → exec (.coreNwdkick w) s = .next { s with cor := { s.cor with normalDog :=
      { s.cor.normalDog with second := !s.cor.normalDog.second, kicked := s.now, locked := true } } }) ∧
    (w.value ≠ due → exec (.coreNwdkick w) s = .next s.startNormalRestart)) ∧
  (∀ (s : State) (w : RegWrite), s.mayWrite w.reader w.kernel 0xB004C = true → s.beyond w.reader 11 = false →
    (w.value.toNat.testBit 0 = true → exec (.restart w) s = .next (s.startRestart 3)) ∧
    (w.value.toNat.testBit 0 = false → exec (.restart w) s = .next s)) ∧
  (∀ s : State, s.pwr.started = true → s.cor.restarting = false → s.secureHalted = false →
    exec .keeperWatchdogExpire s =
      .next ((s.upTo (s.cor.keeperDog.kicked + s.cor.keeperDog.period * 1000000)).startRestart 1)) ∧
  (∀ (s : State) (core : Nat), core < 64 → s.coreSecure core = true →
    exec (.secureKernelException core) s = .next (s.startRestart 4)) ∧
  (∀ s : State, s.cor.restarting = true →
    exec .secureRestartComplete s = .next (
      if s.keeperKeyed = false then s.endRestart
      else if s.keeperMatches = false then s.alarm 0x27 0 0 0
      else if s.rootSplit = true then
        ({ s with vlt := { s.vlt with shadowFault := true, rootValid := false } } : State).alarm 0x20 0 0 0
      else s.restoreKeys.endRestart) ∧
    exec .restartEscalateTimeout s = .next ((s.upTo (s.cor.restarts.getLastD s.now + 30000000)).alarm 0x27 0 0 0)) ∧
  (∀ s : State, s.pwr.started = true → s.cor.normalRestarting = false →
    exec .normalWatchdogExpire s =
      .next (s.upTo (s.cor.normalDog.kicked + s.cor.normalDog.period * 1000000)).startNormalRestart) ∧
  (∀ s : State, s.cor.normalRestarting = true →
    exec .normalRestartComplete s = .next (
      if s.ctr.recovery = true ∨ s.normalMatches = true then
        ({ s with cor := { s.cor with
          normalRestarting := false, normalDog := { s.cor.normalDog with second := false, kicked := s.now } } } : State).raise
            289 noInst 0xFFFF 0 0
      else s.alarm 0x28 0 0 0)) ∧
  (∀ s : State, s.pwr.started = true → s.pwr.shutDown = false → s.cor.normalRestarting = false →
    let t : State := { s with cor := { s.cor with normalRestarting := true }, whf := { s.whf with halfOpen := [] } }
    s.startNormalRestart = ((((t.endSessions fun x => x.fgl == 1 || x.fgl == 2).abortBarges (fun r => r.queuedFor .normal)
      stAbortRestart).reloadUnits false).freshCores false))

/-- A secure restart of a module that has started and is not restarting: the vault is locked and the ratchet and domain values go
at once, with the cause and a count one higher; barges and leases of the secure world end and its state is cleared. Its third within
600 s raises the alarm RESTART_ESC. A module that is down, not started or restarting already starts none. -/
def Obligations.SecureRestartBegins : Prop :=
  ∀ (s : State) (cause : Nat),
    let times := within s.now 600000000000 s.cor.restarts ++ [s.now]
    let t : State := { s with
      cor := { s.cor with
        restarting := true, phase := 3, cause := cause, count := sat 255 (s.cor.count + 1), restarts := times,
        healthOut := false },
      vlt := { s.vlt with unlocked := false, rat := [], dom := [] } }
    let u := (t.abortSecure.endKeeperLeases.clearSecure.reloadUnits true).freshCores true
    (s.pwr.started = true → s.pwr.shutDown = false → s.cor.restarting = false →
      (times.length < 3 → s.startRestart cause = u) ∧ (3 ≤ times.length → s.startRestart cause = u.alarm 0x27 0 0 0)) ∧
    (s.pwr.started = false ∨ s.pwr.shutDown = true ∨ s.cor.restarting = true → s.startRestart cause = s)

/-- An access by a master, cut into accesses of at most 256 bytes. One that a byte has no deciding region for is counted as a look-up
of the fall-back table; then one that every byte of its range allows and that fits what stands there is performed, and one that a
layer forbids, or that reaches a register in another shape than whole words, is refused with a report and leaves memory as it was. The
first that is refused ends the transfer; a write of a unit that is no core is judged over its whole range first, and a refusal leaves
all of it unwritten. -/
def Obligations.FabricAccessActs : Prop :=
  (∀ (s : State) (x : FabricAccess), accessFits x = true →
    let t := if x.unit < 64 then s.setCore x.unit { s.core x.unit with kernel := !x.task } else s
    let m := t.master x
    let refused := (accessParts x).find? fun p => (t.firstForbidden m p.kind p.address p.length).isSome
    (x.kind ≠ .write ∨ x.unit < 96 ∨ refused = none → exec (.fabricAccess x) s = .next (t.accessAll (accessParts x))) ∧
    (∀ p, x.kind = .write → 96 ≤ x.unit → refused = some p →
      exec (.fabricAccess x) s = .next (t.accessOnce p).1 ∧ (t.accessOnce p).1.mem = s.mem)) ∧
  (∀ (s : State) (x : FabricAccess),
    let m := s.master x
    let t := s.countLookup m x
    (t.firstForbidden m x.kind x.address x.length = none → misshapen x = false → s.accessOnce x = (t.performAccess x, true)) ∧
    (t.firstForbidden m x.kind x.address x.length = none → misshapen x = true →
      s.accessOnce x = (t.refuseAccess m x (x.address, 3, 0, 2, some 12), false)) ∧
    (∀ f, t.firstForbidden m x.kind x.address x.length = some f →
      s.accessOnce x = (t.refuseAccess m x f, false) ∧ (t.refuseAccess m x f).mem = s.mem) ∧
    (s.looksUp m x.address x.length = false → t = s)) ∧
  (∀ (s : State) (x : FabricAccess) (rest : List FabricAccess), s.accessAll [] = s ∧
    s.accessAll (x :: rest) = if (s.accessOnce x).2 = true then (s.accessOnce x).1.accessAll rest else (s.accessOnce x).1)

/-! ## The wharf -/

/-- Frames, the answers of the wharf and links. Each frame counts its FEC codewords and site event 512; a frame of the towpath cage
and a pause frame do no more, a bad one is counted as dropped, an accepted one is handed on, and in P4 it goes to the link buffer,
where one that wakes the module does so and one that finds no room is dropped. An ARP request or neighbour solicitation for an own
address is answered to its sender, and an echo request up to 1,000 times a second and port. A link that resolves comes up with
event 0, one that finds no common mode fails training where it negotiates, and one whose cage exceeds its budget stays down; a
link goes down, with its training failed or not, and auto-negotiation restarts at its time. The next signed beacon of a port goes
out at its time, a second after the last; the towpath link comes up in mode 1 with RS(544,514), and a paired module says hello. -/
def Obligations.WharfCommandsAct : Prop :=
  (∀ (f : HostFrame) (s : State), f.cage < 3 →
    let t := (s.countFec f).countSite 1 f.cage 512 1
    (f.cage = 2 ∨ isPause f.bytes = true → exec (.hostFrameRx f) s = .next t) ∧
    (f.cage < 2 → isPause f.bytes = false →
      (acceptFrame f = none → exec (.hostFrameRx f) s = .next (t.dropFrame f.cage)) ∧
      (∀ v, acceptFrame f = some v → t.pwr.state ≠ 4 → exec (.hostFrameRx f) s = .next (t.handOn f.cage v f.bytes)) ∧
      (∀ v, acceptFrame f = some v → t.pwr.state = 4 →
        let used := (t.pwr.linkBuffer.map fun e => e.2.length).foldl (· + ·) 0
        let u : State := { t with pwr := { t.pwr with linkBuffer := t.pwr.linkBuffer ++ [(f.cage, f.bytes)] } }
        (2097152 < used + f.bytes.length → exec (.hostFrameRx f) s = .next (t.dropFrame f.cage)) ∧
        (used + f.bytes.length ≤ 2097152 →
          exec (.hostFrameRx f) s = .next (if wakesModule f.bytes = true then u.wake else u))))) ∧
  (∀ (q : AddrQuery) (s : State),
    let w := s.wake
    (q.target.length = 4 → w.answersFor q.cage q.vlan q.target = true →
      exec (.arpRequest q) s = .next (w.emit (.frame q.cage q.sender ([0, 2] ++ q.target ++ q.sender)))) ∧
    (q.target.length = 16 → w.answersFor q.cage q.vlan q.target = true →
      exec (.neighbourSolicitation q) s = .next (w.emit (.frame q.cage q.sender ([136] ++ q.target ++ q.sender)))) ∧
    (w.answersFor q.cage q.vlan q.target = false →
      exec (.arpRequest q) s = .next w ∧ exec (.neighbourSolicitation q) s = .next w)) ∧
  (∀ (q : AddrQuery) (s : State),
    let second := s.now / 1000000000
    let n := if (s.link q.cage).echoSecond = second then (s.link q.cage).echoes else 0
    let t := s.modLink q.cage fun l => { l with echoSecond := second, echoes := min 1000 (n + 1) }
    (s.answersFor q.cage q.vlan q.target = true → n < 1000 → exec (.echoRequest q) s =
      .next (t.emit (.frame q.cage q.sender ((if q.target.length = 4 then [0] else [129]) ++ q.target ++ q.data)))) ∧
    (s.answersFor q.cage q.vlan q.target = true → 1000 ≤ n → exec (.echoRequest q) s = .next t) ∧
    (s.answersFor q.cage q.vlan q.target = false → exec (.echoRequest q) s = .next s)) ∧
  (∀ (cage : Nat) (p : LinkPartner) (s : State), cage < 3 →
    ((s.cage cage).exceeds = true → exec (.hostLinkUp cage p) s = .next s) ∧
    ((s.cage cage).exceeds = false →
      (∀ m f, (s.link cage).resolve cage p = some (m, f) → exec (.hostLinkUp cage p) s =
        .next ((s.modLink cage fun l => { l with
          up := true, anDone := l.anEn, mode := m, fec := f, anRestart := none, beaconAt := s.now }).raise 0 cage 0xFFFF 0 m)) ∧
      ((s.link cage).resolve cage p = none →
        exec (.hostLinkUp cage p) s = .next (if (s.link cage).anEn = true then s.trainFail cage else s)))) ∧
  (∀ (cage : Nat) (s : State), cage < 3 →
    exec (.hostLinkDown cage false) s = .next (s.linkDown cage) ∧
    exec (.hostLinkDown cage true) s = .next ((s.linkDown cage).trainFail cage)) ∧
  (∀ (cage t : Nat) (s : State), (s.link cage).anRestart = some t →
    exec (.anRestartTimeout cage) s = .next ((s.upTo t).modLink cage fun l => { l with anRestart := none, anDone := false })) ∧
  (∀ (cage : Nat) (dest : Bytes) (s : State), s.setting 6 (be 1 cage) = some dest → cage < 2 → (s.link cage).up = true →
    let pn := (s.link cage).beaconPn + 1
    let t := (s.upTo (s.link cage).beaconAt).modLink cage fun l =>
      { l with beaconPn := pn, beaconAt := (s.upTo (s.link cage).beaconAt).now + 1000000000 }
    let body := be 8 t.ctr.moduleId.toNat ++ be 8 t.stamp.toNat ++ be 2 t.ctr.state.code ++ be 1 t.ctr.state.view ++
      be 1 t.beaconFlags ++ be 4 t.ctr.svn ++ be 1 t.fglEnabled ++ zeros 3
    let sig := t.sign384 t.sessionKey (fglHeader 0x20 false 0 pn (body.length + 96) ++ body)
    exec (.beaconTimer cage) s =
      .next (t.freeNat.2.sendClear 0x20 0 pn (body ++ sig) cage (sl dest 4 16 ++ sl dest 2 2))) ∧
  (∀ s : State,
    let t := (s.modLink 2 fun l => { l with
      up := true, anDone := l.anEn, mode := 1, fec := 2, anRestart := none, beaconAt := s.now }).raise 0 2 0xFFFF 0 1
    ((s.cage 2).exceeds = true → exec .towpathLinkUp s = .next s) ∧
    ((s.cage 2).exceeds = false → t.tow.partner = 0 → exec .towpathLinkUp s = .next t) ∧
    ((s.cage 2).exceeds = false → t.tow.partner ≠ 0 → exec .towpathLinkUp s = .next (t.newLink t.tow.partner).sendHello))

/-- PTP. Every message counts site event 518. On a port of the configured domain an announce that is the port's first, comes from its
master or is better becomes the port's dataset, and on the best port gives the UTC offset and the leap; a one-step sync of the
master is measured and followed by a delay request, a follow-up measures the two-step sync it belongs to, a delay response gives
the path delay by its mechanism, and a peer's delay request is answered under that mechanism; any other message changes nothing.
A locked port that loses its lock unlocks. -/
def Obligations.PtpCommandsAct : Prop :=
  (∀ (m : PtpMessage) (s : State),
    let w := s.wake.countSite 1 m.cage 518 1
    let p := w.ptpPort m.cage
    (2 ≤ m.cage ∨ m.domain ≠ s.ptpSetting.1 ∨ s.ptpSetting.2.1.testBit m.cage = false → exec (.ptpMessage m) s = .next w) ∧
    (m.cage < 2 → m.domain = s.ptpSetting.1 → s.ptpSetting.2.1.testBit m.cage = true →
      (m.kind = .announce →
        let take := p.best = none ∨ p.master = m.source ∨ datasetLess m.quality (p.best.getD []) = true
        let t := w.modPtp m.cage fun p => { p with best := some m.quality, master := m.source }
        (take → t.whf.ptpBest ≠ some m.cage → t.whf.ptpBest ≠ none → exec (.ptpMessage m) s = .next t) ∧
        (take → t.whf.ptpBest = some m.cage ∨ t.whf.ptpBest = none → exec (.ptpMessage m) s = .next { t with clk := { t.clk with
          utcOffset := if m.utcOffsetValid then m.utcOffset % 256 else t.clk.utcOffset,
          leapFlag := if m.leap61 then 1 else if m.leap59 then -1 else 0 } }) ∧
        (¬take → exec (.ptpMessage m) s = .next w)) ∧
      (m.kind = .sync → p.master = m.source → p.best ≠ none →
        (m.twoStep = false → exec (.ptpMessage m) s =
          .next ((w.measure m.cage m.origin w.stamp.toNat).delayRequest m.cage m.transport m.sequence)) ∧
        (m.twoStep = true → exec (.ptpMessage m) s = .next ((w.modPtp m.cage fun p =>
          { p with sync := some (m.sequence, w.stamp.toNat) }).delayRequest m.cage m.transport m.sequence))) ∧
      (∀ ingress, m.kind = .followUp → p.sync = some (m.sequence, ingress) → p.master = m.source →
        exec (.ptpMessage m) s = .next (w.measure m.cage m.origin ingress)) ∧
      (m.kind = .delayReq →
        (s.ptpSetting.2.2 = 1 → exec (.ptpMessage m) s =
          .next (w.emit (.frame m.cage m.source (be 1 m.transport ++ be 1 3 ++ be 2 m.sequence ++ be 8 w.stamp.toNat)))) ∧
        (s.ptpSetting.2.2 ≠ 1 → exec (.ptpMessage m) s = .next w)) ∧
      (∀ egress, m.kind = .delayResp → p.req = some (m.sequence, egress) →
        (s.ptpSetting.2.2 = 1 → exec (.ptpMessage m) s = .next (w.modPtp m.cage fun p => { p with
          req := none, delay := (((w.stamp.toNat : Int) - egress - ((m.egress : Int) - m.origin)) / 2) })) ∧
        (∀ o i, s.ptpSetting.2.2 ≠ 1 → p.last = some (o, i) → exec (.ptpMessage m) s = .next (w.modPtp m.cage fun p =>
          { p with req := none, delay := (((i : Int) - o) + ((m.origin : Int) - egress)) / 2 }))))) ∧
  (∀ (cage : Nat) (p : PtpPort) (s : State), s.whf.ptp.find cage = some p → p.locked = true →
    exec (.ptpLockLost cage) s = .next (s.ptpUnlock cage))

/-! ## Sessions -/

/-- The handshake. A HELLO_C of another version, or where FGL-3 is off, is answered VERSION_UNSUPPORTED and one whose limit is out
of range BAD_FORMAT; one whose cookie stands but is no valid one is dropped; beyond the limits of sessions and of handshakes it is
CLASS_FULL; one without a valid cookie while too many handshakes stand open or the reply would amplify gets a cookie back; a bad
share is named, and good ones get the module's HELLO. A FINISH_C that opens and passes its checks establishes the session, and else
ends as the checks say; one of no handshake is hinted at a reset. A TLS hello is served in full whatever else it asks for, is reset
where a check fails and else opens its session; a renegotiation is refused and the connection goes on, and KeyUpdate moves the keys
(log entry 10). -/
def Obligations.HandshakesAct : Prop :=
  (∀ (d : Datagram) (s : State), 24 ≤ d.bytes.length → dgType d = 0x01 → fld d.bytes 0 1 ≠ 3 →
    exec (.helloC d) s = .next (s.wake.alertClear d stVersion)) ∧
  (∀ (d : Datagram) (s : State), 24 ≤ d.bytes.length → dgType d = 0x01 → fld d.bytes 0 1 = 3 →
    s.wake.cor.normalRestarting = false →
    (s.wake.fglEnabled.testBit 2 = false → exec (.helloC d) s = .next (s.wake.alertClear d stVersion)) ∧
    (s.wake.fglEnabled.testBit 2 = true → (dgBody d).length = 1349 → fld d.bytes 20 2 = 1349 →
    let w := s.wake
    let limit := fld (dgBody d) 32 2
    let cookie := sl (dgBody d) 36 32
    let valid := cookieValid d.source cookie w.now
    exec (.helloC d) s = .next (
      if limit < 4096 ∨ 9146 < limit then w.alertClear d stBadFormat
      else if allZero cookie = false ∧ valid = false then w
      else if 65536 ≤ w.sessionCount (fun x => x.fgl == 3) then
        (w.raise 4 d.cage 0xFFFF stClassFull.toNat 0).alertClear d stClassFull
      else if 8000 ≤ w.handshakesNow then w.alertClear d stClassFull
      else if valid = false ∧ (w.amplifies d = true ∨ 4096 < w.whf.halfOpen.length) then
        w.sendClear 0x06 0 0 (cookieFor d.source w.now) d.cage d.source
      else if Config.onCurve 2 (sl (dgBody d) 68 97) = false then w.alertClear d stNotOnCurve
      else if Config.kemKeyOk (sl (dgBody d) 165 1184) = false then w.alertClear d stNoncanonical
      else w.helloM d (dgBody d)))) ∧
  (∀ (d : Datagram) (s : State), dgShape d 0x03 = true → s.wake.cor.normalRestarting = false →
    let w := s.wake
    (∀ o, w.whf.halfOpen.find (dgSession d) = some o → exec (.finishC d) s = .next (
      match Config.gcmOpen (trafficKey o.cHs) (datagramNonce (trafficIv o.cHs) 1) (dgHeader d) (dgBody d) with
      | none => w.dropAuth d.cage
      | some plain =>
        let t := (w.countSite 1 d.cage 514 1).firmwareJobs .publicKey
        match t.finishChecks o plain with
        | .error c => t.alertHandshake (dgSession d) o c
        | .ok (a, p, slice, th) => t.establish (dgSession d) o d a p slice th)) ∧
    (w.whf.halfOpen.find (dgSession d) = none →
      exec (.finishC d) s = .next (if (w.session (dgSession d)).isSome = true then w else w.resetHint d))) ∧
  (∀ (h : TlsHello) (s : State),
    let w := s.wake.firmwareJobs .publicKey
    let reset := w.emit (.tcpReset h.cage h.source)
    let fair := w.cor.normalRestarting = false ∧ w.ctr.dbgNormal = none ∧ w.fglEnabled.testBit (h.fgl - 1) = true ∧
      tlsParams h = true
    h.ask = .full ∨ h.ask = .resumption ∨ h.ask = .preShared ∨ h.ask = .earlyData →
    (¬fair → exec (.tlsHandshake h) s = .next reset) ∧
    (fair → 4096 ≤ w.sessionCount (fun x => x.fgl != 3) → exec (.tlsHandshake h) s =
      .next ((w.raise 4 h.cage 0xFFFF stClassFull.toNat 0).emit (.tcpReset h.cage h.source))) ∧
    (fair → w.sessionCount (fun x => x.fgl != 3) < 4096 →
      let secret := fun module : Bool => if h.fgl = 2 then fit 48 (Config.tlsSecret h.transcript module) else []
      exec (.tlsHandshake h) s = .next (
        match w.bindingOf h.chain with
        | none => reset
        | some (a, p, slice) =>
          if verify384 (Config.leafKey h.chain) h.transcript h.signature = false ∨ w.sliceOpen slice = false ∨
              (w.slice slice).quota.sessions12 ≤ w.sessionCount (fun x => x.fgl != 3 && x.slice == slice) then reset
          else { w with whf := { w.whf with
            nextTcp := w.whf.nextTcp + 1,
            sessions := w.whf.sessions.put w.whf.nextTcp
              { fgl := h.fgl, slice := slice, generation := w.sessionGeneration slice, anchor := a, principal := p, limit := 0,
                cage := h.cage, source := h.source, lastHeard := w.now, idle := w.idleS, recv := { secret := secret false, since := w.now },
                send := { secret := secret true, since := w.now } } } }))) ∧
  (∀ (h : TlsHello) (s : State),
    (h.ask = .renegotiation → exec (.tlsHandshake h) s = .next s.wake) ∧
    (∀ r, h.ask = .keyUpdate r → exec (.tlsHandshake h) s = .next (s.wake.tlsKeyUpdate h.cage h.source r)))

/-- Datagrams of a session, once opened: a REQUEST's records are taken one by one, or an ALERT names a bad split; CLOSE ends the
session; a PING's eight bytes come back in a PONG, any other body is not answered (log entry 10), and a PONG of the host is
opened and not answered. A frame of a TLS session is taken as its own generation says: one that is too long or not of the length
it states closes the connection (log entry 10), an FGL-1 frame beyond sixteen outstanding is held, and an FGL-2 frame becomes a
barge, unless a reserved field or the session's room refuses it. -/
def Obligations.SessionDatagramsAct : Prop :=
  (∀ (d : Datagram) (s : State),
    let o := s.wake.openDatagram 0x10 d
    exec (.request d) s = .next (
      match o.2, o.1.session (dgSession d) with
      | some body, some x =>
        match requestRecords body with
        | none => o.1.sendSealed (dgSession d) 0x3F (alertBody stBadFormat ++ be 8 (dgPn d)) d.cage d.source
        | some rs =>
          rs.foldl (fun s r => s.takeRecord (dgSession d) (dgPn d) x (dgClean d && allZero (sl body 1 3)) r)
            (o.1.endIdle.setGather (dgSession d) (dgPn d) (some { outstanding := rs.length, source := d.source, cage := d.cage }))
      | _, _ => o.1)) ∧
  (∀ (d : Datagram) (s : State),
    let o := s.wake.openDatagram 0x30 d
    exec (.close d) s = .next (if o.2 = none then o.1 else o.1.endSession (dgSession d))) ∧
  (∀ (d : Datagram) (s : State),
    (dgType d = 0x32 → exec (.ping d) s = .next (s.wake.openDatagram 0x32 d).1) ∧
    (dgType d ≠ 0x32 →
      let o := s.wake.openDatagram 0x31 d
      exec (.ping d) s = .next (
        match o.2 with
        | some body => if body.length = 8 then o.1.sendSealed (dgSession d) 0x32 body d.cage d.source else o.1
        | none => o.1))) ∧
  (∀ (n : Nat) (frame : Bytes) (x : Session) (s : State), s.session n = some x →
    let w := s.wake.endIdle.modSession n fun x => { x with lastHeard := s.now, idle := s.idleS }
    (x.fgl = 1 →
      let whole := 8 ≤ frame.length ∧ frame.length ≤ 65535 ∧ frame.length = 2 + fld frame 0 2
      (whole → x.order.length < 16 →
        exec (.fgl1Request n frame) s = .next ((w.fgl1Accept n frame).sendOn w.flt.nextBarge)) ∧
      (whole → 16 ≤ x.order.length →
        exec (.fgl1Request n frame) s = .next (w.modSession n fun x => { x with held := x.held ++ [frame] })) ∧
      (¬whole → exec (.fgl1Request n frame) s = .next (s.closeTcp n x))) ∧
    (x.fgl = 2 →
      let whole := 16 ≤ frame.length ∧ frame.length ≤ 1048576 ∧ frame.length = 4 + fld frame 0 4
      let b : Barge := { session := n, pn := 0, slice := x.slice, generation := x.generation, cls := 2, opcode := fld frame 4 2,
                         requestId := BitVec.ofNat 64 (fld frame 8 8), idem := 0, payload := frame.drop 16 }
      (whole → fld frame 6 2 ≠ 0 → exec (.fgl2Request n frame) s = .next (w.answerNow b ⟨stReserved, []⟩)) ∧
      (whole → fld frame 6 2 = 0 → intakeFail b w = none →
        exec (.fgl2Request n frame) s = .next ((w.enter b .arrived).sendOn w.flt.nextBarge)) ∧
      (∀ r, whole → fld frame 6 2 = 0 → intakeFail b w = some r →
        exec (.fgl2Request n frame) s = .next (w.answerNow b r)) ∧
      (¬whole → exec (.fgl2Request n frame) s = .next (s.closeTcp n x))))

/-- Timers of sessions: pending responses go out, but for a module that seeks its lease, which holds them; a half-open handshake, an
idle session, a previous key and an idempotency entry end at their times, and a sending key moves one step on. -/
def Obligations.SessionTimersAct : Prop :=
  (∀ (n pn : Nat) (g : Gather) (s : State), s.gather n pn = some g → g.records ≠ [] →
    (s.tow.pair ≠ .seeking ∨ s.tow.wasServing = false →
      exec (.responseGatherTimeout n pn) s = .next ((s.upTo (g.oldest + 20000)).flush n pn)) ∧
    (s.tow.pair = .seeking → s.tow.wasServing = true → exec (.responseGatherTimeout n pn) s = .next s)) ∧
  (∀ (n : Nat) (o : HalfOpen) (s : State), s.whf.halfOpen.find n = some o →
    let t := s.upTo o.deadline
    exec (.handshakeTimeout n) s = .next { t with whf := { t.whf with halfOpen := t.whf.halfOpen.del n } }) ∧
  (∀ (n : Nat) (x : Session) (s : State), s.session n = some x →
    exec (.sessionIdleTimeout n) s = .next ((s.upTo (x.lastHeard + x.idle * 1000000000)).endSession n)) ∧
  (∀ (n : Nat) (x : Session) (s : State), s.session n = some x → x.fgl = 3 → x.heardSinceFlip = true →
    let t := if 2 ^ 30 ≤ x.send.count then s else s.upTo (x.send.since + 86400000000000)
    exec (.sendKeyUpdate n) s = .next (t.modSession n fun x =>
      { x with heardSinceFlip := false,
               send := { secret := hkdfExpand x.send.secret (ascii "upd") 48, phase := !x.send.phase, since := t.now } })) ∧
  (∀ (n t : Nat) (x : Session) (k : Bytes) (s : State), s.session n = some x → x.recv.prev = some (k, t) →
    exec (.prevKeyDiscard n) s = .next ((s.upTo t).modSession n fun x => { x with recv := { x.recv with prev := none } })) ∧
  (∀ (n : Nat) (g : W32) (k : W64) (e : IdemEntry) (s : State), s.idemEntry n g k = some e →
    exec (.idemEntryExpire n g k) s = .next ((s.upTo e.expiry).setIdem n g k none))

/-! ## The lock keeper, flights and jobs -/

/-- Admission and flights. An arrived barge of a slice that another pair of the basin serves goes on to it; one whose stored result
a repeat fills again is answered, one with an unassigned opcode ends with BAD_FORMAT and a dark one with its floor; else it is
refused where its class may not have it, a C0 barge while the keeper restarts, one without charge or room in a pound, and admitted
to the pound of a flight otherwise. A flight in service with a free context takes the next barge; a fault takes a flight out of
service, aborts its barges and moves its pound, and the third within a second keeps it out; a flight that is not out returns; a
barge that waited for a lease in vain ends with MIRROR_UNAVAILABLE. -/
def Obligations.LockKeeperCommandsAct : Prop :=
  (∀ (n : Nat) (r : BargeRec) (s : State), s.flt.barges.find n = some r → r.stage = .arrived →
    s.holdsAdmission r.barge.opcode = false →
    let own := s.forwardHome r.barge.slice = none ∨ s.tow.foreign.find r.barge.session ≠ none
    (∀ home, s.forwardHome r.barge.slice = some home → s.tow.foreign.find r.barge.session = none →
      exec (.bargeAdmit n) s = .next ((s.dropBarge n).forward r.barge home (bargeRecord r.barge))) ∧
    (∀ reply, own → s.storedResult r.barge = some reply → exec (.bargeAdmit n) s = .next (s.answerRefill n r reply)) ∧
    (own → s.storedResult r.barge = none → assigned r.barge.opcode = false →
      exec (.bargeAdmit n) s = .next (s.endBarge n ⟨stBadFormat, []⟩)) ∧
    (∀ reply, own → s.storedResult r.barge = none → assigned r.barge.opcode = true → darkFail r.barge.opcode s = some reply →
      exec (.bargeAdmit n) s = .next (s.endBarge n reply)) ∧
    (own → s.storedResult r.barge = none → assigned r.barge.opcode = true → darkFail r.barge.opcode s = none →
      let b := r.barge
      let group := s.groupFor s.cht.bank b.opcode
      let charge := s.chargeOf s.cht.bank b
      (s.ineligible b group = true → exec (.bargeAdmit n) s =
        .next ((s.modClass b.cls fun c => { c with inelig := c.inelig + 1 }).endBarge n ⟨stIneligible, []⟩)) ∧
      (s.ineligible b group = false →
        (b.cls = 0 → s.cor.restarting = true → exec (.bargeAdmit n) s = .next (s.endBarge n ⟨stRestarting, []⟩)) ∧
        (b.cls ≠ 0 ∨ s.cor.restarting = false →
          (s.grant b group charge = none →
            exec (.bargeAdmit n) s = .next ((s.countFull b.cls b.slice).endBarge n ⟨stClassFull, []⟩)) ∧
          (∀ cls drawn, s.grant b group charge = some (cls, drawn) →
            (s.place b cls group = none →
              exec (.bargeAdmit n) s = .next ((s.countFull b.cls b.slice).endBarge n ⟨stClassFull, []⟩)) ∧
            (∀ f, s.place b cls group = some f →
              exec (.bargeAdmit n) s = .next (s.admitBarge n r group charge cls f drawn))))))) ∧
  (∀ (f n k : Nat) (r : BargeRec) (s : State), f < 32 → s.flightUp f = true → s.contexts f < 16 →
    s.nextBarge f = some ((n, r), k) → exec (.bargeTakeContext f) s = .next (s.enterContext n r k)) ∧
  (∀ (f : Nat) (cause : FlightCause) (s : State), f < 32 →
    let times := within s.now 1000000000 (s.flight f).faults ++ [s.now]
    let out : Bool := (s.flight f).out || decide (3 ≤ times.length)
    let t := (((s.modFlight f fun x => { x with
      inService := false, fault := x.fault ||| flightBit cause, faults := times, out := out }).countFault.raise
        64 f 0xFFFF stFault.toNat (flightBit cause).toNat).abortBarges
          (fun r => r.stage == .context && r.flight == f) stFault).movePound f
    ((s.flight f).out = true ∨ times.length < 3 → exec (.flightFault f cause) s = .next t.refreshReady) ∧
    ((s.flight f).out = false → 3 ≤ times.length →
      exec (.flightFault f cause) s = .next (t.level 65 true f 0xFFFF 0 0).refreshReady)) ∧
  (∀ (f : Nat) (s : State), f < 32 → (s.flight f).inService = false → (s.flight f).out = false →
    exec (.flightReturn f) s = .next (s.modFlight f fun x => { x with inService := true }).refreshReady) ∧
  (∀ (n t : Nat) (r : BargeRec) (s : State), s.flt.barges.find n = some r → r.leaseWait = some t →
    exec (.leaseWaitTimeout n) s = .next ((s.upTo t).endBarge n ⟨stMirror, []⟩))

/-- The steps of a barge at the locks of its flight, when it is the barge's turn there. PARSE ends a barge that its field table or
its verb's format refuses and else passes; POLICY ends one that a check refuses, lets one wait whose world's work finds no lease
block, sends a firmware-assisted one to the core queue and runs the policy of a lock program; KEYFETCH ends a barge whose key
cannot be had, lets one wait, and passes when the step's key, or by the default program the last, is fetched; CIPHER, HASH and PKE
do the barge's work and start its job on the engine granted; FORMAT does the work that needed no engine; each of them waits where
that work lacks a random value or a block of its lease. EMIT judges the barge and completes it with its response. A
firmware-assisted barge wakes the blocks of its world's work and comes back to its flight with that work done, one that lacks a
random value waits, one whose answer comes later leaves it, and one of an old generation is discharged. -/
def Obligations.StepsAct : Prop :=
  ∀ (n : Nat) (r : BargeRec) (s : State), s.flt.barges.find n = some r →
    (s.turn n r 0 = true →
      let fail := firstFail [s.fieldFail r, (verbOf r.barge.opcode).bind fun v => parseFail v r.barge s]
      (fail = none → exec (.parseStep n) s = .next (s.pass n)) ∧
      (∀ reply, fail = some reply → exec (.parseStep n) s = .next (s.endBarge n reply))) ∧
    (s.turn n r 1 = true → ∀ v, verbOf r.barge.opcode = some v →
      let fail := firstFail [restartFail v s, s.worldFail r v, policyFail v r.barge s, s.handleFail r]
      (∀ reply, fail = some reply → exec (.policyStep n) s = .next (s.endBarge n reply)) ∧
      (fail = none → s.assists r v = true →
        let e := worldEffect v r s
        exec (.policyStep n) s = .next (
          if e.waits then s.awaitLease n e
          else (s.pass n).modBarge n fun r =>
            { r with stage := .coreQueue, leaseWait := none, decTabs := s.tablesRead r.barge })) ∧
      (fail = none → s.assists r v = false → exec (.policyStep n) s = .next (s.policyProgram n r v))) ∧
    (∀ errors, s.turn n r 2 = true →
      let w := if (kekSelectors r.barge).isEmpty = true then s.wakeDomain 3 else (s.wakeDomain 3).wakeDomain 4
      (∀ reply, r.reply = some reply → exec (.keyfetchStep n errors) s = .next (w.endBarge n reply)) ∧
      (r.reply = none → exec (.keyfetchStep n errors) s = .next (
        match w.fetchNext n errors r with
        | .wait t => t
        | .ends t reply => t.endBarge n reply
        | .ok t => if (t.recordFor r).isSome = true ∨ t.fetchLeft n = false then t.pass n else t))) ∧
    (∀ j, s.turn n r 3 = true → s.cipherJob n r = some j →
      exec (.cipherStep n) s = .next ((s.workWaits n r).getD (((s.work n r).takeChamber n r).startJob n j))) ∧
    (∀ e, s.turn n r 4 = true → lowest (s.grantable .hash r) = some e →
      exec (.hashStep n) s = .next ((s.workWaits n r).getD
        ((s.work n r).startJob n { kind := .hash, engine := e, attached := false, position := s.position r }))) ∧
    (∀ e, s.turn n r 5 = true → lowest (s.grantable (pkeKind r) r) = some e →
      exec (.pkeStep n) s = .next ((s.workWaits n r).getD
        ((s.work n r).startJob n { kind := pkeKind r, engine := e, attached := false, position := s.position r }))) ∧
    (s.turn n r 6 = true → exec (.formatStep n) s = .next ((s.workWaits n r).getD ((s.work n r).pass n))) ∧
    (∀ reply, s.turn n r 7 = true → r.reply = some reply →
      let t := ((s.judge n).discharge n).judgeLate r
      exec (.emitStep n) s =
        .next ((t.completeWith r.prior r.request r.pn r.flight { st := t, reply := reply, touch := r.touch }).countSite
          3 r.flight 513 1).switchAdvance) ∧
    (r.stage = .coreQueue →
      ((s.slice r.barge.slice).generation ≠ r.barge.generation → exec (.fwAssistReturn n) s = .next (s.discharge n)) ∧
      ((s.slice r.barge.slice).generation = r.barge.generation → ∀ v, verbOf r.barge.opcode = some v →
        let w := (s.wakeWorld (queueWorld r.barge.opcode)).wakeKeys r.barge.opcode
        let e := w.worldWork r v
        exec (.fwAssistReturn n) s = .next (
          if e.starved w = true then w.awaitDraw n e
          else if e.later = true then (e.st.recordIdem r.barge none false).discharge n
          else ((w.keepEffect n r.barge e).worldJob r.barge e.reply).comeBack n r.flight)))

/-- The ends of jobs. A whole cipher job commits, a segment of a split one ends and the last two are combined, once every masked core
of the job holds its key; a guard, control or mask fault of a core faults it. Twin computations that agree finish their job and a
difference faults the engine. A lattice job that passes its release check finishes and one that does not faults the engine; ML-DSA
signing counts its iterations, and at 256 ends with FAULT_DETECTED while the engine stays in service. A hash job adds its
compressions; results go to their buffers as the job ends. A suspended job that nothing blocks resumes on its core with its key and
its saved state, or waits there for the seed of its key load. A fault that is the third of its block within a second raises the
island's alarm and answers it at once (log entry 25). -/
def Obligations.JobEndsAct : Prop :=
  ∀ (n : Nat) (r : BargeRec) (j : Job) (s : State), s.flt.barges.find n = some r →
    (runningJob r isCipher = some j →
      let u := s.retrySetUp n r j
      let keyless := (j.engine :: j.more).any fun c => j.kind == .masked && (u.engine j.kind c).path.roundKeys.isEmpty
      (keyless = true → exec (.cipherJobDone n .commit) s = .next u) ∧
      (keyless = false → j.segments = 0 → exec (.cipherJobDone n .commit) s = .next (u.commitCipher n r j).spreadSegments) ∧
      (keyless = false → 2 ≤ j.segments → exec (.cipherJobDone n .commit) s = .next (u.endSegment n r j)) ∧
      (j.segments = 1 → exec (.segmentCombine n) s = .next (s.commitCipher n r j).spreadSegments) ∧
      exec (.cipherJobDone n .guard) s = .next (s.faultAnswered j.kind j.engine 1 stGuard) ∧
      exec (.cipherJobDone n .control) s = .next (s.faultAnswered j.kind j.engine 2 stFault) ∧
      exec (.cipherJobDone n .maskgen) s = .next (s.faultAnswered j.kind j.engine 4 stFault)) ∧
    (runningJob r (· == .publicKey) = some j →
      exec (.pkeJobDone n true) s = .next (((s.countJob r j).writeResults r).finishJob n j) ∧
      exec (.pkeJobDone n false) s = .next ((s.countSite 5 0 514 1).faultAnswered .publicKey j.engine 4 stFault)) ∧
    (∀ iterations, runningJob r (· == .lattice) = some j →
      let run := if r.barge.opcode = 0x0632 then min iterations 256 else 0
      let t := s.modEngine .lattice j.engine fun e => { e with aux := e.aux + BitVec.ofNat 32 run }
      (r.barge.opcode ≠ 0x0632 ∨ iterations < 256 →
        exec (.latticeJobDone n iterations true) s = .next (((t.countJob r j).writeResults r).finishJob n j) ∧
        exec (.latticeJobDone n iterations false) s = .next (t.faultAnswered .lattice j.engine 4 stFault)) ∧
      (∀ release, r.barge.opcode = 0x0632 → 256 ≤ iterations →
        exec (.latticeJobDone n iterations release) s =
          .next ((t.endJob n stFault).modEngine .lattice j.engine fun e => { e with faultBits := e.faultBits ||| 8 }))) ∧
    (∀ compressions, runningJob r (· == .hash) = some j →
      exec (.hashJobDone n compressions) s =
        .next (((s.countOps .hash j.engine compressions).writeResults r).finishJob n j)) ∧
    (r.job = some j → j.suspended = true → s.blocked r j.position = false → (s.engine j.kind j.engine).busy = false →
      let u := s.loadKey j.kind j.engine (s.jobKey r j.position) n
      ((u.engine j.kind j.engine).seedless ≠ none → exec (.suspendedJobResume n) s = .next u) ∧
      ((u.engine j.kind j.engine).seedless = none → exec (.suspendedJobResume n) s =
        .next ((u.modEngine j.kind j.engine fun e =>
          { e with busy := true, suspended := false,
                   path := { e.path with shares := savedShares e.path.saveRam, saveRam := [] } }).modBarge n
            fun r => { r with job := some { j with suspended := false } })))

/-! ## Epochs, custody and shreds -/

/-- Epochs. The open epoch closes 20 microseconds after its first mutation; an opened ack releases what it covers and lets a
switchover go on; a closed epoch without an ack is sent again 15 microseconds later, up to 40 times; a segment that opens is held,
what is complete in order is applied, and an ack answers it; a joiner starts at the epoch whose record opens the sync (log entry 31)
and acknowledges none before; a segment that follows a refused write of the mirror is not acknowledged (log entry 40). -/
def Obligations.EpochCommandsAct : Prop :=
  (∀ (e : Epoch) (s : State), s.tow.epochs.find s.tow.epoch = some e →
    exec .epochClose s = .next (s.upTo (e.opened + 20000)).closeEpoch) ∧
  (∀ (frame : Bytes) (s : State),
    let o := s.openTowpath 3 frame
    exec (.epochAck frame) s = .next (if o.2.isSome then (o.1.acknowledge (fld frame 24 8)).switchAdvance else o.1)) ∧
  (∀ (n : Nat) (e : Epoch) (s : State), s.tow.epochs.find n = some e → e.closed = true → e.resends < 40 → s.linkLive = true →
    let t := s.upTo (e.sent + 15000)
    exec (.segmentResend n) s =
      .next (({ t with tow := { t.tow with
        epochs := t.tow.epochs.put n { e with sent := t.now, resends := e.resends + 1 },
        chan0 := { t.tow.chan0 with resent := t.tow.chan0.resent + BitVec.ofNat 32 e.segments.length } } } : State).sendEpoch n)) ∧
  (∀ (n : Nat) (e : Epoch) (s : State), s.tow.epochs.find n = some e → e.closed = false ∨ 40 ≤ e.resends ∨ s.linkLive = false →
    exec (.segmentResend n) s = .next s) ∧
  (∀ (frame : Bytes) (s : State),
    let o := s.openTowpath 2 frame
    exec (.epochSegment frame) s = .next (
      match o.2 with
      | none => o.1
      | some b => o.1.takeSegment frame b)) ∧
  (∀ (frame body : Bytes) (s : State),
    let e := fld frame 24 8
    let hold := fun (t : State) => ({ t with tow := { t.tow with received := t.tow.received.upd {} e fun x => { x with
      segments := x.segments.put (fld frame 12 4) (recordsOf body (fld frame 10 2)),
      total := if fld frame 5 1 = 1 then some (fld frame 12 4 + 1) else x.total } } } : State)
    let taken := fun (t : State) =>
      let u := (hold t).applyEpochs (hold t).tow.received.length
      u.sendTowpath 3 0 [] 0 u.tow.acked
    let joins := s.tow.pair = .standby ∨ s.tow.pair = .syncing
    (s.tow.pair ≠ .standby → s.tow.pair ≠ .syncing → s.takeSegment frame body = s) ∧
    (joins → s.tow.mirrorRefused = true →
      s.takeSegment frame body = { s with tow := { s.tow with mirrorRefused := false } }) ∧
    (joins → s.tow.mirrorRefused = false →
      (e ≤ s.tow.acked → s.takeSegment frame body = s.sendTowpath 3 0 [] 0 s.tow.acked) ∧
      (s.tow.acked < e → s.tow.pair = .standby ∨ s.tow.acked ≠ 0 → s.takeSegment frame body = taken s) ∧
      (0 < e → s.tow.pair = .syncing → s.tow.acked = 0 →
        ((hold s).syncStart = none → s.takeSegment frame body = (hold s).sendTowpath 3 0 [] 0 0) ∧
        (∀ first, (hold s).syncStart = some first →
          let u := ({ hold s with tow := { (hold s).tow with acked := first - 1 } } : State).applyEpochs (hold s).tow.received.length
          s.takeSegment frame body = u.sendTowpath 3 0 [] 0 u.tow.acked))))

/-- Timers of custody: an approval, a ballot, a hold-off and a transfer end at their times, each with its record mirrored, and a
ballot's terminal record is discarded at its own; a restore so abandoned leaves its slice absent, but a retired one; a drain is done
when no barge of the old generation is left, and one that runs out ends those that are. -/
def Obligations.CustodyTimersAct : Prop :=
  (∀ (b c t : Nat) (x : Ballot) (s : State), s.cus.ballots.find b = some x → x.approvals.find c = some t → x.state.terminal = false →
    exec (.approvalExpire b c) s =
      .next (((s.upTo t).setBallot b (({ x with approvals := x.approvals.del c }).settled
        (s.upTo t).cus.custodians (s.upTo t).now)).mirror s
        [.ballot b false])) ∧
  (∀ (b : Nat) (x : Ballot) (s : State), s.cus.ballots.find b = some x →
    (x.state.terminal = false →
      exec (.ballotExpire b) s = .next (((s.upTo x.expires).endBallot b x .expired).mirror s [.ballot b false])) ∧
    (x.state.terminal = true →
      let t := s.upTo x.dropAt
      exec (.ballotRecordDiscard b) s = .next { t with cus := { t.cus with ballots := t.cus.ballots.del b } })) ∧
  (∀ (c t : Nat) (x : Custodian) (s : State), s.custodian c = some x → x.holdOff = some t →
    exec (.holdOffEnd c) s =
      .next (((s.upTo t).setCustodian c (some { x with holdOff := none, fails := 0 })).mirror s [.custodian c false])) ∧
  (∀ (n : Nat) (d : DrainSeq) (s : State), (s.slice n).drain = some d →
    (s.draining n d = false → exec (.sliceDrainDone n) s = .next (s.finishDrain n d)) ∧
    exec (.drainTimeout (.slice n)) s = .next ((s.upTo d.deadline).abortBarges
      (fun r => r.barge.slice == n && r.barge.generation == d.oldGeneration) stAbortHost)) ∧
  (∀ (n : Nat) (tr : Transfer) (s : State), (s.slice n).transfer = some tr →
    let t := s.upTo tr.deadline
    (tr.save = true → exec (.sliceTransferAbandon n) s = .next (t.setSlice n { t.slice n with transfer := none })) ∧
    (tr.save = false → exec (.sliceTransferAbandon n) s =
      .next ((if (t.slice n).state = .retired then t
        else t.setSlice n { t.slice n with state := .absent, transfer := none }).mirror s [.slice n true])))

/-- Shreds and the timers of the key store. On a module that serves, a shred whose barges are gone goes on with its phases; the
certificate at the head of the signer's queue is completed; a collection window ends with its shares or with its import key, a
pending slot is erased; a cache load ends with its entry for every barge that waits, or with its status; a scrub pass tests every
slot and counts; a quarantined slot comes back from its image, else from the partner, which is asked for its copy, and is lost
where there is none (a slot with epoch 0 takes a copy of any epoch: log entry 22); a standby takes the copy of any other slot it asked
for, one that it lacks as well; the partner's request is answered with its copy. -/
def Obligations.KeyStoreTimersAct : Prop :=
  (∀ (n : Nat) (q : ShredSeq) (s : State), s.vlt.shreds.find n = some q →
    (s.tow.pair.serves = true → q.phase < 3 → s.flt.barges.vals.any (shredInUse q) = false →
      exec (.shredDrainDone n) s = .next ((s.shredErase n q).shredAdvance n)) ∧
    (s.tow.pair.serves = true → 3 ≤ q.phase → exec (.shredDrainDone n) s = .next (s.shredAdvance n)) ∧
    (q.phase < 3 → exec (.drainTimeout (.shred n)) s = .next ((s.upTo q.deadline).abortBarges (shredInUse q) stAbortHost))) ∧
  (∀ (n : Nat) (rest : List LmsRequest) (s : State), s.eng.lmsQueue = .cert n :: rest →
    exec (.shredCertSigned n) s = .next (s.signHead true)) ∧
  (∀ (im : ShareImport) (s : State), s.vlt.shareImport = some im →
    (im.shares ≠ [] → im.windowEnd < im.keyEnd →
      let t := s.upTo im.windowEnd
      exec .shareWindowExpire s =
        .next { t with vlt := { t.vlt with shareImport := some { im with shares := [], windowEnd := 0 } } }) ∧
    (im.shares = [] ∨ im.keyEnd ≤ im.windowEnd →
      let t := s.upTo im.keyEnd
      exec .shareWindowExpire s = .next { t with vlt := { t.vlt with shareImport := none } })) ∧
  (∀ (i : Nat) (k : PendingKey) (s : State), s.vlt.pendingKeys.find i = some k → (s.slot i).state = .pending →
    exec (.pendingSlotExpire i) s = .next (((s.upTo k.deadline).eraseSlot i).mirror (s.upTo k.deadline) [.slotErased i])) ∧
  (∀ (errs : List (Nat × Nat)) (s : State),
    let t := s.upTo (s.clk.startAt + (s.vlt.scrubs.toNat + 1) * 10000000000)
    let u := t.vlt.slots.keys.foldl (fun s i => s.scrubSlot i (((errs.find? fun e => e.1 == i).map (·.2)).getD 0)) t
    exec (.vaultScrubPass errs) s = .next { u with vlt := { u.vlt with scrubs := u.vlt.scrubs + 1 } }) ∧
  (∀ (i : Nat) (s : State), (s.slot i).state = .quarantined →
    let t := s.sendTowpath 5 0 [be 2 i ++ zeros 2] 0 0
    let elsewhere : State := if s.linkLive then { t with tow := { t.tow with slotFetches := s.tow.slotFetches ++ [i] } }
      else s.lostSlot i
    exec (.vaultSlotRestore i) s = .next (
      match s.imageSlot i with
      | some y => if y.epoch = (s.slot i).epoch ∧ y.state = .active then s.restoreSlot i y else elsewhere
      | none => elsewhere)) ∧
  (∀ (n slice : Nat) (bl : Bytes) (read : Option W64) (s : State),
    s.vlt.loads.find? (fun l => l.2.1 == n) = some (slice, n, bl, read) →
    let waiting := s.vlt.loads.filter fun l => l.1 == slice && l.2.2.1 == bl
    let t : State := { s with vlt := { s.vlt with loads := s.vlt.loads.filter fun l => !(l.1 == slice && l.2.2.1 == bl) } }
    let at_ := waiting.map (·.2.1)
    (∀ v r, t.loadOnce slice bl read = (v, .error r) →
      let u := v.loaderJob at_ false
      exec (.cacheLoadDone n) s = .next { u with flt := { u.flt with
        barges := waiting.foldl (fun m l => m.mod l.2.1 fun x => { x with reply := some r }) u.flt.barges } }) ∧
    (∀ v e, t.loadOnce slice bl read = (v, .ok e) →
      let u := v.loaderJob at_ (fld bl 4 1 = 2)
      exec (.cacheLoadDone n) s = .next { u with
        flt := { u.flt with
          barges := waiting.foldl (fun m l => m.mod l.2.1 fun x => { x with pinned := x.pinned ++ [e.ref] }) u.flt.barges },
        vlt := { u.vlt with
          cache := u.vlt.cache.map fun x => if x.ref == e.ref then { x with pins := x.pins + waiting.length } else x } })) ∧
  (∀ (frame : Bytes) (s : State),
    let o := s.openTowpath 5 frame
    exec (.slotFetch frame) s = .next (
      match o.2 with
      | some b => o.1.sendTowpath 6 0 [recordBytes (o.1.touchRecord (.slot (fld b 0 2)))] 0 0
      | none => o.1)) ∧
  (∀ (frame : Bytes) (s : State),
    let o := s.openTowpath 6 frame
    exec (.slotReply frame) s = .next (
      match o.2.map fun b => recordsOf b 1 with
      | some [r] => o.1.takeSlotCopy (fld r.body 0 2) (slotOfBytes (sl r.body 4 112) [])
      | _ => o.1)) ∧
  (∀ (i : Nat) (x : Slot) (s : State), i ∈ s.tow.slotFetches →
    let t : State := { s with tow := { s.tow with slotFetches := s.tow.slotFetches.erase i } }
    let y := s.slot i
    (y.state = .quarantined → x.state = .active → x.epoch = y.epoch ∨ y.epoch = 0 → s.takeSlotCopy i x = t.restoreSlot i x) ∧
    (y.state = .quarantined → x.state ≠ .active ∨ x.epoch ≠ y.epoch ∧ y.epoch ≠ 0 → s.takeSlotCopy i x = t.lostSlot i) ∧
    (y.state ≠ .quarantined → s.tow.pair = .standby → s.takeSlotCopy i x = t.copySlot i x) ∧
    (s.tow.pair ≠ .standby → y.state = .free ∨ y.state = .retired → s.takeSlotCopy i x = t) ∧
    (s.tow.pair ≠ .standby → y.state ≠ .quarantined → y.state ≠ .free → y.state ≠ .retired →
      s.takeSlotCopy i x = t.writeSlot i x))

/-! ## The chart, the engines and entropy -/

/-- Timers of a chart change: staging ends, the old programs go once their barges are gone or aborted, and the change is steady
when the last island's clock has settled. -/
def Obligations.ChartTimersAct : Prop :=
  (∀ s : State, s.cht.staging.valid = true →
    let t := s.upTo s.cht.staging.deadline
    exec .stagingExpire s = .next { t with cht := { t.cht with staging := {} } }) ∧
  (∀ s : State, s.cht.mode = .draining →
    (s.flt.barges.vals.any s.onOldBank = false →
      exec .programBankDrained s = .next { s with cht := { s.cht with
        mode := if s.cht.clocking.isEmpty then .steady else .clocking, oldPrograms := [] } }) ∧
    exec .chartDrainTimeout s =
      .next ((s.upTo s.cht.drainDeadline).abortBarges (s.upTo s.cht.drainDeadline).onOldBank stAbortHost)) ∧
  (∀ (island : Nat) (s : State), s.cht.mode = .clocking → island ∈ s.cht.clocking →
    let t := s.rebase
    let rest := t.cht.clocking.filter (· != island)
    exec (.islandClockSettled island) s = .next { t with cht := { t.cht with
      clocks := t.cht.clocks.put island (chartClock t.cht.sections island), clocking := rest,
      mode := if rest.isEmpty then .steady else .clocking } })

/-- Events of the engines. A fault, by a job, by a core that waited for its seed or by a failed repeat of the known answers, ends the
engine's jobs, takes it out of service with its cause and counts it, locks it out at its third and raises the island's alarm at the
third of its block within a second; the sentinel answers that alarm in the same step, with a free reading (log entry 25). A
self-test brings an engine back unless it is locked out. A repeat of the known answers of an engine that may be taken runs at its
time and sets the next; a parked job ends; a tree that is due is built and those no longer used leave; a bucket token is added to
400, one each 5 ms; an island comes out of its reset, CI_BANK with a new context key and CI_HASH with its LMS seed. The signer
completes the oldest request where it may, a certificate in its store and a quote in its answer, a signature that does not verify
faults one of the units that made it, which one is free (log entry 43), and with no position left it drops a certificate and refuses
a quote. -/
def Obligations.EngineCommandsAct : Prop :=
  (∀ (k : EngineKind) (n : Nat) (bit : W32) (status : W16) (s : State),
    let t := ((s.endJobs k n status).modEngine k n fun e => { e with
      inService := false, busy := false, suspended := false, seedless := none, path := {},
      standsFor := if e.moves then none else e.standsFor, moves := false, faultBits := e.faultBits ||| bit,
      faultCount := sat 15 (e.faultCount + 1) }).countFault.raise (engineEvents k).1 n 0xFFFF status.toNat bit.toNat
    let u := if 3 ≤ (t.engine k n).faultCount ∧ (t.engine k n).lockedOut = false then
        ((t.modEngine k n fun e => { e with lockedOut := true }).level (engineEvents k).2.1 true n 0xFFFF 0 0).mapSpare k n
      else t
    let times := within u.now 1000000000 (u.block k).window ++ [u.now]
    let v := u.setBlock k { u.block k with window := times }
    s.faultEngine k n bit status = (if times.length = 3 then v.alarmLine (engineAlarm k) else v).refreshReady) ∧
  (∀ (kind : EngineKind) (engine : Nat) (cause : EngineCause) (s : State),
    exec (.engineFault kind engine cause) s = .next (s.faultEngine kind engine (causeBit cause) (causeStatus cause)).answerAlarms) ∧
  (∀ (core : Nat) (cause : EngineCause) (s : State),
    exec (.bnkCoreFault core cause) s =
      .next (s.faultEngine (coreKind core) core (causeBit cause) (causeStatus cause)).answerAlarms) ∧
  (∀ s : State, s.answerAlarms = [0x23, 0x24, 0x25, 0x26].foldl (fun s code =>
    if (s.sensor code).condition = true then
      (s.freeNat.2.modSensor code fun x => { x with condition := false }).alarm code 0 (BitVec.ofNat 32 s.freeNat.1) 0
    else s) s) ∧
  (∀ (kind : EngineKind) (engine : Nat) (pass : Bool) (s : State),
    exec (.engineReturn kind engine pass) s = .next (
      if pass = true ∧ (s.engine kind engine).lockedOut = false then
        (s.modEngine kind engine fun e => { e with inService := true }).refreshReady
      else s)) ∧
  (∀ (core : Nat) (pass : Bool) (s : State),
    exec (.bnkCoreReturn core pass) s = .next (
      if pass = true ∧ (s.engine (coreKind core) core).lockedOut = false then
        (s.modEngine (coreKind core) core fun e => { e with inService := true }).refreshReady
      else s)) ∧
  (∀ (core t : Nat) (s : State), (s.engine (coreKind core) core).seedless = some t → s.jobsOn (coreKind core) core ≠ [] →
    exec (.seedTimeout core) s = .next ((s.upTo t).faultEngine (coreKind core) core 4 stFault).answerAlarms) ∧
  (∀ (kind : EngineKind) (engine : Nat) (s : State), s.katMayRun kind engine = true →
    let t := s.upTo (max (s.engine kind engine).katAt (s.clk.startAt + 3600000000000))
    let u := t.modEngine kind engine fun e => { e with katAt := t.now + 3600000000000 }
    exec (.periodicKat kind engine true) s = .next u ∧
    exec (.periodicKat kind engine false) s = .next (u.faultEngine kind engine 0 stFault).answerAlarms) ∧
  (∀ (job : Nat) (p : Parked) (s : State), s.eng.parked.find job = some p →
    let t := s.upTo p.expiry
    exec (.parkedJobExpire job) s = .next { t with eng := { t.eng with parked := t.eng.parked.del job } }) ∧
  (∀ (level tree : Nat) (s : State), (level, tree) ∉ s.eng.lmsTrees →
    (level, tree) ∈ treesAt s.eng.lmsPos ++ treesDue s.eng.lmsPos →
    let kept := s.eng.lmsTrees.filter (treesAt s.eng.lmsPos ++ treesDue s.eng.lmsPos).contains
    exec (.lmsTreeBuilt level tree) s = .next { s with eng := { s.eng with lmsTrees := kept ++ [(level, tree)] } }) ∧
  (∀ s : State,
    let t := s.upTo s.eng.lmsTokenAt
    exec .lmsBucketToken s = .next { t with eng := { t.eng with
      lmsTokens := min 400 (t.eng.lmsTokens + 1), lmsTokenAt := t.now + 5000000 } }) ∧
  (∀ (island : Nat) (k : EngineKind) (rest : List EngineKind) (s : State), islandKinds island = k :: rest →
    (s.block k).resetting = true →
    let t := s.setBlock k { s.block k with
      resetting := false, window := [],
      engines := (s.block k).engines.map fun e => (e.1, { e.2 with inService := !e.2.lockedOut }) }
    (island = 0x03 → exec (.islandRelease island) s =
      .next (({ (t.drawFrom 111 32).2 with eng := { (t.drawFrom 111 32).2.eng with
        contextKey := (t.drawFrom 111 32).1 } } : State).refreshReady)) ∧
    (island = 0x04 → exec (.islandRelease island) s =
      .next ({ t with eng := { t.eng with lmsSeed := true } } : State).refreshReady) ∧
    (island ≠ 0x03 → island ≠ 0x04 → exec (.islandRelease island) s = .next t.refreshReady)) ∧
  (∀ (verified : Bool) (r : LmsRequest) (rest : List LmsRequest) (s : State), s.eng.lmsQueue = r :: rest →
    let dropped : State := { s with eng := { s.eng with lmsQueue := rest } }
    let ready := s.eng.lmsTokens ≠ 0 ∧ s.eng.lmsSeed = true ∧ (s.ctr.dbgStart = false ∨ s.ctr.state ≠ .custody) ∧
      (treesAt s.eng.lmsPos).all s.eng.lmsTrees.contains = true
    let q := (s.signUnits.2.2.countSignature s.signUnits.1 s.signUnits.2.1).takePosition
    let p : State × Nat := (q.1.freeNat.2, q.2)
    let unit := (s.signUnits.2.1 :: s.signUnits.1).getD (q.1.freeNat.1 % (s.signUnits.1.length + 1)) s.signUnits.2.1
    let bad := p.1.faultEngine .hash unit 4 stFault
    let popped := fun (t : State) => ({ t with eng := { t.eng with lmsQueue := rest } } : State)
    exec (.deviceSignatureDone verified) s = .next (s.signHead verified).answerAlarms ∧
    (s.lmsSpent = true → ∀ n, r = .cert n → s.signHead verified = dropped) ∧
    (s.lmsSpent = true → ∀ w body, r = .quote w body → s.signHead verified = dropped.answer w ⟨stLmsExhausted, []⟩ []) ∧
    (s.lmsSpent = false → ¬ready → s.signHead verified = s) ∧
    (s.lmsSpent = false → ready →
      (∀ n, r = .cert n →
        s.signHead true = (popped p.1).storeCert n p.2 ∧
        exec (.shredCertSigned n) s = .next ((popped p.1).storeCert n p.2) ∧
        s.signHead false = bad) ∧
      (∀ w body, r = .quote w body →
        s.signHead true = (popped p.1).answer w ⟨stDone, body ++ (popped p.1).hss p.2 (body.take 312)⟩ [] ∧
        s.signHead false = (popped bad).answer w ⟨stFault, []⟩ [])))

/-- Events of the sources, generators and health report. A source that fails a test counts it and restarts, or is latched off at the
third failure within an hour, its block discarded; it returns to STARTUP, and runs when its samples pass, the stalled instances
reseeding first and then those whose reseed is due. An instance reaches its reseed point by its requests or by time and reseeds from
the sources that run, or notes with none that its reseed is due; a barge that waited for nothing but a draw ends with
FAULT_DETECTED; a core that fails leaves service, and whether its pair does too is free (log entry 3); READY waits one millisecond
more after an outage; the report is formed on its grid, which P4 suspends, and when a field changes. -/
def Obligations.EntropyCommandsAct : Prop :=
  (∀ (n : Nat) (adaptive : Bool) (s : State), n < 2 → (s.source n).state = .startup ∨ (s.source n).state = .running →
    let x := s.source n
    let fails := within s.now 3600000000000 x.fails ++ [s.now]
    let t := s.setSource n { x with
      state := if 3 ≤ fails.length then .latched else .restarting, fails := fails, raw := [],
      rctFail := if adaptive then x.rctFail else x.rctFail + 1, aptFail := if adaptive then x.aptFail + 1 else x.aptFail,
      restartAt := s.now + 100000000 }
    let u := if x.state = .running then t.raise 224 n 0xFFFF 0 fails.length else t
    (fails.length < 3 → exec (.entSourceFail n adaptive) s = .next u.sourcesChanged) ∧
    (3 ≤ fails.length → exec (.entSourceFail n adaptive) s = .next (u.level 225 true n 0xFFFF 0 0).sourcesChanged)) ∧
  (∀ (n : Nat) (s : State), n < 2 → (s.source n).state = .restarting →
    exec (.sourceRestartTimeout n) s =
      .next ((s.upTo (s.source n).restartAt).setSource n { s.source n with state := .startup })) ∧
  (∀ (n : Nat) (s : State), n < 2 → (s.source n).state = .startup →
    let t := s.setSource n { s.source n with state := .running }
    let v := t.stalled.foldl State.reseed t
    let u := v.reseedsDue.foldl State.reseed v
    (s.pwr.started = false ∨ s.sourceRunning = true → exec (.sourceStartupPass n) s = .next u.sourcesChanged) ∧
    (s.pwr.started = true → s.sourceRunning = false → exec (.sourceStartupPass n) s =
      .next ({ u with ent := { u.ent with readyAt := some (u.now + 1000000) } } : State).sourcesChanged)) ∧
  (∀ (n : Nat) (s : State), n < 113 →
    let d := s.ent.drbg.at {} n
    let p : Nat × Nat := if n < 32 then (4096, 100000000) else (65536, 1000000000)
    let t := s.upTo (if p.1 ≤ d.requests then s.now else d.reseeded + p.2)
    (t.sourceRunning = true → exec (.drbgReseed n) s = .next (t.reseed n)) ∧
    (t.sourceRunning = false → exec (.drbgReseed n) s = .next { t with ent := { t.ent with
      drbg := t.ent.drbg.put n { t.ent.drbg.at {} n with due := true } } })) ∧
  (∀ (barge : Nat) (r : BargeRec) (s : State), s.flt.barges.find barge = some r → s.waitsForDraw barge r = true →
    exec (.drbgDrawTimeout barge) s = .next ((s.upTo (r.drawWait.getD s.now)).endBarge barge ⟨stFault, []⟩)) ∧
  (∀ (core : Nat) (s : State), core < 8 →
    ∃ kept, kept ⊆ List.range 8 ∧ core ∉ kept ∧
      (∀ i < 8, i / 2 ≠ core / 2 → (i ∈ kept ↔ s.ent.genOk.testBit i = true)) ∧
      let t : State := { s with draws := s.draws + 1, ent := { s.ent with
        genOk := (kept.map fun i => 2 ^ i).foldl (· + ·) 0 } }
      exec (.genPairFail core) s =
        .next (if t.pairsServing < 2 then t.level 227 true noInst 0xFFFF 0 0 else t).refreshReady) ∧
  (∀ (at_ : Nat) (s : State), s.ent.readyAt = some at_ →
    let t := s.upTo at_
    exec .readyRecoveryDelay s = .next ({ t with ent := { t.ent with readyAt := none } } : State).refreshReady) ∧
  (∀ s : State,
    let t := s.upTo (max s.hlt.gridAt (s.clk.startAt + 1000000))
    let next := t.clk.startAt + ((t.now - t.clk.startAt) / 1000000 + 1) * 1000000
    (s.pwr.state ≠ 4 →
      exec .healthReportTick s = .next ({ t with hlt := { t.hlt with gridAt := next } } : State).formReport) ∧
    (s.pwr.state = 4 → exec .healthReportTick s = .next s)) ∧
  (∀ s : State,
    (reportFields (s.healthBytes 0) ≠ reportFields s.hlt.report →
      exec .healthReportChange s = .next (s.upTo (s.hlt.formed + 100000)).formReport) ∧
    (reportFields (s.healthBytes 0) = reportFields s.hlt.report → exec .healthReportChange s = .next s))

/-! ## The pair and the witness -/

/-- The towpath. A genuine hello of the partner, or of one a join was approved for, at the module's floor or above brings the link up
with its keys and answers with a hello where this module has sent none since or learns a newer term; one that is not genuine, of
another module or of a lower term is dropped, and one below the floor or of an expelled module is refused with event 354. A BEAT
refreshes what the partner announces, and one goes out when nothing else was sent; silence takes the partner as lost. The
audit sends the digest of the next range and compares the partner's; a part of the standby is tested; a switchover frame is noted;
SYNC_DONE pairs the two. -/
def Obligations.TowpathCommandsAct : Prop :=
  (∀ (frame : Bytes) (s : State),
    let body := frame.drop 40
    let peer : W64 := BitVec.ofNat 64 (fld body 0 8)
    let pair : W64 := BitVec.ofNat 64 (fld body 8 8)
    let svn := fld body 16 2
    let state := fld body 22 1
    let term := fld body 24 8
    let genuine : Bool := decide (fld frame 0 4 = 0x44585450 ∧ fld frame 4 1 = 1 ∧ body.length = 160 ∧
      Config.attested peer.toNat (sl body 0 64) (sl body 64 96) = true)
    let partner : Bool := decide (peer = s.tow.partner ∧ peer ≠ 0 ∧ (pair = s.tow.pairId ∨ pair = peer) ∧
      (s.tow.partnerDigest = [] ∨ s.tow.partnerDigest = fit 48 (Config.identityDigest peer.toNat)))
    let joins := s.acceptsPairing peer state
    let t : State := if joins = true then
        (({ s with tow := { s.tow with partner := peer, pairId := pair, term := max s.tow.term term } } : State).formHck).enterSyncing
      else s.afterHello state term
    let fresh : Bool := t.tow.link.all fun l => l.peer != peer || l.live || l.nonce.isEmpty
    let done := fun (u : State) =>
      let own := match u.tow.link with
        | some l => l.nonce
        | none => []
      let ks := linkKeys (u.domAt u.tow.floor) (ascii "DX8300 towpath") (be 8 u.tow.pairId.toNat) u.ctr.moduleId peer own
        (sl body 32 32)
      (u.modTow fun l => { l with
        pairId := pair, svn := svn, announced := u.now, state := state, txKey := ks.1, rxKey := ks.2, live := true,
        rxPn := fld frame 32 8, heard := u.now, term := max l.term term }).helloDone state
    exec (.towpathHello frame) s = .next (
      if genuine = false ∨ partner = false ∧ joins = false ∨ fld frame 16 8 < s.tow.term then s.dropTowpath
      else if svn < s.tow.floor ∨ s.tow.expelled.contains peer = true then s.raise 354 noInst 0xFFFF stFloor.toNat svn
      else if fresh = true then done (t.newLink peer).sendHello
      else if s.tow.term < t.tow.term then done t.sendHello
      else done t)) ∧
  (∀ (frame : Bytes) (s : State),
    let o := s.openTowpath 4 frame
    exec (.towpathBeat frame) s = .next (
      match o.2 with
      | none => o.1
      | some b => o.1.modTow fun l =>
        { l with svn := fld b 0 2, announced := o.1.now, state := fld b 4 1, ready := fld b 14 2 % 2 == 1 })) ∧
  (∀ (l : PeerLink) (s : State), s.tow.link = some l → l.live = true →
    let t := s.upTo (l.sent + 100000)
    exec .beatSendTimer s = .next (t.sendTowpath 4 0 [t.beatBody] 0 t.tow.acked) ∧
    exec (.partnerSilent false) s = .next ((s.upTo (l.heard + 1000000)).raise 357 noInst 0xFFFF 0 0).partnerLost ∧
    exec (.partnerSilent true) s =
      .next ((s.modLink 2 fun k => { k with up := false }).raise 357 noInst 0xFFFF 0 0).partnerLost) ∧
  (∀ s : State, s.tow.pair = .primary → s.linkLive = true →
    let r := s.tow.auditRange
    let u := s.upTo s.tow.auditAt
    let t := u.sendTowpath 7 0 [be 1 r ++ zeros 3 ++ fit 48 (u.rangeDigest r)] 0 0
    exec .auditTimer s =
      .next { t with tow := { t.tow with auditRange := (r + 1) % 256, auditAt := t.now + 40000000 } }) ∧
  (∀ (frame : Bytes) (s : State),
    let o := s.openTowpath 7 frame
    exec (.auditFrame frame) s = .next (
      match o.2 with
      | none => o.1
      | some b => o.1.auditRange (fld b 0 1) (sl b 4 48))) ∧
  (∀ (pass : Bool) (s : State), s.tow.pair = .standby →
    let t := s.upTo s.tow.katAt
    exec (.standbyKatTimer pass) s = .next { t with tow := { t.tow with
      katFailed := t.tow.katFailed || !pass, katPart := (t.tow.katPart + 1) % max 1 t.pools.length,
      katAt := t.now + 60000000000 } }) ∧
  (∀ (frame : Bytes) (s : State),
    let o := s.openTowpath 8 frame
    exec (.switchoverFrame frame) s = .next (
      if o.2 ≠ none ∧ o.1.tow.pair = .standby then { o.1 with tow := { o.1.tow with switchover := true } } else o.1)) ∧
  (∀ s : State,
    (s.tow.pair = .syncing → exec .syncDone s =
      .next (({ s with tow := { s.tow with pair := .standby, syncDone := 0 } } : State).raise 353 noInst 0xFFFF 0 0)) ∧
    (s.tow.pair = .solo → s.tow.syncing = true → exec .syncDone s =
      .next ((({ s with tow := { s.tow with pair := .primary, syncing := false } } : State).modTow fun l =>
        { l with state := 2 }).raise 353 noInst 0xFFFF 0 0)))

/-- The lease of a pair. A BEAT goes to the witness every millisecond; an answer of the holder's term, which the new holder hears
through its fence, renews the lease from the BEAT it answers, one of those of the last three milliseconds not answered yet, which
one is free (log entry 32), one of a newer term fences the holder, and one that is not the witness's or answers no BEAT does
nothing; three milliseconds after the last answered BEAT a holder seeks, and in its fence it holds no lease; a grant of a newer term
starts the standby's fence and a denial fences it; the health line of a kind 3 witness does as much. At its fence's end the new
primary serves, and seeks its lease where that is gone; a primary with no entropy source hands over to a
ready standby, as PAIR_SWITCHOVER does where its checks pass; a drain of a switchover that runs out ends what still runs. -/
def Obligations.LeaseOfPairActs : Prop :=
  (∀ s : State, s.tow.pair = .primary ∨ s.tow.pair = .solo ∨ s.tow.pair = .seeking ∨ s.tow.pair = .standby →
    s.tow.witness.kind = 1 ∨ s.tow.witness.kind = 2 →
    let u := s.upTo (s.tow.beats.2.1 + 1000000)
    let t := u.toWitness 1 u.hlt.report
    exec .witnessBeatTimer s = .next { t with tow := { t.tow with
      beats := (t.tow.beats.1, t.now, t.tow.witnessSeq),
      beatsOut := (t.tow.beatsOut.filter fun b => t.now < b + 3000000) ++ [t.now] } }) ∧
  (∀ (m : WitnessMsg) (s : State),
    exec (.witnessAnswer m) s = .next (
      if s.fromWitness 2 m = false then s
      else if s.tow.term < fld m.bytes 24 8 then s.learnTerm (fld m.bytes 24 8)
      else if fld m.bytes 24 8 < s.tow.term ∨ fld m.bytes 44 4 = 0 then s
      else
        match s.renewed with
        | none => s
        | some held =>
          if s.tow.pair = .primary ∨ s.tow.pair = .solo ∨ s.tow.pair = .standby ∧ s.tow.fence ≠ none then held
          else if s.tow.pair = .seeking then held.resumeServing
          else s)) ∧
  (∀ s : State,
    (s.tow.beatsOut = [] → s.renewed = none) ∧
    (s.tow.beatsOut ≠ [] → ∃ k < s.tow.beatsOut.length, s.renewed = some { s with
      draws := s.draws + 1,
      tow := { s.tow with lease := true, beats := (s.tow.beatsOut.getD k 0, s.tow.beats.2),
                          beatsOut := s.tow.beatsOut.drop (k + 1) } })) ∧
  (∀ s : State, s.tow.lease = true → s.tow.witness.kind ≠ 3 →
    let t := s.upTo (s.tow.beats.1 + 3000000)
    (s.tow.pair = .primary ∨ s.tow.pair = .solo → exec .leaseLapse s = .next t.toSeeking) ∧
    (s.tow.pair = .standby → s.tow.fence ≠ none →
      exec .leaseLapse s = .next { t with tow := { t.tow with lease := false } })) ∧
  (∀ (m : WitnessMsg) (s : State), s.tow.pair = .standby →
    (s.tow.fence = none → s.tow.term < fld m.bytes 24 8 →
      exec (.witnessGrant m) s = .next (if s.fromWitness 4 m then s.beginFence (fld m.bytes 24 8) else s)) ∧
    (s.tow.claiming = true →
      exec (.witnessDeny m) s =
        .next (if s.fromWitness 5 m then { s with tow := { s.tow with pair := .fenced, claiming := false } } else s))) ∧
  (∀ s : State, s.tow.witness.kind = 3 →
    let seen := match s.tow.link with
      | some l => l.term
      | none => 0
    let high : State := { s with tow := { s.tow with healthIn := (true, s.now) } }
    let low : State := { s with tow := { s.tow with healthIn := (false, s.now) } }
    (s.tow.lease = false → s.tow.pair = .standby →
      exec .healthInHigh s = .next (high.beginFence (max s.tow.term seen + 1))) ∧
    (s.tow.lease = false → s.tow.pair = .seeking → exec .healthInHigh s =
      .next ({ high with tow := { high.tow with term := max s.tow.term seen + 1 } } : State).resumeServing) ∧
    (s.tow.lease = false → s.tow.pair = .primary ∨ s.tow.pair = .solo →
      exec .healthInHigh s = .next { high with tow := { high.tow with term := max s.tow.term seen + 1, lease := true } }) ∧
    (s.tow.lease = true → exec .healthInHigh s = .next high) ∧
    (s.tow.lease = true → s.tow.pair = .primary ∨ s.tow.pair = .solo → exec .healthInLow s = .next low.toSeeking) ∧
    (s.tow.lease = true → s.tow.pair ≠ .primary → s.tow.pair ≠ .solo →
      exec .healthInLow s = .next { low with tow := { low.tow with lease := false } }) ∧
    (s.tow.lease = false → exec .healthInLow s = .next low)) ∧
  (∀ (f : Nat) (s : State), s.tow.fence = some f →
    let present := match s.tow.link with
      | some l => l.live && (l.state == 2 || l.state == 6)
      | none => false
    let t := s.reserveNext
    let u : State := { t with
      flt := { t.flt with held := false },
      tow := { t.tow with
        pair := if t.tow.lease = false then .seeking else if present then .primary else .solo, fence := none,
        wasServing := !t.tow.lease, switchover := false, claiming := false,
        epoch := max t.tow.epoch (t.tow.acked + 1), epochs := [] } }
    exec .fenceDone s = .next u.continueBallots.continueSlices.continueShreds.announceBasin) ∧
  (∀ (at_ : Nat) (s : State), s.ent.noneSince = some at_ → s.tow.pair = .primary → s.standbyReady = true → s.tow.switchover = false →
    exec .noEntropySwitchover s = .next ((s.upTo (at_ + 100000000)).beginSwitchover none).switchAdvance) ∧
  (∀ (b : Barge) (s : State),
    exec (.pairSwitchover b) s = .next (serve pairSwitchoverVerb b s).switchAdvance ∧
    (pairSwitchoverVerb.takesIn b s →
      let e := pairSwitchoverVerb.workFrom (pairSwitchoverVerb.served b) pairSwitchoverVerb.drawer
        (s.busyWith (pairSwitchoverVerb.served b))
      gate pairSwitchoverVerb (pairSwitchoverVerb.served b) (s.busyWith (pairSwitchoverVerb.served b)) = none →
      exec (.pairSwitchover b) s = .next (pairSwitchoverVerb.goesOn b s e).switchAdvance)) ∧
  (∀ s : State, s.tow.switchover = true → s.tow.pair = .primary →
    exec (.drainTimeout .switchover) s =
      .next (((s.upTo s.tow.switchDrain).abortBarges BargeRec.running stAbortHost).switchAdvance))

/-- This module as the witness of other pairs, up to 32 of them: a holder's BEAT keeps its record and a standby's is noted and
answered; a claim is denied to the holder itself and to a pair it knows nothing of, held while the lease runs and decided when it
has expired; a release grants the standby at once, or as soon as this module may grant at all; a lease that expires grants a released
pair and decides the claim held for it. A member that was granted the pair holds it while it still reports STANDBY in its fence. -/
def Obligations.WitnessCommandsAct : Prop :=
  (∀ (m : WitnessMsg) (s : State),
    let state := fld m.bytes 5 1
    exec (.witnessBeatRx m) s = .next (
      match s.toThisWitness 1 m with
      | none => s
      | some (v, pair) =>
        let term := fld m.bytes 24 8
        let granted := ∃ r, s.tow.witnessed.find pair.toNat = some r ∧ r.holder = v ∧ r.term = term
        let r := s.witnessRecord pair term
        if s.tow.witnessed.find pair.toNat = none ∧ 32 ≤ s.tow.witnessed.length then s
        else if state = 1 ∨ state = 3 ∨ state = 4 ∨ granted then s.holderBeat v pair term
        else
          (s.setWitnessed pair { r with standby := some (v, s.now, state, fld m.bytes 54 2) }).witnessSend v pair 2 r.term 0)) ∧
  (∀ (m : WitnessMsg) (s : State),
    exec (.witnessClaimRx m) s = .next (
      match s.toThisWitness 3 m with
      | none => s
      | some (v, pair) =>
        match s.tow.witnessed.find pair.toNat with
        | none => s.witnessSend v pair 5 (fld m.bytes 24 8) 0
        | some r =>
          if r.holder = v then s.witnessSend v pair 5 r.term 0
          else if s.now < max r.expiry s.tow.witnessFrom then s.setWitnessed pair { r with claim := some v }
          else s.decideClaim pair v r)) ∧
  (∀ (m : WitnessMsg) (s : State),
    exec (.witnessReleaseRx m) s = .next (
      match s.toThisWitness 6 m with
      | none => s
      | some (v, pair) =>
        match s.tow.witnessed.find pair.toNat with
        | none => s
        | some r =>
          if r.holder = v ∧ fld m.bytes 24 8 = r.term then
            match r.standby with
            | some c =>
              if s.tow.witnessFrom ≤ s.now then s.grantPair pair c.1 r
              else s.setWitnessed pair { r with expiry := s.tow.witnessFrom, released := true }
            | none => s.setWitnessed pair { r with expiry := s.now }
          else s)) ∧
  (∀ (pair : W64) (r : WitnessRec) (s : State), s.tow.witnessed.find pair.toNat = some r →
    let t := s.upTo (max r.expiry s.tow.witnessFrom)
    (∀ c, r.released = true → r.standby = some c → exec (.witnessLeaseExpiry pair) s = .next (t.grantPair pair c.1 r)) ∧
    (∀ c, r.released = false ∨ r.standby = none → r.claim = some c →
      exec (.witnessLeaseExpiry pair) s = .next (t.decideClaim pair c r)))

/-! ## The domain -/

/-- The interlink: hellos go to every member each 100 ms; a genuine one of this domain at the module's floor or above sets the peer's
link up with its keys, answered by a hello where none was sent, one that is not genuine is dropped and one below the floor or of an
expelled module is refused with event 354; a forwarded barge is taken in under a number of its own, its answer ends the forward,
and without one it ends with MEMBER_UNREACHABLE; only the home of a slice changes its entry in the directory of the gate pair, which
mirrors it and ends the sessions of a binding that goes (its message form is the model's: log entry 31); a new link to the gate
brings its directory up to date; a refusal of a member that stands at a higher floor makes the module pull the commit. -/
def Obligations.InterlinkCommandsAct : Prop :=
  (∀ (d : Bytes) (s : State),
    let body := d.drop 32
    let id := interlinkSender d
    let svn := fld body 16 2
    let genuine : Bool := decide (interlinkShape 0x01 d = true ∧ body.length = 168 ∧ fld body 0 8 = id.toNat ∧
      fld body 64 8 = s.vlt.domainId.toNat ∧ id ≠ s.ctr.moduleId ∧
      Config.attested id.toNat (sl body 0 72) (sl body 72 96) = true)
    let t := s.openPeer id
    let fresh : Bool := match s.peer id with
      | some l => l.nonce.isEmpty
      | none => true
    let u := if fresh then t.helloPeer id else t
    let linked := fun (l : PeerLink) =>
      let ks := linkKeys (u.domAt u.tow.floor) (ascii "DX8300 hener") (peerContext u.ctr.moduleId id) u.ctr.moduleId id l.nonce
        (sl body 32 32)
      let v := u.setPeer { l with
        pairId := BitVec.ofNat 64 (fld body 8 8), svn := svn, announced := u.now, state := fld body 22 1,
        term := max l.term (fld body 24 8), txKey := ks.1, rxKey := ks.2, live := true, rxPn := max l.rxPn (fld d 24 8),
        heard := u.now }
      ({ v with tow := { v.tow with chan1 := { v.tow.chan1 with rx := v.tow.chan1.rx + 1 } } } : State)
    exec (.interlinkHello d) s = .next (
      if genuine = false then s.dropInterlink
      else if svn < s.tow.floor ∨ s.tow.expelled.contains id = true then s.raise 354 noInst 0xFFFF stFloor.toNat svn
      else
        match u.peer id with
        | none => u
        | some l =>
          let w := if (linked l).tow.floorIndex < fld body 20 2 then (linked l).pullDomain else linked l
          if l.live = false ∧ fld body 8 8 = w.tow.gatePair.toNat ∧ w.tow.pair.serves = true then w.tellBasin else w)) ∧
  (∀ s : State,
    let u := s.upTo s.tow.helloAt
    let t : State := { u with tow := { u.tow with helloAt := u.now + 100000000 } }
    exec .interlinkHelloTimer s = .next (t.tow.members.foldl (fun s m => (s.openPeer m).helloPeer m) t)) ∧
  (∀ (d : Bytes) (s : State),
    let o := s.openInterlink 0x02 d
    exec (.interlinkForward d) s = .next (
      match o.2 with
      | none => o.1
      | some (gate, p) =>
        match splitRecords 1 (p.drop 16) with
        | some [r] => o.1.takeForwarded gate (fld p 0 8) (fld p 8 2 % 4096) (BitVec.ofNat 32 (fld p 12 4)) r
        | _ => o.1)) ∧
  (∀ (d : Bytes) (s : State),
    let o := s.openInterlink 0x03 d
    exec (.forwardReply d) s = .next (
      match o.2 with
      | none => o.1
      | some (_, p) =>
        match o.1.tow.forwards.find (fld p 0 8) with
        | none => o.1
        | some f =>
          o.1.endForward (fld p 0 8) f ⟨BitVec.ofNat 16 (fld p 10 2), sl p 28 (fld p 24 2)⟩ (fld p 20 4 % 2 == 1))) ∧
  (∀ (tag : Nat) (f : Forward) (s : State), s.tow.forwards.find tag = some f →
    exec (.forwardTimeout tag) s = .next ((s.upTo f.deadline).endForward tag f ⟨stUnreachable, []⟩ false)) ∧
  (∀ (d : Bytes) (s : State),
    let o := s.openInterlink 0x0B d
    exec (.directoryUpdate d) s = .next (
      match o.2 with
      | none => o.1
      | some (id, p) =>
        let home := ((o.1.peer id).map PeerLink.pairId).getD 0
        if fld p 2 1 = 1 then o.1.takeDirAnchor home (fld p 4 1) (if fld p 3 1 = 1 then none else some (p.drop 8))
        else o.1.takeDirectory home (fld p 0 2 % 4096) (fld p 3 1 = 1) (BitVec.ofNat 32 (fld p 4 4))
          ((bindingsOf (fld p 0 2 % 4096) (p.drop 12) (fld p 8 2)).map fun x => (x.anchor, x.principal)))) ∧
  (∀ (home : W64) (t : Nat) (gen : W32) (bs : List (Nat × Bytes)) (s : State),
    let mine := ∀ e, s.tow.directory.find t = some e → e.home = home
    let old := ((s.tow.directory.find t).map DirEntry.bindings).getD []
    let put := fun (d : Map DirEntry) => (({ s with tow := { s.tow with directory := d } } : State).mirrorOnly s [.directory t])
    (mine → s.atGate = true → s.basinRoom home = true →
      s.takeDirectory home t false gen bs =
        (put (s.tow.directory.put t { home := home, generation := gen, bindings := bs.take 8 })).endSessions
          (fun x => x.slice == t && (old.filter fun y => !(bs.take 8).contains y).contains (x.anchor, x.principal)) ∧
      s.takeDirectory home t true gen bs =
        (put (s.tow.directory.del t)).endSessions fun x => x.slice == t && old.contains (x.anchor, x.principal)) ∧
    (∀ gone, ¬mine ∨ s.atGate = false ∨ s.basinRoom home = false → s.takeDirectory home t gone gen bs = s)) ∧
  (∀ (d : Bytes) (s : State), exec (.interlinkRefusal d) s =
    .next (if interlinkShape 0x0D d = true ∧ s.peer (interlinkSender d) ≠ none ∧ s.tow.floorIndex < fld d 32 2 then s.pullDomain
      else s))

/-- The domain's records, units and members. A proposal reaches the registrar, which applies it and, once the record is mirrored,
acknowledges a shred, and which gives its role away by a record of its own where no member is silent (its form is the model's: log
entry 31); a member applies the next record and acknowledges it, acknowledges again one it has applied and pulls a gap; a shred that
a full register has no room for is not applied; an ack is taken and a pull is answered with the records after it. A claim is
answered by the registrar in order, its grant once the record is mirrored, and a unit granted is never added twice. A join request
over an open admission sends the domain to a joiner whose request proves good, drops one that does not and refuses one below the
floor; the joiner takes the domain it is granted; an admission ends at its time. -/
def Obligations.DomainCommandsAct : Prop :=
  (∀ (d : Bytes) (s : State),
    let o := s.openInterlink 0x04 d
    exec (.domainRecord d) s = .next (
      match o.2 with
      | none => o.1
      | some (id, p) => o.1.takeRecordFrom id (fld p 0 8) (fld p 8 1) (p.drop 12))) ∧
  (∀ (id : W64) (seq kind : Nat) (b : Bytes) (s : State),
    let applied := (s.applyDomain (s.tow.domainSeq + 1) kind b).domainChange kind b true
    let t := s.applyNumbered seq kind b
    let next := if t.tow.domainSeq = seq then t.tow.memberAcks.foldl (fun s a => s.takeAck a.1 a.2) (t.ackDomain id kind) else s
    (seq = 0 → s.tow.registrar ≠ s.tow.pairId ∨ s.cannotEnter kind b = true → s.takeRecordFrom id seq kind b = s) ∧
    (seq = 0 → s.tow.registrar = s.tow.pairId → s.cannotEnter kind b = false →
      (kind = 8 → s.takeRecordFrom id seq kind b = if s.silentMember = true then s else s.giveRegistrar b) ∧
      (kind ≠ 8 → s.takeRecordFrom id seq kind b =
        if kind = 2 ∨ kind = 3 then applied.sendAfter s.epochNow 0x05 [id] (be 8 applied.tow.domainSeq) else applied)) ∧
    (seq ≠ 0 → seq ≤ s.tow.domainSeq → s.takeRecordFrom id seq kind b = s.ackDomain id kind) ∧
    (seq = s.tow.domainSeq + 1 → s.takeRecordFrom id seq kind b =
      if next.tow.floorIndex = s.tow.floorIndex then next else next.rekey) ∧
    (s.tow.domainSeq + 1 < seq → s.takeRecordFrom id seq kind b = s.sendInterlink id 0x06 (be 8 s.tow.domainSeq))) ∧
  (∀ (d : Bytes) (s : State),
    let o := s.openInterlink 0x05 d
    exec (.domainAck d) s = .next (
      match o.2 with
      | none => o.1
      | some (id, p) => o.1.takeAck id (fld p 0 8))) ∧
  (∀ (d : Bytes) (s : State),
    let o := s.openInterlink 0x06 d
    exec (.domainPull d) s = .next (
      match o.2 with
      | none => o.1
      | some (id, p) =>
        let later := o.1.tow.domainLog.filter fun e => fld p 0 8 < e.1
        later.foldl (fun s e => s.sendInterlink id 0x04 (domainRecordBody e.1 e.2.1 e.2.2)) { o.1 with tow := { o.1.tow with
          chan1 := { o.1.tow.chan1 with resent := o.1.tow.chan1.resent + BitVec.ofNat 32 later.length } } })) ∧
  (∀ (d : Bytes) (s : State),
    let o := s.openInterlink 0x07 d
    exec (.shareClaim d) s = .next (
      match o.2 with
      | none => o.1
      | some (id, p) => o.1.answerClaim id (BitVec.ofNat 64 (fld p 0 8)) (fld p 8 8))) ∧
  (∀ (id key : W64) (limit : Nat) (s : State),
    let g := s.ledgerFor key limit
    (s.tow.registrar ≠ s.tow.pairId → s.answerClaim id key limit = s) ∧
    (s.tow.registrar = s.tow.pairId → g.1.cut limit = none →
      s.answerClaim id key limit = g.2.sendInterlink id 0x08 (be 8 key.toNat ++ be 8 1 ++ be 8 0)) ∧
    (∀ a b l, s.tow.registrar = s.tow.pairId → g.1.cut limit = some (a, b, l) →
      let r := g.2.reserve (g.2.ledgerRef key) key g.1.issued false
      let u : State := { r with tow := { r.tow with ledgers := (r.tow.ledgers.filter fun x => x.key != key) ++ [l] } }
      s.answerClaim id key limit = u.sendAfter g.2.epochNow 0x08 [id] (be 8 key.toNat ++ be 8 a ++ be 8 b))) ∧
  (∀ (d : Bytes) (s : State),
    let o := s.openInterlink 0x08 d
    exec (.shareGrant d) s = .next (
      match o.2 with
      | none => o.1
      | some (_, p) => o.1.takeUnit (BitVec.ofNat 64 (fld p 0 8)) (fld p 8 8) (fld p 16 8))) ∧
  (∀ (key : W64) (a b : Nat) (s : State),
    let t : State := { s with tow := { s.tow with claims := s.tow.claims.filter fun c => c.1 != key } }
    (a ≤ b → (key, a, b) ∈ s.tow.units → s.takeUnit key a b = t) ∧
    (a ≤ b → (key, a, b) ∉ s.tow.units → s.takeUnit key a b = t.addUnit (t.ledgerRef key) key a b) ∧
    (b < a → key ∈ s.tow.exhausted → s.takeUnit key a b = t) ∧
    (b < a → key ∉ s.tow.exhausted →
      s.takeUnit key a b = { t with tow := { t.tow with exhausted := t.tow.exhausted ++ [key] } })) ∧
  (∀ (d : Bytes) (a : Admission) (s : State),
    let p := d.drop 32
    let id := interlinkSender d
    s.tow.admissions.find? (fun a => a.joiner == id && s.now < a.deadline) = some a →
    let good : Bool := decide (interlinkShape 0x09 d = true ∧ p.length = 2100 ∧
      statementOk (sl p 0 708) id.toNat (fld a.digest 0 48) = true ∧ fld (sl p 0 708) 18 2 = fld p 708 2 ∧
      verify384 (sl (sl p 0 708) 273 97) (sl p 0 2004) (sl p 2004 96) = true ∧ s.tow.expelled.contains id = false)
    let t := s.openPeer id
    let e := t.envelope (sl p 712 97) (sl p 812 1184) (ascii "DX8300 join") (be 8 id.toNat)
      (t.dk ++ be 8 t.vlt.domainId.toNat ++ be 2 t.tow.floor ++ be 2 t.tow.floorIndex ++ be 8 t.tow.domainSeq ++
        be 8 t.tow.registrar.toNat)
    let u := e.2.sendInterlink id 0x0A e.1
    exec (.joinRequest d) s = .next (
      if good = false then s.dropInterlink
      else if fld p 708 2 < s.tow.floor then s.raise 354 noInst 0xFFFF stFloor.toNat (fld p 708 2)
      else ({ u with tow := { u.tow with
        admissions := u.tow.admissions.filter fun x => x.joiner != id } } : State).admitMember id)) ∧
  (∀ (d : Bytes) (x : W64) (ec kem : Bytes) (s : State), s.tow.join = some (interlinkSender d, x, ec, kem) →
    interlinkShape 0x0A d = true → s.noSliceKeys = true →
    exec (.joinGrant d) s = .next (
      match openEnvelope ec kem (ascii "DX8300 join") (be 8 s.ctr.moduleId.toNat) (d.drop 32) with
      | none => s.dropInterlink
      | some g => if g.length = 60 ∧ fld g 40 2 ≤ s.ctr.svn then s.takeDomain (interlinkSender d) g else s.dropInterlink)) ∧
  (∀ (joiner : W64) (a : Admission) (s : State), s.tow.admissions.find? (fun a => a.joiner == joiner) = some a →
    let t := s.upTo a.deadline
    exec (.admissionExpire joiner) s =
      .next { t with tow := { t.tow with admissions := t.tow.admissions.filter fun x => x.joiner != joiner } })

/-! ## Boot, the charter and the sentinel -/

/-- Life cycle and boot. A transition whose steps are written answers its command and arms a full reset ten milliseconds later; the
hand-off of a blank module begins its first transition; the enables whose certificates end at the first of their times end then; a
module with power boots, and starts once where its hold is good enough and its boot ROM goes through, warm where the power stage
keeps its calibration and, after a shutdown, the store's voltage says so (the report carries the latter); a root that could not be
generated is tried again 100 ms later, up to three times (a test state's root by the same rule: log entry 37); a held start goes on
once every zeroising condition has been clear. -/
def Obligations.BootCommandsAct : Prop :=
  (∀ (w : LcWrite) (s : State), s.ctr.writing = some w →
    let t := s.writeTransition w
    let u : State := { t with ctr := { t.ctr with writing := none, resetAt := some (t.now + 10000000) } }
    (w.answer = none → exec .lcWriteDone s = .next u) ∧
    (∀ a, w.answer = some a → exec .lcWriteDone s =
      .next (u.answer a ⟨stDone, be 1 (w.slot.getD 0xFF) ++ be 1 u.ctr.tokensLeft ++ zeros 2⟩ []))) ∧
  (∀ (at_ : Nat) (s : State), s.ctr.resetAt = some at_ → exec .delayedFullReset s = .next (s.upTo at_).fullReset) ∧
  (∀ (i : Nat) (rest : List Nat) (s : State), s.ctr.state = .blank → s.ctr.writing = none → s.pwr.shutDown = false →
    s.ctr.bootDone = true → s.ctr.freeSlots = i :: rest →
    exec .factoryTransition s = .next { s with ctr := { s.ctr with
      writing := some { target := .foundryTest, slot := some i, answer := none } } }) ∧
  (∀ (e : Nat) (es : List Nat) (s : State),
    [s.ctr.dbgNormal, s.ctr.dbgSecure, s.ctr.dbgArmed].filterMap (fun x => x.map BitVec.toNat) = e :: es →
    let at_ := es.foldl min e
    let t := s.upToStamp at_
    let keep := fun x : Option W64 => x.filter fun e => decide (at_ < e.toNat)
    exec .dbgCertExpire s = .next { t with ctr := { t.ctr with
      dbgNormal := keep t.ctr.dbgNormal, dbgSecure := keep t.ctr.dbgSecure, dbgArmed := keep t.ctr.dbgArmed,
      dbgRights := if (keep t.ctr.dbgNormal).isSome || (keep t.ctr.dbgSecure).isSome then t.ctr.dbgRights else 0,
      dbgArmedRights := if (keep t.ctr.dbgArmed).isSome then t.ctr.dbgArmedRights else 0 } }) ∧
  (∀ s : State, s.pwr.shutDown = false → exec .boot s = .next s.bootRom) ∧
  (∀ s : State, s.vlt.rootTries ≠ 0 → s.vlt.rootTries < 3 → s.ctr.bootDone = false →
    let t := s.upTo s.vlt.rootAt
    (t.bothSources = true → exec .rootGenRetry s = .next t.drawRoot.finishBoot ∧
      (t.ctr.state = .foundryTest ∨ t.ctr.state = .returnTest → t.drawRoot = t.testRootStart) ∧
      (t.ctr.state ≠ .foundryTest → t.ctr.state ≠ .returnTest → t.drawRoot = t.generateRoot.endorse)) ∧
    (t.bothSources = false →
      let n := t.vlt.rootTries + 1
      let u : State := { t with vlt := { t.vlt with rootTries := n, rootAt := t.now + 100000000 } }
      exec .rootGenRetry s = .next (if n = 3 then u.raise 418 noInst 0xFFFF 0 n else u))) ∧
  (∀ (tests : StartTests) (s : State), s.pwr.shutDown = false → s.pwr.started = false →
    let t : State := { s with pwr := { s.pwr with
      warm := s.pwr.calibrated && !(s.pwr.resumed && tests.cold), badLines := tests.badLines, calibrated := true, resumed := false } }
    (1024 < tests.badLines → exec (.start tests) s = .next t) ∧
    (tests.badLines ≤ 1024 →
      let b := (((t.retestFence.testSource tests.sources 0).testSource tests.sources 1).generatorTests tests).bootRom
      let k := b.keeperStart.powerOnTests tests
      exec (.start tests) s = .next (
        if b.ctr.bootDone then
          ({ k.freeNat.2 with pwr := { k.freeNat.2.pwr with
            started := true, startMs := sat 65535 k.freeNat.1 } } : State).sourcesChanged
        else b))) ∧
  (∀ s : State, s.snt.held = true → s.snt.locked = false → s.zeroisingCondition = false →
    let ends := s.snt.sensors.filterMap fun e =>
      if pairedSensor e.1 && e.2.level == 3 then e.2.clearSince.map (· + 1000000000) else none
    exec .heldRelease s = .next (ends.foldl State.upTo s).bootRom)

/-- The sentinel. A logic alarm is raised with its reading and island, and ends at once. A report of neither detector ends a
sensor's condition; a report of either begins it, and, unless it stands already or was clear for less than its bound, both
detectors, or one of a sensor that zeroises, raise the alarm, and one of any other is a disagreement; a sensor without power
reports nothing. The cells are reported as they stand, and either of them raises CELL unless both are gone without main power. A
disagreement that lasts its bound is reported; the shadows are scanned each millisecond and a corrupt one raises SHADOW; staged
evidence is copied on main power. -/
def Obligations.SentinelCommandsAct : Prop :=
  (∀ (a : AlarmReport) (s : State), logicAlarm a.code = true →
    exec (.sensorAlarm a) s =
      .next ((s.modSensor a.code fun x => { x with condition := false }).alarm a.code 0 a.reading a.island)) ∧
  (∀ (a : AlarmReport) (s : State), logicAlarm a.code = false → pairedSensor a.code = true → a.code ≠ 0x0B →
    let powered := s.snt.onMain = true ∨ (s.snt.cellA = true ∨ s.snt.cellB = true) ∧ (sensorBound a.code).2 ≠ none
    let x := s.sensor a.code
    let bound := if s.snt.onMain then (sensorBound a.code).1 else (sensorBound a.code).2.getD 0
    let stands := x.condition = true ∨ ∃ t, x.clearSince = some t ∧ s.now < t + bound
    let t := s.modSensor a.code fun y =>
      { y with condition := true, a := a.a || (y.condition && y.a), b := a.b || (y.condition && y.b) }
    (¬powered → exec (.sensorAlarm a) s = .next s) ∧
    (powered → a.a = false → a.b = false → exec (.sensorAlarm a) s = .next (s.conditionEnds a.code)) ∧
    (powered → a.a = true ∨ a.b = true →
      (stands → exec (.sensorAlarm a) s = .next t) ∧
      (¬stands → a.a = true ∧ a.b = true ∨ x.level = 3 →
        exec (.sensorAlarm a) s = .next (t.alarm a.code (detectors a.a a.b) a.reading a.island)) ∧
      (¬stands → a.a ≠ a.b → x.level ≠ 3 →
        exec (.sensorAlarm a) s = .next (t.disagree a.code (detectors a.a a.b) 0)))) ∧
  (∀ (a : AlarmReport) (s : State), a.code = 0x0B →
    let t := s.cellsReport a.a a.b
    let u := t.modSensor 0x0B fun x => { x with condition := true, a := a.a, b := a.b }
    (a.a = false → a.b = false → exec (.sensorAlarm a) s = .next (t.conditionEnds 0x0B)) ∧
    (a.a = true ∨ a.b = true →
      let quiet := (s.sensor 0x0B).condition = true ∨ u.snt.onMain = false ∧ a.a = true ∧ a.b = true
      (quiet → exec (.sensorAlarm a) s = .next u) ∧
      (¬quiet → exec (.sensorAlarm a) s = .next (u.alarm 0x0B (detectors a.a a.b) a.reading a.island)))) ∧
  (∀ (code : Nat) (b : Bool) (s : State), pairedSensor code = true → (s.sensor code).level ≠ 3 →
    s.snt.onMain = true ∨ (sensorBound code).2 ≠ none →
    exec (.detectorDisagreement code b) s = .next (s.disagree code (if b then 2 else 1) 0)) ∧
  (∀ s : State,
    let u := s.upTo s.snt.scanAt
    let t : State := { u with snt := { u.snt with scanAt := u.now + 1000000 } }
    (t.snt.corrupt = true → exec .shadowScan s = .next (t.alarm 0x21 0 0 0)) ∧
    (t.snt.corrupt = false → exec .shadowScan s = .next t)) ∧
  (∀ s : State,
    (s.snt.onMain = true → exec .evidenceCopy s = .next s.copyStaged) ∧
    (s.snt.onMain = false → exec .evidenceCopy s = .next s))

/-! ## Power and observability -/

/-- The input. A qualified input takes a module that is down through a full reset onto main power, with the feeds of its present
cages 100 ms later, a start held under R459 let go after a second without power and the calibration gone after sixty; an outage is
carried for one millisecond, ends in a shutdown or sets the latch of its kind; a trip and a broken SHORT_L shut down and connect the
discharge, which ends; the store moves HOLDUP_OK by its two thresholds, and below the lower one an outage shuts down at once. -/
def Obligations.InputCommandsAct : Prop :=
  (∀ (mv : Nat) (s : State), s.pwr.inputOk = false → 8600 ≤ mv → mv ≤ 63000 →
    (s.pwr.shutDown = false →
      exec (.inputQualified mv) s = .next { s with pwr := { s.pwr with inputOk := true, vin := mv, shortL := true } }) ∧
    (s.pwr.shutDown = true →
      let u := ({ s with pwr := { s.pwr with inputOk := true, vin := mv, shortL := true } } : State).fullReset
      let absent := ∃ t, s.pwr.downAt = some t ∧ t + 1000000000 ≤ s.now
      let bled := ∃ t, s.pwr.downAt = some t ∧ t + 60000000000 ≤ s.now
      ∃ t, exec (.inputQualified mv) s = .next t ∧ t.pwr.shutDown = false ∧ t.snt.onMain = true ∧ t.pwr.downAt = none ∧
        (t.pwr.calibrated = true ↔ s.pwr.calibrated = true ∧ ¬bled) ∧ t.pwr.resumed = true ∧
        (absent → t.snt.locked = false) ∧ (¬absent → t.snt.locked = u.snt.locked) ∧
        t.pwr.cages = u.pwr.cages.map fun e =>
          (e.1, if e.2.present then { e.2 with onAt := some (u.now + 100000000) } else e.2))) ∧
  (∀ (exceeds : Bool) (s : State), s.pwr.inputOk = true →
    exec (.inputOutage exceeds) s = .next { s with pwr := { s.pwr with inputOk := false, outage := some (s.now, exceeds) } }) ∧
  (∀ (t : Nat) (exceeds : Bool) (s : State), s.pwr.outage = some (t, exceeds) →
    exec .outageTimeout s = .next (s.upTo (t + 1000000)).shutdown ∧
    (∀ mv, s.now ≤ t + 1000000 →
      exec (.outageEnd mv) s = .next { s with pwr := { s.pwr with
        inputOk := true, vin := mv, outage := none, dip := s.pwr.dip || !exceeds, overvolt := s.pwr.overvolt || exceeds } }) ∧
    (∀ mv, t + 1000000 < s.now → exec (.outageEnd mv) s = .next s.shutdown)) ∧
  (∀ s : State, s.pwr.inputOk = true → exec .inputLossTrip s = .next s.shutdown.discharging) ∧
  (∀ s : State, exec .dischargeEnd s = .next { s with pwr := { s.pwr with discharge := none } }) ∧
  (∀ (mv : Nat) (s : State), s.pwr.shutDown = false →
    (11500 ≤ mv → exec (.holdupThreshold mv) s =
      .next ({ s with pwr := { s.pwr with holdup := mv, holdupOk := true } } : State).refreshReady) ∧
    (10500 ≤ mv → mv < 11500 → exec (.holdupThreshold mv) s = .next { s with pwr := { s.pwr with holdup := mv } }) ∧
    (mv < 10500 →
      let t := ({ s with pwr := { s.pwr with holdup := mv, holdupOk := false } } : State).refreshReady
      exec (.holdupThreshold mv) s = .next (if t.pwr.outage.isSome then t.shutdown else t))) ∧
  (∀ s : State, s.pwr.shortL = true →
    let t := s.shutdown.discharging
    exec .shortLBreak s = .next { t with pwr := { t.pwr with shortL := false } })

/-- Power states, cages and the bus of the power stage. A thermal emergency steps to quarter clocks and ends; an idle window ends and
the state is chosen again, as it is on a module that has started; a stopped domain wakes after its time; a cage takes power where it
keeps its budget, and is else held with its link down, and its interrupt leaves its status; a command that the stage answers is
read, STATUS_CML clearing, and data written is refused with CML. -/
def Obligations.PowerCommandsAct : Prop :=
  (∀ s : State, s.pwr.thermal = true →
    (s.pwr.divisor = 2 →
      let t := (s.upTo (s.pwr.thermalAt + 100000000)).rebase
      exec .thermalQuarterClock s = .next { t with pwr := { t.pwr with divisor := 4 } }) ∧
    let t := (s.upTo (s.pwr.thermalAt + 1000000000)).rebase
    exec .thermalEnd s =
      .next (({ t with pwr := { t.pwr with thermal := false, divisor := 1 } } : State).level 388 false noInst 0xFFFF 0 0)) ∧
  (∀ (a e : Nat) (s : State), s.pwr.idle = some (a, e) →
    let t := s.upTo e
    exec .idleWindowEnd s = .next ({ t with pwr := { t.pwr with idle := none } } : State).evalPower) ∧
  (∀ s : State, s.pwr.started = true → exec .powerStateEval s = .next s.evalPower) ∧
  (∀ (d : Nat) (s : State), d < 32 →
    ((s.domain d).stopped = true → exec (.blockWake d) s =
      .next (((s.upTo (s.now + (s.domain d).wakeNs s.pwr.state)).rebase).modDomain d fun x =>
        { x with down := 0, clockOff := false, powerOff := false })) ∧
    ((s.domain d).stopped = false → exec (.blockWake d) s = .next s)) ∧
  (∀ (cage : Nat) (s : State), cage < 3 →
    exec (.cageInsert cage) s =
      .next (s.setCage cage { present := true, onAt := if s.pwr.shutDown then none else some (s.now + 100000000) })) ∧
  (∀ (cage t mw : Nat) (active : Bool) (s : State), (s.cage cage).onAt = some t →
    let u := s.upTo t
    (mw ≤ cageBudget cage → cage ≠ 2 ∨ active = false →
      exec (.cagePowerOn cage mw active) s =
        .next (u.setCage cage { u.cage cage with powered := true, exceeds := false, onAt := none })) ∧
    (cageBudget cage < mw ∨ cage = 2 ∧ active = true →
      exec (.cagePowerOn cage mw active) s =
        .next ((u.setCage cage { u.cage cage with powered := true, exceeds := true, onAt := none }).linkDown cage))) ∧
  (∀ (cage status : Nat) (s : State), (s.cage cage).powered = true →
    exec (.cageInterrupt cage status) s = .next (s.setCage cage { s.cage cage with status := status % 256 })) ∧
  (∀ (c : Nat) (s : State), s.pwr.shutDown = false → s.pmAnswer c = none → exec (.pmbusRead c) s = .next s) ∧
  (∀ (c : Nat) (bs : Bytes) (s : State), s.pwr.shutDown = false → s.pmAnswer c = some bs →
    exec (.pmbusRead c) s = .next { s with
      out := s.out ++ [.pmbus c bs], pwr := { s.pwr with cml := if c = 0x7E then 0 else s.pwr.cml } }) ∧
  (∀ (c : Nat) (data : Bytes) (s : State), s.pwr.shutDown = false →
    (data ≠ [] → exec (.pmbusWrite c data) s = .next { s with pwr := { s.pwr with cml := s.pwr.cml ||| 0x40 } }) ∧
    (data = [] → exec (.pmbusWrite c data) s = .next s))

/-- Records, counters and time. The recorder drains its events, a gap record first where events were dropped, which is counted and
interrupts as its event does; a counter of a site
wraps to 0 with OVF and, where OVF_INT is set, interrupts its core with a sampled address that is free (log entry 3) or raises
CNT_OVF; a flagged leap begins its adjustment with event 484, and with none flagged nothing happens. -/
def Obligations.ObservabilityCommandsAct : Prop :=
  (∀ s : State,
    (s.cor.normalRestarting = true → exec .recorderWrite s = .next s) ∧
    (s.cor.normalRestarting = false → s.obs.dropped ≠ 0 → s.obs.queue.length < 1024 →
      let t := s.countSource 480
      let pend := ((List.range 8).filter fun c => s.reaches 480 c).map fun c => (c, 480)
      exec .recorderWrite s = .next { t with obs := { t.obs.write t.stamp 480 0 1
        (BitVec.ofNat 64 (0xFFFFFFFF * 2 ^ 32 + s.obs.dropped % 2 ^ 32)) with
          interrupts := t.obs.interrupts ++ pend.filter fun p => !t.obs.interrupts.contains p,
          dropped := 0, gaps := t.obs.gaps + BitVec.ofNat 32 s.obs.dropped } }) ∧
    (∀ q rest, s.cor.normalRestarting = false → s.obs.dropped = 0 ∨ 1024 ≤ s.obs.queue.length → s.obs.queue = q :: rest →
      exec .recorderWrite s = .next { s with obs := { s.obs.write q.time q.source
        (flag (q.asserted && eventLevel q.source) 0 + flag q.merged 1) q.count q.info with queue := rest } })) ∧
  (∀ (block site n : Nat) (s : State), n < blockCounters block →
    let c := s.counter block site n
    let t := s.setCounter block site n { c with value := 0, ovf := true }
    (c.cfg.toNat.testBit 29 = false → exec (.counterWrap block site n) s = .next t) ∧
    (c.cfg.toNat.testBit 29 = true → block ≠ 11 →
      exec (.counterWrap block site n) s = .next (t.raise 481 (siteInstance block site) 0xFFFF 0 n)) ∧
    (c.cfg.toNat.testBit 29 = true → block = 11 →
      let u := t.freeNat.2
      exec (.counterWrap block site n) s =
        .next (({ u with obs := { u.obs with psample := u.obs.psample.put site (t.freeNat.1 % 2 ^ 40) } } : State).emit
          (.interrupt site 2)))) ∧
  (∀ s : State, s.clk.leapFlag ≠ 0 →
    exec .timeLeap s = .next (({ s with clk := { s.clk with
      rtcBase := s.baseFor s.stamp.toNat, leap := some (s.clk.leapFlag, s.now + 1000000000000), leapFlag := 0 } } : State).raise
        484 noInst 0xFFFF 0 0)) ∧
  (∀ s : State, s.clk.leapFlag = 0 → exec .timeLeap s = .next s)

/-! ## Rules of the manual -/

/-- The end of a session, by CLOSE, by idle expiry or by the key limit alike: its barges in progress stay, no mutation is undone,
its responses are discarded, and a repeat of a barge meets its idempotency entry as before. -/
def Obligations.SessionEndKeepsWork : Prop :=
  ∀ (n : Nat) (s : State),
    (s.endSession n).session n = none ∧ (s.endSession n).flt = s.flt ∧ (s.endSession n).eng = s.eng ∧
    (s.endSession n).vlt = s.vlt ∧ (s.endSession n).cus = s.cus ∧ (s.endSession n).tow = s.tow ∧
    (s.endSession n).mem = s.mem ∧ (s.endSession n).whf.idem = s.whf.idem ∧
    (∀ b : Barge, idemOutcome b (s.endSession n) = idemOutcome b s) ∧
    (∀ (pn opcode cls : Nat) (id : W64) (r : Reply) (again : Bool), s.tow.foreign.find n = none →
      (s.endSession n).respond n pn opcode cls id r again = s.endSession n)

/-- A repeat of a barge under its idempotency key executes nothing: with the same opcode and payload it is answered with the
stored result and REPEAT, or waits for the original; with another opcode or payload it is an IDEMPOTENCY_CONFLICT. A session
without room, or with another request of the same request_id in progress, refuses it first, as it does any barge. -/
def Obligations.RepeatsExecuteNothing : Prop :=
  ∀ (b : Barge) (e : IdemEntry) (s : State), b.idem ≠ 0 → sealPortOpcodes.contains b.opcode = false →
    refillOpcodes.contains b.opcode = false → s.idemEntry b.slice b.generation b.idem = some e →
    let t := s.busyWith b
    (∀ r, intakeFail b s = some r → s.takeIn b = s.answerNow b r) ∧
    (intakeFail b s = none →
      (e.opcode = none ∨ e.opcode = some b.opcode → e.digest = Config.sha384 (idemPayload b) →
        (∀ c p, e.result = some (c, p) → s.takeIn b = t.respond b.session b.pn b.opcode b.cls b.requestId ⟨c, p⟩ true) ∧
        (e.result = none → s.takeIn b = s.enter b .held)) ∧
      ((∃ o, e.opcode = some o ∧ o ≠ b.opcode) ∨ e.digest ≠ Config.sha384 (idemPayload b) →
        s.takeIn b = t.respond b.session b.pn b.opcode b.cls b.requestId ⟨stIdemConflict, []⟩ false))

/-- Counter nonces of a slot's key: a draw within its block issues the next value, the value 2^48 - 1 among them, and the draw
after it is refused, as is one past a stated limit; a refused draw leaves the state as it was. -/
def Obligations.CounterDraws : Prop :=
  ∀ (s : State) (i : Nat) (key : W64) (salt : Bytes) (limit : Nat) (c : Counter), s.counterOf (.slot i) = some c →
    let d := s.issue (.slot i) key salt 0 limit
    (limit = 2 ^ 64 - 1 → c.next < 2 ^ 48 → c.next ≤ c.top → d.2 = .ok c.next) ∧
    (limit = 2 ^ 64 - 1 → 2 ^ 48 ≤ c.next → d = (s, .error stNonceExhausted)) ∧
    (limit ≠ 2 ^ 64 - 1 → limit < c.next → d = (s, .error stUsageExhausted)) ∧
    (limit ≠ 2 ^ 64 - 1 → c.next ≤ limit → c.next < 2 ^ 48 → c.next ≤ c.top → d.2 = .ok c.next)

/-- Two draws one after the other for the counter nonces of one slot's key issue distinct values, the later one higher, whatever
block or lease each of them met and in whatever state. -/
def Obligations.DrawsAscend : Prop :=
  ∀ (s : State) (i : Nat) (key : W64) (salt : Bytes) (limit v w : Nat),
    (s.issue (.slot i) key salt 0 limit).2 = .ok v →
    ((s.issue (.slot i) key salt 0 limit).1.issue (.slot i) key salt 0 limit).2 = .ok w → v < w

/-- A region of a unit: writing IXP_RBASE or IXP_RLAST changes no region, and a write of IXP_RATTR gives the selected region its
base, its last page and its attributes at once and changes no other region. -/
def Obligations.RegionChangesAtOnce : Prop :=
  (∀ (s : State) (r : Reader) (addr : Nat) (v : W32), addr = 0xC0014 ∨ addr = 0xC0018 →
    (s.writeRegister r addr v).ixp = s.ixp) ∧
  (∀ (s : State) (x : RegWrite), s.mayWrite x.reader x.kernel 0xC001C = true → s.channel x.reader 12 < 141 →
    let w := s.wakeRegister x.reader 0xC001C
    let u := w.channel x.reader 12
    let c := w.copies x.reader
    let old := w.region u c.rsel
    let v := x.value.toNat
    commitDropped (w.secureReader x.reader) old (old.commit c.rbase c.rlast v) = false →
    ∃ t, exec (.ixpRattrWrite x) s = .next t ∧
      t.region u c.rsel = { enable := v.testBit 31, lock := old.lock || v.testBit 30, normal := v.testBit 8, perms := v % 64,
                            first := c.rbase.getD old.first, last := c.rlast.getD old.last } ∧
      ∀ k, k ≠ 32 * u + c.rsel → t.ixp.regions.at {} k = s.ixp.regions.at {} k)

/-- Failures of the format check are counted per slice: the one that makes more than 1,000 within a second raises PAY_FMT_STORM
unless it was raised within the last second, no other does, and every one ends with FORMAT_CHECK_FAIL all the same. -/
def Obligations.FormatStorm : Prop :=
  ∀ (s : State) (n : Nat),
    let x := s.slice n
    let times := within s.now 1000000000 x.storm ++ [s.now]
    let kept := times.drop (times.length - 1001)
    (s.formatFail n).reply = ⟨stFormatCheck, []⟩ ∧
    (times.length ≤ 1000 → (s.formatFail n).st = s.setSlice n { x with storm := kept }) ∧
    (∀ at_, x.stormAt = some at_ → s.now < at_ + 1000000000 → (s.formatFail n).st = s.setSlice n { x with storm := kept }) ∧
    (1000 < times.length → (x.stormAt = none ∨ ∃ at_, x.stormAt = some at_ ∧ at_ + 1000000000 ≤ s.now) →
      (s.formatFail n).st = (s.setSlice n { x with storm := kept, stormAt := some s.now }).raise 66 noInst n 0 0)

/-- Erasing a slot: it keeps its epoch, holds no key and is FREE, or RETIRED where its epoch has reached 0xFFFFF, and no other slot
changes. Where the image record of the slot fails its read-back three times, every slot keeps its prior contents and the failure is
counted. -/
def Obligations.EraseRetires : Prop :=
  ∀ (s : State) (i : Nat),
    let t := s.eraseSlot i
    t.eng.counters.find i = none ∧ (∀ j, j ≠ i → t.slot j = s.slot j) ∧
    (isTransit i = true ∨ s.vlt.badWrites < 3 →
      (t.slot i).epoch = (s.slot i).epoch ∧
      (t.slot i).state = (if (s.slot i).epoch = 0xFFFFF then .retired else .free) ∧
      (t.slot i).material = ({} : Slot).material) ∧
    (isTransit i = false → 3 ≤ s.vlt.badWrites →
      t.slot i = s.slot i ∧ t.vlt.imageFaults = s.vlt.imageFaults + 1)

/-- What reset leaves where the manual says so: no session, handshake or gathered response stands, the sources and the pair are
off, no flight holds a barge and every flight is in service, no shred, staging or epoch is in progress, and every copy of a
selection register reads 0. -/
def Obligations.ResetLeaves : Prop :=
  State.reset.whf.sessions = [] ∧ State.reset.whf.halfOpen = [] ∧ State.reset.whf.gathers = [] ∧
  State.reset.ent.ring.state = .off ∧ State.reset.ent.latch.state = .off ∧ State.reset.tow.pair = .unpaired ∧
  State.reset.tow.term = 0 ∧ State.reset.flt.barges = [] ∧ State.reset.flt.held = false ∧
  (∀ f, (State.reset.flight f).inService = true ∧ (State.reset.flight f).out = false) ∧ State.reset.vlt.shreds = [] ∧
  State.reset.vlt.scrubs = 0 ∧ State.reset.cht.staging.valid = false ∧ State.reset.eng.lmsSeed = false ∧
  ∀ (r : Reader) (block : Nat), State.reset.channel r block = 0
end

