-- ==== Sys2Proof/Laws/Keeps.lean ====
section
/-! SUPPORT. What leaves memory and the queue alone, of the operations every family shares: one law per operation. -/

set_option Elab.async false
set_option linter.unusedSimpArgs false

namespace Sys2Proof.Machine

theorem foldl_mem {α : Type} {f : State → α → State} (h : ∀ s a, (f s a).mem = s.mem) (l : List α) (s : State) :
    (l.foldl f s).mem = s.mem := by
  induction l generalizing s with
  | nil => rfl
  | cons a l ih => simpa [h] using ih (f s a)

theorem foldl_pending {α : Type} {f : State → α → State} (h : ∀ s a, (f s a).pending = s.pending) (l : List α) (s : State) :
    (l.foldl f s).pending = s.pending := by
  induction l generalizing s with
  | nil => rfl
  | cons a l ih => simpa [h] using ih (f s a)

theorem State.route_keeps (s : State) (a1 : Nat) (a2 : W64) (a3 : Bool) :
    (State.route s a1 a2 a3).mem = s.mem ∧ (State.route s a1 a2 a3).pending = s.pending := by
  unfold State.route; grind []

theorem State.freeNat_keeps (s : State) :
    (State.freeNat s).2.mem = s.mem ∧ (State.freeNat s).2.pending = s.pending := by
  unfold State.freeNat; grind []

theorem State.push_keeps (s : State) (a1 : Output) :
    (State.push s a1).mem = s.mem ∧ (State.push s a1).pending = s.pending := by
  unfold State.push; grind []

theorem State.overflows_keeps (s : State) (a1 : List (Nat × Nat × Nat)) :
    (State.overflows s a1).mem = s.mem ∧ (State.overflows s a1).pending = s.pending := by
  unfold State.overflows; simp (disch := (intros; grind [State.route_keeps, State.freeNat_keeps,
      State.push_keeps])) only [State.route_keeps, State.freeNat_keeps, State.push_keeps, foldl_mem,
          foldl_pending]; grind [State.route_keeps, State.freeNat_keeps, State.push_keeps]

theorem State.tally_keeps (s : State) (a1 : SiteCounter → Nat) :
    (State.tally s a1).mem = s.mem ∧ (State.tally s a1).pending = s.pending := by
  unfold State.tally; grind [State.overflows_keeps]

theorem State.countSite_keeps (s : State) (a1 : Nat) (a2 : Nat) (a3 : Nat) (a4 : Nat) :
    (State.countSite s a1 a2 a3 a4).mem = s.mem ∧ (State.countSite s a1 a2 a3 a4).pending = s.pending := by
  unfold State.countSite; grind [State.tally_keeps]

theorem State.addRecord_keeps (s : State) (a1 : Barge) (a2 : BargeStage) :
    (State.addRecord s a1 a2).mem = s.mem ∧ (State.addRecord s a1 a2).pending = s.pending := by
  unfold State.addRecord; grind [State.countSite_keeps]

theorem State.modSession_keeps (s : State) (a1 : Nat) (a2 : Session → Session) :
    (State.modSession s a1 a2).mem = s.mem ∧ (State.modSession s a1 a2).pending = s.pending := by
  unfold State.modSession; grind []

theorem State.busyWith_keeps (s : State) (a1 : Barge) :
    (State.busyWith s a1).mem = s.mem ∧ (State.busyWith s a1).pending = s.pending := by
  unfold State.busyWith; grind [State.modSession_keeps]

theorem State.setGather_keeps (s : State) (a1 : Nat) (a2 : Nat) (a3 : Option Gather) :
    (State.setGather s a1 a2 a3).mem = s.mem ∧ (State.setGather s a1 a2 a3).pending = s.pending := by
  unfold State.setGather; grind []

theorem State.countOutput_keeps (s : State) (a1 : Output) :
    (State.countOutput s a1).mem = s.mem ∧ (State.countOutput s a1).pending = s.pending := by
  unfold State.countOutput; grind [State.countSite_keeps]

theorem State.emit_keeps (s : State) (a1 : Output) :
    (State.emit s a1).mem = s.mem ∧ (State.emit s a1).pending = s.pending := by
  unfold State.emit; grind [State.countOutput_keeps, State.push_keeps]

theorem State.sendSealed_keeps (s : State) (a1 : Nat) (a2 : Nat) (a3 : Bytes) (a4 : Nat) (a5 : Bytes) :
    (State.sendSealed s a1 a2 a3 a4 a5).mem = s.mem ∧ (State.sendSealed s a1 a2 a3 a4 a5).pending = s.pending := by
  unfold State.sendSealed; grind [State.modSession_keeps, State.emit_keeps]

theorem State.flush_keeps (s : State) (a1 : Nat) (a2 : Nat) :
    (State.flush s a1 a2).mem = s.mem ∧ (State.flush s a1 a2).pending = s.pending := by
  unfold State.flush; grind [State.setGather_keeps, State.sendSealed_keeps]

theorem State.joinGather_keeps (s : State) (a1 : Nat) (a2 : Nat) (a3 : Nat) (a4 : Bytes) :
    (State.joinGather s a1 a2 a3 a4).mem = s.mem ∧ (State.joinGather s a1 a2 a3 a4).pending = s.pending := by
  unfold State.joinGather; grind [State.flush_keeps, State.setGather_keeps]

theorem State.fgl1Flush_keeps (s : State) (sid n : Nat) : (s.fgl1Flush sid n).mem = s.mem ∧
    (s.fgl1Flush sid n).pending = s.pending := by
  induction n generalizing s with
  | zero => simp [State.fgl1Flush]
  | succ n ih => unfold State.fgl1Flush; grind [State.emit_keeps, State.modSession_keeps]

theorem State.enter_keeps (s : State) (a1 : Barge) (a2 : BargeStage) :
    (State.enter s a1 a2).mem = s.mem ∧ (State.enter s a1 a2).pending = s.pending := by
  unfold State.enter; grind [State.modSession_keeps, State.addRecord_keeps]

theorem State.fgl1Accept_keeps (s : State) (a1 : Nat) (a2 : Bytes) :
    (State.fgl1Accept s a1 a2).mem = s.mem ∧ (State.fgl1Accept s a1 a2).pending = s.pending := by
  unfold State.fgl1Accept; grind [State.modSession_keeps, State.fgl1Flush_keeps, State.enter_keeps]

theorem State.fgl1Take_keeps (s : State) (sid n : Nat) : (s.fgl1Take sid n).mem = s.mem ∧
    (s.fgl1Take sid n).pending = s.pending := by
  induction n generalizing s with
  | zero => simp [State.fgl1Take]
  | succ n ih => unfold State.fgl1Take; grind [State.fgl1Accept_keeps, State.modSession_keeps]

theorem State.setPeer_keeps (s : State) (a1 : PeerLink) :
    (State.setPeer s a1).mem = s.mem ∧ (State.setPeer s a1).pending = s.pending := by
  unfold State.setPeer; grind []

theorem State.sendInterlink_keeps (s : State) (a1 : W64) (a2 : Nat) (a3 : Bytes) :
    (State.sendInterlink s a1 a2 a3).mem = s.mem ∧ (State.sendInterlink s a1 a2 a3).pending = s.pending := by
  unfold State.sendInterlink; grind [State.setPeer_keeps, State.emit_keeps]

theorem State.respond_keeps (s : State) (a1 : Nat) (a2 : Nat) (a3 : Nat) (a4 : Nat) (a5 : W64) (a6 : Reply) (a7 : Bool) :
    (State.respond s a1 a2 a3 a4 a5 a6 a7).mem = s.mem ∧ (State.respond s a1 a2 a3 a4 a5 a6 a7).pending = s.pending := by
  unfold State.respond; grind [State.sendInterlink_keeps, State.emit_keeps, State.modSession_keeps, State.joinGather_keeps,
      State.fgl1Take_keeps, State.fgl1Flush_keeps]

theorem State.answerNow_keeps (s : State) (a1 : Barge) (a2 : Reply) :
    (State.answerNow s a1 a2).mem = s.mem ∧ (State.answerNow s a1 a2).pending = s.pending := by
  unfold State.answerNow; grind [State.busyWith_keeps, State.respond_keeps]

theorem State.dropBarge_keeps (s : State) (a1 : Nat) :
    (State.dropBarge s a1).mem = s.mem ∧ (State.dropBarge s a1).pending = s.pending := by
  unfold State.dropBarge; grind []

theorem State.answerRepeats_keeps (s : State) (a1 : Barge) (a2 : Reply) :
    (State.answerRepeats s a1 a2).mem = s.mem ∧ (State.answerRepeats s a1 a2).pending = s.pending := by
  unfold State.answerRepeats
  (repeat' split) <;> first
    | grind [State.dropBarge_keeps, State.respond_keeps]
    | (simp (disch := (intros; grind [State.dropBarge_keeps, State.respond_keeps])) only [State.dropBarge_keeps,
        State.respond_keeps, foldl_mem, foldl_pending]; done)
    | (simp (disch := (intros; grind [State.dropBarge_keeps, State.respond_keeps])) only [State.dropBarge_keeps,
        State.respond_keeps, foldl_mem, foldl_pending]; grind [State.dropBarge_keeps, State.respond_keeps])

theorem State.setSource_keeps (s : State) (a1 : Nat) (a2 : Source) :
    (State.setSource s a1 a2).mem = s.mem ∧ (State.setSource s a1 a2).pending = s.pending := by
  unfold State.setSource; grind []

theorem State.freeBytes_keeps (s : State) (a1 : Nat) :
    (State.freeBytes s a1).2.mem = s.mem ∧ (State.freeBytes s a1).2.pending = s.pending := by
  unfold State.freeBytes; grind []

theorem State.conditioned_keeps (s : State) (a1 : Nat) :
    (State.conditioned s a1).2.mem = s.mem ∧ (State.conditioned s a1).2.pending = s.pending := by
  unfold State.conditioned; grind [State.setSource_keeps, State.freeBytes_keeps, State.freeNat_keeps]

theorem State.countSource_keeps (s : State) (a1 : Nat) :
    (State.countSource s a1).mem = s.mem ∧ (State.countSource s a1).pending = s.pending := by
  unfold State.countSource; grind [State.tally_keeps]

theorem State.setInstance_keeps (s : State) (a1 : Nat) (a2 : Drbg) :
    (State.setInstance s a1 a2).mem = s.mem ∧ (State.setInstance s a1 a2).pending = s.pending := by
  unfold State.setInstance; grind []

theorem State.level_keeps (s : State) (a1 : Nat) (a2 : Bool) (a3 : Nat) (a4 : Nat) (a5 : Nat) (a6 : Nat) :
    (State.level s a1 a2 a3 a4 a5 a6).mem = s.mem ∧ (State.level s a1 a2 a3 a4 a5 a6).pending = s.pending := by
  unfold State.level; grind [State.route_keeps, State.countSource_keeps]

theorem State.seedMaterial_keeps (s : State) :
    (State.seedMaterial s).2.mem = s.mem ∧ (State.seedMaterial s).2.pending = s.pending := by
  unfold State.seedMaterial; grind [State.conditioned_keeps]

theorem State.reseed_keeps (s : State) (a1 : Nat) :
    (State.reseed s a1).mem = s.mem ∧ (State.reseed s a1).pending = s.pending := by
  unfold State.reseed; grind [State.setInstance_keeps, State.level_keeps, State.seedMaterial_keeps]

theorem State.reseedDue_keeps (s : State) (a1 : Nat) :
    (State.reseedDue s a1).mem = s.mem ∧ (State.reseedDue s a1).pending = s.pending := by
  unfold State.reseedDue; grind [State.reseed_keeps, State.setInstance_keeps]

theorem State.refill_keeps (s : State) (a1 : Nat) :
    (State.refill s a1).mem = s.mem ∧ (State.refill s a1).pending = s.pending := by
  unfold State.refill; grind [State.setInstance_keeps, State.reseedDue_keeps]

theorem State.takeOutput_keeps (s : State) (a1 : Nat) (a2 : Nat) (a3 : Nat) :
    (State.takeOutput s a1 a2 a3).2.mem = s.mem ∧ (State.takeOutput s a1 a2 a3).2.pending = s.pending := by
  induction a2 generalizing s a3 with
  | zero => exact ⟨rfl, rfl⟩
  | succ k ih => unfold State.takeOutput; grind [State.refill_keeps, State.setInstance_keeps]

theorem State.drawFrom_keeps (s : State) (a1 : Nat) (a2 : Nat) :
    (State.drawFrom s a1 a2).2.mem = s.mem ∧ (State.drawFrom s a1 a2).2.pending = s.pending := by
  unfold State.drawFrom; grind [State.freeBytes_keeps, State.takeOutput_keeps, State.setInstance_keeps]

theorem State.draw_keeps (s : State) (a1 : Nat) :
    (State.draw s a1).2.mem = s.mem ∧ (State.draw s a1).2.pending = s.pending := by
  unfold State.draw; grind [State.drawFrom_keeps]

theorem State.drawAs_keeps (s : State) (a1 : Nat) :
    (State.drawAs s a1).mem = s.mem ∧ (State.drawAs s a1).pending = s.pending := by
  unfold State.drawAs; grind []

theorem State.drawSeed_keeps (s : State) :
    (State.drawSeed s).2.mem = s.mem ∧ (State.drawSeed s).2.pending = s.pending := by
  unfold State.drawSeed; grind [State.draw_keeps]

theorem State.freeBool_keeps (s : State) :
    (State.freeBool s).2.mem = s.mem ∧ (State.freeBool s).2.pending = s.pending := by
  unfold State.freeBool; grind []

theorem State.modBarge_keeps (s : State) (a1 : Nat) (a2 : BargeRec → BargeRec) :
    (State.modBarge s a1 a2).mem = s.mem ∧ (State.modBarge s a1 a2).pending = s.pending := by
  unfold State.modBarge; grind []

theorem State.modDomain_keeps (s : State) (a1 : Nat) (a2 : PowerDomain → PowerDomain) :
    (State.modDomain s a1 a2).mem = s.mem ∧ (State.modDomain s a1 a2).pending = s.pending := by
  unfold State.modDomain; grind []

theorem State.modFlight_keeps (s : State) (a1 : Nat) (a2 : Flight → Flight) :
    (State.modFlight s a1 a2).mem = s.mem ∧ (State.modFlight s a1 a2).pending = s.pending := by
  unfold State.modFlight; grind []

theorem State.modLink_keeps (s : State) (a1 : Nat) (a2 : Link → Link) :
    (State.modLink s a1 a2).mem = s.mem ∧ (State.modLink s a1 a2).pending = s.pending := by
  unfold State.modLink; grind []

theorem State.noteStalls_keeps (s : State) (s1 : State) :
    (State.noteStalls s s1).mem = s.mem ∧ (State.noteStalls s s1).pending = s.pending := by
  unfold State.noteStalls; simp (disch := (intros; grind [State.setInstance_keeps,
      State.level_keeps])) only [State.setInstance_keeps, State.level_keeps, foldl_mem,
          foldl_pending]; grind [State.setInstance_keeps, State.level_keeps]

theorem State.raise_keeps (s : State) (a1 : Nat) (a2 : Nat) (a3 : Nat) (a4 : Nat) (a5 : Nat) :
    (State.raise s a1 a2 a3 a4 a5).mem = s.mem ∧ (State.raise s a1 a2 a3 a4 a5).pending = s.pending := by
  unfold State.raise; grind [State.route_keeps, State.countSource_keeps]

theorem State.setIdem_keeps (s : State) (a1 : Nat) (a2 : W32) (a3 : W64) (a4 : Option IdemEntry) :
    (State.setIdem s a1 a2 a3 a4).mem = s.mem ∧ (State.setIdem s a1 a2 a3 a4).pending = s.pending := by
  unfold State.setIdem; grind []

theorem State.recordIdem_keeps (s : State) (a1 : Barge) (a2 : Option Reply) (a3 : Bool) :
    (State.recordIdem s a1 a2 a3).mem = s.mem ∧ (State.recordIdem s a1 a2 a3).pending = s.pending := by
  unfold State.recordIdem; grind [State.setIdem_keeps]

theorem State.sendClear_keeps (s : State) (a1 : Nat) (a2 : Nat) (a3 : Nat) (a4 : Bytes) (a5 : Nat) (a6 : Bytes) :
    (State.sendClear s a1 a2 a3 a4 a5 a6).mem = s.mem ∧ (State.sendClear s a1 a2 a3 a4 a5 a6).pending = s.pending := by
  unfold State.sendClear; grind [State.emit_keeps]

theorem State.setBarge_keeps (s : State) (a1 : Nat) (a2 : BargeRec) :
    (State.setBarge s a1 a2).mem = s.mem ∧ (State.setBarge s a1 a2).pending = s.pending := by
  unfold State.setBarge; grind []

theorem State.setSlice_keeps (s : State) (a1 : Nat) (a2 : Slice) :
    (State.setSlice s a1 a2).mem = s.mem ∧ (State.setSlice s a1 a2).pending = s.pending := by
  unfold State.setSlice; grind []

theorem State.setSlot_keeps (s : State) (a1 : Nat) (a2 : Slot) :
    (State.setSlot s a1 a2).mem = s.mem ∧ (State.setSlot s a1 a2).pending = s.pending := by
  unfold State.setSlot; grind []

theorem Effect.readBack_keeps (e : Effect) (s0 : State) :
    (e.readBack s0).st.mem = e.st.mem ∧ (e.readBack s0).st.pending = e.st.pending := by
  unfold Effect.readBack; grind

theorem State.mark_keeps (s : State) (a1 : Nat × Nat) :
    (State.mark s a1).mem = s.mem ∧ (State.mark s a1).pending = s.pending := by
  unfold State.mark; grind []

theorem State.markTouch_keeps (s : State) (a1 : Touch) :
    (State.markTouch s a1).mem = s.mem ∧ (State.markTouch s a1).pending = s.pending := by
  unfold State.markTouch; grind [State.mark_keeps]

theorem State.sendMirrored_keeps (s : State) :
    (State.sendMirrored s).mem = s.mem ∧ (State.sendMirrored s).pending = s.pending := by
  unfold State.sendMirrored; simp (disch := (intros; grind [State.sendInterlink_keeps])) only [State.sendInterlink_keeps,
      foldl_mem, foldl_pending]; grind [State.sendInterlink_keeps]

theorem State.sendAfter_keeps (s : State) (a1 : Nat) (a2 : Nat) (a3 : List W64) (a4 : Bytes) :
    (State.sendAfter s a1 a2 a3 a4).mem = s.mem ∧ (State.sendAfter s a1 a2 a3 a4).pending = s.pending := by
  unfold State.sendAfter; grind [State.sendMirrored_keeps]

theorem State.numberChange_keeps (s : State) (a1 : Nat) (a2 : Bytes) :
    (State.numberChange s a1 a2).mem = s.mem ∧ (State.numberChange s a1 a2).pending = s.pending := by
  unfold State.numberChange; grind [State.sendAfter_keeps, State.mark_keeps, State.sendInterlink_keeps]

theorem State.setDirAnchor_keeps (s : State) (a1 : W64) (a2 : Nat) (a3 : Option Bytes) :
    (State.setDirAnchor s a1 a2 a3).mem = s.mem ∧ (State.setDirAnchor s a1 a2 a3).pending = s.pending := by
  unfold State.setDirAnchor; grind []

theorem State.modTow_keeps (s : State) (a1 : PeerLink → PeerLink) :
    (State.modTow s a1).mem = s.mem ∧ (State.modTow s a1).pending = s.pending := by
  unfold State.modTow; grind []

theorem State.sendHello_keeps (s : State) :
    (State.sendHello s).mem = s.mem ∧ (State.sendHello s).pending = s.pending := by
  unfold State.sendHello; grind [State.modTow_keeps, State.emit_keeps]

theorem State.newLink_keeps (s : State) (a1 : W64) :
    (State.newLink s a1).mem = s.mem ∧ (State.newLink s a1).pending = s.pending := by
  unfold State.newLink; grind [State.noteStalls_keeps, State.drawFrom_keeps]

theorem State.sendTowpath_keeps (s : State) (a1 : Nat) (a2 : Nat) (a3 : List Bytes) (a4 : Nat) (a5 : Nat) :
    (State.sendTowpath s a1 a2 a3 a4 a5).mem = s.mem ∧ (State.sendTowpath s a1 a2 a3 a4 a5).pending = s.pending := by
  unfold State.sendTowpath; grind [State.sendHello_keeps, State.newLink_keeps, State.emit_keeps]

theorem State.sendEpoch_keeps (s : State) (a1 : Nat) :
    (State.sendEpoch s a1).mem = s.mem ∧ (State.sendEpoch s a1).pending = s.pending := by
  unfold State.sendEpoch; simp (disch := (intros; grind [State.sendTowpath_keeps])) only [State.sendTowpath_keeps,
      foldl_mem, foldl_pending]; grind [State.sendTowpath_keeps]

theorem State.closeEpoch_keeps (s : State) :
    (State.closeEpoch s).mem = s.mem ∧ (State.closeEpoch s).pending = s.pending := by
  unfold State.closeEpoch; grind [State.sendEpoch_keeps]

theorem State.mutate_keeps (s : State) (a1 : Mutation) :
    (State.mutate s a1).mem = s.mem ∧ (State.mutate s a1).pending = s.pending := by
  unfold State.mutate; grind [State.closeEpoch_keeps]

theorem State.mirrorOnly_keeps (s : State) (s1 : State) (a2 : List Touch) :
    (State.mirrorOnly s s1 a2).mem = s.mem ∧ (State.mirrorOnly s s1 a2).pending = s.pending := by
  unfold State.mirrorOnly; grind [State.mutate_keeps]

theorem State.sendDirectory_keeps (s : State) (a1 : Bytes) :
    (State.sendDirectory s a1).mem = s.mem ∧ (State.sendDirectory s a1).pending = s.pending := by
  unfold State.sendDirectory; grind [State.sendAfter_keeps]

theorem State.tellAnchor_keeps (s : State) (a1 : Nat) :
    (State.tellAnchor s a1).mem = s.mem ∧ (State.tellAnchor s a1).pending = s.pending := by
  unfold State.tellAnchor; grind [State.setDirAnchor_keeps, State.mirrorOnly_keeps, State.sendDirectory_keeps]

theorem State.tellDirectory_keeps (s : State) (a1 : Nat) :
    (State.tellDirectory s a1).mem = s.mem ∧ (State.tellDirectory s a1).pending = s.pending := by
  unfold State.tellDirectory; grind [State.mirrorOnly_keeps, State.sendDirectory_keeps]

theorem State.domainChange_keeps (s : State) (a1 : Nat) (a2 : Bytes) (a3 : Bool) :
    (State.domainChange s a1 a2 a3).mem = s.mem ∧ (State.domainChange s a1 a2 a3).pending = s.pending := by
  unfold State.domainChange; grind [State.numberChange_keeps, State.mutate_keeps]

theorem State.publishTouch_keeps (s : State) (a1 : Touch) :
    (State.publishTouch s a1).mem = s.mem ∧ (State.publishTouch s a1).pending = s.pending := by
  unfold State.publishTouch
  (repeat' split) <;> first
    | grind [State.numberChange_keeps, State.tellAnchor_keeps, State.tellDirectory_keeps, State.domainChange_keeps]
    | (simp (disch := (intros; grind [State.numberChange_keeps, State.tellAnchor_keeps, State.tellDirectory_keeps,
        State.domainChange_keeps])) only [State.numberChange_keeps, State.tellAnchor_keeps, State.tellDirectory_keeps,
            State.domainChange_keeps, foldl_mem, foldl_pending]; done)
    | (simp (disch := (intros; grind [State.numberChange_keeps, State.tellAnchor_keeps, State.tellDirectory_keeps,
        State.domainChange_keeps])) only [State.numberChange_keeps, State.tellAnchor_keeps, State.tellDirectory_keeps,
            State.domainChange_keeps, foldl_mem, foldl_pending]; grind [State.numberChange_keeps, State.tellAnchor_keeps,
                State.tellDirectory_keeps, State.domainChange_keeps])

theorem State.publish_keeps (s : State) (a1 : List Touch) :
    (State.publish s a1).mem = s.mem ∧ (State.publish s a1).pending = s.pending := by
  unfold State.publish; simp (disch := (intros; grind [State.markTouch_keeps,
      State.publishTouch_keeps])) only [State.markTouch_keeps, State.publishTouch_keeps, foldl_mem,
          foldl_pending]; grind [State.markTouch_keeps, State.publishTouch_keeps]

theorem State.markMirrored_keeps (s : State) (a1 : Nat × W32 × W64) :
    (State.markMirrored s a1).mem = s.mem ∧ (State.markMirrored s a1).pending = s.pending := by
  unfold State.markMirrored; grind [State.setIdem_keeps]

theorem State.answerHeld_keeps (s : State) (a1 : Nat × W32 × W64) (a2 : Reply) :
    (State.answerHeld s a1 a2).mem = s.mem ∧ (State.answerHeld s a1 a2).pending = s.pending := by
  unfold State.answerHeld; simp (disch := (intros; grind [State.dropBarge_keeps,
      State.respond_keeps])) only [State.dropBarge_keeps, State.respond_keeps, foldl_mem,
          foldl_pending]; grind [State.dropBarge_keeps, State.respond_keeps]

theorem State.releaseMutation_keeps (s : State) (a1 : Mutation) (a2 : Option Reply) :
    (State.releaseMutation s a1 a2).mem = s.mem ∧ (State.releaseMutation s a1 a2).pending = s.pending := by
  unfold State.releaseMutation; grind [State.setIdem_keeps, State.respond_keeps, State.answerHeld_keeps]

theorem State.answer_keeps (s : State) (a1 : Waiter) (a2 : Reply) (a3 : List Touch) (a4 : optParam (List PriorImage) []) :
    (State.answer s a1 a2 a3 a4).mem = s.mem ∧ (State.answer s a1 a2 a3 a4).pending = s.pending := by
  unfold State.answer; grind [State.publish_keeps, State.markMirrored_keeps, State.releaseMutation_keeps, State.mutate_keeps]

theorem State.applyWhole_keeps (s : State) (a1 : Bytes) :
    (State.applyWhole s a1).mem = s.mem ∧ (State.applyWhole s a1).pending = s.pending := by
  unfold State.applyWhole; grind [State.setDirAnchor_keeps, State.mark_keeps, State.setSlice_keeps]

theorem State.applyKeeper_keeps (s : State) (a1 : Bytes) :
    (State.applyKeeper s a1).mem = s.mem ∧ (State.applyKeeper s a1).pending = s.pending := by
  unfold State.applyKeeper; grind [State.applyWhole_keeps]

theorem State.settle_keeps (s : State) (a1 : Barge) (a2 : Nat) (a3 : Reply) (a4 : Bool) :
    (State.settle s a1 a2 a3 a4).mem = s.mem ∧ (State.settle s a1 a2 a3 a4).pending = s.pending := by
  unfold State.settle; grind [State.answerRepeats_keeps, State.respond_keeps, State.recordIdem_keeps]

theorem State.completeWith_keeps (s : State) (a1 : List PriorImage) (a2 : Barge) (a3 : Nat) (a4 : Nat) (a5 : Effect) :
    (State.completeWith s a1 a2 a3 a4 a5).mem = s.mem ∧ (State.completeWith s a1 a2 a3 a4 a5).pending = s.pending := by
  unfold State.completeWith; grind [State.recordIdem_keeps, State.settle_keeps, State.publish_keeps, State.mutate_keeps]

theorem State.complete_keeps (s0 : State) (b : Barge) (pn flight : Nat) (e : Effect) :
    (State.complete s0 b pn flight e).mem = e.st.mem ∧ (State.complete s0 b pn flight e).pending = e.st.pending := by
  unfold State.complete; grind [State.completeWith_keeps]

theorem State.restorePrior_keeps (s : State) (a1 : PriorImage) :
    (State.restorePrior s a1).mem = s.mem ∧ (State.restorePrior s a1).pending = s.pending := by
  unfold State.restorePrior; grind [State.setSlice_keeps]

theorem State.revert_keeps (s : State) (a1 : Mutation) :
    (State.revert s a1).mem = s.mem ∧ (State.revert s a1).pending = s.pending := by
  unfold State.revert; simp (disch := (intros; grind [State.restorePrior_keeps])) only [State.restorePrior_keeps,
      foldl_mem, foldl_pending]; grind [State.restorePrior_keeps]

theorem State.tellBasin_keeps (s : State) :
    (State.tellBasin s).mem = s.mem ∧ (State.tellBasin s).pending = s.pending := by
  unfold State.tellBasin; simp (disch := (intros; grind [State.tellAnchor_keeps,
      State.tellDirectory_keeps])) only [State.tellAnchor_keeps, State.tellDirectory_keeps, foldl_mem,
          foldl_pending]; grind [State.tellAnchor_keeps, State.tellDirectory_keeps]

theorem State.writeSlot_keeps (s : State) (a1 : Nat) (a2 : Slot) :
    (State.writeSlot s a1 a2).mem = s.mem ∧ (State.writeSlot s a1 a2).pending = s.pending := by
  unfold State.writeSlot; grind [State.setSlot_keeps]

theorem done_keeps (s : State) (a1 : Bytes) :
    (done s a1).st.mem = s.mem ∧ (done s a1).st.pending = s.pending := by
  unfold done; grind []

theorem doneWith_keeps (s : State) (a1 : Bytes) (a2 : List Touch) :
    (doneWith s a1 a2).st.mem = s.mem ∧ (doneWith s a1 a2).st.pending = s.pending := by
  unfold doneWith; grind []

theorem refuse_keeps (s : State) (a1 : W16) (a2 : Bytes) :
    (refuse s a1 a2).st.mem = s.mem ∧ (refuse s a1 a2).st.pending = s.pending := by
  unfold refuse; grind []

theorem fail_keeps (s : State) (a1 : W16) :
    (fail s a1).st.mem = s.mem ∧ (fail s a1).st.pending = s.pending := by
  unfold fail; grind [refuse_keeps]

theorem mismatch_keeps (s : State) (a1 : Nat) (a2 : Nat) (a3 : Nat) :
    (mismatch s a1 a2 a3).st.mem = s.mem ∧ (mismatch s a1 a2 a3).st.pending = s.pending := by
  unfold mismatch; grind []

theorem State.keepClaims_keeps (s : State) (s1 : State) :
    (State.keepClaims s s1).mem = s.mem ∧ (State.keepClaims s s1).pending = s.pending := by
  unfold State.keepClaims; grind []

theorem Verb.workFrom_keeps (v : Verb) (b : Barge) (i : Nat) (s : State)
    (h : ∀ b s, (v.run b s).st.mem = s.mem ∧ (v.run b s).st.pending = s.pending) : (v.workFrom b i s).st.mem = s.mem ∧
    (v.workFrom b i s).st.pending = s.pending := h b (s.drawAs i)

theorem runVerb_keeps (v : Verb) (b : Barge) (s : State) (h : ∀ b s, (v.run b s).st.mem = s.mem ∧
    (v.run b s).st.pending = s.pending) :
    (runVerb v b s).st.mem = s.mem ∧ (runVerb v b s).st.pending = s.pending := by
  have := v.workFrom_keeps b v.drawer s h
  unfold runVerb; grind

theorem State.finish_keeps (s : State) (v : Verb) (b : Barge) (h : ∀ b s, (v.run b s).st.mem = s.mem ∧
    (v.run b s).st.pending = s.pending) :
    (s.finish v b).mem = s.mem ∧ (s.finish v b).pending = s.pending := by
  unfold State.finish
  grind [State.complete_keeps, runVerb_keeps, State.addRecord_keeps, State.recordIdem_keeps, State.keepClaims_keeps,
    State.noteStalls_keeps, State.modBarge_keeps]

theorem State.takeIn_keeps (s : State) (a1 : Barge) :
    (State.takeIn s a1).mem = s.mem ∧ (State.takeIn s a1).pending = s.pending := by
  unfold State.takeIn; grind [State.busyWith_keeps, State.answerNow_keeps, State.recordIdem_keeps, State.respond_keeps,
      State.enter_keeps]

theorem intake_keeps (b : Barge) (s : State) (refill : Reply → Reply) (work : State → State) (h : ∀ s,
    (work s).mem = s.mem ∧ (work s).pending = s.pending) : (intake b s refill work).mem = s.mem ∧
        (intake b s refill work).pending = s.pending := by
  unfold intake
  grind [State.answerNow_keeps, State.busyWith_keeps, State.respond_keeps, State.enter_keeps, State.recordIdem_keeps]

theorem serve_keeps (v : Verb) (h : ∀ b s, (v.run b s).st.mem = s.mem ∧ (v.run b s).st.pending = s.pending) (b : Barge)
    (s : State) : (serve v b s).mem = s.mem ∧ (serve v b s).pending = s.pending := by
  unfold serve
  exact intake_keeps _ s _ _ fun s => s.finish_keeps v _ h

theorem State.judgeAll_keeps (s : State) :
    (State.judgeAll s).mem = s.mem ∧ (State.judgeAll s).pending = s.pending := by
  unfold State.judgeAll; grind []

theorem State.rebase_keeps (s : State) :
    (State.rebase s).mem = s.mem ∧ (State.rebase s).pending = s.pending := by
  unfold State.rebase; grind []

theorem State.sampleSites_keeps (s : State) (s1 : State) :
    (State.sampleSites s s1).mem = s.mem ∧ (State.sampleSites s s1).pending = s.pending := by
  unfold State.sampleSites; grind [State.tally_keeps]

theorem State.upAll_keeps (s : State) :
    (State.upAll s).mem = s.mem ∧ (State.upAll s).pending = s.pending := by
  unfold State.upAll; grind [State.rebase_keeps]

theorem State.upTo_keeps (s : State) (a1 : Nat) :
    (State.upTo s a1).mem = s.mem ∧ (State.upTo s a1).pending = s.pending := by
  unfold State.upTo; grind [State.judgeAll_keeps, State.sampleSites_keeps]

theorem State.raiseGap_keeps (s : State) (a1 : Nat) :
    (State.raiseGap s a1).mem = s.mem ∧ (State.raiseGap s a1).pending = s.pending := by
  unfold State.raiseGap; grind [State.countSource_keeps]

theorem State.setCounter_keeps (s : State) (a1 : Nat) (a2 : Nat) (a3 : Nat) (a4 : Counter48) :
    (State.setCounter s a1 a2 a3 a4).mem = s.mem ∧ (State.setCounter s a1 a2 a3 a4).pending = s.pending := by
  unfold State.setCounter; grind []

theorem State.stage_keeps (s : State) (a1 : W64) (a2 : Nat) (a3 : Nat) (a4 : W32) (a5 : Bytes) :
    (State.stage s a1 a2 a3 a4 a5).mem = s.mem ∧ (State.stage s a1 a2 a3 a4 a5).pending = s.pending := by
  unfold State.stage; grind []

theorem State.stagePowerLoss_keeps (s : State) :
    (State.stagePowerLoss s).mem = s.mem ∧ (State.stagePowerLoss s).pending = s.pending := by
  unfold State.stagePowerLoss; grind [State.stage_keeps]

theorem State.setTime_keeps (s : State) (a1 : Nat) :
    (State.setTime s a1).mem = s.mem ∧ (State.setTime s a1).pending = s.pending := by
  unfold State.setTime; grind [State.raise_keeps, State.stagePowerLoss_keeps]

theorem counterReadVerb_keeps (b : Barge) (s : State) :
    (counterReadVerb.run b s).st.mem = s.mem ∧ (counterReadVerb.run b s).st.pending = s.pending := by
  simp only [counterReadVerb]; grind [done_keeps]

theorem healthReadVerb_keeps (b : Barge) (s : State) :
    (healthReadVerb.run b s).st.mem = s.mem ∧ (healthReadVerb.run b s).st.pending = s.pending := by
  simp only [healthReadVerb]; grind [done_keeps]

theorem recClearVerb_keeps (b : Barge) (s : State) :
    (recClearVerb.run b s).st.mem = s.mem ∧ (recClearVerb.run b s).st.pending = s.pending := by
  simp only [recClearVerb]; grind [done_keeps]

theorem recReadVerb_keeps (b : Barge) (s : State) :
    (recReadVerb.run b s).st.mem = s.mem ∧ (recReadVerb.run b s).st.pending = s.pending := by
  simp only [recReadVerb]; grind [done_keeps]

theorem recorderDrain_keeps (s : State) :
    (recorderDrain s).mem = s.mem ∧ (recorderDrain s).pending = s.pending := by
  unfold recorderDrain; grind [State.raiseGap_keeps]

theorem timeSetVerb_keeps (b : Barge) (s : State) :
    (timeSetVerb.run b s).st.mem = s.mem ∧ (timeSetVerb.run b s).st.pending = s.pending := by
  simp only [timeSetVerb]; grind [done_keeps, State.setTime_keeps]

theorem timeStatusVerb_keeps (b : Barge) (s : State) :
    (timeStatusVerb.run b s).st.mem = s.mem ∧ (timeStatusVerb.run b s).st.pending = s.pending := by
  simp only [timeStatusVerb]; grind [done_keeps]

theorem State.endSession_keeps (s : State) (a1 : Nat) :
    (State.endSession s a1).mem = s.mem ∧ (State.endSession s a1).pending = s.pending := by
  unfold State.endSession; grind []

theorem State.endSessions_keeps (s : State) (a1 : Session → Bool) :
    (State.endSessions s a1).mem = s.mem ∧ (State.endSessions s a1).pending = s.pending := by
  unfold State.endSessions; simp (disch := (intros; grind [State.endSession_keeps])) only [State.endSession_keeps,
      foldl_mem, foldl_pending]; grind [State.endSession_keeps]

theorem State.checkLogHigh_keeps (s : State) :
    (State.checkLogHigh s).mem = s.mem ∧ (State.checkLogHigh s).pending = s.pending := by
  unfold State.checkLogHigh; grind [State.raise_keeps]

theorem State.makeRoom_keeps (s : State) (a1 : Nat) (a2 : Nat) :
    (State.makeRoom s a1 a2).mem = s.mem ∧ (State.makeRoom s a1 a2).pending = s.pending := by
  fun_induction State.makeRoom s a1 a2 <;> grind []

theorem State.logEntry_keeps (s : State) (a1 : W64) (a2 : Nat) (a3 : Nat) (a4 : W32) (a5 : Nat) (a6 : Nat) (a7 : Bytes) :
    (State.logEntry s a1 a2 a3 a4 a5 a6 a7).mem = s.mem ∧ (State.logEntry s a1 a2 a3 a4 a5 a6 a7).pending = s.pending := by
  unfold State.logEntry; grind [State.makeRoom_keeps, State.checkLogHigh_keeps]

theorem State.evidence_keeps (s : State) (a1 : Nat) (a2 : Bytes) :
    (State.evidence s a1 a2).mem = s.mem ∧ (State.evidence s a1 a2).pending = s.pending := by
  unfold State.evidence; grind [State.logEntry_keeps]

theorem State.countFault_keeps (s : State) :
    (State.countFault s).mem = s.mem ∧ (State.countFault s).pending = s.pending := by
  unfold State.countFault; grind []

theorem State.setBlock_keeps (s : State) (a1 : EngineKind) (a2 : EngineBlock) :
    (State.setBlock s a1 a2).mem = s.mem ∧ (State.setBlock s a1 a2).pending = s.pending := by
  unfold State.setBlock; grind []

theorem State.modEngine_keeps (s : State) (a1 : EngineKind) (a2 : Nat) (a3 : Engine → Engine) :
    (State.modEngine s a1 a2 a3).mem = s.mem ∧ (State.modEngine s a1 a2 a3).pending = s.pending := by
  unfold State.modEngine; grind [State.setBlock_keeps]

theorem State.countOps_keeps (s : State) (a1 : EngineKind) (a2 : Nat) (a3 : Nat) :
    (State.countOps s a1 a2 a3).mem = s.mem ∧ (State.countOps s a1 a2 a3).pending = s.pending := by
  unfold State.countOps; grind [State.modEngine_keeps]

theorem State.mapSpare_keeps (s : State) (a1 : EngineKind) (a2 : Nat) :
    (State.mapSpare s a1 a2).mem = s.mem ∧ (State.mapSpare s a1 a2).pending = s.pending := by
  unfold State.mapSpare; grind [State.raise_keeps, State.modEngine_keeps]

theorem State.fillPlaces_keeps (s : State) (a1 : EngineKind) :
    (State.fillPlaces s a1).mem = s.mem ∧ (State.fillPlaces s a1).pending = s.pending := by
  unfold State.fillPlaces; simp (disch := (intros; grind [State.mapSpare_keeps])) only [State.mapSpare_keeps, foldl_mem,
      foldl_pending]; grind [State.mapSpare_keeps]

theorem State.firmwareJobs_keeps (s : State) (a1 : EngineKind) :
    (State.firmwareJobs s a1).mem = s.mem ∧ (State.firmwareJobs s a1).pending = s.pending := by
  unfold State.firmwareJobs; simp (disch := (intros; grind [State.countOps_keeps,
      State.freeNat_keeps])) only [State.countOps_keeps, State.freeNat_keeps, foldl_mem,
          foldl_pending]; grind [State.countOps_keeps, State.freeNat_keeps]

theorem State.firstReady_keeps (s : State) :
    (State.firstReady s).mem = s.mem ∧ (State.firstReady s).pending = s.pending := by
  unfold State.firstReady; grind [State.evidence_keeps]

theorem State.formReport_keeps (s : State) :
    (State.formReport s).mem = s.mem ∧ (State.formReport s).pending = s.pending := by
  unfold State.formReport; grind []

theorem State.refreshReady_keeps (s : State) :
    (State.refreshReady s).mem = s.mem ∧ (State.refreshReady s).pending = s.pending := by
  unfold State.refreshReady; grind [State.firstReady_keeps]

theorem State.copySeeds_keeps (s : State) (s1 : State) (a2 : EngineKind) (a3 : Nat) :
    (State.copySeeds s s1 a2 a3).mem = s.mem ∧ (State.copySeeds s s1 a2 a3).pending = s.pending := by
  unfold State.copySeeds; grind [State.noteStalls_keeps, State.modEngine_keeps]

theorem State.seedCore_keeps (s : State) (a1 : EngineKind) (a2 : Nat) :
    (State.seedCore s a1 a2).mem = s.mem ∧ (State.seedCore s a1 a2).pending = s.pending := by
  unfold State.seedCore; grind [State.noteStalls_keeps, State.modEngine_keeps, State.drawFrom_keeps]

theorem State.countBlocks_keeps (s : State) (a1 : EngineKind) (a2 : Nat) (a3 : JobWork) :
    (State.countBlocks s a1 a2 a3).mem = s.mem ∧ (State.countBlocks s a1 a2 a3).pending = s.pending := by
  unfold State.countBlocks; simp (disch := (intros; grind [State.seedCore_keeps, State.modEngine_keeps,
      State.freeNat_keeps, State.countSite_keeps])) only [State.seedCore_keeps, State.modEngine_keeps, State.freeNat_keeps,
          State.countSite_keeps, foldl_mem, foldl_pending]; grind [State.seedCore_keeps, State.modEngine_keeps,
              State.freeNat_keeps, State.countSite_keeps]

theorem State.localDraw_keeps (s : State) (a1 : EngineKind) (a2 : Nat) (a3 : Nat) :
    (State.localDraw s a1 a2 a3).2.mem = s.mem ∧ (State.localDraw s a1 a2 a3).2.pending = s.pending := by
  unfold State.localDraw; grind [State.modEngine_keeps]

theorem State.drawShuffle_keeps (s : State) (a1 : Nat) (a2 : Nat) :
    (State.drawShuffle s a1 a2).2.mem = s.mem ∧ (State.drawShuffle s a1 a2).2.pending = s.pending := by
  unfold State.drawShuffle; grind [State.localDraw_keeps]

theorem State.hmacJob_keeps (s : State) :
    (State.hmacJob s).mem = s.mem ∧ (State.hmacJob s).pending = s.pending := by
  unfold State.hmacJob; grind [State.countOps_keeps, State.freeNat_keeps]

theorem State.maskedSlots_keeps (s : State) (a1 : Nat) :
    (State.maskedSlots s a1).mem = s.mem ∧ (State.maskedSlots s a1).pending = s.pending := by
  unfold State.maskedSlots; simp (disch := (intros; grind [State.modEngine_keeps,
      State.localDraw_keeps])) only [State.modEngine_keeps, State.localDraw_keeps, foldl_mem,
          foldl_pending]; grind [State.modEngine_keeps, State.localDraw_keeps]

theorem State.joinOutput_keeps (s : State) (a1 : EngineKind) (a2 : Nat) :
    (State.joinOutput s a1 a2).mem = s.mem ∧ (State.joinOutput s a1 a2).pending = s.pending := by
  unfold State.joinOutput; grind [State.modEngine_keeps, State.maskedSlots_keeps]

theorem State.share_keeps (s : State) (a1 : Nat) (a2 : Bytes) :
    (State.share s a1 a2).2.mem = s.mem ∧ (State.share s a1 a2).2.pending = s.pending := by
  unfold State.share; grind [State.localDraw_keeps]

theorem State.loadBlock_keeps (s : State) (a1 : EngineKind) (a2 : Nat) (a3 : Nat) (a4 : Bytes) :
    (State.loadBlock s a1 a2 a3 a4).mem = s.mem ∧ (State.loadBlock s a1 a2 a3 a4).pending = s.pending := by
  unfold State.loadBlock; grind [State.modEngine_keeps, State.share_keeps, State.drawShuffle_keeps]

theorem State.loadKey_keeps (s : State) (a1 : EngineKind) (a2 : Nat) (a3 : Bytes) (a4 : Nat) :
    (State.loadKey s a1 a2 a3 a4).mem = s.mem ∧ (State.loadKey s a1 a2 a3 a4).pending = s.pending := by
  unfold State.loadKey; grind [State.seedCore_keeps, State.modEngine_keeps, State.localDraw_keeps]

theorem State.saveJob_keeps (s : State) (a1 : Nat) (a2 : Nat) (a3 : Nat) (a4 : W64) :
    (State.saveJob s a1 a2 a3 a4).mem = s.mem ∧ (State.saveJob s a1 a2 a3 a4).pending = s.pending := by
  unfold State.saveJob; split <;> grind [State.freeBytes_keeps, State.modEngine_keeps, State.freeNat_keeps, State.share_keeps]

theorem State.setUp_keeps (s : State) (a1 : EngineKind) (a2 : Nat) (a3 : Nat) (a4 : Bytes) (a5 : Bytes) (a6 : Nat) :
    (State.setUp s a1 a2 a3 a4 a5 a6).mem = s.mem ∧ (State.setUp s a1 a2 a3 a4 a5 a6).pending = s.pending := by
  unfold State.setUp; simp (disch := (intros; grind [State.loadKey_keeps,
      State.loadBlock_keeps])) only [State.loadKey_keeps, State.loadBlock_keeps, foldl_mem,
          foldl_pending]; grind [State.loadKey_keeps, State.loadBlock_keeps]

theorem State.shuffledJob_keeps (s : State) (a1 : List Nat) (a2 : JobWork) :
    (State.shuffledJob s a1 a2).mem = s.mem ∧ (State.shuffledJob s a1 a2).pending = s.pending := by
  unfold State.shuffledJob; split <;> grind [State.freeNat_keeps, State.countBlocks_keeps]

theorem State.unstage_keeps (s : State) (a1 : Nat) :
    (State.unstage s a1).mem = s.mem ∧ (State.unstage s a1).pending = s.pending := by
  unfold State.unstage; grind []

theorem State.setBucket_keeps (s : State) (a1 : Nat × Nat × Nat) (a2 : Nat) :
    (State.setBucket s a1 a2).mem = s.mem ∧ (State.setBucket s a1 a2).pending = s.pending := by
  unfold State.setBucket; grind []

theorem State.returnCharge_keeps (s : State) (a1 : BargeRec) :
    (State.returnCharge s a1).mem = s.mem ∧ (State.returnCharge s a1).pending = s.pending := by
  unfold State.returnCharge; grind [State.setBucket_keeps]

theorem State.removeWaiting_keeps (s : State) (a1 : Nat) (a2 : W32) :
    (State.removeWaiting s a1 a2).mem = s.mem ∧ (State.removeWaiting s a1 a2).pending = s.pending := by
  unfold State.removeWaiting; simp (disch := (intros; grind [State.dropBarge_keeps,
      State.returnCharge_keeps])) only [State.dropBarge_keeps, State.returnCharge_keeps, foldl_mem,
          foldl_pending]; grind [State.dropBarge_keeps, State.returnCharge_keeps]

end Sys2Proof.Machine
end

