-- ==== Sys2Proof/Laws/KeepsSessions.lean ====
section
/-! SUPPORT. What leaves memory and the queue alone, of the wharf and sessions: one law per operation. -/

set_option Elab.async false
set_option linter.unusedSimpArgs false

namespace Sys2Proof.Machine

theorem State.countFec_keeps (s : State) (a1 : HostFrame) :
    (State.countFec s a1).mem = s.mem ∧ (State.countFec s a1).pending = s.pending := by
  unfold State.countFec; grind [State.modLink_keeps, State.countSite_keeps]

theorem State.modPtp_keeps (s : State) (a1 : Nat) (a2 : PtpPort → PtpPort) :
    (State.modPtp s a1 a2).mem = s.mem ∧ (State.modPtp s a1 a2).pending = s.pending := by
  unfold State.modPtp; grind []

theorem State.delayRequest_keeps (s : State) (a1 : Nat) (a2 : Nat) (a3 : Nat) :
    (State.delayRequest s a1 a2 a3).mem = s.mem ∧ (State.delayRequest s a1 a2 a3).pending = s.pending := by
  unfold State.delayRequest; grind [State.modPtp_keeps, State.emit_keeps]

theorem State.moveClock_keeps (s : State) (a1 : Int) :
    (State.moveClock s a1).mem = s.mem ∧ (State.moveClock s a1).pending = s.pending := by
  unfold State.moveClock; grind []

theorem State.discipline_keeps (s : State) (a1 : Int) (a2 : Nat) :
    (State.discipline s a1 a2).mem = s.mem ∧ (State.discipline s a1 a2).pending = s.pending := by
  unfold State.discipline; grind [State.setTime_keeps, State.level_keeps, State.moveClock_keeps, State.raise_keeps]

theorem State.dropFrame_keeps (s : State) (a1 : Nat) :
    (State.dropFrame s a1).mem = s.mem ∧ (State.dropFrame s a1).pending = s.pending := by
  unfold State.dropFrame; grind [State.modLink_keeps]

theorem State.handOn_keeps (s : State) (a1 : Nat) (a2 : Option Nat) (a3 : Bytes) :
    (State.handOn s a1 a2 a3).mem = s.mem ∧ (State.handOn s a1 a2 a3).pending = s.pending := by
  unfold State.handOn; grind []

theorem State.ptpUnlock_keeps (s : State) (a1 : Nat) :
    (State.ptpUnlock s a1).mem = s.mem ∧ (State.ptpUnlock s a1).pending = s.pending := by
  unfold State.ptpUnlock; grind [State.level_keeps]

theorem State.linkDown_keeps (s : State) (a1 : Nat) :
    (State.linkDown s a1).mem = s.mem ∧ (State.linkDown s a1).pending = s.pending := by
  unfold State.linkDown; grind [State.ptpUnlock_keeps, State.modLink_keeps, State.raise_keeps]

theorem State.linkUp_keeps (s : State) (a1 : Nat) (a2 : Nat) (a3 : Nat) :
    (State.linkUp s a1 a2 a3).mem = s.mem ∧ (State.linkUp s a1 a2 a3).pending = s.pending := by
  unfold State.linkUp; grind [State.modLink_keeps, State.raise_keeps]

theorem State.measure_keeps (s : State) (a1 : Nat) (a2 : Nat) (a3 : Nat) :
    (State.measure s a1 a2 a3).mem = s.mem ∧ (State.measure s a1 a2 a3).pending = s.pending := by
  unfold State.measure; grind [State.modPtp_keeps, State.level_keeps, State.discipline_keeps]

theorem State.trainFail_keeps (s : State) (a1 : Nat) :
    (State.trainFail s a1).mem = s.mem ∧ (State.trainFail s a1).pending = s.pending := by
  unfold State.trainFail; grind [State.raise_keeps, State.modLink_keeps]

theorem State.wake_keeps (s : State) :
    (State.wake s).mem = s.mem ∧ (State.wake s).pending = s.pending := by
  unfold State.wake
  (repeat' split) <;> first
    | grind [State.upAll_keeps, State.handOn_keeps, State.raise_keeps]
    | (simp (disch := (intros; grind [State.upAll_keeps, State.handOn_keeps, State.raise_keeps])) only [State.upAll_keeps,
        State.handOn_keeps, State.raise_keeps, foldl_mem, foldl_pending]; done)
    | (simp (disch := (intros; grind [State.upAll_keeps, State.handOn_keeps, State.raise_keeps])) only [State.upAll_keeps,
        State.handOn_keeps, State.raise_keeps, foldl_mem, foldl_pending]; grind [State.upAll_keeps, State.handOn_keeps,
            State.raise_keeps])

theorem State.alertClear_keeps (s : State) (a1 : Datagram) (a2 : W16) :
    (State.alertClear s a1 a2).mem = s.mem ∧ (State.alertClear s a1 a2).pending = s.pending := by
  unfold State.alertClear; grind [State.sendClear_keeps]

theorem State.alertHandshake_keeps (s : State) (a1 : Nat) (a2 : HalfOpen) (a3 : W16) :
    (State.alertHandshake s a1 a2 a3).mem = s.mem ∧ (State.alertHandshake s a1 a2 a3).pending = s.pending := by
  unfold State.alertHandshake; grind [State.emit_keeps]

theorem State.closeTcp_keeps (s : State) (a1 : Nat) (a2 : Session) :
    (State.closeTcp s a1 a2).mem = s.mem ∧ (State.closeTcp s a1 a2).pending = s.pending := by
  unfold State.closeTcp; grind [State.endSession_keeps, State.emit_keeps]

theorem State.dropAuth_keeps (s : State) (a1 : Nat) :
    (State.dropAuth s a1).mem = s.mem ∧ (State.dropAuth s a1).pending = s.pending := by
  unfold State.dropAuth; grind [State.raise_keeps, State.modLink_keeps]

theorem State.endIdle_keeps (s : State) :
    (State.endIdle s).mem = s.mem ∧ (State.endIdle s).pending = s.pending := by
  unfold State.endIdle; grind []

theorem State.establish_keeps (s : State) (a1 : Nat) (a2 : HalfOpen) (a3 : Datagram) (a4 : Nat) (a5 : Bytes) (a6 : Nat)
    (a7 : Bytes) :
    (State.establish s a1 a2 a3 a4 a5 a6 a7).mem = s.mem ∧ (State.establish s a1 a2 a3 a4 a5 a6 a7).pending = s.pending := by
  unfold State.establish; grind [State.sendSealed_keeps]

theorem State.helloM_keeps (s : State) (a1 : Datagram) (a2 : Bytes) :
    (State.helloM s a1 a2).mem = s.mem ∧ (State.helloM s a1 a2).pending = s.pending := by
  unfold State.helloM; grind [State.noteStalls_keeps, State.firmwareJobs_keeps, State.drawFrom_keeps, State.emit_keeps]

theorem State.resetHint_keeps (s : State) (a1 : Datagram) :
    (State.resetHint s a1).mem = s.mem ∧ (State.resetHint s a1).pending = s.pending := by
  unfold State.resetHint; grind [State.modLink_keeps, State.sendClear_keeps]

theorem State.openDatagram_keeps (s : State) (a1 : Nat) (a2 : Datagram) :
    (State.openDatagram s a1 a2).1.mem = s.mem ∧ (State.openDatagram s a1 a2).1.pending = s.pending := by
  unfold State.openDatagram; grind [State.modLink_keeps, State.modSession_keeps, State.sendSealed_keeps,
      State.resetHint_keeps, State.countSite_keeps, State.dropAuth_keeps, State.endSession_keeps]

theorem State.tlsFull_keeps (s : State) (a1 : TlsHello) :
    (State.tlsFull s a1).mem = s.mem ∧ (State.tlsFull s a1).pending = s.pending := by
  unfold State.tlsFull; grind [State.raise_keeps, State.emit_keeps]

theorem State.tlsKeyUpdate_keeps (s : State) (a1 : Nat) (a2 : Bytes) (a3 : Bool) :
    (State.tlsKeyUpdate s a1 a2 a3).mem = s.mem ∧ (State.tlsKeyUpdate s a1 a2 a3).pending = s.pending := by
  unfold State.tlsKeyUpdate; grind [State.modSession_keeps]

theorem idleAnnounceVerb_keeps (b : Barge) (s : State) :
    (idleAnnounceVerb.run b s).st.mem = s.mem ∧ (idleAnnounceVerb.run b s).st.pending = s.pending := by
  simp only [idleAnnounceVerb]; grind [done_keeps]

theorem moduleInfoVerb_keeps (b : Barge) (s : State) :
    (moduleInfoVerb.run b s).st.mem = s.mem ∧ (moduleInfoVerb.run b s).st.pending = s.pending := by
  simp only [moduleInfoVerb]; grind [done_keeps]

theorem moduleInfoDx6100Verb_keeps (b : Barge) (s : State) :
    (moduleInfoDx6100Verb.run b s).st.mem = s.mem ∧ (moduleInfoDx6100Verb.run b s).st.pending = s.pending := by
  simp only [moduleInfoDx6100Verb]; grind [done_keeps]

theorem sessionInfoVerb_keeps (b : Barge) (s : State) :
    (sessionInfoVerb.run b s).st.mem = s.mem ∧ (sessionInfoVerb.run b s).st.pending = s.pending := by
  simp only [sessionInfoVerb]; grind [done_keeps]

end Sys2Proof.Machine
end

