-- ==== Sys2Proof/Laws/KeepsKeys.lean ====
section
/-! SUPPORT. What leaves memory and the queue alone, of keys, shredding, engine state,
    the key store and custody: one law per operation. -/

set_option Elab.async false
set_option linter.unusedSimpArgs false

namespace Sys2Proof.Machine

theorem State.addUnit_keeps (s : State) (a1 : KeyRef) (a2 : W64) (a3 : Nat) (a4 : Nat) :
    (State.addUnit s a1 a2 a3 a4).mem = s.mem ∧ (State.addUnit s a1 a2 a3 a4).pending = s.pending := by
  unfold State.addUnit; grind [State.writeSlot_keeps]

theorem State.putCounter_keeps (s : State) (a1 : KeyRef) (a2 : Counter) :
    (State.putCounter s a1 a2).mem = s.mem ∧ (State.putCounter s a1 a2).pending = s.pending := by
  unfold State.putCounter; grind []

theorem State.reserve_keeps (s : State) (a1 : KeyRef) (a2 : W64) (a3 : Nat) (a4 : Bool) :
    (State.reserve s a1 a2 a3 a4).mem = s.mem ∧ (State.reserve s a1 a2 a3 a4).pending = s.pending := by
  unfold State.reserve; grind [State.mutate_keeps]

theorem State.takeBlock_keeps (s : State) (a1 : KeyRef) (a2 : W64) (a3 : Nat) (a4 : Nat) (a5 : Nat) :
    (State.takeBlock s a1 a2 a3 a4 a5).mem = s.mem ∧ (State.takeBlock s a1 a2 a3 a4 a5).pending = s.pending := by
  unfold State.takeBlock; grind [State.reserve_keeps, State.writeSlot_keeps]

theorem State.ledgerFor_keeps (s : State) (a1 : W64) (a2 : Nat) :
    (State.ledgerFor s a1 a2).2.mem = s.mem ∧ (State.ledgerFor s a1 a2).2.pending = s.pending := by
  unfold State.ledgerFor; grind [State.freeNat_keeps]

theorem State.claimUnit_keeps (s : State) (a1 : KeyRef) (a2 : W64) (a3 : Nat) :
    (State.claimUnit s a1 a2 a3).mem = s.mem ∧ (State.claimUnit s a1 a2 a3).pending = s.pending := by
  unfold State.claimUnit; grind [State.reserve_keeps, State.ledgerFor_keeps, State.addUnit_keeps, State.sendInterlink_keeps]

theorem State.readyBlock_keeps (s : State) (a1 : KeyRef) (a2 : W64) (a3 : Nat) (a4 : Nat) (a5 : Nat) :
    (State.readyBlock s a1 a2 a3 a4 a5).1.mem = s.mem ∧ (State.readyBlock s a1 a2 a3 a4 a5).1.pending = s.pending := by
  unfold State.readyBlock; grind [State.takeBlock_keeps, State.claimUnit_keeps]

theorem State.nextBlock_keeps (s : State) (a1 : KeyRef) (a2 : W64) (a3 : Nat) (a4 : Nat) (a5 : Counter) (a6 : Nat) :
    (State.nextBlock s a1 a2 a3 a4 a5 a6).1.mem = s.mem ∧ (State.nextBlock s a1 a2 a3 a4 a5 a6).1.pending = s.pending := by
  unfold State.nextBlock; grind [State.putCounter_keeps, State.readyBlock_keeps]

theorem State.blockInUse_keeps (s : State) (a1 : KeyRef) (a2 : W64) (a3 : Nat) (a4 : Nat) :
    (State.blockInUse s a1 a2 a3 a4).1.mem = s.mem ∧ (State.blockInUse s a1 a2 a3 a4).1.pending = s.pending := by
  unfold State.blockInUse; grind [State.nextBlock_keeps]

theorem State.cacheWrite_keeps (s : State) (a1 : Nat) (a2 : W32) (a3 : W64) (a4 : W64) (a5 : W64) (a6 : Bytes)
    (a7 : Option CacheEntry) (a8 : List CacheEntry) :
    (State.cacheWrite s a1 a2 a3 a4 a5 a6 a7 a8).1.mem = s.mem ∧
        (State.cacheWrite s a1 a2 a3 a4 a5 a6 a7 a8).1.pending = s.pending := by
  unfold State.cacheWrite; grind []

theorem State.quarantine_keeps (s : State) (a1 : Nat) :
    (State.quarantine s a1).mem = s.mem ∧ (State.quarantine s a1).pending = s.pending := by
  unfold State.quarantine; grind [State.raise_keeps, State.setSlot_keeps]

theorem State.checkTag_keeps (s : State) (a1 : Nat) :
    (State.checkTag s a1).1.mem = s.mem ∧ (State.checkTag s a1).1.pending = s.pending := by
  unfold State.checkTag; grind [State.quarantine_keeps]

theorem State.claimAhead_keeps (s : State) (a1 : KeyRef) (a2 : W64) (a3 : Nat) (a4 : Nat) (a5 : Nat) :
    (State.claimAhead s a1 a2 a3 a4 a5).mem = s.mem ∧ (State.claimAhead s a1 a2 a3 a4 a5).pending = s.pending := by
  unfold State.claimAhead; grind [State.claimUnit_keeps]

theorem State.issueNext_keeps (s : State) (a1 : KeyRef) (a2 : W64) (a3 : Bytes) (a4 : Nat) (a5 : Nat) (a6 : Counter) :
    (State.issueNext s a1 a2 a3 a4 a5 a6).mem = s.mem ∧ (State.issueNext s a1 a2 a3 a4 a5 a6).pending = s.pending := by
  unfold State.issueNext; grind [State.putCounter_keeps, State.readyBlock_keeps, State.claimAhead_keeps]

theorem State.issue_keeps (s : State) (a1 : KeyRef) (a2 : W64) (a3 : Bytes) (a4 : Nat) (a5 : Nat) :
    (State.issue s a1 a2 a3 a4 a5).1.mem = s.mem ∧ (State.issue s a1 a2 a3 a4 a5).1.pending = s.pending := by
  unfold State.issue; grind [State.blockInUse_keeps, State.issueNext_keeps]

theorem State.countKek_keeps (s : State) (a1 : CacheEntry) :
    (State.countKek s a1).1.mem = s.mem ∧ (State.countKek s a1).1.pending = s.pending := by
  unfold State.countKek; grind [State.issue_keeps]

theorem State.countSlot_keeps (s : State) (a1 : Nat) (a2 : Bytes) :
    (State.countSlot s a1 a2).1.mem = s.mem ∧ (State.countSlot s a1 a2).1.pending = s.pending := by
  unfold State.countSlot; grind [State.draw_keeps, State.issue_keeps]

theorem State.pruneRegister_keeps (s : State) :
    (State.pruneRegister s).mem = s.mem ∧ (State.pruneRegister s).pending = s.pending := by
  unfold State.pruneRegister; grind []

theorem State.enterShred_keeps (s : State) (a1 : Nat × Nat × W32 × W64) (x) (h : State.enterShred s a1 = some x) :
    x.mem = s.mem ∧ x.pending = s.pending := by
  unfold State.enterShred at h; grind [State.pruneRegister_keeps]

theorem State.eraseSlot_keeps (s : State) (a1 : Nat) :
    (State.eraseSlot s a1).mem = s.mem ∧ (State.eraseSlot s a1).pending = s.pending := by
  unfold State.eraseSlot; grind [State.writeSlot_keeps]

theorem State.fetch_keeps (s : State) (a1 : Nat) :
    (State.fetch s a1).1.mem = s.mem ∧ (State.fetch s a1).1.pending = s.pending := by
  unfold State.fetch; grind [State.checkTag_keeps]

theorem State.formHck_keeps (s : State) :
    (State.formHck s).mem = s.mem ∧ (State.formHck s).pending = s.pending := by
  unfold State.formHck; grind []

theorem State.loadBlob_keeps (s : State) (a1 : Nat) (a2 : Bytes) (a3 : Option W64) (a4 : List CacheEntry) :
    (State.loadBlob s a1 a2 a3 a4).1.mem = s.mem ∧ (State.loadBlob s a1 a2 a3 a4).1.pending = s.pending := by
  unfold State.loadBlob; grind [State.cacheWrite_keeps]

theorem State.missKek_keeps (s : State) (a1 : Nat) (a2 : W64) (a3 : Option Bytes) (a4 : Nat) (a5 : List CacheEntry) :
    (State.missKek s a1 a2 a3 a4 a5).1.mem = s.mem ∧ (State.missKek s a1 a2 a3 a4 a5).1.pending = s.pending := by
  unfold State.missKek; grind [State.loadBlob_keeps]

theorem State.openLedger_keeps (s : State) (a1 : W64) (a2 : Nat) :
    (State.openLedger s a1 a2).mem = s.mem ∧ (State.openLedger s a1 a2).pending = s.pending := by
  unfold State.openLedger; grind []

theorem State.placeKey_keeps (s : State) (a1 : Nat) (a2 : Nat) (a3 : SlotState) (a4 : W64) (a5 : Nat) (a6 : Nat)
    (a7 : W64) (a8 : W64) (a9 : W64) (a10 : Bytes) :
    (State.placeKey s a1 a2 a3 a4 a5 a6 a7 a8 a9 a10).mem = s.mem ∧
        (State.placeKey s a1 a2 a3 a4 a5 a6 a7 a8 a9 a10).pending = s.pending := by
  unfold State.placeKey; grind [State.writeSlot_keeps]

theorem State.touchEntry_keeps (s : State) (a1 : CacheEntry) :
    (State.touchEntry s a1).mem = s.mem ∧ (State.touchEntry s a1).pending = s.pending := by
  unfold State.touchEntry; grind []

theorem State.selectKek_keeps (s : State) (a1 : Nat) (a2 : Bytes) (a3 : Option Bytes) (a4 : Nat) (a5 : List CacheEntry) :
    (State.selectKek s a1 a2 a3 a4 a5).1.mem = s.mem ∧ (State.selectKek s a1 a2 a3 a4 a5).1.pending = s.pending := by
  unfold State.selectKek; grind [State.touchEntry_keeps, State.missKek_keeps]

theorem State.sweepCache_keeps (s : State) :
    (State.sweepCache s).mem = s.mem ∧ (State.sweepCache s).pending = s.pending := by
  unfold State.sweepCache; grind []

theorem State.useKek_keeps (s : State) (a1 : Nat) (a2 : Bytes) (a3 : Option Bytes) (a4 : Nat) (a5 : Nat)
    (a6 : List CacheEntry) :
    (State.useKek s a1 a2 a3 a4 a5 a6).1.mem = s.mem ∧ (State.useKek s a1 a2 a3 a4 a5 a6).1.pending = s.pending := by
  unfold State.useKek; grind [State.selectKek_keeps]

theorem State.useKey_keeps (s : State) (a1 : Nat) (a2 : Nat) (a3 : Nat) :
    (State.useKey s a1 a2 a3).1.mem = s.mem ∧ (State.useKey s a1 a2 a3).1.pending = s.pending := by
  unfold State.useKey; grind [State.fetch_keeps]

theorem State.advanceEpoch_keeps (s : State) (a1 : Nat) :
    (State.advanceEpoch s a1).mem = s.mem ∧ (State.advanceEpoch s a1).pending = s.pending := by
  unfold State.advanceEpoch; grind [State.eraseSlot_keeps, State.writeSlot_keeps]

theorem State.dropKek_keeps (s : State) (a1 : Nat) (a2 : W32) (a3 : W64) :
    (State.dropKek s a1 a2 a3).mem = s.mem ∧ (State.dropKek s a1 a2 a3).pending = s.pending := by
  unfold State.dropKek; grind []

theorem State.mirror_keeps (s : State) (s1 : State) (a2 : List Touch) :
    (State.mirror s s1 a2).mem = s.mem ∧ (State.mirror s s1 a2).pending = s.pending := by
  unfold State.mirror; grind [State.publish_keeps, State.mirrorOnly_keeps]

theorem State.shredErase_keeps (s : State) (a1 : Nat) (a2 : ShredSeq) :
    (State.shredErase s a1 a2).mem = s.mem ∧ (State.shredErase s a1 a2).pending = s.pending := by
  unfold State.shredErase
  (repeat' split) <;> first
    | grind [State.eraseSlot_keeps, State.dropKek_keeps, State.mirror_keeps]
    | (simp (disch := (intros; grind [State.eraseSlot_keeps, State.dropKek_keeps,
        State.mirror_keeps])) only [State.eraseSlot_keeps, State.dropKek_keeps, State.mirror_keeps, foldl_mem,
            foldl_pending]; done)
    | (simp (disch := (intros; grind [State.eraseSlot_keeps, State.dropKek_keeps,
        State.mirror_keeps])) only [State.eraseSlot_keeps, State.dropKek_keeps, State.mirror_keeps, foldl_mem,
            foldl_pending]; grind [State.eraseSlot_keeps, State.dropKek_keeps, State.mirror_keeps])

theorem State.shredAdvance_keeps (s : State) (a1 : Nat) :
    (State.shredAdvance s a1).mem = s.mem ∧ (State.shredAdvance s a1).pending = s.pending := by
  unfold State.shredAdvance
  (repeat' split) <;> first
    | grind [State.evidence_keeps, State.answer_keeps]
    | (simp (disch := (intros; grind [State.evidence_keeps, State.answer_keeps])) only [State.evidence_keeps,
        State.answer_keeps, foldl_mem, foldl_pending]; done)
    | (simp (disch := (intros; grind [State.evidence_keeps, State.answer_keeps])) only [State.evidence_keeps,
        State.answer_keeps, foldl_mem, foldl_pending]; grind [State.evidence_keeps, State.answer_keeps])

theorem State.resumeShred_keeps (s : State) (a1 : Nat × ShredSeq) :
    (State.resumeShred s a1).mem = s.mem ∧ (State.resumeShred s a1).pending = s.pending := by
  unfold State.resumeShred; grind [State.shredErase_keeps, State.shredAdvance_keeps]

theorem State.shredKey_keeps (s : State) (a1 : Nat) (a2 : Waiter) :
    (State.shredKey s a1 a2).mem = s.mem ∧ (State.shredKey s a1 a2).pending = s.pending := by
  unfold State.shredKey; simp (disch := (intros; grind [State.advanceEpoch_keeps, State.mirror_keeps,
      State.domainChange_keeps])) only [State.advanceEpoch_keeps, State.mirror_keeps, State.domainChange_keeps, foldl_mem,
          foldl_pending]; grind [State.advanceEpoch_keeps, State.mirror_keeps, State.domainChange_keeps]

theorem State.alarmLine_keeps (s : State) (a1 : Nat) :
    (State.alarmLine s a1).mem = s.mem ∧ (State.alarmLine s a1).pending = s.pending := by
  unfold State.alarmLine; grind []

theorem State.freeEngine_keeps (s : State) (a1 : Job) :
    (State.freeEngine s a1).mem = s.mem ∧ (State.freeEngine s a1).pending = s.pending := by
  unfold State.freeEngine
  dsimp only
  (repeat' split) <;> first
    | exact ⟨rfl, rfl⟩
    | grind [State.modEngine_keeps, State.fillPlaces_keeps]
    | (simp (disch := (intros; grind [State.modEngine_keeps, State.fillPlaces_keeps])) only [State.modEngine_keeps,
        State.fillPlaces_keeps, foldl_mem, foldl_pending]; done)
    | (simp (disch := (intros; grind [State.modEngine_keeps, State.fillPlaces_keeps])) only [State.modEngine_keeps,
        State.fillPlaces_keeps, foldl_mem, foldl_pending]; grind [State.modEngine_keeps, State.fillPlaces_keeps])

theorem State.releaseHolds_keeps (s : State) (a1 : Nat) :
    (State.releaseHolds s a1).mem = s.mem ∧ (State.releaseHolds s a1).pending = s.pending := by
  unfold State.releaseHolds; grind [State.unstage_keeps]

theorem State.undoBarge_keeps (s : State) (a1 : BargeRec) :
    (State.undoBarge s a1).mem = s.mem ∧ (State.undoBarge s a1).pending = s.pending := by
  unfold State.undoBarge; simp (disch := (intros; grind [State.restorePrior_keeps])) only [State.restorePrior_keeps,
      foldl_mem, foldl_pending]; grind [State.restorePrior_keeps]

theorem State.endJob_keeps (s : State) (a1 : Nat) (a2 : W16) :
    (State.endJob s a1 a2).mem = s.mem ∧ (State.endJob s a1 a2).pending = s.pending := by
  unfold State.endJob; grind [State.modBarge_keeps, State.releaseHolds_keeps, State.freeEngine_keeps, State.undoBarge_keeps]

theorem State.endJobs_keeps (s : State) (a1 : EngineKind) (a2 : Nat) (a3 : W16) :
    (State.endJobs s a1 a2 a3).mem = s.mem ∧ (State.endJobs s a1 a2 a3).pending = s.pending := by
  unfold State.endJobs; simp (disch := (intros; grind [State.endJob_keeps])) only [State.endJob_keeps, foldl_mem,
      foldl_pending]; grind [State.endJob_keeps]

theorem State.endKindJobs_keeps (s : State) (a1 : EngineKind) :
    (State.endKindJobs s a1).mem = s.mem ∧ (State.endKindJobs s a1).pending = s.pending := by
  unfold State.endKindJobs; simp (disch := (intros; grind [State.endJobs_keeps])) only [State.endJobs_keeps, foldl_mem,
      foldl_pending]; grind [State.endJobs_keeps]

theorem State.faultEngine_keeps (s : State) (a1 : EngineKind) (a2 : Nat) (a3 : W32) (a4 : W16) :
    (State.faultEngine s a1 a2 a3 a4).mem = s.mem ∧ (State.faultEngine s a1 a2 a3 a4).pending = s.pending := by
  unfold State.faultEngine; grind [State.endJobs_keeps, State.modEngine_keeps, State.raise_keeps, State.countFault_keeps,
      State.mapSpare_keeps, State.level_keeps, State.setBlock_keeps, State.refreshReady_keeps, State.alarmLine_keeps]

theorem State.voidChamber_keeps (s : State) (a1 : Nat) :
    (State.voidChamber s a1).mem = s.mem ∧ (State.voidChamber s a1).pending = s.pending := by
  unfold State.voidChamber; grind [State.modBarge_keeps, State.undoBarge_keeps]

theorem State.islandReset_keeps (s : State) (a1 : Nat) :
    (State.islandReset s a1).mem = s.mem ∧ (State.islandReset s a1).pending = s.pending := by
  unfold State.islandReset
  (repeat' split) <;> first
    | grind [State.setInstance_keeps, State.setBlock_keeps, State.raise_keeps, State.endKindJobs_keeps, State.voidChamber_keeps]
    | (simp (disch := (intros; grind [State.setInstance_keeps, State.setBlock_keeps, State.raise_keeps,
        State.endKindJobs_keeps, State.voidChamber_keeps])) only [State.setInstance_keeps, State.setBlock_keeps,
            State.raise_keeps, State.endKindJobs_keeps, State.voidChamber_keeps, foldl_mem, foldl_pending]; done)
    | (simp (disch := (intros; grind [State.setInstance_keeps, State.setBlock_keeps, State.raise_keeps,
        State.endKindJobs_keeps, State.voidChamber_keeps])) only [State.setInstance_keeps, State.setBlock_keeps,
            State.raise_keeps, State.endKindJobs_keeps, State.voidChamber_keeps, foldl_mem,
                foldl_pending]; grind [State.setInstance_keeps, State.setBlock_keeps, State.raise_keeps,
                    State.endKindJobs_keeps, State.voidChamber_keeps])

theorem State.returnEngine_keeps (s : State) (a1 : EngineKind) (a2 : Nat) (a3 : Bool) :
    (State.returnEngine s a1 a2 a3).mem = s.mem ∧ (State.returnEngine s a1 a2 a3).pending = s.pending := by
  unfold State.returnEngine; grind [State.refreshReady_keeps, State.modEngine_keeps]

theorem State.envelope_keeps (s : State) (a1 : Bytes) (a2 : Bytes) (a3 : Bytes) (a4 : Bytes) (a5 : Bytes) :
    (State.envelope s a1 a2 a3 a4 a5).2.mem = s.mem ∧ (State.envelope s a1 a2 a3 a4 a5).2.pending = s.pending := by
  unfold State.envelope; grind [State.drawSeed_keeps]

theorem State.installDk_keeps (s : State) (a1 : Bytes) (a2 : W64) (a3 : Bool) :
    (State.installDk s a1 a2 a3).mem = s.mem ∧ (State.installDk s a1 a2 a3).pending = s.pending := by
  unfold State.installDk; grind [State.writeSlot_keeps, State.formHck_keeps]

theorem State.installKey_keeps (s : State) (a1 : Nat) (a2 : Nat) (a3 : W64) (a4 : Nat) (a5 : Nat) (a6 : W64) (a7 : W64)
    (a8 : Bytes) (a9 : Nat) :
    (State.installKey s a1 a2 a3 a4 a5 a6 a7 a8 a9).1.mem = s.mem ∧
        (State.installKey s a1 a2 a3 a4 a5 a6 a7 a8 a9).1.pending = s.pending := by
  unfold State.installKey; grind [State.openLedger_keeps, State.draw_keeps, State.placeKey_keeps]

theorem State.lostSlot_keeps (s : State) (a1 : Nat) :
    (State.lostSlot s a1).mem = s.mem ∧ (State.lostSlot s a1).pending = s.pending := by
  unfold State.lostSlot; grind [State.level_keeps]

theorem State.newKey_keeps (s : State) (a1 : Nat) (a2 : Nat) (a3 : Nat) :
    (State.newKey s a1 a2 a3).2.mem = s.mem ∧ (State.newKey s a1 a2 a3).2.pending = s.pending := by
  unfold State.newKey; grind [State.draw_keeps, State.drawSeed_keeps]

theorem State.pairwise_keeps (s : State) (type : Nat) (key : Bytes) (x : State) (h : s.pairwise type key = .error x) :
    x.mem = s.mem ∧ x.pending = s.pending := by
  unfold State.pairwise at h; grind [State.faultEngine_keeps]

theorem State.restoreSlot_keeps (s : State) (a1 : Nat) (a2 : Slot) :
    (State.restoreSlot s a1 a2).mem = s.mem ∧ (State.restoreSlot s a1 a2).pending = s.pending := by
  unfold State.restoreSlot; grind [State.setSlot_keeps, State.level_keeps, State.raise_keeps]

theorem State.scrubSlot_keeps (s : State) (a1 : Nat) (a2 : Nat) :
    (State.scrubSlot s a1 a2).mem = s.mem ∧ (State.scrubSlot s a1 a2).pending = s.pending := by
  unfold State.scrubSlot; grind [State.quarantine_keeps, State.raise_keeps]

theorem State.sealShares_keeps (s : State) (a1 : Bytes) (a2 : Nat) (a3 : Nat) (a4 : List Nat) :
    (State.sealShares s a1 a2 a3 a4).2.mem = s.mem ∧ (State.sealShares s a1 a2 a3 a4).2.pending = s.pending := by
  induction a4 generalizing s with
  | nil => exact ⟨rfl, rfl⟩
  | cons i is ih => unfold State.sealShares; grind [State.envelope_keeps]

theorem certReadVerb_keeps (b : Barge) (s : State) :
    (certReadVerb.run b s).st.mem = s.mem ∧ (certReadVerb.run b s).st.pending = s.pending := by
  simp only [certReadVerb]; grind [fail_keeps, done_keeps]

theorem createTenant_keeps (a0 : Barge) (s : State) (a2 : W64) (a3 : Nat) (a4 : W64) :
    (createTenant a0 s a2 a3 a4).st.mem = s.mem ∧ (createTenant a0 s a2 a3 a4).st.pending = s.pending := by
  unfold createTenant; grind [State.draw_keeps, State.openLedger_keeps, doneWith_keeps, fail_keeps]

theorem deleteKey_keeps (a0 : Barge) (s : State) :
    (deleteKey a0 s).st.mem = s.mem ∧ (deleteKey a0 s).st.pending = s.pending := by
  unfold deleteKey; grind [mismatch_keeps, fail_keeps, doneWith_keeps, State.eraseSlot_keeps]

theorem domainBackupVerb_keeps (b : Barge) (s : State) :
    (domainBackupVerb.run b s).st.mem = s.mem ∧ (domainBackupVerb.run b s).st.pending = s.pending := by
  simp only [domainBackupVerb]; grind [done_keeps, State.sealShares_keeps, fail_keeps, State.drawSeed_keeps]

theorem domainShareImportVerb_keeps (b : Barge) (s : State) :
    (domainShareImportVerb.run b s).st.mem = s.mem ∧ (domainShareImportVerb.run b s).st.pending = s.pending := by
  simp only [domainShareImportVerb]; grind [mismatch_keeps, done_keeps, doneWith_keeps, fail_keeps, State.installDk_keeps]

theorem readAttributes_keeps (a0 : Barge) (s : State) :
    (readAttributes a0 s).st.mem = s.mem ∧ (readAttributes a0 s).st.pending = s.pending := by
  unfold readAttributes; grind [done_keeps, State.checkTag_keeps, fail_keeps]

theorem keyAttrReadVerb_keeps (b : Barge) (s : State) :
    (keyAttrReadVerb.run b s).st.mem = s.mem ∧ (keyAttrReadVerb.run b s).st.pending = s.pending := by
  simp only [keyAttrReadVerb]; grind [readAttributes_keeps]

theorem keyAttrReadDx6100Verb_keeps (b : Barge) (s : State) :
    (keyAttrReadDx6100Verb.run b s).st.mem = s.mem ∧ (keyAttrReadDx6100Verb.run b s).st.pending = s.pending := by
  simp only [keyAttrReadDx6100Verb]; grind [readAttributes_keeps]

theorem keyAttrRestrictVerb_keeps (b : Barge) (s : State) :
    (keyAttrRestrictVerb.run b s).st.mem = s.mem ∧ (keyAttrRestrictVerb.run b s).st.pending = s.pending := by
  simp only [keyAttrRestrictVerb]; grind [fail_keeps, doneWith_keeps, State.writeSlot_keeps]

theorem keyBlobLoadVerb_keeps (b : Barge) (s : State) :
    (keyBlobLoadVerb.run b s).st.mem = s.mem ∧ (keyBlobLoadVerb.run b s).st.pending = s.pending := by
  simp only [keyBlobLoadVerb]; grind [fail_keeps, done_keeps]

theorem keyBlobReadVerb_keeps (b : Barge) (s : State) :
    (keyBlobReadVerb.run b s).st.mem = s.mem ∧ (keyBlobReadVerb.run b s).st.pending = s.pending := by
  simp only [keyBlobReadVerb]; grind [fail_keeps, done_keeps]

theorem keyComponentVerb_keeps (b : Barge) (s : State) :
    (keyComponentVerb.run b s).st.mem = s.mem ∧ (keyComponentVerb.run b s).st.pending = s.pending := by
  simp only [keyComponentVerb]; grind [fail_keeps, State.openLedger_keeps, State.placeKey_keeps, doneWith_keeps,
      State.writeSlot_keeps, mismatch_keeps]

theorem keyDeleteVerb_keeps (b : Barge) (s : State) :
    (keyDeleteVerb.run b s).st.mem = s.mem ∧ (keyDeleteVerb.run b s).st.pending = s.pending := by
  simp only [keyDeleteVerb]; grind [deleteKey_keeps]

theorem keyDeleteDx6100Verb_keeps (b : Barge) (s : State) :
    (keyDeleteDx6100Verb.run b s).st.mem = s.mem ∧ (keyDeleteDx6100Verb.run b s).st.pending = s.pending := by
  simp only [keyDeleteDx6100Verb]; grind [deleteKey_keeps]

theorem keyExportWrappedVerb_keeps (b : Barge) (s : State) :
    (keyExportWrappedVerb.run b s).st.mem = s.mem ∧ (keyExportWrappedVerb.run b s).st.pending = s.pending := by
  simp only [keyExportWrappedVerb]; grind [State.useKey_keeps, fail_keeps, State.countSlot_keeps, done_keeps,
      doneWith_keeps, State.writeSlot_keeps]

theorem keyGenerateVerb_keeps (b : Barge) (s : State) :
    (keyGenerateVerb.run b s).st.mem = s.mem ∧ (keyGenerateVerb.run b s).st.pending = s.pending := by
  simp only [keyGenerateVerb]
  (repeat' split) <;> grind [createTenant_keeps, State.newKey_keeps, State.pairwise_keeps, State.installKey_keeps, fail_keeps,
    doneWith_keeps]

theorem keyImportWrappedVerb_keeps (b : Barge) (s : State) :
    (keyImportWrappedVerb.run b s).st.mem = s.mem ∧ (keyImportWrappedVerb.run b s).st.pending = s.pending := by
  simp only [keyImportWrappedVerb]; split <;> grind [State.useKey_keeps, fail_keeps, State.installKey_keeps, doneWith_keeps]

theorem joinShred_keeps (a0 : Barge) (s : State) (a2 : Nat) (a3 : ShredSeq) :
    (joinShred a0 s a2 a3).st.mem = s.mem ∧ (joinShred a0 s a2 a3).st.pending = s.pending := by
  unfold joinShred; grind [done_keeps]

theorem keyShredVerb_keeps (b : Barge) (s : State) :
    (keyShredVerb.run b s).st.mem = s.mem ∧ (keyShredVerb.run b s).st.pending = s.pending := by
  simp only [keyShredVerb]; grind [joinShred_keeps, mismatch_keeps, State.shredKey_keeps]

theorem shareImportKeyVerb_keeps (b : Barge) (s : State) :
    (shareImportKeyVerb.run b s).st.mem = s.mem ∧ (shareImportKeyVerb.run b s).st.pending = s.pending := by
  simp only [shareImportKeyVerb]; grind [done_keeps, State.drawSeed_keeps]

theorem State.wrapImage_keeps (s : State) (a1 : Nat) (a2 : W32) (a3 : Nat) (a4 : Nat) (a5 : Bytes) :
    (State.wrapImage s a1 a2 a3 a4 a5).1.mem = s.mem ∧ (State.wrapImage s a1 a2 a3 a4 a5).1.pending = s.pending := by
  unfold State.wrapImage; grind []

theorem State.park_keeps (s : State) (b : Barge) (job seq : Nat) (clear : Bytes) (x : State × Bytes)
    (h : s.park b job seq clear = .ok x) : x.1.mem = s.mem ∧ x.1.pending = s.pending := by
  unfold State.park at h
  split at h
  · cases h
  · cases h; exact State.wrapImage_keeps s b.slice b.generation seq job clear

theorem State.carryMac_keeps (s : State) (a1 : Nat) (a2 : Option Transfer) (a3 : Bytes) (a4 : Bytes) (a5 : Nat) (x)
    (h : State.carryMac s a1 a2 a3 a4 a5 = .ok x) : x.1.mem = s.mem ∧ x.1.pending = s.pending := by
  unfold State.carryMac at h
  cases a2 with
  | none =>
    dsimp only at h
    split at h
    · cases h
    · rename_i hp; cases h; exact State.park_keeps _ _ _ _ _ _ hp
  | some tr =>
    dsimp only at h
    generalize hr : s.restoreImageOf _ tr.context = y at h
    cases y with
    | error r => cases h
    | ok y =>
      dsimp only at h
      split at h
      · cases h
      · rename_i hp; cases h; exact State.park_keeps _ _ _ _ _ _ hp

theorem State.unpark_keeps (s : State) (a1 : Nat) :
    (State.unpark s a1).mem = s.mem ∧ (State.unpark s a1).pending = s.pending := by
  unfold State.unpark; grind []

theorem State.addBinding_keeps (s : State) (a1 : Binding) :
    (State.addBinding s a1).mem = s.mem ∧ (State.addBinding s a1).pending = s.pending := by
  unfold State.addBinding; grind []

theorem State.custodyStep_keeps (s : State) :
    (State.custodyStep s).mem = s.mem ∧ (State.custodyStep s).pending = s.pending := by
  unfold State.custodyStep; grind []

theorem State.dropRestore_keeps (s : State) (a1 : Nat) :
    (State.dropRestore s a1).mem = s.mem ∧ (State.dropRestore s a1).pending = s.pending := by
  unfold State.dropRestore; grind [State.setSlice_keeps]

theorem State.emptySlice_keeps (s : State) (a1 : Nat) :
    (State.emptySlice s a1).mem = s.mem ∧ (State.emptySlice s a1).pending = s.pending := by
  unfold State.emptySlice; simp (disch := (intros; grind [State.eraseSlot_keeps])) only [State.eraseSlot_keeps, foldl_mem,
      foldl_pending]; grind [State.eraseSlot_keeps]

theorem State.setBallot_keeps (s : State) (a1 : Nat) (a2 : Ballot) :
    (State.setBallot s a1 a2).mem = s.mem ∧ (State.setBallot s a1 a2).pending = s.pending := by
  unfold State.setBallot; grind []

theorem State.endBallot_keeps (s : State) (a1 : Nat) (a2 : Ballot) (a3 : BallotState) :
    (State.endBallot s a1 a2 a3).mem = s.mem ∧ (State.endBallot s a1 a2 a3).pending = s.pending := by
  unfold State.endBallot; grind [State.setBallot_keeps]

theorem State.endBound_keeps (s : State) (a1 : Binding) :
    (State.endBound s a1).mem = s.mem ∧ (State.endBound s a1).pending = s.pending := by
  unfold State.endBound; grind [State.endSessions_keeps]

theorem State.endUnbound_keeps (s : State) (s1 : State) :
    (State.endUnbound s s1).mem = s.mem ∧ (State.endUnbound s s1).pending = s.pending := by
  unfold State.endUnbound; grind [State.endSessions_keeps]

theorem State.withdrawApprovals_keeps (s : State) (a1 : Nat) :
    (State.withdrawApprovals s a1).mem = s.mem ∧ (State.withdrawApprovals s a1).pending = s.pending := by
  unfold State.withdrawApprovals; grind []

theorem State.setCustodian_keeps (s : State) (a1 : Nat) (a2 : Option Custodian) :
    (State.setCustodian s a1 a2).mem = s.mem ∧ (State.setCustodian s a1 a2).pending = s.pending := by
  unfold State.setCustodian; grind []

theorem State.suspend_keeps (s : State) (a1 : Nat) (a2 : Custodian) :
    (State.suspend s a1 a2).mem = s.mem ∧ (State.suspend s a1 a2).pending = s.pending := by
  unfold State.suspend; grind [State.custodyStep_keeps, State.withdrawApprovals_keeps, State.setCustodian_keeps]

theorem State.failedApproval_keeps (s : State) (a1 : Nat) (a2 : Custodian) :
    (State.failedApproval s a1 a2).mem = s.mem ∧ (State.failedApproval s a1 a2).pending = s.pending := by
  unfold State.failedApproval; grind [State.setCustodian_keeps, State.raise_keeps, State.suspend_keeps,
      State.withdrawApprovals_keeps]

theorem State.finishDrain_keeps (s : State) (a1 : Nat) (a2 : DrainSeq) :
    (State.finishDrain s a1 a2).mem = s.mem ∧ (State.finishDrain s a1 a2).pending = s.pending := by
  unfold State.finishDrain; grind [State.emptySlice_keeps, State.setSlice_keeps, State.answer_keeps, State.mirror_keeps]

theorem State.mapLineage_keeps (s : State) (a1 : List (W64 × W64)) (a2 : Nat) :
    (State.mapLineage s a1 a2).mem = s.mem ∧ (State.mapLineage s a1 a2).pending = s.pending := by
  unfold State.mapLineage; grind [State.writeSlot_keeps]

theorem State.mapLineages_keeps (s : State) (a1 : List (W64 × W64)) (a2 : List Nat) :
    (State.mapLineages s a1 a2).mem = s.mem ∧ (State.mapLineages s a1 a2).pending = s.pending := by
  unfold State.mapLineages; simp (disch := (intros; grind [State.mapLineage_keeps])) only [State.mapLineage_keeps,
      foldl_mem, foldl_pending]; grind [State.mapLineage_keeps]

theorem State.placeImageKey_keeps (s : State) (t : Nat) (k : W64 × Slot × Nat × Bytes) (x : State × W64 × Nat)
    (h : s.placeImageKey t k = .ok x) : x.1.mem = s.mem ∧ x.1.pending = s.pending := by
  unfold State.placeImageKey at h
  split at h
  split at h
  · cases h
  · cases h; grind [State.placeKey_keeps]

theorem State.placeImageKeys_keeps (s : State) (t : Nat) (ks : List (W64 × Slot × Nat × Bytes)) (x : State × List
    (W64 × W64) × List Nat) (h : s.placeImageKeys t ks = .ok x) : x.1.mem = s.mem ∧ x.1.pending = s.pending := by
  induction ks generalizing s x with
  | nil => cases h; exact ⟨rfl, rfl⟩
  | cons k ks ih =>
    unfold State.placeImageKeys at h
    split at h
    · cases h
    · rename_i h1
      have h1 := State.placeImageKey_keeps _ _ _ _ h1
      split at h
      · cases h
      · rename_i h2
        have h2 := ih _ _ h2
        cases h
        exact ⟨h2.1.trans h1.1, h2.2.trans h1.2⟩

theorem State.restoreImage_keeps (s : State) (t : Nat) (im : Bytes) : (s.restoreImage t im).st.mem = s.mem ∧
    (s.restoreImage t im).st.pending = s.pending := by
  unfold State.restoreImage
  have hd := State.dropRestore_keeps s t
  dsimp only
  split
  · exact hd
  · split
    · exact hd
    · split
      · exact hd
      · split
        · exact hd
        · rename_i h1
          have h1 := State.placeImageKeys_keeps _ _ _ _ h1
          have ha : ∀ (s : State) (a : Binding), (s.addBinding a).mem = s.mem := fun s a => (s.addBinding_keeps a).1
          have hb : ∀ (s : State) (a : Binding), (s.addBinding a).pending = s.pending := fun s a => (s.addBinding_keeps a).2
          simp only [doneWith, foldl_mem ha, foldl_pending hb, State.setSlice_keeps, State.mapLineages_keeps]
          exact ⟨h1.1.trans (State.setSlice_keeps _ _ _).1, h1.2.trans (State.setSlice_keeps _ _ _).2⟩

theorem State.saveOn_keeps (s : State) (a1 : Nat) (a2 : Option Transfer) (a3 : Bytes) (a4 : Bytes) (a5 : Nat) :
    (State.saveOn s a1 a2 a3 a4 a5).st.mem = s.mem ∧ (State.saveOn s a1 a2 a3 a4 a5).st.pending = s.pending := by
  unfold State.saveOn
  dsimp only
  split
  · exact ⟨rfl, rfl⟩
  · split
    · cases a2 <;> exact ⟨rfl, rfl⟩
    · split
      · exact ⟨rfl, rfl⟩
      · rename_i h; exact State.carryMac_keeps _ _ _ _ _ _ _ h

theorem State.sealCounter_keeps (s : State) (a1 : Nat) :
    (State.sealCounter s a1).mem = s.mem ∧ (State.sealCounter s a1).pending = s.pending := by
  unfold State.sealCounter; grind []

theorem State.startDrain_keeps (s : State) (a1 : Nat) (a2 : Bool) (a3 : Option Waiter) :
    (State.startDrain s a1 a2 a3).mem = s.mem ∧ (State.startDrain s a1 a2 a3).pending = s.pending := by
  unfold State.startDrain; grind [State.setSlice_keeps, State.mirror_keeps, State.removeWaiting_keeps, State.endSessions_keeps]

theorem State.takeKeeper_keeps (s : State) (a1 : Bytes) :
    (State.takeKeeper s a1).mem = s.mem ∧ (State.takeKeeper s a1).pending = s.pending := by
  unfold State.takeKeeper; simp (disch := (intros; grind [State.endUnbound_keeps, State.withdrawApprovals_keeps,
      State.applyKeeper_keeps])) only [State.endUnbound_keeps, State.withdrawApprovals_keeps, State.applyKeeper_keeps,
          foldl_mem, foldl_pending]; grind [State.endUnbound_keeps, State.withdrawApprovals_keeps, State.applyKeeper_keeps]

theorem failOpen_keeps (s : State) :
    (failOpen s).st.mem = s.mem ∧ (failOpen s).st.pending = s.pending := by
  unfold failOpen; grind [fail_keeps]

theorem anchorAddVerb_keeps (b : Barge) (s : State) :
    (anchorAddVerb.run b s).st.mem = s.mem ∧ (anchorAddVerb.run b s).st.pending = s.pending := by
  simp only [anchorAddVerb]; grind [failOpen_keeps, doneWith_keeps]

theorem anchorRemoveVerb_keeps (b : Barge) (s : State) :
    (anchorRemoveVerb.run b s).st.mem = s.mem ∧ (anchorRemoveVerb.run b s).st.pending = s.pending := by
  simp only [anchorRemoveVerb]; grind [failOpen_keeps, doneWith_keeps, State.endSessions_keeps]

theorem ballotApproveVerb_keeps (b : Barge) (s : State) :
    (ballotApproveVerb.run b s).st.mem = s.mem ∧ (ballotApproveVerb.run b s).st.pending = s.pending := by
  simp only [ballotApproveVerb]; grind [fail_keeps, mismatch_keeps, State.failedApproval_keeps, State.setBallot_keeps,
      State.setCustodian_keeps, doneWith_keeps]

theorem ballotStatusVerb_keeps (b : Barge) (s : State) :
    (ballotStatusVerb.run b s).st.mem = s.mem ∧ (ballotStatusVerb.run b s).st.pending = s.pending := by
  simp only [ballotStatusVerb]; grind [fail_keeps, done_keeps]

theorem ballotWithdrawVerb_keeps (b : Barge) (s : State) :
    (ballotWithdrawVerb.run b s).st.mem = s.mem ∧ (ballotWithdrawVerb.run b s).st.pending = s.pending := by
  simp only [ballotWithdrawVerb]; grind [fail_keeps, doneWith_keeps, State.endBallot_keeps]

theorem custodianEnrolVerb_keeps (b : Barge) (s : State) :
    (custodianEnrolVerb.run b s).st.mem = s.mem ∧ (custodianEnrolVerb.run b s).st.pending = s.pending := by
  simp only [custodianEnrolVerb]; grind [refuse_keeps, fail_keeps, doneWith_keeps, State.custodyStep_keeps,
      State.setCustodian_keeps]

theorem custodianReadVerb_keeps (b : Barge) (s : State) :
    (custodianReadVerb.run b s).st.mem = s.mem ∧ (custodianReadVerb.run b s).st.pending = s.pending := by
  simp only [custodianReadVerb]; grind [mismatch_keeps, done_keeps]

theorem custodianReinstateVerb_keeps (b : Barge) (s : State) :
    (custodianReinstateVerb.run b s).st.mem = s.mem ∧ (custodianReinstateVerb.run b s).st.pending = s.pending := by
  simp only [custodianReinstateVerb]; grind [mismatch_keeps, doneWith_keeps, State.custodyStep_keeps, State.setCustodian_keeps]

theorem custodianRevokeVerb_keeps (b : Barge) (s : State) :
    (custodianRevokeVerb.run b s).st.mem = s.mem ∧ (custodianRevokeVerb.run b s).st.pending = s.pending := by
  simp only [custodianRevokeVerb]; grind [mismatch_keeps, doneWith_keeps, State.custodyStep_keeps,
      State.withdrawApprovals_keeps, State.setCustodian_keeps]

theorem custodianSuspendVerb_keeps (b : Barge) (s : State) :
    (custodianSuspendVerb.run b s).st.mem = s.mem ∧ (custodianSuspendVerb.run b s).st.pending = s.pending := by
  simp only [custodianSuspendVerb]; grind [mismatch_keeps, doneWith_keeps, State.suspend_keeps]

theorem custodyEstablishVerb_keeps (b : Barge) (s : State) :
    (custodyEstablishVerb.run b s).st.mem = s.mem ∧ (custodyEstablishVerb.run b s).st.pending = s.pending := by
  simp only [custodyEstablishVerb]; grind [doneWith_keeps]

theorem sliceBindVerb_keeps (b : Barge) (s : State) :
    (sliceBindVerb.run b s).st.mem = s.mem ∧ (sliceBindVerb.run b s).st.pending = s.pending := by
  simp only [sliceBindVerb]; grind [doneWith_keeps, State.endBound_keeps, failOpen_keeps, done_keeps]

theorem sliceCreateVerb_keeps (b : Barge) (s : State) :
    (sliceCreateVerb.run b s).st.mem = s.mem ∧ (sliceCreateVerb.run b s).st.pending = s.pending := by
  simp only [sliceCreateVerb]; grind [doneWith_keeps, State.setSlice_keeps]

theorem sliceFreezeVerb_keeps (b : Barge) (s : State) :
    (sliceFreezeVerb.run b s).st.mem = s.mem ∧ (sliceFreezeVerb.run b s).st.pending = s.pending := by
  simp only [sliceFreezeVerb]; grind [done_keeps, doneWith_keeps, State.setSlice_keeps]

theorem sliceMapReadVerb_keeps (b : Barge) (s : State) :
    (sliceMapReadVerb.run b s).st.mem = s.mem ∧ (sliceMapReadVerb.run b s).st.pending = s.pending := by
  simp only [sliceMapReadVerb]; grind [done_keeps]

theorem sliceRemoveVerb_keeps (b : Barge) (s : State) :
    (sliceRemoveVerb.run b s).st.mem = s.mem ∧ (sliceRemoveVerb.run b s).st.pending = s.pending := by
  simp only [sliceRemoveVerb]; grind [State.startDrain_keeps]

theorem sliceResetVerb_keeps (b : Barge) (s : State) :
    (sliceResetVerb.run b s).st.mem = s.mem ∧ (sliceResetVerb.run b s).st.pending = s.pending := by
  simp only [sliceResetVerb]; grind [State.startDrain_keeps]

theorem sliceRestoreVerb_keeps (b : Barge) (s : State) :
    (sliceRestoreVerb.run b s).st.mem = s.mem ∧ (sliceRestoreVerb.run b s).st.pending = s.pending := by
  simp only [sliceRestoreVerb]
  generalize (if fld b.payload 4 4 = 0 then none else (s.sliceNow (targetSlice b)).transfer) = was
  split
  · exact ⟨rfl, rfl⟩
  · split
    · exact State.restoreImage_keeps ..
    · split
      · exact State.dropRestore_keeps ..
      · rename_i h
        have h := State.carryMac_keeps _ _ _ _ _ _ _ h
        split
        · exact (State.restoreImage_keeps ..).imp h.1.subst h.2.subst
        · split <;> exact h

theorem sliceSaveVerb_keeps (b : Barge) (s : State) :
    (sliceSaveVerb.run b s).st.mem = s.mem ∧ (sliceSaveVerb.run b s).st.pending = s.pending := by
  simp only [sliceSaveVerb]
  (repeat' split) <;> first
    | grind [State.draw_keeps, State.saveOn_keeps, State.sealCounter_keeps, fail_keeps]
    | (simp (disch := (intros; grind [State.draw_keeps, State.saveOn_keeps, State.sealCounter_keeps,
        fail_keeps])) only [State.draw_keeps, State.saveOn_keeps, State.sealCounter_keeps, fail_keeps, foldl_mem,
            foldl_pending]; done)
    | (simp (disch := (intros; grind [State.draw_keeps, State.saveOn_keeps, State.sealCounter_keeps,
        fail_keeps])) only [State.draw_keeps, State.saveOn_keeps, State.sealCounter_keeps, fail_keeps, foldl_mem,
            foldl_pending]; grind [State.draw_keeps, State.saveOn_keeps, State.sealCounter_keeps, fail_keeps])

theorem sliceSetQuotaVerb_keeps (b : Barge) (s : State) :
    (sliceSetQuotaVerb.run b s).st.mem = s.mem ∧ (sliceSetQuotaVerb.run b s).st.pending = s.pending := by
  simp only [sliceSetQuotaVerb]; grind [doneWith_keeps, State.setSlice_keeps]

theorem sliceStatusVerb_keeps (b : Barge) (s : State) :
    (sliceStatusVerb.run b s).st.mem = s.mem ∧ (sliceStatusVerb.run b s).st.pending = s.pending := by
  simp only [sliceStatusVerb]; grind [done_keeps]

theorem sliceThawVerb_keeps (b : Barge) (s : State) :
    (sliceThawVerb.run b s).st.mem = s.mem ∧ (sliceThawVerb.run b s).st.pending = s.pending := by
  simp only [sliceThawVerb]; grind [doneWith_keeps, State.setSlice_keeps]

end Sys2Proof.Machine
end

