-- ==== Sys2Proof/Laws/KeepsEngines.lean ====
section
/-! SUPPORT. What leaves memory and the queue alone, of storage, payment, the engines and entropy: one law per operation. -/

set_option Elab.async false
set_option linter.unusedSimpArgs false

namespace Sys2Proof.Machine

theorem State.bucketOf_keeps (s : State) (a1 : Barge) (a2 : Nat) (a3 : Nat) :
    (State.bucketOf s a1 a2 a3).1.mem = s.mem ∧ (State.bucketOf s a1 a2 a3).1.pending = s.pending := by
  unfold State.bucketOf; grind [State.useKek_keeps]

theorem State.countWrap_keeps (s : State) (a1 : CacheEntry) (a2 : Nat) :
    (State.countWrap s a1 a2).1.mem = s.mem ∧ (State.countWrap s a1 a2).1.pending = s.pending := by
  unfold State.countWrap; grind [State.countKek_keeps]

theorem State.formBucket_keeps (s : State) (a1 : Nat) (a2 : W32) (a3 : W64) (a4 : W64) (a5 : CacheEntry) (a6 : Nat) :
    (State.formBucket s a1 a2 a3 a4 a5 a6).st.mem = s.mem ∧ (State.formBucket s a1 a2 a3 a4 a5 a6).st.pending = s.pending := by
  unfold State.formBucket
  have h1 := State.draw_keeps s 32
  generalize s.draw 32 = d at h1
  obtain ⟨bk, s1⟩ := d
  dsimp only at h1 ⊢
  have h2 := State.cacheWrite_keeps (s1.openLedger (kekTag a1 a2 a3) (s1.limitOf 2 a6)) a1 a2 a3 a4 a5.keyId bk (some a5) []
  generalize State.cacheWrite _ _ _ _ _ _ _ _ _ = r at h2
  obtain ⟨s2, e⟩ := r
  have h3 : s2.mem = s.mem ∧ s2.pending = s.pending := ⟨h2.1.trans h1.1, h2.2.trans h1.2⟩
  cases e <;> exact h3

theorem State.loadOnce_keeps (s : State) (a1 : Nat) (a2 : Bytes) (a3 : Option W64) :
    (State.loadOnce s a1 a2 a3).1.mem = s.mem ∧ (State.loadOnce s a1 a2 a3).1.pending = s.pending := by
  unfold State.loadOnce
  split
  · exact ⟨rfl, rfl⟩
  · exact State.touchEntry_keeps ..
  · exact State.loadBlob_keeps ..

theorem State.loaderJob_keeps (s : State) (a1 : List Nat) (a2 : Bool) :
    (State.loaderJob s a1 a2).mem = s.mem ∧ (State.loaderJob s a1 a2).pending = s.pending := by
  unfold State.loaderJob; grind [State.shuffledJob_keeps, State.hmacJob_keeps]

theorem State.wrapObject_keeps (s : State) (a1 : CacheEntry) (a2 : Bytes) (a3 : Nat) (a4 : Nat) (a5 : Bytes) :
    (State.wrapObject s a1 a2 a3 a4 a5).1.mem = s.mem ∧ (State.wrapObject s a1 a2 a3 a4 a5).1.pending = s.pending := by
  unfold State.wrapObject; grind [State.draw_keeps]

theorem State.rewrapEntry_keeps (s : State) (a1 : CacheEntry) (a2 : CacheEntry) (a3 : Nat) (a4 : Nat) (a5 : Bytes) :
    (State.rewrapEntry s a1 a2 a3 a4 a5).1.mem = s.mem ∧ (State.rewrapEntry s a1 a2 a3 a4 a5).1.pending = s.pending := by
  unfold State.rewrapEntry; grind [State.countWrap_keeps, State.wrapObject_keeps]

theorem State.rewrapEntries_keeps (s : State) (src dst : CacheEntry) (p : Bytes) (n : Nat) (is : List Nat) :
    (s.rewrapEntries src dst p n is).1.mem = s.mem ∧ (s.rewrapEntries src dst p n is).1.pending = s.pending := by
  induction is generalizing s n with
  | nil => exact ⟨rfl, rfl⟩
  | cons i is ih =>
    have h := State.rewrapEntry_keeps s src dst (fld p 33 1) n (bulkEntry p 36 i)
    unfold State.rewrapEntries
    grind

theorem State.shredKek_keeps (s : State) (a1 : CacheEntry) (a2 : Waiter) :
    (State.shredKek s a1 a2).mem = s.mem ∧ (State.shredKek s a1 a2).pending = s.pending := by
  unfold State.shredKek; grind [State.mirror_keeps, State.domainChange_keeps]

theorem bucketCreateVerb_keeps (b : Barge) (s : State) :
    (bucketCreateVerb.run b s).st.mem = s.mem ∧ (bucketCreateVerb.run b s).st.pending = s.pending := by
  simp only [bucketCreateVerb]; grind [State.useKek_keeps, fail_keeps, State.countKek_keeps, State.formBucket_keeps]

theorem bucketReparentVerb_keeps (b : Barge) (s : State) :
    (bucketReparentVerb.run b s).st.mem = s.mem ∧ (bucketReparentVerb.run b s).st.pending = s.pending := by
  simp only [bucketReparentVerb]
  (repeat' split) <;> first
    | grind [done_keeps, State.useKek_keeps, State.countKek_keeps, fail_keeps]

theorem dkGenerateVerb_keeps (b : Barge) (s : State) :
    (dkGenerateVerb.run b s).st.mem = s.mem ∧ (dkGenerateVerb.run b s).st.pending = s.pending := by
  simp only [dkGenerateVerb]; grind [State.bucketOf_keeps, State.countKek_keeps, State.draw_keeps, State.wrapObject_keeps,
      done_keeps]

theorem dkRewrapBulkVerb_keeps (b : Barge) (s : State) :
    (dkRewrapBulkVerb.run b s).st.mem = s.mem ∧ (dkRewrapBulkVerb.run b s).st.pending = s.pending := by
  simp only [dkRewrapBulkVerb]; grind [done_keeps, State.useKek_keeps, State.rewrapEntries_keeps, fail_keeps]

theorem dkRewrapVerb_keeps (b : Barge) (s : State) :
    (dkRewrapVerb.run b s).st.mem = s.mem ∧ (dkRewrapVerb.run b s).st.pending = s.pending := by
  simp only [dkRewrapVerb]; split <;> grind [State.useKek_keeps, fail_keeps, State.countKek_keeps, State.wrapObject_keeps,
      done_keeps]

theorem dkUnwrapBulkRun_keeps (a0 : Barge) (s : State) :
    (dkUnwrapBulkRun a0 s).st.mem = s.mem ∧ (dkUnwrapBulkRun a0 s).st.pending = s.pending := by
  unfold dkUnwrapBulkRun; grind [State.useKek_keeps, done_keeps]

theorem dkUnwrapBulkVerb_keeps (b : Barge) (s : State) :
    (dkUnwrapBulkVerb.run b s).st.mem = s.mem ∧ (dkUnwrapBulkVerb.run b s).st.pending = s.pending := by
  simp only [dkUnwrapBulkVerb]; grind [dkUnwrapBulkRun_keeps]

theorem dkUnwrapRun_keeps (a0 : Barge) (s : State) :
    (dkUnwrapRun a0 s).st.mem = s.mem ∧ (dkUnwrapRun a0 s).st.pending = s.pending := by
  unfold dkUnwrapRun; grind [State.bucketOf_keeps, fail_keeps, done_keeps]

theorem dkUnwrapVerb_keeps (b : Barge) (s : State) :
    (dkUnwrapVerb.run b s).st.mem = s.mem ∧ (dkUnwrapVerb.run b s).st.pending = s.pending := by
  simp only [dkUnwrapVerb]; grind [dkUnwrapRun_keeps]

theorem dkWrapVerb_keeps (b : Barge) (s : State) :
    (dkWrapVerb.run b s).st.mem = s.mem ∧ (dkWrapVerb.run b s).st.pending = s.pending := by
  simp only [dkWrapVerb]; grind [State.bucketOf_keeps, State.countKek_keeps, State.wrapObject_keeps, done_keeps]

theorem kekEvictVerb_keeps (b : Barge) (s : State) :
    (kekEvictVerb.run b s).st.mem = s.mem ∧ (kekEvictVerb.run b s).st.pending = s.pending := by
  simp only [kekEvictVerb]; grind [fail_keeps, done_keeps, State.sweepCache_keeps]

theorem kekLoadVerb_keeps (b : Barge) (s : State) :
    (kekLoadVerb.run b s).st.mem = s.mem ∧ (kekLoadVerb.run b s).st.pending = s.pending := by
  simp only [kekLoadVerb]; grind [done_keeps, State.loadOnce_keeps]

theorem kekShredVerb_keeps (b : Barge) (s : State) :
    (kekShredVerb.run b s).st.mem = s.mem ∧ (kekShredVerb.run b s).st.pending = s.pending := by
  simp only [kekShredVerb]
  split
  · exact joinShred_keeps ..
  · generalize hr : s.selectKek _ _ _ _ _ = r
    have hk := s.selectKek_keeps
    grind [State.pruneRegister_keeps, refuse_keeps, State.shredKek_keeps]

theorem State.fetch2_keeps (s : State) (a1 : Nat) (a2 : Nat) :
    (State.fetch2 s a1 a2).1.mem = s.mem ∧ (State.fetch2 s a1 a2).1.pending = s.pending := by
  unfold State.fetch2; grind [State.fetch_keeps]

theorem State.formatFail_keeps (s : State) (a1 : Nat) :
    (State.formatFail s a1).st.mem = s.mem ∧ (State.formatFail s a1).st.pending = s.pending := by
  unfold State.formatFail; grind [State.setSlice_keeps, fail_keeps, State.raise_keeps]

theorem State.translate_keeps (s : State) (a1 : Nat) (a2 : Nat) (a3 : Nat) (a4 : Nat) (a5 : Nat) (a6 : Nat)
    (a7 : List Nat) (a8 : Bytes) (a9 : Bytes) (a10 : Bytes → Slot → Bytes → Bytes) :
    (State.translate s a1 a2 a3 a4 a5 a6 a7 a8 a9 a10).st.mem = s.mem ∧
        (State.translate s a1 a2 a3 a4 a5 a6 a7 a8 a9 a10).st.pending = s.pending := by
  unfold State.translate
  (repeat' split) <;> first
    | grind [State.fetch2_keeps, State.countSlot_keeps, State.formatFail_keeps, State.draw_keeps, done_keeps]

theorem arqcExtRun_keeps (a0 : Barge) (s : State) :
    (arqcExtRun a0 s).st.mem = s.mem ∧ (arqcExtRun a0 s).st.pending = s.pending := by
  unfold arqcExtRun; grind [State.fetch_keeps, State.countSlot_keeps, done_keeps, fail_keeps]

theorem arqcVerifyExtDx6100Verb_keeps (b : Barge) (s : State) :
    (arqcVerifyExtDx6100Verb.run b s).st.mem = s.mem ∧ (arqcVerifyExtDx6100Verb.run b s).st.pending = s.pending := by
  simp only [arqcVerifyExtDx6100Verb]; grind [arqcExtRun_keeps]

theorem arqcVerifyExtVerb_keeps (b : Barge) (s : State) :
    (arqcVerifyExtVerb.run b s).st.mem = s.mem ∧ (arqcVerifyExtVerb.run b s).st.pending = s.pending := by
  simp only [arqcVerifyExtVerb]; grind [arqcExtRun_keeps]

theorem arqcVerifyVerb_keeps (b : Barge) (s : State) :
    (arqcVerifyVerb.run b s).st.mem = s.mem ∧ (arqcVerifyVerb.run b s).st.pending = s.pending := by
  simp only [arqcVerifyVerb]; grind [State.fetch_keeps, done_keeps, fail_keeps]

theorem cvvGenerateRun_keeps (a0 : Barge) (s : State) :
    (cvvGenerateRun a0 s).st.mem = s.mem ∧ (cvvGenerateRun a0 s).st.pending = s.pending := by
  unfold cvvGenerateRun; grind [State.fetch_keeps, State.countSlot_keeps, done_keeps]

theorem cvvGenerateDx6100Verb_keeps (b : Barge) (s : State) :
    (cvvGenerateDx6100Verb.run b s).st.mem = s.mem ∧ (cvvGenerateDx6100Verb.run b s).st.pending = s.pending := by
  simp only [cvvGenerateDx6100Verb]; grind [cvvGenerateRun_keeps]

theorem cvvGenerateVerb_keeps (b : Barge) (s : State) :
    (cvvGenerateVerb.run b s).st.mem = s.mem ∧ (cvvGenerateVerb.run b s).st.pending = s.pending := by
  simp only [cvvGenerateVerb]; grind [cvvGenerateRun_keeps]

theorem cvvVerifyRun_keeps (a0 : Barge) (s : State) :
    (cvvVerifyRun a0 s).st.mem = s.mem ∧ (cvvVerifyRun a0 s).st.pending = s.pending := by
  unfold cvvVerifyRun; grind [State.fetch_keeps, done_keeps, fail_keeps]

theorem cvvVerifyDx6100Verb_keeps (b : Barge) (s : State) :
    (cvvVerifyDx6100Verb.run b s).st.mem = s.mem ∧ (cvvVerifyDx6100Verb.run b s).st.pending = s.pending := by
  simp only [cvvVerifyDx6100Verb]; grind [cvvVerifyRun_keeps]

theorem cvvVerifyVerb_keeps (b : Barge) (s : State) :
    (cvvVerifyVerb.run b s).st.mem = s.mem ∧ (cvvVerifyVerb.run b s).st.pending = s.pending := by
  simp only [cvvVerifyVerb]; grind [cvvVerifyRun_keeps]

theorem dectabSetVerb_keeps (b : Barge) (s : State) :
    (dectabSetVerb.run b s).st.mem = s.mem ∧ (dectabSetVerb.run b s).st.pending = s.pending := by
  simp only [dectabSetVerb]; grind [doneWith_keeps, State.setSlice_keeps]

theorem kbExportRun_keeps (a0 : Barge) (s : State) :
    (kbExportRun a0 s).st.mem = s.mem ∧ (kbExportRun a0 s).st.pending = s.pending := by
  unfold kbExportRun
  dsimp only; (repeat' split) <;> first
    | exact ⟨rfl, rfl⟩
    | grind [done_keeps, State.writeSlot_keeps, State.countSlot_keeps, doneWith_keeps, fail_keeps, State.fetch2_keeps]

theorem kbExportVerb_keeps (b : Barge) (s : State) :
    (kbExportVerb.run b s).st.mem = s.mem ∧ (kbExportVerb.run b s).st.pending = s.pending := by
  simp only [kbExportVerb]; grind [kbExportRun_keeps]

theorem kbExportDx6100Verb_keeps (b : Barge) (s : State) :
    (kbExportDx6100Verb.run b s).st.mem = s.mem ∧ (kbExportDx6100Verb.run b s).st.pending = s.pending := by
  simp only [kbExportDx6100Verb]; grind [kbExportRun_keeps]

theorem kbImportRun_keeps (a0 : Barge) (s : State) :
    (kbImportRun a0 s).st.mem = s.mem ∧ (kbImportRun a0 s).st.pending = s.pending := by
  unfold kbImportRun
  dsimp only; (repeat' split) <;> first
    | exact ⟨rfl, rfl⟩
    | grind [doneWith_keeps, fail_keeps, State.fetch_keeps, State.installKey_keeps]

theorem kbImportVerb_keeps (b : Barge) (s : State) :
    (kbImportVerb.run b s).st.mem = s.mem ∧ (kbImportVerb.run b s).st.pending = s.pending := by
  simp only [kbImportVerb]; grind [kbImportRun_keeps]

theorem kbImportDx6100Verb_keeps (b : Barge) (s : State) :
    (kbImportDx6100Verb.run b s).st.mem = s.mem ∧ (kbImportDx6100Verb.run b s).st.pending = s.pending := by
  simp only [kbImportDx6100Verb]; grind [kbImportRun_keeps]

theorem macGenerateRun_keeps (a0 : Barge) (s : State) :
    (macGenerateRun a0 s).st.mem = s.mem ∧ (macGenerateRun a0 s).st.pending = s.pending := by
  unfold macGenerateRun; grind [State.fetch_keeps, State.countSlot_keeps, done_keeps]

theorem macGenerateVerb_keeps (b : Barge) (s : State) :
    (macGenerateVerb.run b s).st.mem = s.mem ∧ (macGenerateVerb.run b s).st.pending = s.pending := by
  simp only [macGenerateVerb]; grind [macGenerateRun_keeps]

theorem macGenerateDx6100Verb_keeps (b : Barge) (s : State) :
    (macGenerateDx6100Verb.run b s).st.mem = s.mem ∧ (macGenerateDx6100Verb.run b s).st.pending = s.pending := by
  simp only [macGenerateDx6100Verb]; grind [macGenerateRun_keeps]

theorem macVerifyRun_keeps (a0 : Barge) (s : State) :
    (macVerifyRun a0 s).st.mem = s.mem ∧ (macVerifyRun a0 s).st.pending = s.pending := by
  unfold macVerifyRun; grind [State.fetch_keeps, done_keeps, fail_keeps]

theorem macVerifyVerb_keeps (b : Barge) (s : State) :
    (macVerifyVerb.run b s).st.mem = s.mem ∧ (macVerifyVerb.run b s).st.pending = s.pending := by
  simp only [macVerifyVerb]; grind [macVerifyRun_keeps]

theorem macVerifyDx6100Verb_keeps (b : Barge) (s : State) :
    (macVerifyDx6100Verb.run b s).st.mem = s.mem ∧ (macVerifyDx6100Verb.run b s).st.pending = s.pending := by
  simp only [macVerifyDx6100Verb]; grind [macVerifyRun_keeps]

theorem translateRun_keeps (a0 : Barge) (s : State) :
    (translateRun a0 s).st.mem = s.mem ∧ (translateRun a0 s).st.pending = s.pending := by
  unfold translateRun; grind [State.translate_keeps]

theorem pinTranslateVerb_keeps (b : Barge) (s : State) :
    (pinTranslateVerb.run b s).st.mem = s.mem ∧ (pinTranslateVerb.run b s).st.pending = s.pending := by
  simp only [pinTranslateVerb]; grind [translateRun_keeps]

theorem pinTranslate4Verb_keeps (b : Barge) (s : State) :
    (pinTranslate4Verb.run b s).st.mem = s.mem ∧ (pinTranslate4Verb.run b s).st.pending = s.pending := by
  simp only [pinTranslate4Verb]; grind [State.translate_keeps]

theorem pinTranslateDukptDx6100Verb_keeps (b : Barge) (s : State) :
    (pinTranslateDukptDx6100Verb.run b s).st.mem = s.mem ∧ (pinTranslateDukptDx6100Verb.run b s).st.pending = s.pending := by
  simp only [pinTranslateDukptDx6100Verb]; grind [translateRun_keeps]

theorem pinTranslateDx6100Verb_keeps (b : Barge) (s : State) :
    (pinTranslateDx6100Verb.run b s).st.mem = s.mem ∧ (pinTranslateDx6100Verb.run b s).st.pending = s.pending := by
  simp only [pinTranslateDx6100Verb]; grind [State.translate_keeps]

theorem verifyRun_keeps (a0 : Barge) (s : State) :
    (verifyRun a0 s).st.mem = s.mem ∧ (verifyRun a0 s).st.pending = s.pending := by
  unfold verifyRun
  dsimp only; (repeat' split) <;> first
    | exact ⟨rfl, rfl⟩
    | grind [done_keeps, State.formatFail_keeps, fail_keeps, State.fetch2_keeps]

theorem pinVerifyVerb_keeps (b : Barge) (s : State) :
    (pinVerifyVerb.run b s).st.mem = s.mem ∧ (pinVerifyVerb.run b s).st.pending = s.pending := by
  simp only [pinVerifyVerb]; grind [verifyRun_keeps]

theorem pinVerifyDx6100Verb_keeps (b : Barge) (s : State) :
    (pinVerifyDx6100Verb.run b s).st.mem = s.mem ∧ (pinVerifyDx6100Verb.run b s).st.pending = s.pending := by
  simp only [pinVerifyDx6100Verb]; grind [verifyRun_keeps]

theorem State.chunkKeyOf_keeps (s : State) (a1 : Barge) (a2 : Nat) :
    (State.chunkKeyOf s a1 a2).1.mem = s.mem ∧ (State.chunkKeyOf s a1 a2).1.pending = s.pending := by
  unfold State.chunkKeyOf; grind [State.useKey_keeps]

theorem State.sealChunk_keeps (s : State) (b : Barge) (x : Slot) (k : Bytes) (log2 index seq job : Nat) (nonce : Bytes) :
    (s.sealChunk b x k log2 index seq job nonce).st.mem = s.mem ∧
        (s.sealChunk b x k log2 index seq job nonce).st.pending = s.pending := by
  unfold State.sealChunk
  dsimp only
  split
  · exact ⟨rfl, rfl⟩
  · split
    · exact ⟨rfl, rfl⟩
    · split
      · exact ⟨rfl, rfl⟩
      · rename_i h; exact State.park_keeps _ _ _ _ _ _ h

theorem aeadOpenVerb_keeps (b : Barge) (s : State) :
    (aeadOpenVerb.run b s).st.mem = s.mem ∧ (aeadOpenVerb.run b s).st.pending = s.pending := by
  simp only [aeadOpenVerb]; grind [State.chunkKeyOf_keeps, fail_keeps, done_keeps]

theorem aeadSealVerb_keeps (b : Barge) (s : State) :
    (aeadSealVerb.run b s).st.mem = s.mem ∧ (aeadSealVerb.run b s).st.pending = s.pending := by
  simp only [aeadSealVerb]; grind [State.chunkKeyOf_keeps, State.countSlot_keeps, State.sealChunk_keeps, failOpen_keeps]

theorem State.setBuffer_keeps (s : State) (a1 : Nat) (a2 : OpBuf) :
    (State.setBuffer s a1 a2).mem = s.mem ∧ (State.setBuffer s a1 a2).pending = s.pending := by
  unfold State.setBuffer; grind []

theorem PkForm.answer_keeps (a0 : PkForm) (a1 : Barge) (s : State) (a3 : Bytes) :
    (PkForm.answer a0 a1 s a3).st.mem = s.mem ∧ (PkForm.answer a0 a1 s a3).st.pending = s.pending := by
  unfold PkForm.answer; grind [done_keeps, fail_keeps, State.setBuffer_keeps]

theorem State.blind_keeps (s : State) (a1 : Nat) :
    (State.blind s a1).mem = s.mem ∧ (State.blind s a1).pending = s.pending := by
  unfold State.blind; grind [State.draw_keeps]

theorem PkForm.plain_keeps (f : PkForm) (b : Barge) (s : State) (work : State → List Bytes → State × Except W16 Bytes)
    (h : ∀ s os, (work s os).1.mem = s.mem ∧ (work s os).1.pending = s.pending) :
    (f.plain b s work).st.mem = s.mem ∧ (f.plain b s work).st.pending = s.pending := by
  unfold PkForm.plain
  split
  · exact ⟨rfl, rfl⟩
  · rename_i os _
    have := h (s.blind (fld b.payload 8 1)) os
    grind [State.blind_keeps, fail_keeps, PkForm.answer_keeps]

theorem State.privateKey_keeps (s : State) (a1 : Barge) (a2 : Nat → Bool) (a3 : Slot → Bool) :
    (State.privateKey s a1 a2 a3).1.mem = s.mem ∧ (State.privateKey s a1 a2 a3).1.pending = s.pending := by
  unfold State.privateKey; grind [State.fetch_keeps]

theorem PkForm.keyed_keeps (f : PkForm) (b : Barge) (s : State) (allowed : Slot → Bool)
    (work : State → Slot → Bytes → List Bytes → State × Except W16 Bytes) (h : ∀ s x k l, (work s x k l).1.mem = s.mem ∧
        (work s x k l).1.pending = s.pending) : (f.keyed b s allowed work).st.mem = s.mem ∧
            (f.keyed b s allowed work).st.pending = s.pending := by
  unfold PkForm.keyed
  have hk := s.privateKey_keeps b f.domain allowed
  generalize s.privateKey b f.domain allowed = r at hk
  obtain ⟨s1, e⟩ := r
  cases e with
  | error r => exact hk
  | ok y =>
    obtain ⟨x, k⟩ := y
    have hp := f.plain_keeps b s1 (fun s os => work s x k os) fun s os => h s x k os
    exact ⟨hp.1.trans hk.1, hp.2.trans hk.2⟩

theorem State.commitResult_keeps (s : State) (a1 : Nat × Nat × Nat × Bytes) :
    (State.commitResult s a1).mem = s.mem ∧ (State.commitResult s a1).pending = s.pending := by
  unfold State.commitResult; grind [State.setBuffer_keeps]

theorem State.countSignature_keeps (s : State) (a1 : List Nat) (a2 : Nat) :
    (State.countSignature s a1 a2).mem = s.mem ∧ (State.countSignature s a1 a2).pending = s.pending := by
  unfold State.countSignature
  dsimp only
  have hm : ∀ (l : List Nat) (x : Nat × State), ((l.foldl (fun (x : Nat × State) i =>
      (x.1 + (255 - x.2.freeNat.1 % 256),
          x.2.freeNat.2.countOps .hash (a1.getD (i % 8) a2) (x.2.freeNat.1 % 256))) x).2.mem = x.2.mem ∧
      (l.foldl (fun (x : Nat × State) i =>
      (x.1 + (255 - x.2.freeNat.1 % 256),
          x.2.freeNat.2.countOps .hash (a1.getD (i % 8) a2) (x.2.freeNat.1 % 256))) x).2.pending =
        x.2.pending) := by
    intro l
    induction l with
    | nil => intro x; exact ⟨rfl, rfl⟩
    | cons i l ih => intro x; simp only [List.foldl_cons, ih]; simp [State.countOps_keeps, State.freeNat_keeps]
  simp (disch := (intros; simp [State.countOps_keeps, State.freeNat_keeps])) only [foldl_mem, foldl_pending,
      State.countOps_keeps, hm,
    and_self]

theorem State.hmacKey_keeps (s : State) (a1 : Barge) (a2 : Nat) :
    (State.hmacKey s a1 a2).1.mem = s.mem ∧ (State.hmacKey s a1 a2).1.pending = s.pending := by
  unfold State.hmacKey; grind [State.fetch_keeps]

theorem State.noteLow_keeps (s : State) :
    (State.noteLow s).mem = s.mem ∧ (State.noteLow s).pending = s.pending := by
  unfold State.noteLow; grind [State.level_keeps]

theorem State.reserveLms_keeps (s : State) (a1 : Nat) :
    (State.reserveLms s a1).mem = s.mem ∧ (State.reserveLms s a1).pending = s.pending := by
  unfold State.reserveLms; grind []

theorem State.takePosition_keeps (s : State) :
    (State.takePosition s).1.mem = s.mem ∧ (State.takePosition s).1.pending = s.pending := by
  unfold State.takePosition; grind [State.reserveLms_keeps, State.noteLow_keeps]

theorem State.storeCert_keeps (s : State) (a1 : Nat) (a2 : Nat) :
    (State.storeCert s a1 a2).mem = s.mem ∧ (State.storeCert s a1 a2).pending = s.pending := by
  unfold State.storeCert; grind [State.mirror_keeps]

theorem State.signUnits_keeps (s : State) :
    (State.signUnits s).2.2.mem = s.mem ∧ (State.signUnits s).2.2.pending = s.pending := by
  unfold State.signUnits; grind [State.freeNat_keeps]

theorem State.signHead_keeps (s : State) (a1 : Bool) :
    (State.signHead s a1).mem = s.mem ∧ (State.signHead s a1).pending = s.pending := by
  unfold State.signHead; grind [State.takePosition_keeps, State.answer_keeps, State.freeNat_keeps, State.storeCert_keeps,
      State.faultEngine_keeps, State.signUnits_keeps, State.countSignature_keeps]

theorem State.signed_keeps (s : State) (a1 : Nat) (a2 : Nat) (a3 : Nat) (a4 : Bytes) (a5 : Bytes) :
    (State.signed s a1 a2 a3 a4 a5).1.mem = s.mem ∧ (State.signed s a1 a2 a3 a4 a5).1.pending = s.pending := by
  unfold State.signed; grind [State.drawSeed_keeps]

theorem ecdhDeriveVerb_keeps (b : Barge) (s : State) :
    (ecdhDeriveVerb.run b s).st.mem = s.mem ∧ (ecdhDeriveVerb.run b s).st.pending = s.pending := by
  simp only [ecdhDeriveVerb]; grind [PkForm.keyed_keeps]

theorem ecdsaSignRun_keeps (a0 : Bool) (a1 : Barge) (s : State) :
    (ecdsaSignRun a0 a1 s).st.mem = s.mem ∧ (ecdsaSignRun a0 a1 s).st.pending = s.pending := by
  unfold ecdsaSignRun; grind [State.signed_keeps, PkForm.keyed_keeps]

theorem ecdsaSignDx6100Verb_keeps (b : Barge) (s : State) :
    (ecdsaSignDx6100Verb.run b s).st.mem = s.mem ∧ (ecdsaSignDx6100Verb.run b s).st.pending = s.pending := by
  simp only [ecdsaSignDx6100Verb]; grind [ecdsaSignRun_keeps]

theorem ecdsaSignVerb_keeps (b : Barge) (s : State) :
    (ecdsaSignVerb.run b s).st.mem = s.mem ∧ (ecdsaSignVerb.run b s).st.pending = s.pending := by
  simp only [ecdsaSignVerb]; grind [ecdsaSignRun_keeps]

theorem ecdsaVerifyRun_keeps (a0 : Bool) (a1 : Barge) (s : State) :
    (ecdsaVerifyRun a0 a1 s).st.mem = s.mem ∧ (ecdsaVerifyRun a0 a1 s).st.pending = s.pending := by
  unfold ecdsaVerifyRun; grind [PkForm.plain_keeps]

theorem ecdsaVerifyDx6100Verb_keeps (b : Barge) (s : State) :
    (ecdsaVerifyDx6100Verb.run b s).st.mem = s.mem ∧ (ecdsaVerifyDx6100Verb.run b s).st.pending = s.pending := by
  simp only [ecdsaVerifyDx6100Verb]; grind [ecdsaVerifyRun_keeps]

theorem ecdsaVerifyVerb_keeps (b : Barge) (s : State) :
    (ecdsaVerifyVerb.run b s).st.mem = s.mem ∧ (ecdsaVerifyVerb.run b s).st.pending = s.pending := by
  simp only [ecdsaVerifyVerb]; grind [ecdsaVerifyRun_keeps]

theorem eddsaSignVerb_keeps (b : Barge) (s : State) :
    (eddsaSignVerb.run b s).st.mem = s.mem ∧ (eddsaSignVerb.run b s).st.pending = s.pending := by
  simp only [eddsaSignVerb]; grind [State.signed_keeps, PkForm.keyed_keeps]

theorem eddsaVerifyVerb_keeps (b : Barge) (s : State) :
    (eddsaVerifyVerb.run b s).st.mem = s.mem ∧ (eddsaVerifyVerb.run b s).st.pending = s.pending := by
  simp only [eddsaVerifyVerb]; grind [PkForm.plain_keeps]

theorem hashVerb_keeps (b : Barge) (s : State) :
    (hashVerb.run b s).st.mem = s.mem ∧ (hashVerb.run b s).st.pending = s.pending := by
  simp only [hashVerb]; grind [PkForm.plain_keeps]

theorem hmacGenerateVerb_keeps (b : Barge) (s : State) :
    (hmacGenerateVerb.run b s).st.mem = s.mem ∧ (hmacGenerateVerb.run b s).st.pending = s.pending := by
  simp only [hmacGenerateVerb]; grind [State.hmacKey_keeps, State.countSlot_keeps, PkForm.plain_keeps]

theorem hmacVerifyVerb_keeps (b : Barge) (s : State) :
    (hmacVerifyVerb.run b s).st.mem = s.mem ∧ (hmacVerifyVerb.run b s).st.pending = s.pending := by
  simp only [hmacVerifyVerb]; grind [State.hmacKey_keeps, PkForm.plain_keeps]

theorem kemDecapsVerb_keeps (b : Barge) (s : State) :
    (kemDecapsVerb.run b s).st.mem = s.mem ∧ (kemDecapsVerb.run b s).st.pending = s.pending := by
  simp only [kemDecapsVerb]; grind [PkForm.keyed_keeps]

theorem kemEncapsVerb_keeps (b : Barge) (s : State) :
    (kemEncapsVerb.run b s).st.mem = s.mem ∧ (kemEncapsVerb.run b s).st.pending = s.pending := by
  simp only [kemEncapsVerb]; grind [PkForm.plain_keeps, State.drawSeed_keeps]

theorem mldsaSignVerb_keeps (b : Barge) (s : State) :
    (mldsaSignVerb.run b s).st.mem = s.mem ∧ (mldsaSignVerb.run b s).st.pending = s.pending := by
  simp only [mldsaSignVerb]; grind [State.signed_keeps, PkForm.keyed_keeps]

theorem mldsaVerifyVerb_keeps (b : Barge) (s : State) :
    (mldsaVerifyVerb.run b s).st.mem = s.mem ∧ (mldsaVerifyVerb.run b s).st.pending = s.pending := by
  simp only [mldsaVerifyVerb]; grind [PkForm.plain_keeps]

theorem modOpVerb_keeps (b : Barge) (s : State) :
    (modOpVerb.run b s).st.mem = s.mem ∧ (modOpVerb.run b s).st.pending = s.pending := by
  simp only [modOpVerb]; grind [PkForm.plain_keeps]

theorem opbufAllocVerb_keeps (b : Barge) (s : State) :
    (opbufAllocVerb.run b s).st.mem = s.mem ∧ (opbufAllocVerb.run b s).st.pending = s.pending := by
  simp only [opbufAllocVerb]; grind [refuse_keeps, failOpen_keeps, done_keeps, State.setBuffer_keeps]

theorem opbufFreeVerb_keeps (b : Barge) (s : State) :
    (opbufFreeVerb.run b s).st.mem = s.mem ∧ (opbufFreeVerb.run b s).st.pending = s.pending := by
  simp only [opbufFreeVerb]; grind [done_keeps, State.setBuffer_keeps]

theorem opbufReadVerb_keeps (b : Barge) (s : State) :
    (opbufReadVerb.run b s).st.mem = s.mem ∧ (opbufReadVerb.run b s).st.pending = s.pending := by
  simp only [opbufReadVerb]; grind [failOpen_keeps, done_keeps]

theorem opbufWriteVerb_keeps (b : Barge) (s : State) :
    (opbufWriteVerb.run b s).st.mem = s.mem ∧ (opbufWriteVerb.run b s).st.pending = s.pending := by
  simp only [opbufWriteVerb]; grind [failOpen_keeps, done_keeps, State.setBuffer_keeps]

theorem pubkeyReadVerb_keeps (b : Barge) (s : State) :
    (pubkeyReadVerb.run b s).st.mem = s.mem ∧ (pubkeyReadVerb.run b s).st.pending = s.pending := by
  simp only [pubkeyReadVerb]; grind [PkForm.keyed_keeps]

theorem rsaPrivateRun_keeps (a0 : Bool) (a1 : Barge) (s : State) :
    (rsaPrivateRun a0 a1 s).st.mem = s.mem ∧ (rsaPrivateRun a0 a1 s).st.pending = s.pending := by
  unfold rsaPrivateRun; grind [PkForm.keyed_keeps]

theorem rsaPrivateVerb_keeps (b : Barge) (s : State) :
    (rsaPrivateVerb.run b s).st.mem = s.mem ∧ (rsaPrivateVerb.run b s).st.pending = s.pending := by
  simp only [rsaPrivateVerb]; grind [rsaPrivateRun_keeps]

theorem rsaPrivateDx6100Verb_keeps (b : Barge) (s : State) :
    (rsaPrivateDx6100Verb.run b s).st.mem = s.mem ∧ (rsaPrivateDx6100Verb.run b s).st.pending = s.pending := by
  simp only [rsaPrivateDx6100Verb]; grind [rsaPrivateRun_keeps]

theorem rsaPublicRun_keeps (a0 : Bool) (a1 : Barge) (s : State) :
    (rsaPublicRun a0 a1 s).st.mem = s.mem ∧ (rsaPublicRun a0 a1 s).st.pending = s.pending := by
  unfold rsaPublicRun; grind [PkForm.plain_keeps]

theorem rsaPublicVerb_keeps (b : Barge) (s : State) :
    (rsaPublicVerb.run b s).st.mem = s.mem ∧ (rsaPublicVerb.run b s).st.pending = s.pending := by
  simp only [rsaPublicVerb]; grind [rsaPublicRun_keeps]

theorem rsaPublicDx6100Verb_keeps (b : Barge) (s : State) :
    (rsaPublicDx6100Verb.run b s).st.mem = s.mem ∧ (rsaPublicDx6100Verb.run b s).st.pending = s.pending := by
  simp only [rsaPublicDx6100Verb]; grind [rsaPublicRun_keeps]

theorem xdhDeriveVerb_keeps (b : Barge) (s : State) :
    (xdhDeriveVerb.run b s).st.mem = s.mem ∧ (xdhDeriveVerb.run b s).st.pending = s.pending := by
  simp only [xdhDeriveVerb]; grind [PkForm.keyed_keeps]

theorem State.failSource_keeps (s : State) (a1 : Nat) (a2 : Bool) :
    (State.failSource s a1 a2).mem = s.mem ∧ (State.failSource s a1 a2).pending = s.pending := by
  unfold State.failSource; grind [State.setSource_keeps, State.level_keeps, State.raise_keeps]

theorem State.sourcesChanged_keeps (s : State) :
    (State.sourcesChanged s).mem = s.mem ∧ (State.sourcesChanged s).pending = s.pending := by
  unfold State.sourcesChanged; grind [State.refreshReady_keeps]

end Sys2Proof.Machine
end

