-- ==== Sys2Proof/Laws/KeepsChart.lean ====
section
/-! SUPPORT. What leaves memory and the queue alone, of flights and charts: one law per operation. -/

set_option Elab.async false
set_option linter.unusedSimpArgs false

namespace Sys2Proof.Machine

theorem State.clearTransit_keeps (s : State) (a1 : Nat) :
    (State.clearTransit s a1).mem = s.mem ∧ (State.clearTransit s a1).pending = s.pending := by
  unfold State.clearTransit; grind [State.writeSlot_keeps]

theorem State.freeTransit_keeps (s : State) (a1 : Nat) :
    (State.freeTransit s a1).mem = s.mem ∧ (State.freeTransit s a1).pending = s.pending := by
  unfold State.freeTransit; simp (disch := (intros; grind [State.clearTransit_keeps])) only [State.clearTransit_keeps,
      foldl_mem, foldl_pending]; grind [State.clearTransit_keeps]

theorem State.unpin_keeps (s : State) (a1 : List W64) :
    (State.unpin s a1).mem = s.mem ∧ (State.unpin s a1).pending = s.pending := by
  unfold State.unpin; grind [State.sweepCache_keeps]

theorem State.discharge_keeps (s : State) (a1 : Nat) :
    (State.discharge s a1).mem = s.mem ∧ (State.discharge s a1).pending = s.pending := by
  unfold State.discharge; grind [State.freeEngine_keeps, State.freeTransit_keeps, State.dropBarge_keeps, State.unpin_keeps,
      State.releaseHolds_keeps]

theorem State.modClass_keeps (s : State) (a1 : Nat) (a2 : ClassRegs → ClassRegs) :
    (State.modClass s a1 a2).mem = s.mem ∧ (State.modClass s a1 a2).pending = s.pending := by
  unfold State.modClass; grind []

theorem State.judgeLate_keeps (s : State) (a1 : BargeRec) :
    (State.judgeLate s a1).mem = s.mem ∧ (State.judgeLate s a1).pending = s.pending := by
  unfold State.judgeLate; grind [State.raise_keeps, State.modClass_keeps]

theorem State.endBarge_keeps (s : State) (a1 : Nat) (a2 : Reply) :
    (State.endBarge s a1 a2).mem = s.mem ∧ (State.endBarge s a1 a2).pending = s.pending := by
  unfold State.endBarge; grind [State.returnCharge_keeps, State.settle_keeps, State.discharge_keeps, State.undoBarge_keeps,
      State.judgeLate_keeps]

theorem State.abortBarges_keeps (s : State) (a1 : BargeRec → Bool) (a2 : W16) :
    (State.abortBarges s a1 a2).mem = s.mem ∧ (State.abortBarges s a1 a2).pending = s.pending := by
  unfold State.abortBarges; simp (disch := (intros; grind [State.endBarge_keeps])) only [State.endBarge_keeps, foldl_mem,
      foldl_pending]; grind [State.endBarge_keeps]

theorem State.applyLink_keeps (s : State) (s1 : State) (a2 : Nat) :
    (State.applyLink s s1 a2).mem = s.mem ∧ (State.applyLink s s1 a2).pending = s.pending := by
  unfold State.applyLink; grind [State.linkDown_keeps, State.modLink_keeps]

theorem State.setSettingsBank_keeps (s : State) (a1 : Bool) (a2 : Bytes) :
    (State.setSettingsBank s a1 a2).mem = s.mem ∧ (State.setSettingsBank s a1 a2).pending = s.pending := by
  unfold State.setSettingsBank; grind []

theorem State.cutStore_keeps (s : State) :
    (State.cutStore s).mem = s.mem ∧ (State.cutStore s).pending = s.pending := by
  unfold State.cutStore; grind [State.freeNat_keeps, State.setSettingsBank_keeps]

theorem State.remapSpares_keeps (s : State) :
    (State.remapSpares s).mem = s.mem ∧ (State.remapSpares s).pending = s.pending := by
  unfold State.remapSpares; grind [State.setBlock_keeps, State.fillPlaces_keeps]

theorem State.stageChunk_keeps (s : State) (a1 : Nat) (a2 : Nat) (a3 : Bytes) :
    (State.stageChunk s a1 a2 a3).st.mem = s.mem ∧ (State.stageChunk s a1 a2 a3).st.pending = s.pending := by
  unfold State.stageChunk; grind [fail_keeps, done_keeps, refuse_keeps]

theorem State.switchChart_keeps (s : State) (a1 : Map (List Bytes)) (a2 : Bytes) :
    (State.switchChart s a1 a2).mem = s.mem ∧ (State.switchChart s a1 a2).pending = s.pending := by
  unfold State.switchChart; grind [State.remapSpares_keeps, State.refreshReady_keeps, State.applyLink_keeps]

theorem applyStaged_keeps (a0 : Barge) (s : State) :
    (applyStaged a0 s).st.mem = s.mem ∧ (applyStaged a0 s).st.pending = s.pending := by
  unfold applyStaged; grind [State.switchChart_keeps, done_keeps]

theorem chartApplyVerb_keeps (b : Barge) (s : State) :
    (chartApplyVerb.run b s).st.mem = s.mem ∧ (chartApplyVerb.run b s).st.pending = s.pending := by
  simp only [chartApplyVerb]; grind [applyStaged_keeps]

theorem chartDiscardVerb_keeps (b : Barge) (s : State) :
    (chartDiscardVerb.run b s).st.mem = s.mem ∧ (chartDiscardVerb.run b s).st.pending = s.pending := by
  simp only [chartDiscardVerb]; grind [done_keeps]

theorem readBytes_keeps (s : State) (a1 : Bytes) (a2 : Nat) (a3 : Nat) :
    (readBytes s a1 a2 a3).st.mem = s.mem ∧ (readBytes s a1 a2 a3).st.pending = s.pending := by
  unfold readBytes; grind [fail_keeps, done_keeps]

theorem chartReadVerb_keeps (b : Barge) (s : State) :
    (chartReadVerb.run b s).st.mem = s.mem ∧ (chartReadVerb.run b s).st.pending = s.pending := by
  simp only [chartReadVerb]; grind [readBytes_keeps]

theorem chartStageVerb_keeps (b : Barge) (s : State) :
    (chartStageVerb.run b s).st.mem = s.mem ∧ (chartStageVerb.run b s).st.pending = s.pending := by
  simp only [chartStageVerb]; grind [State.stageChunk_keeps]

theorem chartStatusDx6100Verb_keeps (b : Barge) (s : State) :
    (chartStatusDx6100Verb.run b s).st.mem = s.mem ∧ (chartStatusDx6100Verb.run b s).st.pending = s.pending := by
  simp only [chartStatusDx6100Verb]; grind [done_keeps]

theorem chartStatusVerb_keeps (b : Barge) (s : State) :
    (chartStatusVerb.run b s).st.mem = s.mem ∧ (chartStatusVerb.run b s).st.pending = s.pending := by
  simp only [chartStatusVerb]; grind [done_keeps]

theorem settingsReadVerb_keeps (b : Barge) (s : State) :
    (settingsReadVerb.run b s).st.mem = s.mem ∧ (settingsReadVerb.run b s).st.pending = s.pending := by
  simp only [settingsReadVerb]; grind [readBytes_keeps]

theorem storeSettings_keeps (s : State) :
    (storeSettings s).st.mem = s.mem ∧ (storeSettings s).st.pending = s.pending := by
  unfold storeSettings; grind [done_keeps, fail_keeps, State.setSettingsBank_keeps, refuse_keeps]

theorem settingsStoreVerb_keeps (b : Barge) (s : State) :
    (settingsStoreVerb.run b s).st.mem = s.mem ∧ (settingsStoreVerb.run b s).st.pending = s.pending := by
  simp only [settingsStoreVerb]; grind [storeSettings_keeps]

end Sys2Proof.Machine
end

