-- ==== Sys2Proof/Laws/KeepsPair.lean ====
section
/-! SUPPORT. What leaves memory and the queue alone, of the pair, its witness and its domain: one law per operation. -/

set_option Elab.async false
set_option linter.unusedSimpArgs false

namespace Sys2Proof.Machine

theorem State.spreadRecord_keeps (s : State) (a1 : Bytes) :
    (State.spreadRecord s a1).mem = s.mem ∧ (State.spreadRecord s a1).pending = s.pending := by
  have ha : ∀ (s : State) (a : Binding), (s.addBinding a).mem = s.mem := fun s a => (s.addBinding_keeps a).1
  have hb : ∀ (s : State) (a : Binding), (s.addBinding a).pending = s.pending := fun s a => (s.addBinding_keeps a).2
  unfold State.spreadRecord
  dsimp only
  split
  · exact ⟨rfl, rfl⟩
  · simp only [State.endUnbound_keeps, foldl_mem ha, foldl_pending hb, State.setSlice_keeps]
    split
    · exact State.startDrain_keeps ..
    · exact ⟨rfl, rfl⟩

theorem State.moveRegistrar_keeps (s : State) (a1 : W64) :
    (State.moveRegistrar s a1).mem = s.mem ∧ (State.moveRegistrar s a1).pending = s.pending := by
  unfold State.moveRegistrar; grind []

theorem State.expel_keeps (s : State) (a1 : W64) :
    (State.expel s a1).mem = s.mem ∧ (State.expel s a1).pending = s.pending := by
  unfold State.expel; simp (disch := (intros; grind [State.shredAdvance_keeps])) only [State.shredAdvance_keeps, foldl_mem,
      foldl_pending]; grind [State.shredAdvance_keeps]

theorem State.commitFloor_keeps (s : State) (a1 : Nat) (a2 : Nat) (a3 : Nat) :
    (State.commitFloor s a1 a2 a3).mem = s.mem ∧ (State.commitFloor s a1 a2 a3).pending = s.pending := by
  unfold State.commitFloor; grind [State.raise_keeps, State.evidence_keeps]

theorem State.domainShred_keeps (s : State) (a1 : Nat) (a2 : W32) (a3 : W64) :
    (State.domainShred s a1 a2 a3).mem = s.mem ∧ (State.domainShred s a1 a2 a3).pending = s.pending := by
  unfold State.domainShred
  dsimp only; (repeat' split) <;> first
    | exact ⟨rfl, rfl⟩
    | grind [State.dropKek_keeps, State.eraseSlot_keeps, State.mirror_keeps]
    | (simp (disch := (intros; grind [State.dropKek_keeps, State.eraseSlot_keeps,
        State.mirror_keeps])) only [State.dropKek_keeps, State.eraseSlot_keeps, State.mirror_keeps, foldl_mem,
            foldl_pending]; done)
    | (simp (disch := (intros; grind [State.dropKek_keeps, State.eraseSlot_keeps,
        State.mirror_keeps])) only [State.dropKek_keeps, State.eraseSlot_keeps, State.mirror_keeps, foldl_mem,
            foldl_pending]; grind [State.dropKek_keeps, State.eraseSlot_keeps, State.mirror_keeps])

theorem State.applyDomain_keeps (s : State) (a1 : Nat) (a2 : Nat) (a3 : Bytes) :
    (State.applyDomain s a1 a2 a3).mem = s.mem ∧ (State.applyDomain s a1 a2 a3).pending = s.pending := by
  unfold State.applyDomain
  have he : ∀ e, ((s.enterShred e).getD s).mem = s.mem ∧ ((s.enterShred e).getD s).pending = s.pending := by
    intro e
    cases h : s.enterShred e with
    | none => exact ⟨rfl, rfl⟩
    | some x => exact State.enterShred_keeps _ _ _ h
  grind [State.takeKeeper_keeps, State.domainShred_keeps, State.commitFloor_keeps, State.expel_keeps, State.spreadRecord_keeps,
    State.moveRegistrar_keeps]

theorem State.applyNumbered_keeps (s : State) (a1 : Nat) (a2 : Nat) (a3 : Bytes) :
    (State.applyNumbered s a1 a2 a3).mem = s.mem ∧ (State.applyNumbered s a1 a2 a3).pending = s.pending := by
  unfold State.applyNumbered; grind [State.mark_keeps, State.applyDomain_keeps]

theorem State.readyLease_keeps (s : State) (a1 : Option (Bool × Nat)) :
    (State.readyLease s a1).mem = s.mem ∧ (State.readyLease s a1).pending = s.pending := by
  unfold State.readyLease; grind []

theorem State.advanceShreds_keeps (s : State) :
    (State.advanceShreds s).mem = s.mem ∧ (State.advanceShreds s).pending = s.pending := by
  unfold State.advanceShreds; simp (disch := (intros; grind [State.shredAdvance_keeps,
      State.sendMirrored_keeps])) only [State.shredAdvance_keeps, State.sendMirrored_keeps, foldl_mem,
          foldl_pending]; grind [State.shredAdvance_keeps, State.sendMirrored_keeps]

theorem State.acknowledge_keeps (s : State) (a1 : Nat) :
    (State.acknowledge s a1).mem = s.mem ∧ (State.acknowledge s a1).pending = s.pending := by
  unfold State.acknowledge; simp (disch := (intros; grind [State.advanceShreds_keeps, State.releaseMutation_keeps,
      State.readyLease_keeps])) only [State.advanceShreds_keeps, State.releaseMutation_keeps, State.readyLease_keeps,
          foldl_mem, foldl_pending]; grind [State.advanceShreds_keeps, State.releaseMutation_keeps, State.readyLease_keeps]

theorem State.discardHeld_keeps (s : State) :
    (State.discardHeld s).mem = s.mem ∧ (State.discardHeld s).pending = s.pending := by
  unfold State.discardHeld; grind []

theorem State.learnTerm_keeps (s : State) (a1 : Nat) :
    (State.learnTerm s a1).mem = s.mem ∧ (State.learnTerm s a1).pending = s.pending := by
  unfold State.learnTerm; grind [State.discardHeld_keeps]

theorem State.enterSyncing_keeps (s : State) :
    (State.enterSyncing s).mem = s.mem ∧ (State.enterSyncing s).pending = s.pending := by
  unfold State.enterSyncing; grind []

theorem State.afterHello_keeps (s : State) (a1 : Nat) (a2 : Nat) :
    (State.afterHello s a1 a2).mem = s.mem ∧ (State.afterHello s a1 a2).pending = s.pending := by
  unfold State.afterHello; grind [State.enterSyncing_keeps, State.learnTerm_keeps]

theorem State.takeReservation_keeps (s : State) (a1 : Bytes) :
    (State.takeReservation s a1).mem = s.mem ∧ (State.takeReservation s a1).pending = s.pending := by
  unfold State.takeReservation
  extract_lets c ring s1
  clear_value ring
  split <;> exact ⟨rfl, rfl⟩

theorem State.copySlot_keeps (s : State) (a1 : Nat) (a2 : Slot) :
    (State.copySlot s a1 a2).mem = s.mem ∧ (State.copySlot s a1 a2).pending = s.pending := by
  unfold State.copySlot; grind [State.writeSlot_keeps]

theorem State.applyPlain_keeps (s : State) (a1 : MirrorRec) :
    (State.applyPlain s a1).mem = s.mem ∧ (State.applyPlain s a1).pending = s.pending := by
  have he : ∀ e, ((s.enterShred e).getD s).mem = s.mem ∧ ((s.enterShred e).getD s).pending = s.pending := by
    intro e
    cases h : s.enterShred e with
    | none => exact ⟨rfl, rfl⟩
    | some x => exact State.enterShred_keeps _ _ _ h
  unfold State.applyPlain
  dsimp only
  grind [State.copySlot_keeps, State.takeKeeper_keeps, State.takeReservation_keeps, State.setIdem_keeps, State.mark_keeps,
    State.setSlice_keeps, State.markTouch_keeps, State.applyNumbered_keeps]

theorem State.applyRecord_keeps (s : State) (a1 : MirrorRec) :
    (State.applyRecord s a1).mem = s.mem ∧ (State.applyRecord s a1).pending = s.pending := by
  unfold State.applyRecord
  (repeat' split) <;> first
    | grind [State.applyPlain_keeps]
    | (simp (disch := (intros; grind [State.applyPlain_keeps])) only [State.applyPlain_keeps, foldl_mem, foldl_pending]; done)
    | (simp (disch := (intros; grind [State.applyPlain_keeps])) only [State.applyPlain_keeps, foldl_mem,
        foldl_pending]; grind [State.applyPlain_keeps])

theorem State.applyEpochs_keeps (s : State) (n : Nat) : (s.applyEpochs n).mem = s.mem ∧
    (s.applyEpochs n).pending = s.pending := by
  induction n generalizing s with
  | zero => exact ⟨rfl, rfl⟩
  | succ n ih =>
    unfold State.applyEpochs
    dsimp only
    repeat' split
    · exact ⟨rfl, rfl⟩
    · exact ⟨rfl, rfl⟩
    · simp (disch := (intros; grind [State.applyRecord_keeps])) only [ih, foldl_mem, foldl_pending, and_self]

theorem State.auditRange_keeps (s : State) (a1 : Nat) (a2 : Bytes) :
    (State.auditRange s a1 a2).mem = s.mem ∧ (State.auditRange s a1 a2).pending = s.pending := by
  unfold State.auditRange
  (repeat' split) <;> first
    | grind [State.sendTowpath_keeps, State.raise_keeps]
    | (simp (disch := (intros; grind [State.sendTowpath_keeps, State.raise_keeps])) only [State.sendTowpath_keeps,
        State.raise_keeps, foldl_mem, foldl_pending]; done)
    | (simp (disch := (intros; grind [State.sendTowpath_keeps, State.raise_keeps])) only [State.sendTowpath_keeps,
        State.raise_keeps, foldl_mem, foldl_pending]; grind [State.sendTowpath_keeps, State.raise_keeps])

theorem State.dropTowpath_keeps (s : State) :
    (State.dropTowpath s).mem = s.mem ∧ (State.dropTowpath s).pending = s.pending := by
  unfold State.dropTowpath; grind []

theorem State.revertAll_keeps (s : State) (ms : List Mutation) (k : List (Nat × Nat)) : (s.revertAll ms k).mem = s.mem ∧
    (s.revertAll ms k).pending = s.pending := by
  induction ms generalizing s k with
  | nil => exact ⟨rfl, rfl⟩
  | cons m ms ih =>
    unfold State.revertAll
    split
    · exact ih _ _
    · simp (disch := (intros; grind [State.restorePrior_keeps])) only [ih, foldl_mem, foldl_pending, and_self]

theorem State.toSolo_keeps (s : State) :
    (State.toSolo s).mem = s.mem ∧ (State.toSolo s).pending = s.pending := by
  unfold State.toSolo; simp (disch := (intros; grind [State.tellAnchor_keeps, State.releaseMutation_keeps,
      State.tellDirectory_keeps, State.readyLease_keeps, State.revertAll_keeps,
          State.advanceShreds_keeps])) only [State.tellAnchor_keeps, State.releaseMutation_keeps,
              State.tellDirectory_keeps, State.readyLease_keeps, State.revertAll_keeps, State.advanceShreds_keeps,
                  foldl_mem, foldl_pending]; grind [State.tellAnchor_keeps, State.releaseMutation_keeps,
                      State.tellDirectory_keeps, State.readyLease_keeps, State.revertAll_keeps, State.advanceShreds_keeps]

theorem State.toSeeking_keeps (s : State) :
    (State.toSeeking s).mem = s.mem ∧ (State.toSeeking s).pending = s.pending := by
  unfold State.toSeeking; grind []

theorem State.startSync_keeps (s : State) :
    (State.startSync s).mem = s.mem ∧ (State.startSync s).pending = s.pending := by
  unfold State.startSync; simp (disch := (intros; grind [State.mutate_keeps,
      State.closeEpoch_keeps])) only [State.mutate_keeps, State.closeEpoch_keeps, foldl_mem,
          foldl_pending]; grind [State.mutate_keeps, State.closeEpoch_keeps]

theorem State.helloDone_keeps (s : State) (a1 : Nat) :
    (State.helloDone s a1).mem = s.mem ∧ (State.helloDone s a1).pending = s.pending := by
  unfold State.helloDone; grind [State.toSolo_keeps, State.toSeeking_keeps, State.startSync_keeps]

theorem State.pullDomain_keeps (s : State) :
    (State.pullDomain s).mem = s.mem ∧ (State.pullDomain s).pending = s.pending := by
  unfold State.pullDomain; grind [State.sendInterlink_keeps]

theorem State.openTowpath_keeps (s : State) (a1 : Nat) (a2 : Bytes) :
    (State.openTowpath s a1 a2).1.mem = s.mem ∧ (State.openTowpath s a1 a2).1.pending = s.pending := by
  unfold State.openTowpath; grind [State.dropTowpath_keeps, State.pullDomain_keeps, State.sendInterlink_keeps,
      State.modTow_keeps, State.learnTerm_keeps]

theorem State.toWitness_keeps (s : State) (a1 : Nat) (a2 : Bytes) :
    (State.toWitness s a1 a2).mem = s.mem ∧ (State.toWitness s a1 a2).pending = s.pending := by
  unfold State.toWitness; grind [State.emit_keeps, State.sendInterlink_keeps]

theorem State.partnerLost_keeps (s : State) :
    (State.partnerLost s).mem = s.mem ∧ (State.partnerLost s).pending = s.pending := by
  unfold State.partnerLost; grind [State.modTow_keeps, State.toSolo_keeps, State.toSeeking_keeps, State.toWitness_keeps]

theorem State.releaseEpochs_keeps (s : State) :
    (State.releaseEpochs s).mem = s.mem ∧ (State.releaseEpochs s).pending = s.pending := by
  unfold State.releaseEpochs; simp (disch :=
      (intros; grind [State.releaseMutation_keeps])) only [State.releaseMutation_keeps, foldl_mem,
          foldl_pending]; grind [State.releaseMutation_keeps]

theorem State.releaseHeld_keeps (s : State) :
    (State.releaseHeld s).mem = s.mem ∧ (State.releaseHeld s).pending = s.pending := by
  unfold State.releaseHeld; simp (disch := (intros; grind [State.respond_keeps])) only [State.respond_keeps, foldl_mem,
      foldl_pending]; grind [State.respond_keeps]

theorem State.resumeServing_keeps (s : State) :
    (State.resumeServing s).mem = s.mem ∧ (State.resumeServing s).pending = s.pending := by
  unfold State.resumeServing; grind [State.toSolo_keeps, State.startSync_keeps, State.releaseHeld_keeps,
      State.releaseEpochs_keeps]

theorem State.takeSegment_keeps (s : State) (a1 : Bytes) (a2 : Bytes) :
    (State.takeSegment s a1 a2).mem = s.mem ∧ (State.takeSegment s a1 a2).pending = s.pending := by
  unfold State.takeSegment; grind [State.applyEpochs_keeps, State.sendTowpath_keeps]

theorem State.takeSlotCopy_keeps (s : State) (a1 : Nat) (a2 : Slot) :
    (State.takeSlotCopy s a1 a2).mem = s.mem ∧ (State.takeSlotCopy s a1 a2).pending = s.pending := by
  unfold State.takeSlotCopy; grind [State.lostSlot_keeps, State.writeSlot_keeps, State.copySlot_keeps, State.restoreSlot_keeps]

theorem State.announceBasin_keeps (s : State) :
    (State.announceBasin s).mem = s.mem ∧ (State.announceBasin s).pending = s.pending := by
  unfold State.announceBasin
  (repeat' split) <;> first
    | grind [State.emit_keeps]
    | (simp (disch := (intros; grind [State.emit_keeps])) only [State.emit_keeps, foldl_mem, foldl_pending]; done)
    | (simp (disch := (intros; grind [State.emit_keeps])) only [State.emit_keeps, foldl_mem,
        foldl_pending]; grind [State.emit_keeps])

theorem State.answerSwitchover_keeps (s : State) (a1 : Reply) :
    (State.answerSwitchover s a1).mem = s.mem ∧ (State.answerSwitchover s a1).pending = s.pending := by
  unfold State.answerSwitchover; grind [State.answer_keeps]

theorem State.applyReceived_keeps (s : State) :
    (State.applyReceived s).mem = s.mem ∧ (State.applyReceived s).pending = s.pending := by
  unfold State.applyReceived; simp (disch := (intros; grind [State.applyRecord_keeps])) only [State.applyRecord_keeps,
      foldl_mem, foldl_pending]; grind [State.applyRecord_keeps]

theorem State.beginFence_keeps (s : State) (a1 : Nat) :
    (State.beginFence s a1).mem = s.mem ∧ (State.beginFence s a1).pending = s.pending := by
  unfold State.beginFence; grind [State.applyReceived_keeps, State.raise_keeps]

theorem State.beginSwitchover_keeps (s : State) (a1 : Option Waiter) :
    (State.beginSwitchover s a1).mem = s.mem ∧ (State.beginSwitchover s a1).pending = s.pending := by
  unfold State.beginSwitchover; grind []

theorem State.continueBallots_keeps (s : State) :
    (State.continueBallots s).mem = s.mem ∧ (State.continueBallots s).pending = s.pending := by
  unfold State.continueBallots; grind [State.mirror_keeps]

theorem State.continueShreds_keeps (s : State) :
    (State.continueShreds s).mem = s.mem ∧ (State.continueShreds s).pending = s.pending := by
  unfold State.continueShreds; simp (disch := (intros; grind [State.resumeShred_keeps,
      State.advanceShreds_keeps])) only [State.resumeShred_keeps, State.advanceShreds_keeps, foldl_mem,
          foldl_pending]; grind [State.resumeShred_keeps, State.advanceShreds_keeps]

theorem State.continueSlices_keeps (s : State) :
    (State.continueSlices s).mem = s.mem ∧ (State.continueSlices s).pending = s.pending := by
  unfold State.continueSlices; simp (disch := (intros; grind [State.finishDrain_keeps,
      State.setSlice_keeps])) only [State.finishDrain_keeps, State.setSlice_keeps, foldl_mem,
          foldl_pending]; grind [State.finishDrain_keeps, State.setSlice_keeps]

theorem State.witnessSend_keeps (s : State) (a1 : W64) (a2 : W64) (a3 : Nat) (a4 : Nat) (a5 : Nat) :
    (State.witnessSend s a1 a2 a3 a4 a5).mem = s.mem ∧ (State.witnessSend s a1 a2 a3 a4 a5).pending = s.pending := by
  unfold State.witnessSend; grind [State.emit_keeps, State.sendInterlink_keeps]

theorem State.setWitnessed_keeps (s : State) (a1 : W64) (a2 : WitnessRec) :
    (State.setWitnessed s a1 a2).mem = s.mem ∧ (State.setWitnessed s a1 a2).pending = s.pending := by
  unfold State.setWitnessed; grind []

theorem State.grantPair_keeps (s : State) (a1 : W64) (a2 : W64) (a3 : WitnessRec) :
    (State.grantPair s a1 a2 a3).mem = s.mem ∧ (State.grantPair s a1 a2 a3).pending = s.pending := by
  unfold State.grantPair; grind [State.witnessSend_keeps, State.setWitnessed_keeps]

theorem State.decideClaim_keeps (s : State) (a1 : W64) (a2 : W64) (a3 : WitnessRec) :
    (State.decideClaim s a1 a2 a3).mem = s.mem ∧ (State.decideClaim s a1 a2 a3).pending = s.pending := by
  unfold State.decideClaim; grind [State.grantPair_keeps, State.witnessSend_keeps, State.setWitnessed_keeps]

theorem State.holderBeat_keeps (s : State) (a1 : W64) (a2 : W64) (a3 : Nat) :
    (State.holderBeat s a1 a2 a3).mem = s.mem ∧ (State.holderBeat s a1 a2 a3).pending = s.pending := by
  unfold State.holderBeat; grind [State.witnessSend_keeps, State.setWitnessed_keeps]

theorem State.renewed_keeps (s : State) (x) (h : State.renewed s = some x) :
    x.mem = s.mem ∧ x.pending = s.pending := by
  unfold State.renewed at h
  split at h
  · cases h
  · cases h; exact ⟨rfl, rfl⟩

theorem State.reserveAbove_keeps (s : State) (a1 : Nat × Nat) :
    (State.reserveAbove s a1).mem = s.mem ∧ (State.reserveAbove s a1).pending = s.pending := by
  unfold State.reserveAbove
  dsimp only
  split
  · exact ⟨rfl, rfl⟩
  · simp only [State.putCounter_keeps, State.takeBlock_keeps, and_self]

theorem State.reserveNext_keeps (s : State) :
    (State.reserveNext s).mem = s.mem ∧ (State.reserveNext s).pending = s.pending := by
  unfold State.reserveNext; simp (disch := (intros; grind [State.reserveAbove_keeps])) only [State.reserveAbove_keeps,
      foldl_mem, foldl_pending]; grind [State.reserveAbove_keeps]

theorem State.standbyBeat_keeps (s : State) (a1 : W64) (a2 : W64) (a3 : Nat) (a4 : Nat) (a5 : Nat) :
    (State.standbyBeat s a1 a2 a3 a4 a5).mem = s.mem ∧ (State.standbyBeat s a1 a2 a3 a4 a5).pending = s.pending := by
  unfold State.standbyBeat; grind [State.witnessSend_keeps, State.setWitnessed_keeps]

theorem State.switchAdvance_keeps (s : State) :
    (State.switchAdvance s).mem = s.mem ∧ (State.switchAdvance s).pending = s.pending := by
  unfold State.switchAdvance; grind [State.answerSwitchover_keeps, State.toWitness_keeps, State.sendTowpath_keeps]

theorem State.takePin_keeps (s : State) :
    (State.takePin s).mem = s.mem ∧ (State.takePin s).pending = s.pending := by
  unfold State.takePin; grind [State.resumeServing_keeps, State.beginFence_keeps]

theorem pairBindVerb_keeps (b : Barge) (s : State) :
    (pairBindVerb.run b s).st.mem = s.mem ∧ (pairBindVerb.run b s).st.pending = s.pending := by
  simp only [pairBindVerb]; grind [done_keeps, State.sendHello_keeps, State.newLink_keeps, State.takePin_keeps]

theorem pairPolicyVerb_keeps (b : Barge) (s : State) :
    (pairPolicyVerb.run b s).st.mem = s.mem ∧ (pairPolicyVerb.run b s).st.pending = s.pending := by
  simp only [pairPolicyVerb]; grind [done_keeps]

theorem pairStatusVerb_keeps (b : Barge) (s : State) :
    (pairStatusVerb.run b s).st.mem = s.mem ∧ (pairStatusVerb.run b s).st.pending = s.pending := by
  simp only [pairStatusVerb]; grind [done_keeps]

theorem pairStatusDxVerb_keeps (b : Barge) (s : State) :
    (pairStatusDxVerb.run b s).st.mem = s.mem ∧ (pairStatusDxVerb.run b s).st.pending = s.pending := by
  simp only [pairStatusDxVerb]; grind [done_keeps]

theorem pairSwitchoverVerb_keeps (b : Barge) (s : State) :
    (pairSwitchoverVerb.run b s).st.mem = s.mem ∧ (pairSwitchoverVerb.run b s).st.pending = s.pending := by
  simp only [pairSwitchoverVerb]; grind [State.beginSwitchover_keeps]

theorem witnessSetVerb_keeps (b : Barge) (s : State) :
    (witnessSetVerb.run b s).st.mem = s.mem ∧ (witnessSetVerb.run b s).st.pending = s.pending := by
  simp only [witnessSetVerb]; grind [done_keeps, State.takePin_keeps]

theorem State.ackDomain_keeps (s : State) (a1 : W64) (a2 : Nat) :
    (State.ackDomain s a1 a2).mem = s.mem ∧ (State.ackDomain s a1 a2).pending = s.pending := by
  unfold State.ackDomain
  (repeat' split) <;> first
    | grind [State.sendInterlink_keeps]
    | (simp (disch := (intros; grind [State.sendInterlink_keeps])) only [State.sendInterlink_keeps, foldl_mem,
        foldl_pending]; done)
    | (simp (disch := (intros; grind [State.sendInterlink_keeps])) only [State.sendInterlink_keeps, foldl_mem,
        foldl_pending]; grind [State.sendInterlink_keeps])

theorem State.admitMember_keeps (s : State) (a1 : W64) :
    (State.admitMember s a1).mem = s.mem ∧ (State.admitMember s a1).pending = s.pending := by
  unfold State.admitMember; grind [State.domainChange_keeps, State.applyDomain_keeps]

theorem State.answerClaim_keeps (s : State) (a1 : W64) (a2 : W64) (a3 : Nat) :
    (State.answerClaim s a1 a2 a3).mem = s.mem ∧ (State.answerClaim s a1 a2 a3).pending = s.pending := by
  unfold State.answerClaim; grind [State.sendAfter_keeps, State.reserve_keeps, State.ledgerFor_keeps, State.sendInterlink_keeps]

theorem State.dropInterlink_keeps (s : State) :
    (State.dropInterlink s).mem = s.mem ∧ (State.dropInterlink s).pending = s.pending := by
  unfold State.dropInterlink; grind []

theorem State.endForward_keeps (s : State) (a1 : Nat) (a2 : Forward) (a3 : Reply) (a4 : Bool) :
    (State.endForward s a1 a2 a3 a4).mem = s.mem ∧ (State.endForward s a1 a2 a3 a4).pending = s.pending := by
  unfold State.endForward; grind [State.respond_keeps]

theorem State.freshNonce_keeps (s : State) (a1 : PeerLink) :
    (State.freshNonce s a1).mem = s.mem ∧ (State.freshNonce s a1).pending = s.pending := by
  unfold State.freshNonce; grind [State.noteStalls_keeps, State.drawFrom_keeps, State.setPeer_keeps]

theorem State.giveRegistrar_keeps (s : State) (a1 : Bytes) :
    (State.giveRegistrar s a1).mem = s.mem ∧ (State.giveRegistrar s a1).pending = s.pending := by
  unfold State.giveRegistrar; grind [State.moveRegistrar_keeps, State.domainChange_keeps]

theorem State.heardPeer_keeps (s : State) (a1 : W64) (a2 : Nat) :
    (State.heardPeer s a1 a2).mem = s.mem ∧ (State.heardPeer s a1 a2).pending = s.pending := by
  unfold State.heardPeer; grind [State.setPeer_keeps]

theorem State.helloPeer_keeps (s : State) (a1 : W64) :
    (State.helloPeer s a1).mem = s.mem ∧ (State.helloPeer s a1).pending = s.pending := by
  unfold State.helloPeer; grind [State.sendInterlink_keeps]

theorem State.openInterlink_keeps (s : State) (a1 : Nat) (a2 : Bytes) :
    (State.openInterlink s a1 a2).1.mem = s.mem ∧ (State.openInterlink s a1 a2).1.pending = s.pending := by
  unfold State.openInterlink; grind [State.dropInterlink_keeps, State.heardPeer_keeps, State.pullDomain_keeps,
      State.sendInterlink_keeps]

theorem State.openPeer_keeps (s : State) (a1 : W64) :
    (State.openPeer s a1).mem = s.mem ∧ (State.openPeer s a1).pending = s.pending := by
  unfold State.openPeer; grind [State.freshNonce_keeps]

theorem State.rekey_keeps (s : State) :
    (State.rekey s).mem = s.mem ∧ (State.rekey s).pending = s.pending := by
  unfold State.rekey; simp (disch := (intros; grind [State.sendHello_keeps, State.newLink_keeps, State.freshNonce_keeps,
      State.helloPeer_keeps])) only [State.sendHello_keeps, State.newLink_keeps, State.freshNonce_keeps,
          State.helloPeer_keeps, foldl_mem, foldl_pending]; grind [State.sendHello_keeps, State.newLink_keeps,
              State.freshNonce_keeps, State.helloPeer_keeps]

theorem State.takeAck_keeps (s : State) (a1 : W64) (a2 : Nat) :
    (State.takeAck s a1 a2).mem = s.mem ∧ (State.takeAck s a1 a2).pending = s.pending := by
  unfold State.takeAck; grind [State.advanceShreds_keeps]

theorem State.takeDirAnchor_keeps (s : State) (a1 : W64) (a2 : Nat) (a3 : Option Bytes) :
    (State.takeDirAnchor s a1 a2 a3).mem = s.mem ∧ (State.takeDirAnchor s a1 a2 a3).pending = s.pending := by
  unfold State.takeDirAnchor; grind [State.setDirAnchor_keeps, State.endSessions_keeps, State.mirrorOnly_keeps]

theorem State.takeDirectory_keeps (s : State) (a1 : W64) (a2 : Nat) (a3 : Bool) (a4 : W32) (a5 : List (Nat × Bytes)) :
    (State.takeDirectory s a1 a2 a3 a4 a5).mem = s.mem ∧ (State.takeDirectory s a1 a2 a3 a4 a5).pending = s.pending := by
  unfold State.takeDirectory; grind [State.endSessions_keeps, State.mirrorOnly_keeps]

theorem State.takeDomain_keeps (s : State) (a1 : W64) (a2 : Bytes) :
    (State.takeDomain s a1 a2).mem = s.mem ∧ (State.takeDomain s a1 a2).pending = s.pending := by
  unfold State.takeDomain; grind [State.openPeer_keeps, State.helloPeer_keeps, State.installDk_keeps, State.sendInterlink_keeps]

theorem State.takeForwarded_keeps (s : State) (a1 : W64) (a2 : Nat) (a3 : Nat) (a4 : W32) (a5 : RequestRecord) :
    (State.takeForwarded s a1 a2 a3 a4 a5).mem = s.mem ∧ (State.takeForwarded s a1 a2 a3 a4 a5).pending = s.pending := by
  unfold State.takeForwarded; grind [State.takeIn_keeps, State.answerNow_keeps]

theorem State.takeRecordFrom_keeps (s : State) (a1 : W64) (a2 : Nat) (a3 : Nat) (a4 : Bytes) :
    (State.takeRecordFrom s a1 a2 a3 a4).mem = s.mem ∧ (State.takeRecordFrom s a1 a2 a3 a4).pending = s.pending := by
  unfold State.takeRecordFrom
  dsimp only
  (repeat' split) <;> first
    | exact ⟨rfl, rfl⟩
    | grind [State.sendAfter_keeps, State.giveRegistrar_keeps, State.takeAck_keeps, State.applyNumbered_keeps,
        State.ackDomain_keeps, State.domainChange_keeps, State.rekey_keeps, State.applyDomain_keeps, State.sendInterlink_keeps]
    | (simp (disch := (intros; grind [State.sendAfter_keeps, State.giveRegistrar_keeps, State.takeAck_keeps,
        State.applyNumbered_keeps, State.ackDomain_keeps, State.domainChange_keeps, State.rekey_keeps,
            State.applyDomain_keeps, State.sendInterlink_keeps])) only [State.sendAfter_keeps, State.giveRegistrar_keeps,
                State.takeAck_keeps, State.applyNumbered_keeps, State.ackDomain_keeps, State.domainChange_keeps,
                    State.rekey_keeps, State.applyDomain_keeps, State.sendInterlink_keeps, foldl_mem, foldl_pending]; done)
    | (simp (disch := (intros; grind [State.sendAfter_keeps, State.giveRegistrar_keeps, State.takeAck_keeps,
        State.applyNumbered_keeps, State.ackDomain_keeps, State.domainChange_keeps, State.rekey_keeps,
            State.applyDomain_keeps, State.sendInterlink_keeps])) only [State.sendAfter_keeps, State.giveRegistrar_keeps,
                State.takeAck_keeps, State.applyNumbered_keeps, State.ackDomain_keeps, State.domainChange_keeps,
                    State.rekey_keeps, State.applyDomain_keeps, State.sendInterlink_keeps, foldl_mem,
                        foldl_pending]; grind [State.sendAfter_keeps, State.giveRegistrar_keeps, State.takeAck_keeps,
                            State.applyNumbered_keeps, State.ackDomain_keeps, State.domainChange_keeps, State.rekey_keeps,
                                State.applyDomain_keeps, State.sendInterlink_keeps])

theorem State.takeUnit_keeps (s : State) (a1 : W64) (a2 : Nat) (a3 : Nat) :
    (State.takeUnit s a1 a2 a3).mem = s.mem ∧ (State.takeUnit s a1 a2 a3).pending = s.pending := by
  unfold State.takeUnit; grind [State.addUnit_keeps]

theorem basinConfigVerb_keeps (b : Barge) (s : State) :
    (basinConfigVerb.run b s).st.mem = s.mem ∧ (basinConfigVerb.run b s).st.pending = s.pending := by
  simp only [basinConfigVerb]; grind [done_keeps, State.tellBasin_keeps]

theorem basinStatusVerb_keeps (b : Barge) (s : State) :
    (basinStatusVerb.run b s).st.mem = s.mem ∧ (basinStatusVerb.run b s).st.pending = s.pending := by
  simp only [basinStatusVerb]; grind [done_keeps]

theorem commitFloorVerb_keeps (b : Barge) (s : State) :
    (commitFloorVerb.run b s).st.mem = s.mem ∧ (commitFloorVerb.run b s).st.pending = s.pending := by
  simp only [commitFloorVerb]; grind [refuse_keeps, State.domainChange_keeps, State.rekey_keeps, State.commitFloor_keeps,
      done_keeps]

theorem domainAdmitVerb_keeps (b : Barge) (s : State) :
    (domainAdmitVerb.run b s).st.mem = s.mem ∧ (domainAdmitVerb.run b s).st.pending = s.pending := by
  simp only [domainAdmitVerb]; grind [done_keeps]

theorem domainExpelVerb_keeps (b : Barge) (s : State) :
    (domainExpelVerb.run b s).st.mem = s.mem ∧ (domainExpelVerb.run b s).st.pending = s.pending := by
  simp only [domainExpelVerb]; grind [State.expel_keeps, doneWith_keeps]

theorem domainJoinVerb_keeps (b : Barge) (s : State) :
    (domainJoinVerb.run b s).st.mem = s.mem ∧ (domainJoinVerb.run b s).st.pending = s.pending := by
  simp only [domainJoinVerb]; simp (disch := (intros; grind [done_keeps, State.openPeer_keeps, State.drawSeed_keeps,
      State.sendInterlink_keeps])) only [done_keeps, State.openPeer_keeps, State.drawSeed_keeps, State.sendInterlink_keeps,
          foldl_mem, foldl_pending]; grind [done_keeps, State.openPeer_keeps, State.drawSeed_keeps, State.sendInterlink_keeps]

theorem domainRegistrarVerb_keeps (b : Barge) (s : State) :
    (domainRegistrarVerb.run b s).st.mem = s.mem ∧ (domainRegistrarVerb.run b s).st.pending = s.pending := by
  simp only [domainRegistrarVerb]; grind [done_keeps, State.giveRegistrar_keeps, fail_keeps]

theorem domainStatusVerb_keeps (b : Barge) (s : State) :
    (domainStatusVerb.run b s).st.mem = s.mem ∧ (domainStatusVerb.run b s).st.pending = s.pending := by
  simp only [domainStatusVerb]; grind [done_keeps]

theorem keyDistributeVerb_keeps (b : Barge) (s : State) :
    (keyDistributeVerb.run b s).st.mem = s.mem ∧ (keyDistributeVerb.run b s).st.pending = s.pending := by
  simp only [keyDistributeVerb]; grind [mismatch_keeps, done_keeps, fail_keeps, refuse_keeps]

theorem sliceSpreadVerb_keeps (b : Barge) (s : State) :
    (sliceSpreadVerb.run b s).st.mem = s.mem ∧ (sliceSpreadVerb.run b s).st.pending = s.pending := by
  simp only [sliceSpreadVerb]; grind [State.setSlice_keeps, doneWith_keeps, done_keeps, State.domainChange_keeps]

end Sys2Proof.Machine
end

