-- ==== Sys2Proof/Laws/KeepsCharter.lean ====
section
/-! SUPPORT. What leaves memory and the queue alone, of resets, the sentinel, boot,
    the charter and power: one law per operation. -/

set_option Elab.async false
set_option linter.unusedSimpArgs false

namespace Sys2Proof.Machine

theorem State.setLcSlot_keeps (s : State) (a1 : Option Nat) (a2 : LedgerSlot) :
    (State.setLcSlot s a1 a2).mem = s.mem ∧ (State.setLcSlot s a1 a2).pending = s.pending := by
  unfold State.setLcSlot; grind []

theorem State.eraseRoot_keeps (s : State) :
    (State.eraseRoot s).mem = s.mem ∧ (State.eraseRoot s).pending = s.pending := by
  unfold State.eraseRoot; grind []

theorem State.burnStep_keeps (a0 : LcWrite) (s : State) (a2 : Nat) :
    (State.burnStep a0 s a2).mem = s.mem ∧ (State.burnStep a0 s a2).pending = s.pending := by
  unfold State.burnStep; grind [State.setLcSlot_keeps, State.eraseRoot_keeps]

theorem State.clearCounts_keeps (s : State) :
    (State.clearCounts s).mem = s.mem ∧ (State.clearCounts s).pending = s.pending := by
  unfold State.clearCounts; grind []

theorem State.copyEntry_keeps (s : State) (a1 : StagedEntry) :
    (State.copyEntry s a1).mem = s.mem ∧ (State.copyEntry s a1).pending = s.pending := by
  unfold State.copyEntry; grind [State.logEntry_keeps]

theorem State.copyStaged_keeps (s : State) :
    (State.copyStaged s).mem = s.mem ∧ (State.copyStaged s).pending = s.pending := by
  unfold State.copyStaged
  dsimp only; (repeat' split) <;> first
    | exact ⟨rfl, rfl⟩
    | grind [State.copyEntry_keeps, State.evidence_keeps]
    | (simp (disch := (intros; grind [State.copyEntry_keeps, State.evidence_keeps])) only [State.copyEntry_keeps,
        State.evidence_keeps, foldl_mem, foldl_pending]; done)
    | (simp (disch := (intros; grind [State.copyEntry_keeps, State.evidence_keeps])) only [State.copyEntry_keeps,
        State.evidence_keeps, foldl_mem, foldl_pending]; grind [State.copyEntry_keeps, State.evidence_keeps])

theorem State.writeTransition_keeps (s : State) (a1 : LcWrite) :
    (State.writeTransition s a1).mem = s.mem ∧ (State.writeTransition s a1).pending = s.pending := by
  unfold State.writeTransition; simp (disch := (intros; grind [State.burnStep_keeps])) only [State.burnStep_keeps,
      foldl_mem, foldl_pending]; grind [State.burnStep_keeps]

theorem State.cutTransition_keeps (s : State) :
    (State.cutTransition s).mem = s.mem ∧ (State.cutTransition s).pending = s.pending := by
  unfold State.cutTransition
  (repeat' split) <;> first
    | grind [State.writeTransition_keeps, State.freeNat_keeps, State.burnStep_keeps]
    | (simp (disch := (intros; grind [State.writeTransition_keeps, State.freeNat_keeps,
        State.burnStep_keeps])) only [State.writeTransition_keeps, State.freeNat_keeps, State.burnStep_keeps, foldl_mem,
            foldl_pending]; done)
    | (simp (disch := (intros; grind [State.writeTransition_keeps, State.freeNat_keeps,
        State.burnStep_keeps])) only [State.writeTransition_keeps, State.freeNat_keeps, State.burnStep_keeps, foldl_mem,
            foldl_pending]; grind [State.writeTransition_keeps, State.freeNat_keeps, State.burnStep_keeps])

theorem State.totalLoss_keeps (s : State) :
    (State.totalLoss s).mem = s.mem ∧ (State.totalLoss s).pending = s.pending := by
  unfold State.totalLoss; grind [State.freeNat_keeps, State.eraseRoot_keeps]

theorem State.toCell_keeps (s : State) :
    (State.toCell s).mem = s.mem ∧ (State.toCell s).pending = s.pending := by
  unfold State.toCell; grind [State.totalLoss_keeps]

theorem State.zeroise_keeps (s : State) (a1 : W32) (a2 : Bool) :
    (State.zeroise s a1 a2).mem = s.mem ∧ (State.zeroise s a1 a2).pending = s.pending := by
  unfold State.zeroise; grind [State.eraseRoot_keeps, State.stage_keeps]

theorem State.startThermal_keeps (s : State) :
    (State.startThermal s).mem = s.mem ∧ (State.startThermal s).pending = s.pending := by
  unfold State.startThermal; grind [State.rebase_keeps, State.level_keeps]

theorem State.sensorEffects_keeps (s : State) (a1 : Nat) :
    (State.sensorEffects s a1).mem = s.mem ∧ (State.sensorEffects s a1).pending = s.pending := by
  unfold State.sensorEffects; grind [State.startThermal_keeps, State.level_keeps]

theorem State.stageAlarm_keeps (s : State) (a1 : Nat) (a2 : Nat) (a3 : Nat) (a4 : Nat) (a5 : Nat) (a6 : BitVec 32) :
    (State.stageAlarm s a1 a2 a3 a4 a5 a6).mem = s.mem ∧ (State.stageAlarm s a1 a2 a3 a4 a5 a6).pending = s.pending := by
  unfold State.stageAlarm; grind [State.stage_keeps]

theorem State.modSensor_keeps (s : State) (a1 : Nat) (a2 : Sensor → Sensor) :
    (State.modSensor s a1 a2).mem = s.mem ∧ (State.modSensor s a1 a2).pending = s.pending := by
  unfold State.modSensor; grind []

theorem State.disagree_keeps (s : State) (a1 : Nat) (a2 : Nat) (a3 : W32) :
    (State.disagree s a1 a2 a3).mem = s.mem ∧ (State.disagree s a1 a2 a3).pending = s.pending := by
  unfold State.disagree; grind [State.stage_keeps, State.modSensor_keeps, State.raise_keeps]

theorem State.joinGroup_keeps (s : State) :
    (State.joinGroup s).mem = s.mem ∧ (State.joinGroup s).pending = s.pending := by
  unfold State.joinGroup; grind []

theorem State.cellsReport_keeps (s : State) (a1 : Bool) (a2 : Bool) :
    (State.cellsReport s a1 a2).mem = s.mem ∧ (State.cellsReport s a1 a2).pending = s.pending := by
  unfold State.cellsReport; grind [State.totalLoss_keeps]

theorem State.conditionEnds_keeps (s : State) (a1 : Nat) :
    (State.conditionEnds s a1).mem = s.mem ∧ (State.conditionEnds s a1).pending = s.pending := by
  unfold State.conditionEnds; grind [State.modSensor_keeps, State.level_keeps]

theorem State.setLevel_keeps (a0 : Nat) (s : State) (a2 : Nat × Nat) :
    (State.setLevel a0 s a2).mem = s.mem ∧ (State.setLevel a0 s a2).pending = s.pending := by
  unfold State.setLevel; grind [State.modSensor_keeps, State.evidence_keeps]

theorem evidenceExportVerb_keeps (b : Barge) (s : State) :
    (evidenceExportVerb.run b s).st.mem = s.mem ∧ (evidenceExportVerb.run b s).st.pending = s.pending := by
  simp only [evidenceExportVerb]; grind [done_keeps]

theorem evidenceMarkVerb_keeps (b : Barge) (s : State) :
    (evidenceMarkVerb.run b s).st.mem = s.mem ∧ (evidenceMarkVerb.run b s).st.pending = s.pending := by
  simp only [evidenceMarkVerb]; grind [done_keeps]

theorem tamperConfigVerb_keeps (b : Barge) (s : State) :
    (tamperConfigVerb.run b s).st.mem = s.mem ∧ (tamperConfigVerb.run b s).st.pending = s.pending := by
  simp only [tamperConfigVerb]; simp (disch := (intros; grind [done_keeps, State.setLevel_keeps])) only [done_keeps,
      State.setLevel_keeps, foldl_mem, foldl_pending]; grind [done_keeps, State.setLevel_keeps]

theorem tamperStatusVerb_keeps (b : Barge) (s : State) :
    (tamperStatusVerb.run b s).st.mem = s.mem ∧ (tamperStatusVerb.run b s).st.pending = s.pending := by
  simp only [tamperStatusVerb]; grind [done_keeps]

theorem State.bankSkip_keeps (s : State) :
    (State.bankSkip s).mem = s.mem ∧ (State.bankSkip s).pending = s.pending := by
  unfold State.bankSkip; grind [State.raise_keeps]

theorem State.logSlot_keeps (s : State) (a1 : Nat × Nat × Nat × Nat) :
    (State.logSlot s a1).mem = s.mem ∧ (State.logSlot s a1).pending = s.pending := by
  unfold State.logSlot; grind [State.evidence_keeps]

theorem State.completeReturn_keeps (s : State) (a1 : Nat) :
    (State.completeReturn s a1).mem = s.mem ∧ (State.completeReturn s a1).pending = s.pending := by
  unfold State.completeReturn; grind [State.level_keeps, State.eraseRoot_keeps]

theorem State.enterScrap_keeps (s : State) :
    (State.enterScrap s).mem = s.mem ∧ (State.enterScrap s).pending = s.pending := by
  unfold State.enterScrap; grind [State.writeTransition_keeps]

theorem State.takeWalk_keeps (s : State) (a1 : Walk) :
    (State.takeWalk s a1).mem = s.mem ∧ (State.takeWalk s a1).pending = s.pending := by
  unfold State.takeWalk
  (repeat' split) <;> first
    | grind [State.logSlot_keeps, State.completeReturn_keeps, State.enterScrap_keeps]
    | (simp (disch := (intros; grind [State.logSlot_keeps, State.completeReturn_keeps,
        State.enterScrap_keeps])) only [State.logSlot_keeps, State.completeReturn_keeps, State.enterScrap_keeps, foldl_mem,
            foldl_pending]; done)
    | (simp (disch := (intros; grind [State.logSlot_keeps, State.completeReturn_keeps,
        State.enterScrap_keeps])) only [State.logSlot_keeps, State.completeReturn_keeps, State.enterScrap_keeps, foldl_mem,
            foldl_pending]; grind [State.logSlot_keeps, State.completeReturn_keeps, State.enterScrap_keeps])

theorem State.measureRom_keeps (s : State) :
    (State.measureRom s).mem = s.mem ∧ (State.measureRom s).pending = s.pending := by
  unfold State.measureRom; grind []

theorem State.chooseCopy_keeps (s : State) :
    (State.chooseCopy s).1.mem = s.mem ∧ (State.chooseCopy s).1.pending = s.pending := by
  unfold State.chooseCopy; grind []

theorem State.loadImage_keeps (s : State) :
    (State.loadImage s).mem = s.mem ∧ (State.loadImage s).pending = s.pending := by
  unfold State.loadImage; grind [State.chooseCopy_keeps, State.raise_keeps]

theorem State.rootWaits_keeps (s : State) :
    (State.rootWaits s).mem = s.mem ∧ (State.rootWaits s).pending = s.pending := by
  unfold State.rootWaits; grind []

theorem State.endorse_keeps (s : State) :
    (State.endorse s).mem = s.mem ∧ (State.endorse s).pending = s.pending := by
  unfold State.endorse; grind []

theorem State.derive_keeps (s : State) (a1 : Bytes) :
    (State.derive s a1).mem = s.mem ∧ (State.derive s a1).pending = s.pending := by
  unfold State.derive; grind []

theorem State.rootInput_keeps (s : State) (a1 : Nat) :
    (State.rootInput s a1).2.mem = s.mem ∧ (State.rootInput s a1).2.pending = s.pending := by
  unfold State.rootInput; grind [State.conditioned_keeps]

theorem State.formatMram_keeps (s : State) :
    (State.formatMram s).mem = s.mem ∧ (State.formatMram s).pending = s.pending := by
  unfold State.formatMram; grind []

theorem State.testRootStart_keeps (s : State) :
    (State.testRootStart s).mem = s.mem ∧ (State.testRootStart s).pending = s.pending := by
  unfold State.testRootStart; grind [State.rootInput_keeps, State.formatMram_keeps, State.derive_keeps]

theorem State.generateRoot_keeps (s : State) :
    (State.generateRoot s).mem = s.mem ∧ (State.generateRoot s).pending = s.pending := by
  unfold State.generateRoot; grind [State.rootInput_keeps, State.formatMram_keeps, State.derive_keeps, State.evidence_keeps]

theorem State.drawRoot_keeps (s : State) :
    (State.drawRoot s).mem = s.mem ∧ (State.drawRoot s).pending = s.pending := by
  unfold State.drawRoot; grind [State.testRootStart_keeps, State.endorse_keeps, State.generateRoot_keeps]

theorem State.loadTables_keeps (s : State) :
    (State.loadTables s).mem = s.mem ∧ (State.loadTables s).pending = s.pending := by
  unfold State.loadTables; grind [State.modLink_keeps]

theorem State.selectBank_keeps (s : State) :
    (State.selectBank s).1.mem = s.mem ∧ (State.selectBank s).1.pending = s.pending := by
  unfold State.selectBank; grind [State.bankSkip_keeps]

theorem State.mergeStored_keeps (s : State) (a1 : Bytes) :
    (State.mergeStored s a1).mem = s.mem ∧ (State.mergeStored s a1).pending = s.pending := by
  unfold State.mergeStored; grind [State.bankSkip_keeps]

theorem State.loadCharts_keeps (s : State) :
    (State.loadCharts s).mem = s.mem ∧ (State.loadCharts s).pending = s.pending := by
  unfold State.loadCharts
  dsimp only; (repeat' split) <;> first
    | exact ⟨rfl, rfl⟩
    | grind [State.loadTables_keeps, State.raise_keeps, State.selectBank_keeps, State.mergeStored_keeps]
    | (simp (disch := (intros; grind [State.loadTables_keeps, State.raise_keeps, State.selectBank_keeps,
        State.mergeStored_keeps])) only [State.loadTables_keeps, State.raise_keeps, State.selectBank_keeps,
            State.mergeStored_keeps, foldl_mem, foldl_pending]; done)
    | (simp (disch := (intros; grind [State.loadTables_keeps, State.raise_keeps, State.selectBank_keeps,
        State.mergeStored_keeps])) only [State.loadTables_keeps, State.raise_keeps, State.selectBank_keeps,
            State.mergeStored_keeps, foldl_mem, foldl_pending]; grind [State.loadTables_keeps, State.raise_keeps,
                State.selectBank_keeps, State.mergeStored_keeps])

theorem State.finishBoot_keeps (s : State) :
    (State.finishBoot s).mem = s.mem ∧ (State.finishBoot s).pending = s.pending := by
  unfold State.finishBoot; grind [State.loadCharts_keeps]

theorem State.formatCustody_keeps (s : State) :
    (State.formatCustody s).mem = s.mem ∧ (State.formatCustody s).pending = s.pending := by
  unfold State.formatCustody; grind []

theorem State.generatorTests_keeps (s : State) (t : StartTests) :
    (State.generatorTests s t).mem = s.mem ∧ (State.generatorTests s t).pending = s.pending := by
  have hm : ∀ (s : State) (i : Nat), (({ s with hlt := { s.hlt with powerOnFail :=
      true } }).raise 228 i 0xFFFF 0 0).mem = s.mem :=
    fun s i => (State.raise_keeps _ _ _ _ _ _).1
  have hp : ∀ (s : State) (i : Nat), (({ s with hlt := { s.hlt with powerOnFail :=
      true } }).raise 228 i 0xFFFF 0 0).pending = s.pending :=
    fun s i => (State.raise_keeps _ _ _ _ _ _).2
  have dm : ∀ (s : State) (i : Nat), (s.reseedDue i).mem = s.mem := fun s i => (s.reseedDue_keeps i).1
  have dp : ∀ (s : State) (i : Nat), (s.reseedDue i).pending = s.pending := fun s i => (s.reseedDue_keeps i).2
  unfold State.generatorTests
  dsimp only
  (repeat' split) <;> simp only [foldl_mem dm, foldl_pending dp, State.level_keeps, foldl_mem hm, foldl_pending hp, and_self]

theorem State.identityStatement_keeps (s : State) :
    (State.identityStatement s).mem = s.mem ∧ (State.identityStatement s).pending = s.pending := by
  unfold State.identityStatement; grind []

theorem State.loadSlot_keeps (s : State) (a1 : Nat) (a2 : Slot) :
    (State.loadSlot s a1 a2).mem = s.mem ∧ (State.loadSlot s a1 a2).pending = s.pending := by
  unfold State.loadSlot; grind [State.setSlot_keeps]

theorem State.loadRecord_keeps (s : State) (a1 : Nat × Bytes) :
    (State.loadRecord s a1).mem = s.mem ∧ (State.loadRecord s a1).pending = s.pending := by
  unfold State.loadRecord; grind [State.loadSlot_keeps]

theorem State.loadDom_keeps (s : State) :
    (State.loadDom s).mem = s.mem ∧ (State.loadDom s).pending = s.pending := by
  unfold State.loadDom; grind [State.formHck_keeps]

theorem State.loadVault_keeps (s : State) :
    (State.loadVault s).mem = s.mem ∧ (State.loadVault s).pending = s.pending := by
  have lm : ∀ (s : State) (e : Nat × Bytes), (State.loadRecord s e).mem = s.mem := fun s e => (State.loadRecord_keeps s e).1
  have lp : ∀ (s : State) (e : Nat × Bytes), (State.loadRecord s e).pending = s.pending :=
      fun s e => (State.loadRecord_keeps s e).2
  unfold State.loadVault
  dsimp only
  (repeat' split) <;> simp only [State.loadSlot_keeps, State.installDk_keeps, State.loadDom_keeps, foldl_mem lm,
      foldl_pending lp,
    State.drawFrom_keeps, State.setSlot_keeps, State.formatCustody_keeps, and_self]

theorem State.keeperStart_keeps (s : State) :
    (State.keeperStart s).mem = s.mem ∧ (State.keeperStart s).pending = s.pending := by
  have rm : ∀ (s : State) (e : Nat × ShredSeq), (State.resumeShred s e).mem = s.mem :=
      fun s e => (State.resumeShred_keeps s e).1
  have rp : ∀ (s : State) (e : Nat × ShredSeq), (State.resumeShred s e).pending = s.pending :=
      fun s e => (State.resumeShred_keeps s e).2
  unfold State.keeperStart
  dsimp only
  (repeat' split) <;> simp only [foldl_mem rm, foldl_pending rp, State.identityStatement_keeps, State.noteLow_keeps,
      State.drawFrom_keeps,
    State.loadVault_keeps, and_self]

theorem State.lockFlight_keeps (s : State) (a1 : Nat) :
    (State.lockFlight s a1).mem = s.mem ∧ (State.lockFlight s a1).pending = s.pending := by
  unfold State.lockFlight; grind [State.modFlight_keeps, State.level_keeps, State.raise_keeps]

theorem State.lockOut_keeps (s : State) (a1 : EngineKind × Nat) :
    (State.lockOut s a1).mem = s.mem ∧ (State.lockOut s a1).pending = s.pending := by
  unfold State.lockOut; grind [State.modEngine_keeps, State.level_keeps, State.raise_keeps, State.mapSpare_keeps]

theorem State.powerOnTests_keeps (s : State) (a1 : StartTests) :
    (State.powerOnTests s a1).mem = s.mem ∧ (State.powerOnTests s a1).pending = s.pending := by
  unfold State.powerOnTests; simp (disch := (intros; grind [State.level_keeps, State.raise_keeps, State.lockOut_keeps,
      State.lockFlight_keeps])) only [State.level_keeps, State.raise_keeps, State.lockOut_keeps, State.lockFlight_keeps,
          foldl_mem, foldl_pending]; grind [State.level_keeps, State.raise_keeps, State.lockOut_keeps, State.lockFlight_keeps]

theorem State.retestFence_keeps (s : State) :
    (State.retestFence s).mem = s.mem ∧ (State.retestFence s).pending = s.pending := by
  unfold State.retestFence; grind []

theorem State.testSource_keeps (s : State) (a1 : Nat) (a2 : Nat) :
    (State.testSource s a1 a2).mem = s.mem ∧ (State.testSource s a1 a2).pending = s.pending := by
  unfold State.testSource; grind [State.setSource_keeps, State.failSource_keeps, State.freeBool_keeps]

theorem State.enableNormal_keeps (s : State) (a1 : Bytes) :
    (State.enableNormal s a1).mem = s.mem ∧ (State.enableNormal s a1).pending = s.pending := by
  unfold State.enableNormal; grind [State.endSessions_keeps]

theorem State.acceptCert_keeps (s : State) (a1 : Bytes) :
    (State.acceptCert s a1).mem = s.mem ∧ (State.acceptCert s a1).pending = s.pending := by
  unfold State.acceptCert; grind [State.evidence_keeps, State.enableNormal_keeps]

theorem State.ballotRan_keeps (s : State) (a1 : Nat) (a2 : Ballot) :
    (State.ballotRan s a1 a2).mem = s.mem ∧ (State.ballotRan s a1 a2).pending = s.pending := by
  unfold State.ballotRan; grind [State.endBallot_keeps, State.setSlice_keeps]

theorem State.runCert_keeps (s : State) (a1 : Bytes) :
    (State.runCert s a1).st.mem = s.mem ∧ (State.runCert s a1).st.pending = s.pending := by
  unfold State.runCert; grind [done_keeps, State.acceptCert_keeps, refuse_keeps]

theorem State.stageFinal_keeps (s : State) (a1 : Nat) :
    (State.stageFinal s a1).st.mem = s.mem ∧ (State.stageFinal s a1).st.pending = s.pending := by
  unfold State.stageFinal; grind [refuse_keeps, fail_keeps, done_keeps]

theorem State.upToStamp_keeps (s : State) (a1 : Nat) :
    (State.upToStamp s a1).mem = s.mem ∧ (State.upToStamp s a1).pending = s.pending := by
  unfold State.upToStamp; grind [State.upTo_keeps]

theorem attestIdentityVerb_keeps (b : Barge) (s : State) :
    (attestIdentityVerb.run b s).st.mem = s.mem ∧ (attestIdentityVerb.run b s).st.pending = s.pending := by
  simp only [attestIdentityVerb]; grind [done_keeps]

theorem attestQuoteVerb_keeps (b : Barge) (s : State) :
    (attestQuoteVerb.run b s).st.mem = s.mem ∧ (attestQuoteVerb.run b s).st.pending = s.pending := by
  simp only [attestQuoteVerb]; grind [fail_keeps, done_keeps]

theorem dbgChallengeVerb_keeps (b : Barge) (s : State) :
    (dbgChallengeVerb.run b s).st.mem = s.mem ∧ (dbgChallengeVerb.run b s).st.pending = s.pending := by
  simp only [dbgChallengeVerb]; grind [State.draw_keeps, done_keeps]

theorem dbgEnableVerb_keeps (b : Barge) (s : State) :
    (dbgEnableVerb.run b s).st.mem = s.mem ∧ (dbgEnableVerb.run b s).st.pending = s.pending := by
  simp only [dbgEnableVerb]; grind [State.runCert_keeps, State.endBallot_keeps, State.ballotRan_keeps]

theorem dbgEndVerb_keeps (b : Barge) (s : State) :
    (dbgEndVerb.run b s).st.mem = s.mem ∧ (dbgEndVerb.run b s).st.pending = s.pending := by
  simp only [dbgEndVerb]; grind [done_keeps]

theorem foundryCertReadVerb_keeps (b : Barge) (s : State) :
    (foundryCertReadVerb.run b s).st.mem = s.mem ∧ (foundryCertReadVerb.run b s).st.pending = s.pending := by
  simp only [foundryCertReadVerb]; grind [readBytes_keeps]

theorem fwActivateVerb_keeps (b : Barge) (s : State) :
    (fwActivateVerb.run b s).st.mem = s.mem ∧ (fwActivateVerb.run b s).st.pending = s.pending := by
  simp only [fwActivateVerb]; grind [done_keeps]

theorem fwStageVerb_keeps (b : Barge) (s : State) :
    (fwStageVerb.run b s).st.mem = s.mem ∧ (fwStageVerb.run b s).st.pending = s.pending := by
  simp only [fwStageVerb]; grind [State.stageFinal_keeps, done_keeps]

theorem fwStatusVerb_keeps (b : Barge) (s : State) :
    (fwStatusVerb.run b s).st.mem = s.mem ∧ (fwStatusVerb.run b s).st.pending = s.pending := by
  simp only [fwStatusVerb]; grind [done_keeps]

theorem lcStatusVerb_keeps (b : Barge) (s : State) :
    (lcStatusVerb.run b s).st.mem = s.mem ∧ (lcStatusVerb.run b s).st.pending = s.pending := by
  simp only [lcStatusVerb]; grind [done_keeps]

theorem lcStatusDx6100Verb_keeps (b : Barge) (s : State) :
    (lcStatusDx6100Verb.run b s).st.mem = s.mem ∧ (lcStatusDx6100Verb.run b s).st.pending = s.pending := by
  simp only [lcStatusDx6100Verb]; grind [done_keeps]

theorem lcTransitionVerb_keeps (b : Barge) (s : State) :
    (lcTransitionVerb.run b s).st.mem = s.mem ∧ (lcTransitionVerb.run b s).st.pending = s.pending := by
  simp only [lcTransitionVerb]; grind [fail_keeps]

theorem vendorRevokeVerb_keeps (b : Barge) (s : State) :
    (vendorRevokeVerb.run b s).st.mem = s.mem ∧ (vendorRevokeVerb.run b s).st.pending = s.pending := by
  simp only [vendorRevokeVerb]; grind [fail_keeps, done_keeps]

theorem State.discharging_keeps (s : State) :
    (State.discharging s).mem = s.mem ∧ (State.discharging s).pending = s.pending := by
  unfold State.discharging; grind []

theorem State.evalPower_keeps (s : State) : s.evalPower.mem = s.mem ∧ s.evalPower.pending = s.pending := by
  unfold State.evalPower
  dsimp only
  split <;> simp (disch := (intros; grind [State.modDomain_keeps])) only [State.raise_keeps, foldl_mem, foldl_pending,
      State.rebase_keeps, and_self]

theorem State.setCage_keeps (s : State) (a1 : Nat) (a2 : CagePower) :
    (State.setCage s a1 a2).mem = s.mem ∧ (State.setCage s a1 a2).pending = s.pending := by
  unfold State.setCage; grind []

theorem State.wakeDomain_keeps (s : State) (a1 : Nat) :
    (State.wakeDomain s a1).mem = s.mem ∧ (State.wakeDomain s a1).pending = s.pending := by
  unfold State.wakeDomain; grind [State.modDomain_keeps, State.rebase_keeps, State.upTo_keeps]

end Sys2Proof.Machine
end

