-- ==== Sys2Proof/Laws/KeepsFabric.lean ====
section
/-! SUPPORT. What leaves memory and the queue alone, of the lock keeper, protection and registers: one law per operation. -/

set_option Elab.async false
set_option linter.unusedSimpArgs false

namespace Sys2Proof.Machine

theorem State.movePound_keeps (s : State) (a1 : Nat) :
    (State.movePound s a1).mem = s.mem ∧ (State.movePound s a1).pending = s.pending := by
  unfold State.movePound; simp (disch := (intros; grind [State.setBarge_keeps])) only [State.setBarge_keeps, foldl_mem,
      foldl_pending]; grind [State.setBarge_keeps]

theorem State.setCore_keeps (s : State) (a1 : Nat) (a2 : Core) :
    (State.setCore s a1 a2).mem = s.mem ∧ (State.setCore s a1 a2).pending = s.pending := by
  unfold State.setCore; grind []

theorem State.exceptionAt_keeps (s : State) (a1 : Nat) (a2 : Nat) :
    (State.exceptionAt s a1 a2).mem = s.mem ∧ (State.exceptionAt s a1 a2).pending = s.pending := by
  unfold State.exceptionAt; grind [State.setCore_keeps, State.emit_keeps]

theorem State.violation_keeps (s : State) (a1 : Refused) :
    (State.violation s a1).mem = s.mem ∧ (State.violation s a1).pending = s.pending := by
  unfold State.violation; grind [State.raise_keeps]

theorem State.denyRegister_keeps (s : State) (a1 : Reader) (a2 : Bool) (a3 : AccessKind) (a4 : Nat) :
    (State.denyRegister s a1 a2 a3 a4).mem = s.mem ∧ (State.denyRegister s a1 a2 a3 a4).pending = s.pending := by
  unfold State.denyRegister; grind [State.exceptionAt_keeps, State.raise_keeps, State.violation_keeps, State.emit_keeps]

theorem State.dropWrite_keeps (s : State) :
    (State.dropWrite s).mem = s.mem ∧ (State.dropWrite s).pending = s.pending := by
  unfold State.dropWrite; grind [State.raise_keeps]

theorem State.modCopies_keeps (s : State) (a1 : Reader) (a2 : ReaderRegs → ReaderRegs) :
    (State.modCopies s a1 a2).mem = s.mem ∧ (State.modCopies s a1 a2).pending = s.pending := by
  unfold State.modCopies; grind []

theorem State.popReport_keeps (s : State) (a1 : Reader) :
    (State.popReport s a1).mem = s.mem ∧ (State.popReport s a1).pending = s.pending := by
  unfold State.popReport; grind []

theorem State.wakeRegister_keeps (s : State) (a1 : Reader) (a2 : Nat) :
    (State.wakeRegister s a1 a2).mem = s.mem ∧ (State.wakeRegister s a1 a2).pending = s.pending := by
  unfold State.wakeRegister
  dsimp only
  (repeat' split) <;> first
    | exact ⟨rfl, rfl⟩
    | grind [State.wakeDomain_keeps]
    | (simp (disch := (intros; grind [State.wakeDomain_keeps])) only [State.wakeDomain_keeps, foldl_mem, foldl_pending]; done)
    | (simp (disch := (intros; grind [State.wakeDomain_keeps])) only [State.wakeDomain_keeps, foldl_mem,
        foldl_pending]; grind [State.wakeDomain_keeps])

theorem State.writeFbattr_keeps (s : State) (a1 : Reader) (a2 : Nat) :
    (State.writeFbattr s a1 a2).mem = s.mem ∧ (State.writeFbattr s a1 a2).pending = s.pending := by
  unfold State.writeFbattr; grind [State.dropWrite_keeps, State.modCopies_keeps]

theorem State.writeRattr_keeps (s : State) (a1 : Reader) (a2 : Nat) :
    (State.writeRattr s a1 a2).mem = s.mem ∧ (State.writeRattr s a1 a2).pending = s.pending := by
  unfold State.writeRattr; grind [State.dropWrite_keeps, State.modCopies_keeps]

theorem State.writeVctrl_keeps (s : State) (a1 : Reader) (a2 : Nat) :
    (State.writeVctrl s a1 a2).mem = s.mem ∧ (State.writeVctrl s a1 a2).pending = s.pending := by
  unfold State.writeVctrl; grind [State.dropWrite_keeps, State.modCopies_keeps, State.popReport_keeps]

theorem State.denyGate_keeps (s : State) (a1 : Reader) (a2 : Bool) :
    (State.denyGate s a1 a2).mem = s.mem ∧ (State.denyGate s a1 a2).pending = s.pending := by
  unfold State.denyGate; grind [State.raise_keeps, State.denyRegister_keeps]

theorem State.endKeeperJob_keeps (s : State) (a1 : Nat) :
    (State.endKeeperJob s a1).mem = s.mem ∧ (State.endKeeperJob s a1).pending = s.pending := by
  unfold State.endKeeperJob; grind [State.answer_keeps]

theorem State.gateDomain_keeps (s : State) (a1 : Nat) (a2 : GateAction) :
    (State.gateDomain s a1 a2).mem = s.mem ∧ (State.gateDomain s a1 a2).pending = s.pending := by
  unfold State.gateDomain; simp (disch := (intros; grind [State.rebase_keeps, State.movePound_keeps,
      State.modDomain_keeps])) only [State.rebase_keeps, State.movePound_keeps, State.modDomain_keeps, foldl_mem,
          foldl_pending]; grind [State.rebase_keeps, State.movePound_keeps, State.modDomain_keeps]

theorem State.requestGate_keeps (s : State) (a1 : Nat) (a2 : GateAction) (a3 : Bool) :
    (State.requestGate s a1 a2 a3).mem = s.mem ∧ (State.requestGate s a1 a2 a3).pending = s.pending := by
  unfold State.requestGate
  dsimp only; (repeat' split) <;> first
    | exact ⟨rfl, rfl⟩
    | grind [State.gateDomain_keeps, State.raise_keeps, State.movePound_keeps, State.modDomain_keeps]
    | (simp (disch := (intros; grind [State.gateDomain_keeps, State.raise_keeps, State.movePound_keeps,
        State.modDomain_keeps])) only [State.gateDomain_keeps, State.raise_keeps, State.movePound_keeps,
            State.modDomain_keeps, foldl_mem, foldl_pending]; done)
    | (simp (disch := (intros; grind [State.gateDomain_keeps, State.raise_keeps, State.movePound_keeps,
        State.modDomain_keeps])) only [State.gateDomain_keeps, State.raise_keeps, State.movePound_keeps,
            State.modDomain_keeps, foldl_mem, foldl_pending]; grind [State.gateDomain_keeps, State.raise_keeps,
                State.movePound_keeps, State.modDomain_keeps])

theorem State.restoreDomain_keeps (s : State) (a1 : Nat) :
    (State.restoreDomain s a1).mem = s.mem ∧ (State.restoreDomain s a1).pending = s.pending := by
  unfold State.restoreDomain; grind [State.modDomain_keeps, State.rebase_keeps]

theorem State.writeGate_keeps (s : State) (a1 : Nat) (a2 : Nat) :
    (State.writeGate s a1 a2).mem = s.mem ∧ (State.writeGate s a1 a2).pending = s.pending := by
  unfold State.writeGate
  dsimp only
  (repeat' split) <;> first
    | exact ⟨rfl, rfl⟩
    | grind [State.rebase_keeps, State.requestGate_keeps, State.movePound_keeps, State.restoreDomain_keeps,
        State.modDomain_keeps]
    | (simp (disch := (intros; grind [State.rebase_keeps, State.requestGate_keeps, State.movePound_keeps,
        State.restoreDomain_keeps, State.modDomain_keeps])) only [State.rebase_keeps, State.requestGate_keeps,
            State.movePound_keeps, State.restoreDomain_keeps, State.modDomain_keeps, foldl_mem, foldl_pending]; done)
    | (simp (disch := (intros; grind [State.rebase_keeps, State.requestGate_keeps, State.movePound_keeps,
        State.restoreDomain_keeps, State.modDomain_keeps])) only [State.rebase_keeps, State.requestGate_keeps,
            State.movePound_keeps, State.restoreDomain_keeps, State.modDomain_keeps, foldl_mem,
                foldl_pending]; grind [State.rebase_keeps, State.requestGate_keeps, State.movePound_keeps,
                    State.restoreDomain_keeps, State.modDomain_keeps])

theorem State.gateWrite_keeps (s : State) (a1 : RegWrite) :
    (State.gateWrite s a1).mem = s.mem ∧ (State.gateWrite s a1).pending = s.pending := by
  unfold State.gateWrite; grind [State.denyGate_keeps, State.writeGate_keeps]

theorem State.writeGatereq_keeps (s : State) (a1 : Nat) (a2 : Nat) (a3 : Bool) :
    (State.writeGatereq s a1 a2 a3).mem = s.mem ∧ (State.writeGatereq s a1 a2 a3).pending = s.pending := by
  unfold State.writeGatereq; grind [State.requestGate_keeps, State.modDomain_keeps, State.restoreDomain_keeps]

theorem State.gatereqWrite_keeps (s : State) (a1 : RegWrite) (a2 : Nat) :
    (State.gatereqWrite s a1 a2).mem = s.mem ∧ (State.gatereqWrite s a1 a2).pending = s.pending := by
  unfold State.gatereqWrite; grind [State.denyRegister_keeps, State.writeGatereq_keeps]

theorem State.grantQueued_keeps (s : State) (a1 : Nat) :
    (State.grantQueued s a1).mem = s.mem ∧ (State.grantQueued s a1).pending = s.pending := by
  unfold State.grantQueued; grind [State.gateDomain_keeps]

theorem State.sluice_keeps (s : State) (a1 : Nat) :
    (State.sluice s a1).mem = s.mem ∧ (State.sluice s a1).pending = s.pending := by
  unfold State.sluice; grind [State.setBlock_keeps]

theorem State.revokeLeases_keeps (s : State) (a1 : Nat) (a2 : GateAction) :
    (State.revokeLeases s a1 a2).mem = s.mem ∧ (State.revokeLeases s a1 a2).pending = s.pending := by
  unfold State.revokeLeases; simp (disch := (intros; grind [State.endKeeperJob_keeps, State.gateDomain_keeps,
      State.raise_keeps, State.sluice_keeps, State.endBarge_keeps, State.modDomain_keeps])) only [State.endKeeperJob_keeps,
          State.gateDomain_keeps, State.raise_keeps, State.sluice_keeps, State.endBarge_keeps, State.modDomain_keeps,
              foldl_mem, foldl_pending]; grind [State.endKeeperJob_keeps, State.gateDomain_keeps, State.raise_keeps,
                  State.sluice_keeps, State.endBarge_keeps, State.modDomain_keeps]

theorem State.writeLease_keeps (s : State) (a1 : Nat) (a2 : Nat) :
    (State.writeLease s a1 a2).mem = s.mem ∧ (State.writeLease s a1 a2).pending = s.pending := by
  unfold State.writeLease; grind [State.modDomain_keeps]

theorem State.dropWaiters_keeps (s : State) :
    (State.dropWaiters s).mem = s.mem ∧ (State.dropWaiters s).pending = s.pending := by
  unfold State.dropWaiters; grind []

theorem State.abortWaiter_keeps (s : State) (a1 : Waiter) :
    (State.abortWaiter s a1).mem = s.mem ∧ (State.abortWaiter s a1).pending = s.pending := by
  unfold State.abortWaiter; grind [State.answer_keeps]

theorem State.abortSecure_keeps (s : State) :
    (State.abortSecure s).mem = s.mem ∧ (State.abortSecure s).pending = s.pending := by
  unfold State.abortSecure; simp (disch := (intros; grind [State.dropWaiters_keeps, State.abortBarges_keeps,
      State.abortWaiter_keeps])) only [State.dropWaiters_keeps, State.abortBarges_keeps, State.abortWaiter_keeps,
          foldl_mem, foldl_pending]; grind [State.dropWaiters_keeps, State.abortBarges_keeps, State.abortWaiter_keeps]

theorem State.deliverHeld_keeps (s : State) :
    (State.deliverHeld s).mem = s.mem ∧ (State.deliverHeld s).pending = s.pending := by
  unfold State.deliverHeld; simp (disch := (intros; grind [State.route_keeps])) only [State.route_keeps, foldl_mem,
      foldl_pending]; grind [State.route_keeps]

theorem State.endKeeperLeases_keeps (s : State) :
    (State.endKeeperLeases s).mem = s.mem ∧ (State.endKeeperLeases s).pending = s.pending := by
  unfold State.endKeeperLeases; simp (disch := (intros; grind [State.grantQueued_keeps])) only [State.grantQueued_keeps,
      foldl_mem, foldl_pending]; grind [State.grantQueued_keeps]

theorem State.endRestart_keeps (s : State) :
    (State.endRestart s).mem = s.mem ∧ (State.endRestart s).pending = s.pending := by
  unfold State.endRestart; grind [State.deliverHeld_keeps, State.raise_keeps, State.applyEpochs_keeps,
      State.advanceShreds_keeps, State.sendTowpath_keeps]

theorem State.freshCores_keeps (s : State) (a1 : Bool) :
    (State.freshCores s a1).mem = s.mem ∧ (State.freshCores s a1).pending = s.pending := by
  unfold State.freshCores; grind []

theorem State.reloadUnits_keeps (s : State) (a1 : Bool) :
    (State.reloadUnits s a1).mem = s.mem ∧ (State.reloadUnits s a1).pending = s.pending := by
  unfold State.reloadUnits; grind []

theorem State.startNormalRestart_keeps (s : State) :
    (State.startNormalRestart s).mem = s.mem ∧ (State.startNormalRestart s).pending = s.pending := by
  unfold State.startNormalRestart; grind [State.endSessions_keeps, State.reloadUnits_keeps, State.abortBarges_keeps,
      State.freshCores_keeps]

theorem State.kickNormal_keeps (s : State) (a1 : W32) :
    (State.kickNormal s a1).mem = s.mem ∧ (State.kickNormal s a1).pending = s.pending := by
  unfold State.kickNormal; grind [State.startNormalRestart_keeps]

theorem State.restoreKeys_keeps (s : State) :
    (State.restoreKeys s).mem = s.mem ∧ (State.restoreKeys s).pending = s.pending := by
  unfold State.restoreKeys; grind [State.derive_keeps, State.loadDom_keeps]

theorem State.clearFault_keeps (s : State) (a1 : EngineKind) (a2 : Nat) (a3 : W32) (a4 : W32) :
    (State.clearFault s a1 a2 a3 a4).mem = s.mem ∧ (State.clearFault s a1 a2 a3 a4).pending = s.pending := by
  unfold State.clearFault; grind [State.modEngine_keeps]

theorem State.linkcfgBy_keeps (s : State) (w : RegWrite) (f : State → Nat → State) (h : ∀ s n, (f s n).mem = s.mem ∧
    (f s n).pending = s.pending) : (s.linkcfgBy w f).mem = s.mem ∧ (s.linkcfgBy w f).pending = s.pending := by
  unfold State.linkcfgBy; grind [State.denyRegister_keeps, State.wakeRegister_keeps]

theorem State.retrain_keeps (s : State) (a1 : Nat) :
    (State.retrain s a1).mem = s.mem ∧ (State.retrain s a1).pending = s.pending := by
  unfold State.retrain; grind [State.modLink_keeps, State.linkDown_keeps]

theorem State.resetPcs_keeps (s : State) (a1 : Nat) (a2 : W32) :
    (State.resetPcs s a1 a2).mem = s.mem ∧ (State.resetPcs s a1 a2).pending = s.pending := by
  unfold State.resetPcs; grind [State.retrain_keeps]

theorem State.writeCharter_keeps (s : State) (a1 : Reader) (a2 : Nat) (a3 : W32) :
    (State.writeCharter s a1 a2 a3).mem = s.mem ∧ (State.writeCharter s a1 a2 a3).pending = s.pending := by
  unfold State.writeCharter; grind [State.modCopies_keeps]

theorem State.writeEvcfg_keeps (s : State) (a1 : Reader) (a2 : Nat) :
    (State.writeEvcfg s a1 a2).mem = s.mem ∧ (State.writeEvcfg s a1 a2).pending = s.pending := by
  unfold State.writeEvcfg; grind [State.dropWrite_keeps]

theorem State.writeLinkcfg_keeps (s : State) (a1 : Nat) (a2 : W32) :
    (State.writeLinkcfg s a1 a2).mem = s.mem ∧ (State.writeLinkcfg s a1 a2).pending = s.pending := by
  unfold State.writeLinkcfg; grind [State.resetPcs_keeps, State.retrain_keeps, State.modLink_keeps]

theorem State.writeTow_keeps (s : State) (a1 : Nat) (a2 : Nat) (a3 : W32) :
    (State.writeTow s a1 a2 a3).mem = s.mem ∧ (State.writeTow s a1 a2 a3).pending = s.pending := by
  unfold State.writeTow; grind []

theorem State.writeProtect_keeps (s : State) (a1 : Reader) (a2 : Nat) (a3 : W32) :
    (State.writeProtect s a1 a2 a3).mem = s.mem ∧ (State.writeProtect s a1 a2 a3).pending = s.pending := by
  unfold State.writeProtect; grind [State.modCopies_keeps, State.writeRattr_keeps, State.writeFbattr_keeps,
      State.writeVctrl_keeps]

theorem State.writePower_keeps (s : State) (a1 : Reader) (a2 : Nat) (a3 : Nat) (a4 : W32) :
    (State.writePower s a1 a2 a3 a4).mem = s.mem ∧ (State.writePower s a1 a2 a3 a4).pending = s.pending := by
  unfold State.writePower; grind [State.writeGate_keeps, State.writeLease_keeps, State.writeGatereq_keeps]

theorem State.writePcnt_keeps (s : State) (a1 : Reader) (a2 : Nat) (a3 : Nat) (a4 : Nat) (a5 : W32) :
    (State.writePcnt s a1 a2 a3 a4 a5).mem = s.mem ∧ (State.writePcnt s a1 a2 a3 a4 a5).pending = s.pending := by
  unfold State.writePcnt; grind [State.setCounter_keeps]

theorem State.writePcfg_keeps (s : State) (a1 : Reader) (a2 : Nat) (a3 : Nat) (a4 : Nat) (a5 : W32) :
    (State.writePcfg s a1 a2 a3 a4 a5).mem = s.mem ∧ (State.writePcfg s a1 a2 a3 a4 a5).pending = s.pending := by
  unfold State.writePcfg; grind [State.dropWrite_keeps, State.setCounter_keeps]

theorem State.writeSite_keeps (s : State) (a1 : Reader) (a2 : Nat) (a3 : Nat) (a4 : Nat) (a5 : W32) :
    (State.writeSite s a1 a2 a3 a4 a5).mem = s.mem ∧ (State.writeSite s a1 a2 a3 a4 a5).pending = s.pending := by
  unfold State.writeSite; grind [State.modCopies_keeps, State.writePcfg_keeps, State.writePcnt_keeps]

theorem State.countLookup_keeps (s : State) (a1 : Master) (a2 : FabricAccess) :
    (State.countLookup s a1 a2).mem = s.mem ∧ (State.countLookup s a1 a2).pending = s.pending := by
  unfold State.countLookup; grind [State.countSite_keeps]

theorem State.endRefused_keeps (s : State) (a1 : Nat) :
    (State.endRefused s a1).mem = s.mem ∧ (State.endRefused s a1).pending = s.pending := by
  unfold State.endRefused; grind [State.endJob_keeps, State.modBarge_keeps]

theorem State.refusedMaster_keeps (s : State) (a1 : Master) (a2 : FabricAccess) (a3 : Nat) (a4 : Nat) :
    (State.refusedMaster s a1 a2 a3 a4).mem = s.mem ∧ (State.refusedMaster s a1 a2 a3 a4).pending = s.pending := by
  unfold State.refusedMaster; grind [State.dropFrame_keeps, State.dropWrite_keeps, State.freeNat_keeps,
      State.exceptionAt_keeps, State.discharge_keeps, State.endRefused_keeps, State.endJob_keeps, State.emit_keeps]

theorem State.reportRefusal_keeps (s : State) (a1 : Master) (a2 : FabricAccess) (a3 : Nat) (a4 : Nat × Nat × Nat × Option Nat) :
    (State.reportRefusal s a1 a2 a3 a4).mem = s.mem ∧ (State.reportRefusal s a1 a2 a3 a4).pending = s.pending := by
  unfold State.reportRefusal; grind [State.freeNat_keeps, State.violation_keeps]

theorem State.refuseAccess_keeps (s : State) (a1 : Master) (a2 : FabricAccess) (a3 : Nat × Nat × Nat × Nat × Option Nat) :
    (State.refuseAccess s a1 a2 a3).mem = s.mem ∧ (State.refuseAccess s a1 a2 a3).pending = s.pending := by
  unfold State.refuseAccess; grind [State.raise_keeps, State.reportRefusal_keeps, State.refusedMaster_keeps]

theorem State.wakePlaces_keeps (s : State) (a1 : Reader) (a2 : Nat) (a3 : Nat) :
    (State.wakePlaces s a1 a2 a3).mem = s.mem ∧ (State.wakePlaces s a1 a2 a3).pending = s.pending := by
  unfold State.wakePlaces; simp (disch := (intros; grind [State.wakeDomain_keeps])) only [State.wakeDomain_keeps,
      foldl_mem, foldl_pending]; grind [State.wakeDomain_keeps]

theorem State.healthAfterHalt_keeps (s : State) (a1 : Bool) :
    (State.healthAfterHalt s a1).mem = s.mem ∧ (State.healthAfterHalt s a1).pending = s.pending := by
  unfold State.healthAfterHalt; grind []

theorem State.freeWords_keeps (s : State) :
    (State.freeWords s).2.mem = s.mem ∧ (State.freeWords s).2.pending = s.pending := by
  unfold State.freeWords; grind [State.freeBytes_keeps]

theorem State.dbgCore_keeps (s : State) (a1 : Nat) (a2 : Nat) :
    (State.dbgCore s a1 a2).st.mem = s.mem ∧ (State.dbgCore s a1 a2).st.pending = s.pending := by
  unfold State.dbgCore; grind [done_keeps, State.freeWords_keeps, State.healthAfterHalt_keeps, State.setCore_keeps]

theorem State.portRefuses_keeps (s : State) (a1 : PortAnswer) :
    (State.portRefuses s a1).mem = s.mem ∧ (State.portRefuses s a1).pending = s.pending := by
  unfold State.portRefuses; grind [State.raise_keeps]

theorem dbgCoreVerb_keeps (b : Barge) (s : State) :
    (dbgCoreVerb.run b s).st.mem = s.mem ∧ (dbgCoreVerb.run b s).st.pending = s.pending := by
  simp only [dbgCoreVerb]; grind [State.dbgCore_keeps, fail_keeps, State.portRefuses_keeps]

end Sys2Proof.Machine
end

