-- ==== Sys2Proof/Laws/KeepsSteps.lean ====
section
/-! SUPPORT. What leaves memory and the queue alone, of ballots, admission, flight steps and jobs: one law per operation. -/

set_option Elab.async false
set_option linter.unusedSimpArgs false

namespace Sys2Proof.Machine

theorem State.headWaiters_keeps (s : State) (a1 : Ballot) (a2 : Bytes) :
    (State.headWaiters s a1 a2).mem = s.mem ∧ (State.headWaiters s a1 a2).pending = s.pending := by
  unfold State.headWaiters; grind [State.setSlice_keeps]

theorem finishBallot_keeps (s0 : State) (id : Nat) (x : Ballot) (e : Effect) :
    (finishBallot s0 id x e).st.mem = e.st.mem ∧ (finishBallot s0 id x e).st.pending = e.st.pending := by
  unfold finishBallot; grind [State.ballotRan_keeps, State.headWaiters_keeps, State.mirror_keeps]

theorem State.executeBallot_keeps (s : State) (b : Barge) (id : Nat) (x : Ballot) (v : Verb) (h : ∀ b s,
    (v.run b s).st.mem = s.mem ∧ (v.run b s).st.pending = s.pending) : (s.executeBallot b id x v).st.mem = s.mem ∧
        (s.executeBallot b id x v).st.pending = s.pending := by
  have hw := fun b => v.workFrom_keeps b 111 s h
  unfold State.executeBallot; grind [fail_keeps, State.endBallot_keeps, finishBallot_keeps]

theorem State.propose_keeps (s : State) (a1 : Barge) :
    (State.propose s a1).st.mem = s.mem ∧ (State.propose s a1).st.pending = s.pending := by
  unfold State.propose; grind [fail_keeps, doneWith_keeps, State.setBallot_keeps]

theorem verbs01_keeps (v : Verb) (h : v ∈ verbs01) (b : Barge) (s : State) : (v.run b s).st.mem = s.mem ∧
    (v.run b s).st.pending = s.pending := by
  simp only [verbs01, List.mem_cons, List.not_mem_nil, or_false] at h
  rcases h with rfl | rfl | rfl | rfl
  · exact sessionInfoVerb_keeps b s
  · exact moduleInfoVerb_keeps b s
  · exact idleAnnounceVerb_keeps b s
  · exact moduleInfoDx6100Verb_keeps b s

theorem verbs02_keeps (v : Verb) (h : v ∈ verbs02) (b : Barge) (s : State) : (v.run b s).st.mem = s.mem ∧
    (v.run b s).st.pending = s.pending := by
  simp only [verbs02, List.mem_cons, List.not_mem_nil, or_false] at h
  rcases h with rfl | rfl | rfl | rfl | rfl | rfl | rfl | rfl | rfl | rfl | rfl | rfl | rfl | rfl | rfl | rfl | rfl | rfl | rfl | rfl | rfl | rfl
  · exact custodianEnrolVerb_keeps b s
  · exact custodianSuspendVerb_keeps b s
  · exact custodianReinstateVerb_keeps b s
  · exact custodianRevokeVerb_keeps b s
  · exact custodianReadVerb_keeps b s
  · exact custodyEstablishVerb_keeps b s
  · exact ballotApproveVerb_keeps b s
  · exact ballotWithdrawVerb_keeps b s
  · exact ballotStatusVerb_keeps b s
  · exact sliceCreateVerb_keeps b s
  · exact sliceSetQuotaVerb_keeps b s
  · exact sliceBindVerb_keeps b s
  · exact sliceFreezeVerb_keeps b s
  · exact sliceThawVerb_keeps b s
  · exact sliceResetVerb_keeps b s
  · exact sliceRemoveVerb_keeps b s
  · exact sliceSaveVerb_keeps b s
  · exact sliceRestoreVerb_keeps b s
  · exact sliceStatusVerb_keeps b s
  · exact sliceMapReadVerb_keeps b s
  · exact anchorAddVerb_keeps b s
  · exact anchorRemoveVerb_keeps b s

theorem verbs03_keeps (v : Verb) (h : v ∈ verbs03) (b : Barge) (s : State) : (v.run b s).st.mem = s.mem ∧
    (v.run b s).st.pending = s.pending := by
  simp only [verbs03, List.mem_cons, List.not_mem_nil, or_false] at h
  rcases h with rfl | rfl | rfl | rfl | rfl | rfl | rfl | rfl | rfl | rfl | rfl | rfl | rfl | rfl | rfl | rfl
  · exact keyGenerateVerb_keeps b s
  · exact keyImportWrappedVerb_keeps b s
  · exact keyComponentVerb_keeps b s
  · exact keyDeleteVerb_keeps b s
  · exact keyAttrReadVerb_keeps b s
  · exact keyAttrRestrictVerb_keeps b s
  · exact keyExportWrappedVerb_keeps b s
  · exact keyBlobReadVerb_keeps b s
  · exact keyBlobLoadVerb_keeps b s
  · exact keyShredVerb_keeps b s
  · exact certReadVerb_keeps b s
  · exact domainBackupVerb_keeps b s
  · exact shareImportKeyVerb_keeps b s
  · exact domainShareImportVerb_keeps b s
  · exact keyAttrReadDx6100Verb_keeps b s
  · exact keyDeleteDx6100Verb_keeps b s

theorem verbs04_keeps (v : Verb) (h : v ∈ verbs04) (b : Barge) (s : State) : (v.run b s).st.mem = s.mem ∧
    (v.run b s).st.pending = s.pending := by
  simp only [verbs04, List.mem_cons, List.not_mem_nil, or_false] at h
  rcases h with rfl | rfl | rfl | rfl | rfl | rfl | rfl | rfl | rfl | rfl | rfl
  · exact dkGenerateVerb_keeps b s
  · exact dkWrapVerb_keeps b s
  · exact dkUnwrapVerb_keeps b s
  · exact dkRewrapVerb_keeps b s
  · exact dkUnwrapBulkVerb_keeps b s
  · exact dkRewrapBulkVerb_keeps b s
  · exact bucketCreateVerb_keeps b s
  · exact bucketReparentVerb_keeps b s
  · exact kekLoadVerb_keeps b s
  · exact kekEvictVerb_keeps b s
  · exact kekShredVerb_keeps b s

theorem verbs05_keeps (v : Verb) (h : v ∈ verbs05) (b : Barge) (s : State) : (v.run b s).st.mem = s.mem ∧
    (v.run b s).st.pending = s.pending := by
  simp only [verbs05, List.mem_cons, List.not_mem_nil, or_false] at h
  rcases h with rfl | rfl | rfl | rfl | rfl | rfl | rfl | rfl | rfl | rfl | rfl | rfl | rfl | rfl | rfl | rfl | rfl | rfl | rfl | rfl | rfl | rfl
  · exact pinTranslateVerb_keeps b s
  · exact pinTranslate4Verb_keeps b s
  · exact pinVerifyVerb_keeps b s
  · exact arqcVerifyVerb_keeps b s
  · exact arqcVerifyExtVerb_keeps b s
  · exact cvvGenerateVerb_keeps b s
  · exact cvvVerifyVerb_keeps b s
  · exact macGenerateVerb_keeps b s
  · exact macVerifyVerb_keeps b s
  · exact kbImportVerb_keeps b s
  · exact kbExportVerb_keeps b s
  · exact dectabSetVerb_keeps b s
  · exact pinVerifyDx6100Verb_keeps b s
  · exact pinTranslateDx6100Verb_keeps b s
  · exact pinTranslateDukptDx6100Verb_keeps b s
  · exact cvvGenerateDx6100Verb_keeps b s
  · exact cvvVerifyDx6100Verb_keeps b s
  · exact macGenerateDx6100Verb_keeps b s
  · exact macVerifyDx6100Verb_keeps b s
  · exact arqcVerifyExtDx6100Verb_keeps b s
  · exact kbImportDx6100Verb_keeps b s
  · exact kbExportDx6100Verb_keeps b s

theorem verbs06_keeps (v : Verb) (h : v ∈ verbs06) (b : Barge) (s : State) : (v.run b s).st.mem = s.mem ∧
    (v.run b s).st.pending = s.pending := by
  simp only [verbs06, List.mem_cons, List.not_mem_nil, or_false] at h
  rcases h with rfl | rfl | rfl | rfl | rfl | rfl | rfl | rfl | rfl | rfl | rfl | rfl | rfl | rfl | rfl | rfl | rfl | rfl | rfl | rfl | rfl | rfl | rfl | rfl | rfl | rfl | rfl
  · exact ecdsaSignVerb_keeps b s
  · exact ecdsaVerifyVerb_keeps b s
  · exact ecdhDeriveVerb_keeps b s
  · exact eddsaSignVerb_keeps b s
  · exact eddsaVerifyVerb_keeps b s
  · exact xdhDeriveVerb_keeps b s
  · exact pubkeyReadVerb_keeps b s
  · exact rsaPrivateVerb_keeps b s
  · exact rsaPublicVerb_keeps b s
  · exact modOpVerb_keeps b s
  · exact kemEncapsVerb_keeps b s
  · exact kemDecapsVerb_keeps b s
  · exact mldsaSignVerb_keeps b s
  · exact mldsaVerifyVerb_keeps b s
  · exact hashVerb_keeps b s
  · exact hmacGenerateVerb_keeps b s
  · exact hmacVerifyVerb_keeps b s
  · exact opbufAllocVerb_keeps b s
  · exact opbufWriteVerb_keeps b s
  · exact opbufReadVerb_keeps b s
  · exact opbufFreeVerb_keeps b s
  · exact aeadSealVerb_keeps b s
  · exact aeadOpenVerb_keeps b s
  · exact rsaPrivateDx6100Verb_keeps b s
  · exact rsaPublicDx6100Verb_keeps b s
  · exact ecdsaSignDx6100Verb_keeps b s
  · exact ecdsaVerifyDx6100Verb_keeps b s

theorem verbs07_keeps (v : Verb) (h : v ∈ verbs07) (b : Barge) (s : State) : (v.run b s).st.mem = s.mem ∧
    (v.run b s).st.pending = s.pending := by
  simp only [verbs07, List.mem_cons, List.not_mem_nil, or_false] at h
  rcases h with rfl | rfl | rfl | rfl | rfl | rfl | rfl | rfl | rfl | rfl | rfl | rfl | rfl | rfl | rfl | rfl
  · exact pairStatusVerb_keeps b s
  · exact pairBindVerb_keeps b s
  · exact pairSwitchoverVerb_keeps b s
  · exact pairPolicyVerb_keeps b s
  · exact witnessSetVerb_keeps b s
  · exact basinConfigVerb_keeps b s
  · exact basinStatusVerb_keeps b s
  · exact domainStatusVerb_keeps b s
  · exact domainJoinVerb_keeps b s
  · exact domainAdmitVerb_keeps b s
  · exact domainExpelVerb_keeps b s
  · exact commitFloorVerb_keeps b s
  · exact sliceSpreadVerb_keeps b s
  · exact keyDistributeVerb_keeps b s
  · exact domainRegistrarVerb_keeps b s
  · exact pairStatusDxVerb_keeps b s

theorem verbs08_keeps (v : Verb) (h : v ∈ verbs08) (b : Barge) (s : State) : (v.run b s).st.mem = s.mem ∧
    (v.run b s).st.pending = s.pending := by
  simp only [verbs08, List.mem_cons, List.not_mem_nil, or_false] at h
  rcases h with rfl | rfl | rfl | rfl | rfl | rfl | rfl | rfl | rfl | rfl | rfl | rfl | rfl | rfl | rfl | rfl | rfl
  · exact lcStatusVerb_keeps b s
  · exact lcTransitionVerb_keeps b s
  · exact fwStageVerb_keeps b s
  · exact fwActivateVerb_keeps b s
  · exact fwStatusVerb_keeps b s
  · exact attestIdentityVerb_keeps b s
  · exact attestQuoteVerb_keeps b s
  · exact foundryCertReadVerb_keeps b s
  · exact dbgChallengeVerb_keeps b s
  · exact dbgEnableVerb_keeps b s
  · exact dbgEndVerb_keeps b s
  · exact vendorRevokeVerb_keeps b s
  · exact tamperStatusVerb_keeps b s
  · exact tamperConfigVerb_keeps b s
  · exact evidenceExportVerb_keeps b s
  · exact evidenceMarkVerb_keeps b s
  · exact lcStatusDx6100Verb_keeps b s

theorem verbs09_keeps (v : Verb) (h : v ∈ verbs09) (b : Barge) (s : State) : (v.run b s).st.mem = s.mem ∧
    (v.run b s).st.pending = s.pending := by
  simp only [verbs09, List.mem_cons, List.not_mem_nil, or_false] at h
  rcases h with rfl | rfl | rfl | rfl | rfl | rfl | rfl | rfl
  · exact chartReadVerb_keeps b s
  · exact chartStageVerb_keeps b s
  · exact chartDiscardVerb_keeps b s
  · exact chartApplyVerb_keeps b s
  · exact chartStatusVerb_keeps b s
  · exact settingsStoreVerb_keeps b s
  · exact settingsReadVerb_keeps b s
  · exact chartStatusDx6100Verb_keeps b s

theorem verbs0A_keeps (v : Verb) (h : v ∈ verbs0A) (b : Barge) (s : State) : (v.run b s).st.mem = s.mem ∧
    (v.run b s).st.pending = s.pending := by
  simp only [verbs0A, List.mem_cons, List.not_mem_nil, or_false] at h
  rcases h with rfl | rfl | rfl | rfl | rfl | rfl
  · exact recReadVerb_keeps b s
  · exact recClearVerb_keeps b s
  · exact healthReadVerb_keeps b s
  · exact counterReadVerb_keeps b s
  · exact timeStatusVerb_keeps b s
  · exact timeSetVerb_keeps b s

theorem baseVerb_keeps (opcode : Nat) (v : Verb) (h : baseVerb opcode = some v) (b : Barge) (s : State) :
    (v.run b s).st.mem = s.mem ∧ (v.run b s).st.pending = s.pending := by
  have h := List.mem_of_find?_eq_some h
  unfold familyVerbs at h
  split at h
  · exact verbs01_keeps v h b s
  · exact verbs02_keeps v h b s
  · exact verbs03_keeps v h b s
  · exact verbs04_keeps v h b s
  · exact verbs05_keeps v h b s
  · exact verbs06_keeps v h b s
  · exact verbs07_keeps v h b s
  · exact verbs08_keeps v h b s
  · exact verbs09_keeps v h b s
  · exact verbs0A_keeps v h b s
  · cases h

theorem ballotExecuteVerb_keeps (b : Barge) (s : State) : (ballotExecuteVerb.run b s).st.mem = s.mem ∧
    (ballotExecuteVerb.run b s).st.pending = s.pending := by
  simp only [ballotExecuteVerb]
  split
  · exact ⟨rfl, rfl⟩
  · split
    · rename_i h; exact State.executeBallot_keeps _ _ _ _ _ (baseVerb_keeps _ _ h)
    · exact ⟨rfl, rfl⟩

theorem ballotProposeVerb_keeps (b : Barge) (s : State) :
    (ballotProposeVerb.run b s).st.mem = s.mem ∧ (ballotProposeVerb.run b s).st.pending = s.pending := by
  simp only [ballotProposeVerb]; grind [State.propose_keeps]

theorem State.judge_keeps (s : State) (a1 : Nat) :
    (State.judge s a1).mem = s.mem ∧ (State.judge s a1).pending = s.pending := by
  unfold State.judge; grind [State.modBarge_keeps]

theorem State.admitBarge_keeps (s : State) (a1 : Nat) (a2 : BargeRec) (a3 : Nat) (a4 : Nat) (a5 : Nat) (a6 : Nat) (a7 : Bool) :
    (State.admitBarge s a1 a2 a3 a4 a5 a6 a7).mem = s.mem ∧ (State.admitBarge s a1 a2 a3 a4 a5 a6 a7).pending = s.pending := by
  unfold State.admitBarge; grind [State.modClass_keeps, State.setBucket_keeps, State.setBarge_keeps, State.judge_keeps,
      State.countSite_keeps]

theorem State.answerRefill_keeps (s : State) (a1 : Nat) (a2 : BargeRec) (a3 : Reply) :
    (State.answerRefill s a1 a2 a3).mem = s.mem ∧ (State.answerRefill s a1 a2 a3).pending = s.pending := by
  unfold State.answerRefill; grind [State.respond_keeps, State.dropBarge_keeps]

theorem State.chargeRobin_keeps (s : State) (a1 : Nat) (a2 : Nat) (a3 : BargeRec) :
    (State.chargeRobin s a1 a2 a3).mem = s.mem ∧ (State.chargeRobin s a1 a2 a3).pending = s.pending := by
  unfold State.chargeRobin; grind []

theorem State.countFull_keeps (s : State) (a1 : Nat) (a2 : Nat) :
    (State.countFull s a1 a2).mem = s.mem ∧ (State.countFull s a1 a2).pending = s.pending := by
  unfold State.countFull; grind [State.raise_keeps, State.modClass_keeps]

theorem State.refuseBarge_keeps (s : State) (a1 : Nat) (a2 : W16) :
    (State.refuseBarge s a1 a2).mem = s.mem ∧ (State.refuseBarge s a1 a2).pending = s.pending := by
  unfold State.refuseBarge; grind [State.endBarge_keeps]

theorem State.checkAdmission_keeps (s : State) (a1 : Nat) (a2 : BargeRec) :
    (State.checkAdmission s a1 a2).mem = s.mem ∧ (State.checkAdmission s a1 a2).pending = s.pending := by
  unfold State.checkAdmission; grind [State.refuseBarge_keeps, State.modClass_keeps, State.countFull_keeps,
      State.admitBarge_keeps]

theorem State.countServed_keeps (s : State) (a1 : Nat) (a2 : BargeRec) :
    (State.countServed s a1 a2).mem = s.mem ∧ (State.countServed s a1 a2).pending = s.pending := by
  unfold State.countServed; grind []

theorem State.suspendJob_keeps (s : State) (a1 : Nat) (a2 : BargeRec) (a3 : Job) :
    (State.suspendJob s a1 a2 a3).mem = s.mem ∧ (State.suspendJob s a1 a2 a3).pending = s.pending := by
  unfold State.suspendJob; grind [State.modBarge_keeps, State.saveJob_keeps]

theorem State.suspendJobs_keeps (s : State) (a1 : Nat) :
    (State.suspendJobs s a1).mem = s.mem ∧ (State.suspendJobs s a1).pending = s.pending := by
  unfold State.suspendJobs; simp (disch := (intros; grind [State.suspendJob_keeps,
      State.freeBool_keeps])) only [State.suspendJob_keeps, State.freeBool_keeps, foldl_mem,
          foldl_pending]; grind [State.suspendJob_keeps, State.freeBool_keeps]

theorem State.noteWait_keeps (s : State) (a1 : BargeRec) :
    (State.noteWait s a1).mem = s.mem ∧ (State.noteWait s a1).pending = s.pending := by
  unfold State.noteWait; grind [State.modClass_keeps]

theorem State.trimRobin_keeps (s : State) (a1 : Nat) :
    (State.trimRobin s a1).mem = s.mem ∧ (State.trimRobin s a1).pending = s.pending := by
  unfold State.trimRobin; grind []

theorem State.enterContext_keeps (s : State) (a1 : Nat) (a2 : BargeRec) (a3 : Nat) :
    (State.enterContext s a1 a2 a3).mem = s.mem ∧ (State.enterContext s a1 a2 a3).pending = s.pending := by
  unfold State.enterContext; grind [State.wakeDomain_keeps, State.noteWait_keeps, State.chargeRobin_keeps,
      State.setBarge_keeps, State.countServed_keeps, State.trimRobin_keeps, State.judge_keeps, State.suspendJobs_keeps]

theorem State.forward_keeps (s : State) (a1 : Barge) (a2 : W64) (a3 : Bytes) :
    (State.forward s a1 a2 a3).mem = s.mem ∧ (State.forward s a1 a2 a3).pending = s.pending := by
  unfold State.forward; grind [State.respond_keeps, State.sendInterlink_keeps]

theorem State.sendOn_keeps (s : State) (a1 : Nat) :
    (State.sendOn s a1).mem = s.mem ∧ (State.sendOn s a1).pending = s.pending := by
  unfold State.sendOn; grind [State.forward_keeps, State.dropBarge_keeps]

theorem State.takeRecord_keeps (s : State) (a1 : Nat) (a2 : Nat) (a3 : Session) (a4 : Bool) (a5 : RequestRecord) :
    (State.takeRecord s a1 a2 a3 a4 a5).mem = s.mem ∧ (State.takeRecord s a1 a2 a3 a4 a5).pending = s.pending := by
  unfold State.takeRecord; grind [State.busyWith_keeps, State.takeIn_keeps, State.answerNow_keeps, State.forward_keeps]

theorem State.awaitDraw_keeps (s : State) (a1 : Nat) (a2 : Effect) :
    (State.awaitDraw s a1 a2).mem = s.mem ∧ (State.awaitDraw s a1 a2).pending = s.pending := by
  unfold State.awaitDraw; grind [State.noteStalls_keeps, State.modBarge_keeps]

theorem State.awaitLease_keeps (s : State) (a1 : Nat) (a2 : Effect) :
    (State.awaitLease s a1 a2).mem = s.mem ∧ (State.awaitLease s a1 a2).pending = s.pending := by
  unfold State.awaitLease; grind [State.modBarge_keeps, State.keepClaims_keeps]

theorem State.claim_keeps (s : State) (a1 : Nat) (a2 : Barge) :
    (State.claim s a1 a2).mem = s.mem ∧ (State.claim s a1 a2).pending = s.pending := by
  unfold State.claim; grind []

theorem State.comeBack_keeps (s : State) (a1 : Nat) (a2 : Nat) :
    (State.comeBack s a1 a2).mem = s.mem ∧ (State.comeBack s a1 a2).pending = s.pending := by
  unfold State.comeBack; grind [State.modBarge_keeps, State.suspendJobs_keeps]

theorem State.putKey_keeps (s : State) (a1 : Nat × Slot × Option Bytes) :
    (State.putKey s a1).mem = s.mem ∧ (State.putKey s a1).pending = s.pending := by
  unfold State.putKey; grind [State.setSlot_keeps]

theorem State.putTables_keeps (s : State) (a1 : Nat) (a2 : Option (Map Bytes)) :
    (State.putTables s a1 a2).mem = s.mem ∧ (State.putTables s a1 a2).pending = s.pending := by
  unfold State.putTables; grind [State.setSlice_keeps]

theorem State.unview_keeps (s : State) (s1 : State) (a2 : BargeRec) :
    (State.unview s s1 a2).mem = s.mem ∧ (State.unview s s1 a2).pending = s.pending := by
  unfold State.unview
  (repeat' split) <;> first
    | grind [State.putKey_keeps, State.putTables_keeps]
    | (simp (disch := (intros; grind [State.putKey_keeps, State.putTables_keeps])) only [State.putKey_keeps,
        State.putTables_keeps, foldl_mem, foldl_pending]; done)
    | (simp (disch := (intros; grind [State.putKey_keeps, State.putTables_keeps])) only [State.putKey_keeps,
        State.putTables_keeps, foldl_mem, foldl_pending]; grind [State.putKey_keeps, State.putTables_keeps])

theorem State.view_keeps (s : State) (a1 : Nat) (a2 : BargeRec) :
    (State.view s a1 a2).mem = s.mem ∧ (State.view s a1 a2).pending = s.pending := by
  unfold State.view; simp (disch := (intros; grind [State.putKey_keeps, State.putTables_keeps])) only [State.putKey_keeps,
      State.putTables_keeps, foldl_mem, foldl_pending]; grind [State.putKey_keeps, State.putTables_keeps]

theorem State.effectOf_keeps (s : State) (n : Nat) (r : BargeRec) (v : Verb) (h : ∀ b s, (v.run b s).st.mem = s.mem ∧
    (v.run b s).st.pending = s.pending) :
    (s.effectOf n r v).st.mem = s.mem ∧ (s.effectOf n r v).st.pending = s.pending := by
  unfold State.effectOf
  have hw := v.workFrom_keeps (resolvedBarge r) (s.drawerOf r) (s.view n r) h
  generalize (if r.barge.opcode = 0x0412 then r.keks.head? else none) = k
  cases k with
  | none => grind [State.unview_keeps, State.view_keeps]
  | some e => exact ⟨rfl, rfl⟩

theorem State.fillTransit_keeps (s : State) (a1 : Nat) (a2 : W64) (a3 : Slot) :
    (State.fillTransit s a1 a2 a3).mem = s.mem ∧ (State.fillTransit s a1 a2 a3).pending = s.pending := by
  unfold State.fillTransit; grind [State.writeSlot_keeps]

theorem State.keepEffect_keeps (s : State) (n : Nat) (b : Barge) (e : Effect) :
    (s.keepEffect n b e).mem = e.st.mem ∧ (s.keepEffect n b e).pending = e.st.pending := ⟨rfl, rfl⟩

theorem State.loadOperands_keeps (s : State) (a1 : Nat) (a2 : Job) :
    (State.loadOperands s a1 a2).mem = s.mem ∧ (State.loadOperands s a1 a2).pending = s.pending := by
  unfold State.loadOperands; grind [State.modEngine_keeps, State.freeNat_keeps, State.fetch_keeps]

theorem State.pass_keeps (s : State) (a1 : Nat) :
    (State.pass s a1).mem = s.mem ∧ (State.pass s a1).pending = s.pending := by
  unfold State.pass; grind [State.modBarge_keeps, State.judge_keeps]

theorem State.policyProgram_keeps (s : State) (a1 : Nat) (a2 : BargeRec) (a3 : Verb) :
    (State.policyProgram s a1 a2 a3).mem = s.mem ∧ (State.policyProgram s a1 a2 a3).pending = s.pending := by
  unfold State.policyProgram; grind [State.modBarge_keeps, State.pass_keeps, State.effectOf_keeps, State.claim_keeps,
      State.awaitLease_keeps, State.endBarge_keeps]

theorem State.setUpCores_keeps (s : State) (a1 : Nat) (a2 : BargeRec) (a3 : Job) (a4 : List Nat) :
    (State.setUpCores s a1 a2 a3 a4).mem = s.mem ∧ (State.setUpCores s a1 a2 a3 a4).pending = s.pending := by
  unfold State.setUpCores; simp (disch := (intros; grind [State.modEngine_keeps,
      State.setUp_keeps])) only [State.modEngine_keeps, State.setUp_keeps, foldl_mem,
          foldl_pending]; grind [State.modEngine_keeps, State.setUp_keeps]

theorem State.stageKey_keeps (s : State) (a1 : Nat) (a2 : BargeRec) :
    (State.stageKey s a1 a2).mem = s.mem ∧ (State.stageKey s a1 a2).pending = s.pending := by
  unfold State.stageKey; grind [State.modEngine_keeps, State.freeNat_keeps]

theorem worldEffect_keeps (v : Verb) (r : BargeRec) (s : State) (h : ∀ b s, (v.run b s).st.mem = s.mem ∧
    (v.run b s).st.pending = s.pending) : (worldEffect v r s).st.mem = s.mem ∧ (worldEffect v r s).st.pending = s.pending := by
  have hw := v.workFrom_keeps r.barge (worldDrawer r) s h
  unfold worldEffect; grind

theorem State.worldWork_keeps (s : State) (r : BargeRec) (v : Verb) (h : ∀ b s, (v.run b s).st.mem = s.mem ∧
    (v.run b s).st.pending = s.pending) : (s.worldWork r v).st.mem = s.mem ∧ (s.worldWork r v).st.pending = s.pending := by
  unfold State.worldWork
  have hw := worldEffect_keeps v r (s.putTables r.barge.slice r.decTabs) h
  exact ⟨(State.putTables_keeps ..).1.trans (hw.1.trans (State.putTables_keeps ..).1),
    (State.putTables_keeps ..).2.trans (hw.2.trans (State.putTables_keeps ..).2)⟩

theorem State.starves_keeps (s : State) (a1 : Nat) (a2 : BargeRec) (x) (h : State.starves s a1 a2 = some x) :
    x.mem = s.mem ∧ x.pending = s.pending := by
  unfold State.starves at h; grind [State.effectOf_keeps, State.worldWork_keeps, State.awaitDraw_keeps]

theorem State.standsBy_keeps (s : State) (a1 : Nat) (a2 : BargeRec) (a3 : Nat) :
    (State.standsBy s a1 a2 a3).mem = s.mem ∧ (State.standsBy s a1 a2 a3).pending = s.pending := by
  unfold State.standsBy
  split
  · cases hx : s.starves a1 a2 with
    | none => exact ⟨rfl, rfl⟩
    | some x => exact State.starves_keeps _ _ _ _ hx
  · exact ⟨rfl, rfl⟩

theorem State.startJob_keeps (s : State) (a1 : Nat) (a2 : Job) :
    (State.startJob s a1 a2).mem = s.mem ∧ (State.startJob s a1 a2).pending = s.pending := by
  unfold State.startJob; grind [State.wakeDomain_keeps, State.modBarge_keeps, State.setUpCores_keeps, State.pass_keeps,
      State.modEngine_keeps, State.countSite_keeps, State.loadOperands_keeps, State.unstage_keeps]

theorem State.takeChamber_keeps (s : State) (a1 : Nat) (a2 : BargeRec) :
    (State.takeChamber s a1 a2).mem = s.mem ∧ (State.takeChamber s a1 a2).pending = s.pending := by
  unfold State.takeChamber; grind [State.freeBytes_keeps]

theorem State.wakeKeys_keeps (s : State) (a1 : Nat) :
    (State.wakeKeys s a1).mem = s.mem ∧ (State.wakeKeys s a1).pending = s.pending := by
  unfold State.wakeKeys; grind [State.wakeDomain_keeps]

theorem State.wakeWorld_keeps (s : State) (a1 : World) :
    (State.wakeWorld s a1).mem = s.mem ∧ (State.wakeWorld s a1).pending = s.pending := by
  unfold State.wakeWorld; grind [State.wakeDomain_keeps]

theorem State.workWaits_keeps (s : State) (a1 : Nat) (a2 : BargeRec) (x) (h : State.workWaits s a1 a2 = some x) :
    x.mem = s.mem ∧ x.pending = s.pending := by
  unfold State.workWaits at h; (repeat' split at h) <;> grind [State.effectOf_keeps, State.awaitLease_keeps]

theorem State.worldJob_keeps (s : State) (a1 : Barge) (a2 : Reply) :
    (State.worldJob s a1 a2).mem = s.mem ∧ (State.worldJob s a1 a2).pending = s.pending := by
  unfold State.worldJob; grind [State.shuffledJob_keeps]

theorem State.writeResults_keeps (s : State) (a1 : BargeRec) :
    (State.writeResults s a1).mem = s.mem ∧ (State.writeResults s a1).pending = s.pending := by
  unfold State.writeResults
  (repeat' split) <;> first
    | grind [State.commitResult_keeps]
    | (simp (disch := (intros; grind [State.commitResult_keeps])) only [State.commitResult_keeps, foldl_mem,
        foldl_pending]; done)
    | (simp (disch := (intros; grind [State.commitResult_keeps])) only [State.commitResult_keeps, foldl_mem,
        foldl_pending]; grind [State.commitResult_keeps])

theorem State.jobWork_keeps (s : State) (a1 : BargeRec) (a2 : Job) :
    (State.jobWork s a1 a2).2.mem = s.mem ∧ (State.jobWork s a1 a2).2.pending = s.pending := by
  unfold State.jobWork; grind [State.freeNat_keeps]

theorem State.leaveEngines_keeps (s : State) (a1 : Job) :
    (State.leaveEngines s a1).mem = s.mem ∧ (State.leaveEngines s a1).pending = s.pending := by
  unfold State.leaveEngines
  dsimp only
  (repeat' split) <;> first
    | exact ⟨rfl, rfl⟩
    | grind [State.modEngine_keeps, State.fillPlaces_keeps]
    | (simp (disch := (intros; grind [State.modEngine_keeps, State.fillPlaces_keeps])) only [State.modEngine_keeps,
        State.fillPlaces_keeps, foldl_mem, foldl_pending]; done)
    | (simp (disch := (intros; grind [State.modEngine_keeps, State.fillPlaces_keeps])) only [State.modEngine_keeps,
        State.fillPlaces_keeps, foldl_mem, foldl_pending]; grind [State.modEngine_keeps, State.fillPlaces_keeps])

theorem State.finishJob_keeps (s : State) (a1 : Nat) (a2 : Job) :
    (State.finishJob s a1 a2).mem = s.mem ∧ (State.finishJob s a1 a2).pending = s.pending := by
  unfold State.finishJob; grind [State.modBarge_keeps, State.leaveEngines_keeps]

theorem State.ranOn_keeps (s : State) (a1 : Job) (a2 : Nat) (a3 : JobWork) :
    (State.ranOn s a1 a2 a3).1.mem = s.mem ∧ (State.ranOn s a1 a2 a3).1.pending = s.pending := by
  unfold State.ranOn; grind [State.countBlocks_keeps]

theorem State.commitCipher_keeps (s : State) (a1 : Nat) (a2 : BargeRec) (a3 : Job) :
    (State.commitCipher s a1 a2 a3).mem = s.mem ∧ (State.commitCipher s a1 a2 a3).pending = s.pending := by
  unfold State.commitCipher; grind [State.joinOutput_keeps, State.writeResults_keeps, State.copySeeds_keeps,
      State.jobWork_keeps, State.finishJob_keeps, State.ranOn_keeps]

theorem State.countJob_keeps (s : State) (a1 : BargeRec) (a2 : Job) :
    (State.countJob s a1 a2).mem = s.mem ∧ (State.countJob s a1 a2).pending = s.pending := by
  unfold State.countJob; grind [State.countOps_keeps, State.modEngine_keeps, State.countSite_keeps]

theorem State.joinCores_keeps (s : State) (a1 : Nat) (a2 : BargeRec) (a3 : Job) :
    (State.joinCores s a1 a2 a3).mem = s.mem ∧ (State.joinCores s a1 a2 a3).pending = s.pending := by
  unfold State.joinCores; grind [State.modBarge_keeps, State.setUpCores_keeps]

theorem State.spreadSegments_keeps (s : State) :
    (State.spreadSegments s).mem = s.mem ∧ (State.spreadSegments s).pending = s.pending := by
  unfold State.spreadSegments; simp (disch := (intros; grind [State.joinCores_keeps])) only [State.joinCores_keeps,
      foldl_mem, foldl_pending]; grind [State.joinCores_keeps]

theorem State.endSegment_keeps (s : State) (a1 : Nat) (a2 : BargeRec) (a3 : Job) :
    (State.endSegment s a1 a2 a3).mem = s.mem ∧ (State.endSegment s a1 a2 a3).pending = s.pending := by
  unfold State.endSegment; grind [State.modBarge_keeps, State.copySeeds_keeps, State.spreadSegments_keeps,
      State.countSite_keeps, State.leaveEngines_keeps, State.ranOn_keeps]

theorem State.retrySetUp_keeps (s : State) (a1 : Nat) (a2 : BargeRec) (a3 : Job) :
    (State.retrySetUp s a1 a2 a3).mem = s.mem ∧ (State.retrySetUp s a1 a2 a3).pending = s.pending := by
  unfold State.retrySetUp; grind [State.setUpCores_keeps]

end Sys2Proof.Machine
end

