-- ==== Sys2Proof/Laws/Memory.lean ====
section
/-! SUPPORT. Laws of tables by key and of memory as data: what a write changes, what it leaves, and that it keeps the one form. -/

set_option Elab.async false
set_option linter.unusedSimpArgs false

namespace Sys2Proof

/-- A table is sorted exactly when its keys rise pairwise. -/
theorem Map.sorted_iff {α : Type} (m : Map α) : Map.sorted m = true ↔ m.Pairwise fun a b => a.1 < b.1 := by
  induction m with
  | nil => simp [Map.sorted]
  | cons a t ih =>
    cases t with
    | nil => simp [Map.sorted]
    | cons b t =>
      simp only [Map.sorted, Bool.and_eq_true, decide_eq_true_eq, ih]
      constructor
      · rintro ⟨h, p⟩
        refine List.pairwise_cons.2 ⟨fun c hc => ?_, p⟩
        rcases List.mem_cons.1 hc with rfl | hc
        · exact h
        · exact Nat.lt_trans h ((List.pairwise_cons.1 p).1 c hc)
      · intro p
        exact ⟨(List.pairwise_cons.1 p).1 b (List.mem_cons_self ..), (List.pairwise_cons.1 p).2⟩

/-- Setting a key reads back at that key. -/
@[simp] theorem Map.find_put_self {α : Type} (m : Map α) (k : Nat) (v : α) : Map.find (Map.put m k v) k = some v := by
  induction m with
  | nil => simp [Map.put, Map.find]
  | cons a t ih =>
    unfold Map.put
    split
    · simp [Map.find]
    · split
      · simp [Map.find]
      · rename_i h; simp [Map.find, ih, Ne.symm h]

/-- Setting a key leaves every other key. -/
theorem Map.find_put_ne {α : Type} (m : Map α) (k j : Nat) (v : α) (h : j ≠ k) : Map.find (Map.put m k v) j = Map.find m j := by
  induction m with
  | nil => simp [Map.put, Map.find, Ne.symm h]
  | cons a t ih =>
    unfold Map.put
    split
    · simp [Map.find, Ne.symm h]
    · split
      · rename_i e; subst e; simp [Map.find, Ne.symm h]
      · simp [Map.find, ih]

/-- A removed key reads as nothing. -/
@[simp] theorem Map.find_del_self {α : Type} (m : Map α) (k : Nat) : Map.find (Map.del m k) k = none := by
  induction m with
  | nil => rfl
  | cons a t ih =>
    by_cases h : a.1 = k
    · simpa [Map.del, h] using ih
    · simpa [Map.del, Map.find, h] using ih

/-- Removing a key leaves every other key. -/
theorem Map.find_del_ne {α : Type} (m : Map α) (k j : Nat) (h : j ≠ k) : Map.find (Map.del m k) j = Map.find m j := by
  induction m with
  | nil => rfl
  | cons a t ih =>
    by_cases e : a.1 = k
    · have : Map.find (a :: t) j = Map.find t j := by simp [Map.find, e, Ne.symm h]
      rw [this, ← ih]; simp [Map.del, e]
    · have : Map.del (a :: t) k = a :: Map.del t k := by simp [Map.del, e]
      rw [this]; simp only [Map.find, ih]

/-- Every entry after a set is the new one or an old one. -/
theorem Map.mem_put {α : Type} (m : Map α) (k : Nat) (v : α) (e : Nat × α) (h : e ∈ Map.put m k v) : e = (k, v) ∨ e ∈ m := by
  induction m with
  | nil => simpa [Map.put] using h
  | cons a t ih =>
    unfold Map.put at h
    split at h
    · simpa using h
    · split at h <;> grind

/-- Setting a key keeps the table sorted. -/
theorem Map.put_sorted {α : Type} (m : Map α) (k : Nat) (v : α) (h : Map.sorted m = true) : Map.sorted (Map.put m k v) = true := by
  rw [Map.sorted_iff] at h ⊢
  induction m with
  | nil => simp [Map.put]
  | cons a t ih =>
    rw [List.pairwise_cons] at h
    unfold Map.put
    split
    · rename_i lt
      exact List.pairwise_cons.2 ⟨fun c hc => (List.mem_cons.1 hc).elim (fun e => e ▸ lt) fun hc =>
        Nat.lt_trans lt (h.1 c hc), List.pairwise_cons.2 h⟩
    · split
      · rename_i e; exact List.pairwise_cons.2 ⟨fun c hc => e ▸ h.1 c hc, h.2⟩
      · refine List.pairwise_cons.2 ⟨fun c hc => ?_, ih h.2⟩
        rcases Map.mem_put t k v c hc with rfl | hc
        · show a.1 < k; omega
        · exact h.1 c hc

namespace Machine

/-- A part of a memory in its one form is in that form too. -/
theorem Memory.wf_sublist {m n : Map Byte} (h : n.Sublist m) (w : Memory.wf m = true) : Memory.wf n = true := by
  simp only [Memory.wf, Bool.and_eq_true, Map.sorted_iff, List.all_eq_true] at w ⊢
  exact ⟨w.1.sublist h, fun e he => w.2 e (h.subset he)⟩

/-- A write keeps the one form. -/
theorem Memory.write_wf (m : Map Byte) (a : Nat) (v : Byte) (w : Memory.wf m = true) : Memory.wf (Memory.write m a v) = true := by
  unfold Memory.write
  split
  · exact Memory.wf_sublist List.filter_sublist w
  · rename_i h
    simp only [Memory.wf, Bool.and_eq_true, List.all_eq_true] at w ⊢
    refine ⟨Map.put_sorted m a v w.1, fun e he => ?_⟩
    rcases Map.mem_put m a v e he with rfl | he
    · cases hp : plainByte a <;> simp_all
    · exact w.2 e he

/-- A written byte reads back. -/
theorem Memory.read_write_self (m : Map Byte) (free : Byte) (a : Nat) (v : Byte) : Memory.read (Memory.write m a v) free a = v := by
  unfold Memory.read Memory.write
  split
  · rename_i h
    have h := Bool.and_eq_true_iff.1 h
    simp only [Map.at, Map.find_del_self, h.1, if_true, Option.getD_none]
    exact (eq_of_beq h.2).symm
  · simp [Map.at]

/-- A write leaves every other byte. -/
theorem Memory.read_write_ne (m : Map Byte) (free : Byte) (a b : Nat) (v : Byte) (h : b ≠ a) :
    Memory.read (Memory.write m a v) free b = Memory.read m free b := by
  unfold Memory.read Memory.write
  split
  · simp [Map.at, Map.find_del_ne m a b h]
  · simp [Map.at, Map.find_put_ne m a b v h]

/-- Storing a byte keeps the one form and the queue. -/
theorem State.storeByte_wf (s : State) (a : Nat) (v : Byte) (w : Memory.wf s.mem = true) :
    Memory.wf (s.storeByte a v).mem = true ∧ (s.storeByte a v).pending = s.pending := by
  unfold State.storeByte
  split
  case h_3 =>
    split
    · exact ⟨w, rfl⟩
    · exact ⟨Memory.write_wf _ _ _ w, rfl⟩
  all_goals (repeat' split) <;> first | exact ⟨w, rfl⟩ | exact ⟨Memory.write_wf _ _ _ w, rfl⟩

/-- Storing bytes keeps the one form and the queue. -/
theorem State.storeBytes_wf (s : State) (a : Nat) (vs : Bytes) (w : Memory.wf s.mem = true) :
    Memory.wf (s.storeBytes a vs).mem = true ∧ (s.storeBytes a vs).pending = s.pending := by
  induction vs generalizing s a with
  | nil => exact ⟨w, rfl⟩
  | cons v vs ih =>
    have h := State.storeByte_wf s a v w
    exact ⟨(ih _ _ h.1).1, (ih _ _ h.1).2.trans h.2⟩

end Machine

end Sys2Proof
end

