-- ==== Sys2Proof/Laws/Shrinks.lean ====
section
/-! SUPPORT. What a reset, a secure restart and a register write do to memory: they only take bytes away, and an access by a core
or the debug port keeps memory in its one form. -/

set_option Elab.async false
set_option linter.unusedSimpArgs false

namespace Sys2Proof.Machine

/-- A fold whose steps only take bytes away only takes bytes away. -/
theorem foldl_shrinks {α : Type} {f : State → α → State}
    (h : ∀ s a, (f s a).mem.Sublist s.mem ∧ (f s a).pending = s.pending) (l : List α) (s : State) :
    (l.foldl f s).mem.Sublist s.mem ∧ (l.foldl f s).pending = s.pending := by
  induction l generalizing s with
  | nil => exact ⟨List.Sublist.refl _, rfl⟩
  | cons a l ih => exact ⟨(ih _).1.trans (h s a).1, (ih _).2.trans (h s a).2⟩

/-- A choice of two that only take bytes away only takes bytes away. -/
theorem shrinks_ite {s a b : State} {c : Prop} [Decidable c] (ha : a.mem.Sublist s.mem ∧ a.pending = s.pending)
    (hb : b.mem.Sublist s.mem ∧ b.pending = s.pending) :
    (if c then a else b).mem.Sublist s.mem ∧ (if c then a else b).pending = s.pending := by
  split <;> assumption

theorem State.fullReset_shrinks (s : State) : s.fullReset.mem.Sublist s.mem ∧ s.fullReset.pending = s.pending := by
  have h := State.cutTransition_keeps s
  have hc := State.cutStore_keeps s.cutTransition
  exact ⟨by simp [State.fullReset, hc.1, h.1], hc.2.trans h.2⟩

theorem State.shutdown_shrinks (s : State) : s.shutdown.mem.Sublist s.mem ∧ s.shutdown.pending = s.pending := by
  unfold State.shutdown
  grind [State.fullReset_shrinks, State.copyStaged_keeps, State.toCell_keeps, State.clearCounts_keeps]

theorem State.alarmReset_shrinks (s : State) (level : Nat) :
    (s.alarmReset level).mem.Sublist s.mem ∧ (s.alarmReset level).pending = s.pending := by
  unfold State.alarmReset
  exact State.fullReset_shrinks s

theorem State.respondAlarm_shrinks (s : State) (level island : Nat) :
    (s.respondAlarm level island).mem.Sublist s.mem ∧ (s.respondAlarm level island).pending = s.pending := by
  unfold State.respondAlarm
  grind [State.alarmReset_shrinks, State.zeroise_keeps, State.writeTransition_keeps, State.islandReset_keeps]

theorem State.alarm_shrinks (s : State) (code dets : Nat) (reading : BitVec 32) (island : Nat) :
    (s.alarm code dets reading island).mem.Sublist s.mem ∧ (s.alarm code dets reading island).pending = s.pending := by
  unfold State.alarm
  grind [State.respondAlarm_shrinks, State.zeroise_keeps, State.joinGroup_keeps, State.stageAlarm_keeps, State.disagree_keeps,
    State.modSensor_keeps, State.raise_keeps, State.sensorEffects_keeps]

theorem State.resolveLedger_shrinks (s : State) :
    s.resolveLedger.mem.Sublist s.mem ∧ s.resolveLedger.pending = s.pending := by
  unfold State.resolveLedger
  dsimp only
  split
  · have h := State.enterScrap_keeps s; exact ⟨by simp [h.1], h.2⟩
  · generalize s.walk { prev := .blank } 0 24 = w
    have h := State.takeWalk_keeps s w
    have ha := State.alarm_shrinks (s.takeWalk w) 0x22 0 0 0
    rw [h.1, h.2] at ha
    split <;> split <;> first | exact ha | exact ⟨by simp [h.1], h.2⟩

theorem State.rootPhase_shrinks (s : State) : s.rootPhase.mem.Sublist s.mem ∧ s.rootPhase.pending = s.pending := by
  unfold State.rootPhase
  grind [State.alarm_shrinks, State.finishBoot_keeps, State.drawRoot_keeps, State.rootWaits_keeps, State.derive_keeps,
    State.endorse_keeps]

theorem State.bootRom_shrinks (s : State) : s.bootRom.mem.Sublist s.mem ∧ s.bootRom.pending = s.pending := by
  unfold State.bootRom
  grind [State.rootPhase_shrinks, State.resolveLedger_shrinks, State.level_keeps, State.copyStaged_keeps, State.measureRom_keeps,
    State.loadImage_keeps, List.Sublist.trans]

theorem State.clearSecure_shrinks (s : State) : s.clearSecure.mem.Sublist s.mem ∧ s.clearSecure.pending = s.pending :=
  ⟨List.filter_sublist, rfl⟩

theorem State.startRestart_shrinks (s : State) (cause : Nat) :
    (s.startRestart cause).mem.Sublist s.mem ∧ (s.startRestart cause).pending = s.pending := by
  unfold State.startRestart
  grind [State.alarm_shrinks, State.clearSecure_shrinks, State.reloadUnits_keeps, State.freshCores_keeps, State.abortSecure_keeps,
    State.endKeeperLeases_keeps, List.Sublist.trans]

theorem State.kickKeeper_shrinks (s : State) (v : W32) :
    (s.kickKeeper v).mem.Sublist s.mem ∧ (s.kickKeeper v).pending = s.pending := by
  unfold State.kickKeeper; grind [State.startRestart_shrinks]

theorem State.requestRestart_shrinks (s : State) (v : W32) :
    (s.requestRestart v).mem.Sublist s.mem ∧ (s.requestRestart v).pending = s.pending := by
  unfold State.requestRestart; grind [State.startRestart_shrinks]

theorem State.afterRead_shrinks (s : State) (r : Reader) (addr : Nat) :
    (s.afterRead r addr).mem.Sublist s.mem ∧ (s.afterRead r addr).pending = s.pending := by
  unfold State.afterRead; grind [State.alarm_shrinks, State.modCopies_keeps]

/-- A register read behind the wake of its block only takes bytes away. -/
theorem State.wokenRead_shrinks (s : State) (r : Reader) (addr : Nat) :
    ((s.wakeRegister r addr).afterRead r addr).mem.Sublist s.mem ∧
      ((s.wakeRegister r addr).afterRead r addr).pending = s.pending := by
  have h := State.wakeRegister_keeps s r addr
  have h2 := State.afterRead_shrinks (s.wakeRegister r addr) r addr
  rwa [h.1, h.2] at h2

theorem State.readRegister_shrinks (s : State) (w : RegRead) :
    (s.readRegister w).mem.Sublist s.mem ∧ (s.readRegister w).pending = s.pending := by
  unfold State.readRegister; grind [State.wokenRead_shrinks, State.denyRegister_keeps, State.emit_keeps]

theorem State.writeCore_shrinks (s : State) (r : Reader) (off : Nat) (v : W32) :
    (s.writeCore r off v).mem.Sublist s.mem ∧ (s.writeCore r off v).pending = s.pending := by
  unfold State.writeCore
  grind [State.kickKeeper_shrinks, State.requestRestart_shrinks, State.kickNormal_keeps, State.modCopies_keeps,
    State.writeEvcfg_keeps]

theorem State.writeOwn_shrinks (s : State) (r : Reader) (block i off : Nat) (v : W32) :
    (s.writeOwn r block i off v).mem.Sublist s.mem ∧ (s.writeOwn r block i off v).pending = s.pending := by
  unfold State.writeOwn
  iterate 14 (refine shrinks_ite ?_ ?_; rotate_left)
  all_goals grind [State.writeCore_shrinks, State.writeSite_keeps, State.writeLinkcfg_keeps, State.modLink_keeps,
    State.modClass_keeps, State.modFlight_keeps, State.clearFault_keeps, State.writeProtect_keeps, State.writeTow_keeps,
    State.writeCharter_keeps, State.writePower_keeps]

theorem State.writeRegister_shrinks (s : State) (r : Reader) (addr : Nat) (v : W32) :
    (s.writeRegister r addr v).mem.Sublist s.mem ∧ (s.writeRegister r addr v).pending = s.pending := by
  unfold State.writeRegister; grind [State.writeOwn_shrinks, State.modCopies_keeps]

/-- A register write behind the wake of its block only takes bytes away. -/
theorem State.wokenWrite_shrinks (s : State) (r : Reader) (addr : Nat) (v : W32) :
    ((s.wakeRegister r addr).writeRegister r addr v).mem.Sublist s.mem ∧
      ((s.wakeRegister r addr).writeRegister r addr v).pending = s.pending := by
  have h := State.wakeRegister_keeps s r addr
  have h2 := State.writeRegister_shrinks (s.wakeRegister r addr) r addr v
  rwa [h.1, h.2] at h2

theorem readRegVerb_shrinks (b : Barge) (s : State) :
    (readRegVerb.run b s).st.mem.Sublist s.mem ∧ (readRegVerb.run b s).st.pending = s.pending :=
  State.wokenRead_shrinks _ _ _

theorem readRegDx6100Verb_shrinks (b : Barge) (s : State) :
    (readRegDx6100Verb.run b s).st.mem.Sublist s.mem ∧ (readRegDx6100Verb.run b s).st.pending = s.pending :=
  State.wokenRead_shrinks _ _ _

theorem writeRegVerb_shrinks (b : Barge) (s : State) :
    (writeRegVerb.run b s).st.mem.Sublist s.mem ∧ (writeRegVerb.run b s).st.pending = s.pending := by
  simp only [writeRegVerb]
  grind [State.wokenWrite_shrinks, fail_keeps, done_keeps, State.denyRegister_keeps, State.denyGate_keeps]

theorem State.readWords_shrinks (s : State) (r : Reader) (as : List Nat) :
    (s.readWords r as).2.mem.Sublist s.mem ∧ (s.readWords r as).2.pending = s.pending := by
  induction as generalizing s with
  | nil => exact ⟨List.Sublist.refl _, rfl⟩
  | cons a as ih =>
    have h := State.afterRead_shrinks s r a
    exact ⟨(ih _).1.trans h.1, (ih _).2.trans h.2⟩

theorem State.writeWords_shrinks (s : State) (r : Reader) (data : Bytes) (as : List Nat) :
    (s.writeWords r data as).mem.Sublist s.mem ∧ (s.writeWords r data as).pending = s.pending := by
  induction as generalizing s data with
  | nil => exact ⟨List.Sublist.refl _, rfl⟩
  | cons a as ih =>
    have h := State.writeRegister_shrinks s r a (BitVec.ofNat 32 (fld data 0 4))
    exact ⟨(ih _ _).1.trans h.1, (ih _ _).2.trans h.2⟩

theorem State.portRead_shrinks (s : State) (a : Nat) :
    (s.portRead a).2.mem.Sublist s.mem ∧ (s.portRead a).2.pending = s.pending := by
  unfold State.portRead
  have hw := State.wakePlaces_keeps s (.core portUnit) a 4
  dsimp only
  rw [← hw.1, ← hw.2]
  split
  · exact State.afterRead_shrinks _ _ _
  · exact ⟨by simp [State.freeBytes_keeps], by simp [State.freeBytes_keeps]⟩

theorem State.portReads_shrinks (s : State) (a n : Nat) :
    (s.portReads a n).2.2.mem.Sublist s.mem ∧ (s.portReads a n).2.2.pending = s.pending := by
  induction n generalizing s a with
  | zero => exact ⟨List.Sublist.refl _, rfl⟩
  | succ n ih =>
    unfold State.portReads
    grind [State.portRead_shrinks, State.portRefuses_keeps, List.Sublist.trans]

theorem dbgReadVerb_shrinks (b : Barge) (s : State) :
    (dbgReadVerb.run b s).st.mem.Sublist s.mem ∧ (dbgReadVerb.run b s).st.pending = s.pending := by
  have h := State.portReads_shrinks s (fld b.payload 0 8) (fld b.payload 8 4 / 4)
  simp only [dbgReadVerb]
  split <;> exact h

/-! ## Stores by a core and the debug port -/

theorem State.portWrite_wf (s : State) (a : Nat) (data : Bytes) (w : Memory.wf s.mem = true) :
    Memory.wf (s.portWrite a data).mem = true ∧ (s.portWrite a data).pending = s.pending := by
  unfold State.portWrite
  have hw := State.wakePlaces_keeps s (.core portUnit) a 4
  rw [← hw.1] at w
  dsimp only
  rw [← hw.2]
  split
  · have h := State.writeRegister_shrinks (s.wakePlaces (.core portUnit) a 4) (.core portUnit)
    exact ⟨Memory.wf_sublist (h _ _).1 w, (h _ _).2⟩
  · exact State.storeBytes_wf _ _ _ w

theorem State.portWrites_wf (s : State) (a : Nat) (data : Bytes) (n : Nat) (w : Memory.wf s.mem = true) :
    Memory.wf (s.portWrites a data n).2.mem = true ∧ (s.portWrites a data n).2.pending = s.pending := by
  induction n generalizing s a data with
  | zero => exact ⟨w, rfl⟩
  | succ n ih =>
    unfold State.portWrites
    grind [State.portWrite_wf, State.portRefuses_keeps]

theorem dbgWriteVerb_wf (b : Barge) (s : State) (w : Memory.wf s.mem = true) :
    Memory.wf (dbgWriteVerb.run b s).st.mem = true ∧ (dbgWriteVerb.run b s).st.pending = s.pending := by
  have h := State.portWrites_wf s (fld b.payload 0 8) (b.payload.drop 12) (fld b.payload 8 4 / 4) w
  simp only [dbgWriteVerb]
  split <;> exact h

theorem State.performAccess_wf (s : State) (x : FabricAccess) (w : Memory.wf s.mem = true) :
    Memory.wf (s.performAccess x).mem = true ∧ (s.performAccess x).pending = s.pending := by
  unfold State.performAccess
  have hw := State.wakePlaces_keeps s (.core x.unit) x.address x.length
  rw [← hw.1] at w
  dsimp only
  rw [← hw.2]
  generalize s.wakePlaces (.core x.unit) x.address x.length = s at w ⊢
  split
  · split
    · have h := State.writeWords_shrinks s
      exact ⟨by rw [(State.emit_keeps _ _).1]; exact Memory.wf_sublist (h _ _ _).1 w, ((State.emit_keeps _ _).2).trans (h _ _ _).2⟩
    · have h := State.readWords_shrinks s
      exact ⟨by rw [(State.emit_keeps _ _).1]; exact Memory.wf_sublist (h _ _).1 w, ((State.emit_keeps _ _).2).trans (h _ _).2⟩
    · exact ⟨w, rfl⟩
  · split
    · have h := State.storeBytes_wf s x.address x.data w
      exact ⟨by rw [(State.emit_keeps _ _).1]; exact h.1, ((State.emit_keeps _ _).2).trans h.2⟩
    · exact ⟨by simp [State.emit_keeps, State.freeBytes_keeps, w], by simp [State.emit_keeps, State.freeBytes_keeps]⟩

theorem State.accessOnce_wf (s : State) (x : FabricAccess) (w : Memory.wf s.mem = true) :
    Memory.wf (s.accessOnce x).1.mem = true ∧ (s.accessOnce x).1.pending = s.pending := by
  unfold State.accessOnce
  have h := State.countLookup_keeps s (s.master x) x
  rw [← h.1] at w
  dsimp only
  rw [← h.2]
  generalize s.countLookup (s.master x) x = t at w ⊢
  grind [State.performAccess_wf, State.refuseAccess_keeps]

theorem State.accessAll_wf (s : State) (xs : List FabricAccess) (w : Memory.wf s.mem = true) :
    Memory.wf (s.accessAll xs).mem = true ∧ (s.accessAll xs).pending = s.pending := by
  induction xs generalizing s with
  | nil => exact ⟨w, rfl⟩
  | cons x xs ih =>
    have h := State.accessOnce_wf s x w
    unfold State.accessAll
    grind

theorem State.access_wf (s : State) (x : FabricAccess) (w : Memory.wf s.mem = true) :
    Memory.wf (s.access x).mem = true ∧ (s.access x).pending = s.pending := by
  unfold State.access
  dsimp only
  have h : (if x.unit < 64 then s.setCore x.unit { s.core x.unit with kernel := !x.task } else s).mem = s.mem ∧
      (if x.unit < 64 then s.setCore x.unit { s.core x.unit with kernel := !x.task } else s).pending = s.pending := by
    split <;> exact ⟨rfl, rfl⟩
  rw [← h.1] at w
  rw [← h.2]
  generalize (if x.unit < 64 then _ else _ : State) = t at w ⊢
  split
  · split
    · exact State.accessOnce_wf _ _ w
    · exact State.accessAll_wf _ _ w
  · exact State.accessAll_wf _ _ w

end Sys2Proof.Machine
end

