-- ==== Sys2Proof/Laws/Serves.lean ====
section
/-! SUPPORT. What serving a request and doing a barge's work do to memory, for verbs that only take bytes away and for those that
may store. -/

set_option Elab.async false
set_option linter.unusedSimpArgs false

namespace Sys2Proof.Machine

/-! ## A request from its taking in to its response -/

/-- A request is answered or held, and then memory and the queue stay, or its work runs. -/
theorem intake_cases (b : Barge) (s : State) (refill : Reply → Reply) (work : State → State) :
    ((intake b s refill work).mem = s.mem ∧ (intake b s refill work).pending = s.pending) ∨
      intake b s refill work = work (s.busyWith b) := by
  unfold intake
  grind [State.answerNow_keeps, State.busyWith_keeps, State.respond_keeps, State.enter_keeps, State.recordIdem_keeps]

theorem runVerb_shrinks (v : Verb) (b : Barge) (s : State)
    (h : ∀ s, (v.run b s).st.mem.Sublist s.mem ∧ (v.run b s).st.pending = s.pending) :
    (runVerb v b s).st.mem.Sublist s.mem ∧ (runVerb v b s).st.pending = s.pending := by
  unfold runVerb
  split
  · exact ⟨List.Sublist.refl _, rfl⟩
  · exact h (s.drawAs v.drawer)

theorem State.finish_shrinks (s : State) (v : Verb) (b : Barge)
    (h : ∀ s, (v.run b s).st.mem.Sublist s.mem ∧ (v.run b s).st.pending = s.pending) :
    (s.finish v b).mem.Sublist s.mem ∧ (s.finish v b).pending = s.pending := by
  have hr := runVerb_shrinks v b s h
  unfold State.finish
  grind [State.addRecord_keeps, State.keepClaims_keeps, State.recordIdem_keeps, State.complete_keeps, State.noteStalls_keeps,
    State.modBarge_keeps]

theorem runVerb_wf (v : Verb) (b : Barge) (s : State) (w : Memory.wf s.mem = true)
    (h : ∀ s, Memory.wf s.mem = true → Memory.wf (v.run b s).st.mem = true ∧ (v.run b s).st.pending = s.pending) :
    Memory.wf (runVerb v b s).st.mem = true ∧ (runVerb v b s).st.pending = s.pending := by
  unfold runVerb
  split
  · exact ⟨w, rfl⟩
  · exact h (s.drawAs v.drawer) w

theorem State.finish_wf (s : State) (v : Verb) (b : Barge) (w : Memory.wf s.mem = true)
    (h : ∀ s, Memory.wf s.mem = true → Memory.wf (v.run b s).st.mem = true ∧ (v.run b s).st.pending = s.pending) :
    Memory.wf (s.finish v b).mem = true ∧ (s.finish v b).pending = s.pending := by
  have hr := runVerb_wf v b s w h
  unfold State.finish
  grind [State.addRecord_keeps, State.keepClaims_keeps, State.recordIdem_keeps, State.complete_keeps, State.noteStalls_keeps,
    State.modBarge_keeps]

/-- Serving a request is taking it in, with the work of its verb; the barge bears the verb's opcode. -/
theorem serve_eq (v : Verb) (b : Barge) (s : State) :
    ∃ c, serve v b s = intake c s (v.refill c s) fun s => s.finish v c := ⟨_, rfl⟩

theorem serve_shrinks (v : Verb) (h : ∀ b s, (v.run b s).st.mem.Sublist s.mem ∧ (v.run b s).st.pending = s.pending)
    (b : Barge) (s : State) : (serve v b s).mem.Sublist s.mem ∧ (serve v b s).pending = s.pending := by
  obtain ⟨c, hc⟩ := serve_eq v b s
  rw [hc]
  rcases intake_cases c s (v.refill c s) fun s => s.finish v c with e | e
  · exact ⟨e.1 ▸ List.Sublist.refl _, e.2⟩
  · have hb := State.busyWith_keeps s c
    have hf := State.finish_shrinks (s.busyWith c) v c fun s => h c s
    rw [hb.1, hb.2] at hf
    rw [e]; exact hf

theorem serve_wf (v : Verb)
    (h : ∀ b s, Memory.wf s.mem = true → Memory.wf (v.run b s).st.mem = true ∧ (v.run b s).st.pending = s.pending)
    (b : Barge) (s : State) (w : Memory.wf s.mem = true) :
    Memory.wf (serve v b s).mem = true ∧ (serve v b s).pending = s.pending := by
  obtain ⟨c, hc⟩ := serve_eq v b s
  rw [hc]
  rcases intake_cases c s (v.refill c s) fun s => s.finish v c with e | e
  · exact ⟨e.1 ▸ w, e.2⟩
  · have hb := State.busyWith_keeps s c
    rw [← hb.1] at w
    have hf := State.finish_wf (s.busyWith c) v c w fun s => h c s
    rw [hb.2] at hf
    rw [e]; exact hf

/-! ## The alarms of engine faults -/

/-- The alarms that stand after an engine fault only take bytes away. -/
theorem State.answerAlarms_shrinks (s : State) :
    s.answerAlarms.mem.Sublist s.mem ∧ s.answerAlarms.pending = s.pending := by
  unfold State.answerAlarms
  refine foldl_shrinks (fun s code => ?_) _ s
  grind [State.alarm_shrinks, State.freeNat_keeps, State.modSensor_keeps]

theorem State.faultAnswered_shrinks (s : State) (k : EngineKind) (n : Nat) (bit : W32) (status : W16) :
    (s.faultAnswered k n bit status).mem.Sublist s.mem ∧ (s.faultAnswered k n bit status).pending = s.pending := by
  unfold State.faultAnswered
  grind [State.answerAlarms_shrinks, State.faultEngine_keeps]

/-! ## A barge's work -/

/-- A store leaves the queue alone, whatever form memory has. -/
theorem State.storeBytes_pending (s : State) (a : Nat) (vs : Bytes) : (s.storeBytes a vs).pending = s.pending := by
  induction vs generalizing s a with
  | nil => rfl
  | cons v vs ih =>
    refine (ih _ _).trans ?_
    unfold State.storeByte
    dsimp only
    (repeat' split) <;> rfl

/-- Stores by the debug port leave the queue alone. -/
theorem State.portWrites_pending (s : State) (a : Nat) (data : Bytes) (n : Nat) :
    (s.portWrites a data n).2.pending = s.pending := by
  induction n generalizing s a data with
  | zero => rfl
  | succ n ih =>
    have hw (x : State) (y : Bytes) : (x.portWrite a y).pending = x.pending := by
      unfold State.portWrite
      dsimp only
      rw [← (State.wakePlaces_keeps x (.core portUnit) a 4).2]
      split
      · exact (State.writeRegister_shrinks ..).2
      · exact State.storeBytes_pending _ _ _
    unfold State.portWrites
    grind [State.portRefuses_keeps]

/-- Every verb that a barge may run keeps memory in its one form, and leaves the queue alone. -/
theorem verbOf_wf (opcode : Nat) (v : Verb) (h : verbOf opcode = some v) (b : Barge) (s : State) :
    (Memory.wf s.mem = true → Memory.wf (v.run b s).st.mem = true) ∧ (v.run b s).st.pending = s.pending := by
  have shrink : ∀ t : State, t.mem.Sublist s.mem ∧ t.pending = s.pending →
      (Memory.wf s.mem = true → Memory.wf t.mem = true) ∧ t.pending = s.pending :=
    fun t h => ⟨fun w => Memory.wf_sublist h.1 w, h.2⟩
  have keep : ∀ t : State, t.mem = s.mem ∧ t.pending = s.pending →
      (Memory.wf s.mem = true → Memory.wf t.mem = true) ∧ t.pending = s.pending :=
    fun t h => ⟨fun w => h.1 ▸ w, h.2⟩
  unfold verbOf at h
  split at h
  · rename_i u hu
    have hm := List.mem_of_find?_eq_some hu
    cases h
    simp only [portVerbs, List.mem_cons, List.not_mem_nil, or_false] at hm
    rcases hm with rfl | rfl | rfl | rfl | rfl | rfl | rfl | rfl
    · exact keep _ (ballotProposeVerb_keeps b s)
    · exact keep _ (ballotExecuteVerb_keeps b s)
    · exact shrink _ (dbgReadVerb_shrinks b s)
    · refine ⟨fun w => (dbgWriteVerb_wf b s w).1, ?_⟩
      have h := State.portWrites_pending s (fld b.payload 0 8) (b.payload.drop 12) (fld b.payload 8 4 / 4)
      simp only [dbgWriteVerb]
      split <;> exact h
    · exact keep _ (dbgCoreVerb_keeps b s)
    · exact shrink _ (readRegVerb_shrinks b s)
    · exact shrink _ (writeRegVerb_shrinks b s)
    · exact shrink _ (readRegDx6100Verb_shrinks b s)
  · exact keep _ (baseVerb_keeps opcode v h b s)

/-- What the work of a verb for a barge leaves keeps memory in its one form, and leaves the queue alone. -/
theorem State.effectOf_wf (s : State) (n : Nat) (r : BargeRec) (v : Verb)
    (h : ∀ b s, (Memory.wf s.mem = true → Memory.wf (v.run b s).st.mem = true) ∧ (v.run b s).st.pending = s.pending) :
    (Memory.wf s.mem = true → Memory.wf (s.effectOf n r v).st.mem = true) ∧ (s.effectOf n r v).st.pending = s.pending := by
  have hv := h (resolvedBarge r) ((s.view n r).drawAs (s.drawerOf r))
  unfold State.effectOf
  generalize (if r.barge.opcode = 0x0412 then r.keks.head? else none) = k
  cases k with
  | none =>
    have hs := State.view_keeps s n r
    have hu := State.unview_keeps (v.workFrom (resolvedBarge r) (s.drawerOf r) (s.view n r)).st s r
    refine ⟨fun w => ?_, hu.2.trans (hv.2.trans hs.2)⟩
    show Memory.wf (State.unview _ s r).mem = true
    rw [hu.1]
    exact hv.1 (by rw [show ((s.view n r).drawAs (s.drawerOf r)).mem = s.mem from hs.1]; exact w)
  | some e => exact ⟨id, rfl⟩

/-- The work of a barge keeps memory in its one form, and leaves the queue alone. -/
theorem State.work_wf (s : State) (n : Nat) (r : BargeRec) :
    (Memory.wf s.mem = true → Memory.wf (s.work n r).mem = true) ∧ (s.work n r).pending = s.pending := by
  unfold State.work
  split
  · exact ⟨id, rfl⟩
  · split
    · grind [State.modBarge_keeps]
    · split
      · grind [State.modBarge_keeps]
      · rename_i v h
        have he := State.effectOf_wf s n r v (verbOf_wf _ v h)
        have hk := State.keepEffect_keeps s n r.barge (s.effectOf n r v)
        exact ⟨fun w => hk.1 ▸ he.1 w, hk.2.trans he.2⟩

/-! ## KEYFETCH -/

/-- The state that a fetch leaves, however it goes on. -/
def FetchResult.state : FetchResult → State
  | .ok s => s
  | .wait s => s
  | .ends s _ => s

theorem State.takeSlot_keeps (s : State) (n i : Nat) (key : Bytes) :
    (s.takeSlot n i key).state.mem = s.mem ∧ (s.takeSlot n i key).state.pending = s.pending := by
  unfold State.takeSlot
  dsimp only
  split
  · split
    · exact ⟨rfl, rfl⟩
    · simp [FetchResult.state, State.modBarge_keeps, State.fillTransit_keeps]
  · simp [FetchResult.state, State.modBarge_keeps]

theorem State.fetchSlot_keeps (s : State) (n guardErrors i : Nat) :
    (s.fetchSlot n guardErrors i).state.mem = s.mem ∧ (s.fetchSlot n guardErrors i).state.pending = s.pending := by
  unfold State.fetchSlot
  dsimp only
  split
  · exact ⟨rfl, rfl⟩
  · split
    · exact State.quarantine_keeps s i
    · have hr : ∀ t, t = (if guardErrors = 1 then s.raise 256 noInst (s.slot i).slice 0 i else s) →
          t.mem = s.mem ∧ t.pending = s.pending := by grind [State.raise_keeps]
      generalize ht : (if guardErrors = 1 then s.raise 256 noInst (s.slot i).slice 0 i else s) = t
      have hr := hr t ht.symm
      have hf := State.fetch_keeps t i
      generalize t.fetch i = x at hf
      rcases x with ⟨u, e | k⟩ <;> dsimp only at hf ⊢
      · split
        · exact ⟨hf.1.trans hr.1, hf.2.trans hr.2⟩
        · exact ⟨(State.modBarge_keeps ..).1.trans (hf.1.trans hr.1), (State.modBarge_keeps ..).2.trans (hf.2.trans hr.2)⟩
      · exact ⟨(State.takeSlot_keeps ..).1.trans (hf.1.trans hr.1), (State.takeSlot_keeps ..).2.trans (hf.2.trans hr.2)⟩

theorem State.takeEntry_keeps (s : State) (n : Nat) (r : BargeRec) (e : CacheEntry) :
    (s.takeEntry n r e).state.mem = s.mem ∧ (s.takeEntry n r e).state.pending = s.pending := by
  unfold State.takeEntry
  grind [FetchResult.state, State.fillTransit_keeps, State.modBarge_keeps]

theorem State.fetchKek_keeps (s : State) (n : Nat) (r : BargeRec) (off : Nat) (blob : Option Bytes) :
    (s.fetchKek n r off blob).state.mem = s.mem ∧ (s.fetchKek n r off blob).state.pending = s.pending := by
  unfold State.fetchKek
  dsimp only
  split
  · split
    · exact ⟨rfl, rfl⟩
    · exact State.takeEntry_keeps ..
  · generalize (if r.barge.opcode = 0x0412 then [] else _) = held
    have h := State.selectKek_keeps s r.barge.slice (selectorOf r.barge off) none 2 held
    rcases hs : s.selectKek r.barge.slice (selectorOf r.barge off) none 2 held with ⟨t, e | e⟩
    all_goals rw [hs] at h
    all_goals simp only at *
    · cases blob with
      | none => exact h
      | some bl =>
        dsimp only
        repeat' split
        all_goals exact h
    · exact ⟨(State.takeEntry_keeps ..).1.trans h.1, (State.takeEntry_keeps ..).2.trans h.2⟩

theorem State.fetchNext_keeps (s : State) (n guardErrors : Nat) (r : BargeRec) :
    (s.fetchNext n guardErrors r).state.mem = s.mem ∧ (s.fetchNext n guardErrors r).state.pending = s.pending := by
  unfold State.fetchNext
  split
  · exact State.fetchKek_keeps ..
  · exact State.fetchSlot_keeps ..
  · exact ⟨rfl, rfl⟩

end Sys2Proof.Machine
end

