-- ==== Sys2Proof/Laws/State.lean ====
section
/-! SUPPORT. What each named update of State leaves as it was, field by field, and what it sets. -/

set_option Elab.async false
set_option linter.unusedSimpArgs false

namespace Sys2Proof.Machine

/-- A fold whose steps leave a part of the state leaves it. -/
theorem foldl_field {α β : Type} (g : State → β) {f : State → α → State} (h : ∀ s a, g (f s a) = g s) (l : List α) (s : State) :
    g (l.foldl f s) = g s := by
  induction l generalizing s with
  | nil => rfl
  | cons a l ih => exact (ih (f s a)).trans (h s a)

/-! ### setSlot -/

@[simp] theorem State.setSlot_pending (s : State) (i : Nat) (x : Slot) : (s.setSlot i x).pending = s.pending := rfl
@[simp] theorem State.setSlot_draws (s : State) (i : Nat) (x : Slot) : (s.setSlot i x).draws = s.draws := rfl
@[simp] theorem State.setSlot_out (s : State) (i : Nat) (x : Slot) : (s.setSlot i x).out = s.out := rfl
@[simp] theorem State.setSlot_whf (s : State) (i : Nat) (x : Slot) : (s.setSlot i x).whf = s.whf := rfl
@[simp] theorem State.setSlot_readers (s : State) (i : Nat) (x : Slot) : (s.setSlot i x).readers = s.readers := rfl
@[simp] theorem State.setSlot_cus (s : State) (i : Nat) (x : Slot) : (s.setSlot i x).cus = s.cus := rfl
@[simp] theorem State.setSlot_flt (s : State) (i : Nat) (x : Slot) : (s.setSlot i x).flt = s.flt := rfl
@[simp] theorem State.setSlot_cht (s : State) (i : Nat) (x : Slot) : (s.setSlot i x).cht = s.cht := rfl
@[simp] theorem State.setSlot_eng (s : State) (i : Nat) (x : Slot) : (s.setSlot i x).eng = s.eng := rfl
@[simp] theorem State.setSlot_ent (s : State) (i : Nat) (x : Slot) : (s.setSlot i x).ent = s.ent := rfl
@[simp] theorem State.setSlot_hlt (s : State) (i : Nat) (x : Slot) : (s.setSlot i x).hlt = s.hlt := rfl
@[simp] theorem State.setSlot_tow (s : State) (i : Nat) (x : Slot) : (s.setSlot i x).tow = s.tow := rfl
@[simp] theorem State.setSlot_ixp (s : State) (i : Nat) (x : Slot) : (s.setSlot i x).ixp = s.ixp := rfl
@[simp] theorem State.setSlot_cor (s : State) (i : Nat) (x : Slot) : (s.setSlot i x).cor = s.cor := rfl
@[simp] theorem State.setSlot_ctr (s : State) (i : Nat) (x : Slot) : (s.setSlot i x).ctr = s.ctr := rfl
@[simp] theorem State.setSlot_snt (s : State) (i : Nat) (x : Slot) : (s.setSlot i x).snt = s.snt := rfl
@[simp] theorem State.setSlot_obs (s : State) (i : Nat) (x : Slot) : (s.setSlot i x).obs = s.obs := rfl
@[simp] theorem State.setSlot_clk (s : State) (i : Nat) (x : Slot) : (s.setSlot i x).clk = s.clk := rfl
@[simp] theorem State.setSlot_pwr (s : State) (i : Nat) (x : Slot) : (s.setSlot i x).pwr = s.pwr := rfl
@[simp] theorem State.setSlot_mem (s : State) (i : Nat) (x : Slot) : (s.setSlot i x).mem = s.mem := rfl

/-! ### setSlice -/

@[simp] theorem State.setSlice_pending (s : State) (id : Nat) (x : Slice) : (s.setSlice id x).pending = s.pending := rfl
@[simp] theorem State.setSlice_draws (s : State) (id : Nat) (x : Slice) : (s.setSlice id x).draws = s.draws := rfl
@[simp] theorem State.setSlice_out (s : State) (id : Nat) (x : Slice) : (s.setSlice id x).out = s.out := rfl
@[simp] theorem State.setSlice_whf (s : State) (id : Nat) (x : Slice) : (s.setSlice id x).whf = s.whf := rfl
@[simp] theorem State.setSlice_readers (s : State) (id : Nat) (x : Slice) : (s.setSlice id x).readers = s.readers := rfl
@[simp] theorem State.setSlice_vlt (s : State) (id : Nat) (x : Slice) : (s.setSlice id x).vlt = s.vlt := rfl
@[simp] theorem State.setSlice_flt (s : State) (id : Nat) (x : Slice) : (s.setSlice id x).flt = s.flt := rfl
@[simp] theorem State.setSlice_cht (s : State) (id : Nat) (x : Slice) : (s.setSlice id x).cht = s.cht := rfl
@[simp] theorem State.setSlice_eng (s : State) (id : Nat) (x : Slice) : (s.setSlice id x).eng = s.eng := rfl
@[simp] theorem State.setSlice_ent (s : State) (id : Nat) (x : Slice) : (s.setSlice id x).ent = s.ent := rfl
@[simp] theorem State.setSlice_hlt (s : State) (id : Nat) (x : Slice) : (s.setSlice id x).hlt = s.hlt := rfl
@[simp] theorem State.setSlice_tow (s : State) (id : Nat) (x : Slice) : (s.setSlice id x).tow = s.tow := rfl
@[simp] theorem State.setSlice_ixp (s : State) (id : Nat) (x : Slice) : (s.setSlice id x).ixp = s.ixp := rfl
@[simp] theorem State.setSlice_cor (s : State) (id : Nat) (x : Slice) : (s.setSlice id x).cor = s.cor := rfl
@[simp] theorem State.setSlice_ctr (s : State) (id : Nat) (x : Slice) : (s.setSlice id x).ctr = s.ctr := rfl
@[simp] theorem State.setSlice_snt (s : State) (id : Nat) (x : Slice) : (s.setSlice id x).snt = s.snt := rfl
@[simp] theorem State.setSlice_obs (s : State) (id : Nat) (x : Slice) : (s.setSlice id x).obs = s.obs := rfl
@[simp] theorem State.setSlice_clk (s : State) (id : Nat) (x : Slice) : (s.setSlice id x).clk = s.clk := rfl
@[simp] theorem State.setSlice_pwr (s : State) (id : Nat) (x : Slice) : (s.setSlice id x).pwr = s.pwr := rfl
@[simp] theorem State.setSlice_mem (s : State) (id : Nat) (x : Slice) : (s.setSlice id x).mem = s.mem := rfl

/-! ### modSession -/

@[simp] theorem State.modSession_pending (s : State) (n : Nat) (f : Session → Session) : (s.modSession n f).pending = s.pending := rfl
@[simp] theorem State.modSession_draws (s : State) (n : Nat) (f : Session → Session) : (s.modSession n f).draws = s.draws := rfl
@[simp] theorem State.modSession_out (s : State) (n : Nat) (f : Session → Session) : (s.modSession n f).out = s.out := rfl
@[simp] theorem State.modSession_readers (s : State) (n : Nat) (f : Session → Session) : (s.modSession n f).readers = s.readers := rfl
@[simp] theorem State.modSession_cus (s : State) (n : Nat) (f : Session → Session) : (s.modSession n f).cus = s.cus := rfl
@[simp] theorem State.modSession_vlt (s : State) (n : Nat) (f : Session → Session) : (s.modSession n f).vlt = s.vlt := rfl
@[simp] theorem State.modSession_flt (s : State) (n : Nat) (f : Session → Session) : (s.modSession n f).flt = s.flt := rfl
@[simp] theorem State.modSession_cht (s : State) (n : Nat) (f : Session → Session) : (s.modSession n f).cht = s.cht := rfl
@[simp] theorem State.modSession_eng (s : State) (n : Nat) (f : Session → Session) : (s.modSession n f).eng = s.eng := rfl
@[simp] theorem State.modSession_ent (s : State) (n : Nat) (f : Session → Session) : (s.modSession n f).ent = s.ent := rfl
@[simp] theorem State.modSession_hlt (s : State) (n : Nat) (f : Session → Session) : (s.modSession n f).hlt = s.hlt := rfl
@[simp] theorem State.modSession_tow (s : State) (n : Nat) (f : Session → Session) : (s.modSession n f).tow = s.tow := rfl
@[simp] theorem State.modSession_ixp (s : State) (n : Nat) (f : Session → Session) : (s.modSession n f).ixp = s.ixp := rfl
@[simp] theorem State.modSession_cor (s : State) (n : Nat) (f : Session → Session) : (s.modSession n f).cor = s.cor := rfl
@[simp] theorem State.modSession_ctr (s : State) (n : Nat) (f : Session → Session) : (s.modSession n f).ctr = s.ctr := rfl
@[simp] theorem State.modSession_snt (s : State) (n : Nat) (f : Session → Session) : (s.modSession n f).snt = s.snt := rfl
@[simp] theorem State.modSession_obs (s : State) (n : Nat) (f : Session → Session) : (s.modSession n f).obs = s.obs := rfl
@[simp] theorem State.modSession_clk (s : State) (n : Nat) (f : Session → Session) : (s.modSession n f).clk = s.clk := rfl
@[simp] theorem State.modSession_pwr (s : State) (n : Nat) (f : Session → Session) : (s.modSession n f).pwr = s.pwr := rfl
@[simp] theorem State.modSession_mem (s : State) (n : Nat) (f : Session → Session) : (s.modSession n f).mem = s.mem := rfl

/-! ### modLink -/

@[simp] theorem State.modLink_pending (s : State) (cage : Nat) (f : Link → Link) : (s.modLink cage f).pending = s.pending := rfl
@[simp] theorem State.modLink_draws (s : State) (cage : Nat) (f : Link → Link) : (s.modLink cage f).draws = s.draws := rfl
@[simp] theorem State.modLink_out (s : State) (cage : Nat) (f : Link → Link) : (s.modLink cage f).out = s.out := rfl
@[simp] theorem State.modLink_readers (s : State) (cage : Nat) (f : Link → Link) : (s.modLink cage f).readers = s.readers := rfl
@[simp] theorem State.modLink_cus (s : State) (cage : Nat) (f : Link → Link) : (s.modLink cage f).cus = s.cus := rfl
@[simp] theorem State.modLink_vlt (s : State) (cage : Nat) (f : Link → Link) : (s.modLink cage f).vlt = s.vlt := rfl
@[simp] theorem State.modLink_flt (s : State) (cage : Nat) (f : Link → Link) : (s.modLink cage f).flt = s.flt := rfl
@[simp] theorem State.modLink_cht (s : State) (cage : Nat) (f : Link → Link) : (s.modLink cage f).cht = s.cht := rfl
@[simp] theorem State.modLink_eng (s : State) (cage : Nat) (f : Link → Link) : (s.modLink cage f).eng = s.eng := rfl
@[simp] theorem State.modLink_ent (s : State) (cage : Nat) (f : Link → Link) : (s.modLink cage f).ent = s.ent := rfl
@[simp] theorem State.modLink_hlt (s : State) (cage : Nat) (f : Link → Link) : (s.modLink cage f).hlt = s.hlt := rfl
@[simp] theorem State.modLink_tow (s : State) (cage : Nat) (f : Link → Link) : (s.modLink cage f).tow = s.tow := rfl
@[simp] theorem State.modLink_ixp (s : State) (cage : Nat) (f : Link → Link) : (s.modLink cage f).ixp = s.ixp := rfl
@[simp] theorem State.modLink_cor (s : State) (cage : Nat) (f : Link → Link) : (s.modLink cage f).cor = s.cor := rfl
@[simp] theorem State.modLink_ctr (s : State) (cage : Nat) (f : Link → Link) : (s.modLink cage f).ctr = s.ctr := rfl
@[simp] theorem State.modLink_snt (s : State) (cage : Nat) (f : Link → Link) : (s.modLink cage f).snt = s.snt := rfl
@[simp] theorem State.modLink_obs (s : State) (cage : Nat) (f : Link → Link) : (s.modLink cage f).obs = s.obs := rfl
@[simp] theorem State.modLink_clk (s : State) (cage : Nat) (f : Link → Link) : (s.modLink cage f).clk = s.clk := rfl
@[simp] theorem State.modLink_pwr (s : State) (cage : Nat) (f : Link → Link) : (s.modLink cage f).pwr = s.pwr := rfl
@[simp] theorem State.modLink_mem (s : State) (cage : Nat) (f : Link → Link) : (s.modLink cage f).mem = s.mem := rfl

/-! ### setGather -/

@[simp] theorem State.setGather_pending (s : State) (sid pn : Nat) (g : Option Gather) : (s.setGather sid pn g).pending = s.pending := rfl
@[simp] theorem State.setGather_draws (s : State) (sid pn : Nat) (g : Option Gather) : (s.setGather sid pn g).draws = s.draws := rfl
@[simp] theorem State.setGather_out (s : State) (sid pn : Nat) (g : Option Gather) : (s.setGather sid pn g).out = s.out := rfl
@[simp] theorem State.setGather_readers (s : State) (sid pn : Nat) (g : Option Gather) : (s.setGather sid pn g).readers = s.readers := rfl
@[simp] theorem State.setGather_cus (s : State) (sid pn : Nat) (g : Option Gather) : (s.setGather sid pn g).cus = s.cus := rfl
@[simp] theorem State.setGather_vlt (s : State) (sid pn : Nat) (g : Option Gather) : (s.setGather sid pn g).vlt = s.vlt := rfl
@[simp] theorem State.setGather_flt (s : State) (sid pn : Nat) (g : Option Gather) : (s.setGather sid pn g).flt = s.flt := rfl
@[simp] theorem State.setGather_cht (s : State) (sid pn : Nat) (g : Option Gather) : (s.setGather sid pn g).cht = s.cht := rfl
@[simp] theorem State.setGather_eng (s : State) (sid pn : Nat) (g : Option Gather) : (s.setGather sid pn g).eng = s.eng := rfl
@[simp] theorem State.setGather_ent (s : State) (sid pn : Nat) (g : Option Gather) : (s.setGather sid pn g).ent = s.ent := rfl
@[simp] theorem State.setGather_hlt (s : State) (sid pn : Nat) (g : Option Gather) : (s.setGather sid pn g).hlt = s.hlt := rfl
@[simp] theorem State.setGather_tow (s : State) (sid pn : Nat) (g : Option Gather) : (s.setGather sid pn g).tow = s.tow := rfl
@[simp] theorem State.setGather_ixp (s : State) (sid pn : Nat) (g : Option Gather) : (s.setGather sid pn g).ixp = s.ixp := rfl
@[simp] theorem State.setGather_cor (s : State) (sid pn : Nat) (g : Option Gather) : (s.setGather sid pn g).cor = s.cor := rfl
@[simp] theorem State.setGather_ctr (s : State) (sid pn : Nat) (g : Option Gather) : (s.setGather sid pn g).ctr = s.ctr := rfl
@[simp] theorem State.setGather_snt (s : State) (sid pn : Nat) (g : Option Gather) : (s.setGather sid pn g).snt = s.snt := rfl
@[simp] theorem State.setGather_obs (s : State) (sid pn : Nat) (g : Option Gather) : (s.setGather sid pn g).obs = s.obs := rfl
@[simp] theorem State.setGather_clk (s : State) (sid pn : Nat) (g : Option Gather) : (s.setGather sid pn g).clk = s.clk := rfl
@[simp] theorem State.setGather_pwr (s : State) (sid pn : Nat) (g : Option Gather) : (s.setGather sid pn g).pwr = s.pwr := rfl
@[simp] theorem State.setGather_mem (s : State) (sid pn : Nat) (g : Option Gather) : (s.setGather sid pn g).mem = s.mem := rfl

/-! ### setIdem -/

@[simp] theorem State.setIdem_pending (s : State) (slice : Nat) (gen : W32) (key : W64) (e : Option IdemEntry) : (s.setIdem slice gen key e).pending = s.pending := rfl
@[simp] theorem State.setIdem_draws (s : State) (slice : Nat) (gen : W32) (key : W64) (e : Option IdemEntry) : (s.setIdem slice gen key e).draws = s.draws := rfl
@[simp] theorem State.setIdem_out (s : State) (slice : Nat) (gen : W32) (key : W64) (e : Option IdemEntry) : (s.setIdem slice gen key e).out = s.out := rfl
@[simp] theorem State.setIdem_readers (s : State) (slice : Nat) (gen : W32) (key : W64) (e : Option IdemEntry) : (s.setIdem slice gen key e).readers = s.readers := rfl
@[simp] theorem State.setIdem_cus (s : State) (slice : Nat) (gen : W32) (key : W64) (e : Option IdemEntry) : (s.setIdem slice gen key e).cus = s.cus := rfl
@[simp] theorem State.setIdem_vlt (s : State) (slice : Nat) (gen : W32) (key : W64) (e : Option IdemEntry) : (s.setIdem slice gen key e).vlt = s.vlt := rfl
@[simp] theorem State.setIdem_flt (s : State) (slice : Nat) (gen : W32) (key : W64) (e : Option IdemEntry) : (s.setIdem slice gen key e).flt = s.flt := rfl
@[simp] theorem State.setIdem_cht (s : State) (slice : Nat) (gen : W32) (key : W64) (e : Option IdemEntry) : (s.setIdem slice gen key e).cht = s.cht := rfl
@[simp] theorem State.setIdem_eng (s : State) (slice : Nat) (gen : W32) (key : W64) (e : Option IdemEntry) : (s.setIdem slice gen key e).eng = s.eng := rfl
@[simp] theorem State.setIdem_ent (s : State) (slice : Nat) (gen : W32) (key : W64) (e : Option IdemEntry) : (s.setIdem slice gen key e).ent = s.ent := rfl
@[simp] theorem State.setIdem_hlt (s : State) (slice : Nat) (gen : W32) (key : W64) (e : Option IdemEntry) : (s.setIdem slice gen key e).hlt = s.hlt := rfl
@[simp] theorem State.setIdem_tow (s : State) (slice : Nat) (gen : W32) (key : W64) (e : Option IdemEntry) : (s.setIdem slice gen key e).tow = s.tow := rfl
@[simp] theorem State.setIdem_ixp (s : State) (slice : Nat) (gen : W32) (key : W64) (e : Option IdemEntry) : (s.setIdem slice gen key e).ixp = s.ixp := rfl
@[simp] theorem State.setIdem_cor (s : State) (slice : Nat) (gen : W32) (key : W64) (e : Option IdemEntry) : (s.setIdem slice gen key e).cor = s.cor := rfl
@[simp] theorem State.setIdem_ctr (s : State) (slice : Nat) (gen : W32) (key : W64) (e : Option IdemEntry) : (s.setIdem slice gen key e).ctr = s.ctr := rfl
@[simp] theorem State.setIdem_snt (s : State) (slice : Nat) (gen : W32) (key : W64) (e : Option IdemEntry) : (s.setIdem slice gen key e).snt = s.snt := rfl
@[simp] theorem State.setIdem_obs (s : State) (slice : Nat) (gen : W32) (key : W64) (e : Option IdemEntry) : (s.setIdem slice gen key e).obs = s.obs := rfl
@[simp] theorem State.setIdem_clk (s : State) (slice : Nat) (gen : W32) (key : W64) (e : Option IdemEntry) : (s.setIdem slice gen key e).clk = s.clk := rfl
@[simp] theorem State.setIdem_pwr (s : State) (slice : Nat) (gen : W32) (key : W64) (e : Option IdemEntry) : (s.setIdem slice gen key e).pwr = s.pwr := rfl
@[simp] theorem State.setIdem_mem (s : State) (slice : Nat) (gen : W32) (key : W64) (e : Option IdemEntry) : (s.setIdem slice gen key e).mem = s.mem := rfl

/-! ### setBarge -/

@[simp] theorem State.setBarge_pending (s : State) (n : Nat) (r : BargeRec) : (s.setBarge n r).pending = s.pending := rfl
@[simp] theorem State.setBarge_draws (s : State) (n : Nat) (r : BargeRec) : (s.setBarge n r).draws = s.draws := rfl
@[simp] theorem State.setBarge_out (s : State) (n : Nat) (r : BargeRec) : (s.setBarge n r).out = s.out := rfl
@[simp] theorem State.setBarge_whf (s : State) (n : Nat) (r : BargeRec) : (s.setBarge n r).whf = s.whf := rfl
@[simp] theorem State.setBarge_readers (s : State) (n : Nat) (r : BargeRec) : (s.setBarge n r).readers = s.readers := rfl
@[simp] theorem State.setBarge_cus (s : State) (n : Nat) (r : BargeRec) : (s.setBarge n r).cus = s.cus := rfl
@[simp] theorem State.setBarge_vlt (s : State) (n : Nat) (r : BargeRec) : (s.setBarge n r).vlt = s.vlt := rfl
@[simp] theorem State.setBarge_cht (s : State) (n : Nat) (r : BargeRec) : (s.setBarge n r).cht = s.cht := rfl
@[simp] theorem State.setBarge_eng (s : State) (n : Nat) (r : BargeRec) : (s.setBarge n r).eng = s.eng := rfl
@[simp] theorem State.setBarge_ent (s : State) (n : Nat) (r : BargeRec) : (s.setBarge n r).ent = s.ent := rfl
@[simp] theorem State.setBarge_hlt (s : State) (n : Nat) (r : BargeRec) : (s.setBarge n r).hlt = s.hlt := rfl
@[simp] theorem State.setBarge_tow (s : State) (n : Nat) (r : BargeRec) : (s.setBarge n r).tow = s.tow := rfl
@[simp] theorem State.setBarge_ixp (s : State) (n : Nat) (r : BargeRec) : (s.setBarge n r).ixp = s.ixp := rfl
@[simp] theorem State.setBarge_cor (s : State) (n : Nat) (r : BargeRec) : (s.setBarge n r).cor = s.cor := rfl
@[simp] theorem State.setBarge_ctr (s : State) (n : Nat) (r : BargeRec) : (s.setBarge n r).ctr = s.ctr := rfl
@[simp] theorem State.setBarge_snt (s : State) (n : Nat) (r : BargeRec) : (s.setBarge n r).snt = s.snt := rfl
@[simp] theorem State.setBarge_obs (s : State) (n : Nat) (r : BargeRec) : (s.setBarge n r).obs = s.obs := rfl
@[simp] theorem State.setBarge_clk (s : State) (n : Nat) (r : BargeRec) : (s.setBarge n r).clk = s.clk := rfl
@[simp] theorem State.setBarge_pwr (s : State) (n : Nat) (r : BargeRec) : (s.setBarge n r).pwr = s.pwr := rfl
@[simp] theorem State.setBarge_mem (s : State) (n : Nat) (r : BargeRec) : (s.setBarge n r).mem = s.mem := rfl

/-! ### dropBarge -/

@[simp] theorem State.dropBarge_pending (s : State) (n : Nat) : (s.dropBarge n).pending = s.pending := rfl
@[simp] theorem State.dropBarge_draws (s : State) (n : Nat) : (s.dropBarge n).draws = s.draws := rfl
@[simp] theorem State.dropBarge_out (s : State) (n : Nat) : (s.dropBarge n).out = s.out := rfl
@[simp] theorem State.dropBarge_whf (s : State) (n : Nat) : (s.dropBarge n).whf = s.whf := rfl
@[simp] theorem State.dropBarge_readers (s : State) (n : Nat) : (s.dropBarge n).readers = s.readers := rfl
@[simp] theorem State.dropBarge_cus (s : State) (n : Nat) : (s.dropBarge n).cus = s.cus := rfl
@[simp] theorem State.dropBarge_vlt (s : State) (n : Nat) : (s.dropBarge n).vlt = s.vlt := rfl
@[simp] theorem State.dropBarge_cht (s : State) (n : Nat) : (s.dropBarge n).cht = s.cht := rfl
@[simp] theorem State.dropBarge_eng (s : State) (n : Nat) : (s.dropBarge n).eng = s.eng := rfl
@[simp] theorem State.dropBarge_ent (s : State) (n : Nat) : (s.dropBarge n).ent = s.ent := rfl
@[simp] theorem State.dropBarge_hlt (s : State) (n : Nat) : (s.dropBarge n).hlt = s.hlt := rfl
@[simp] theorem State.dropBarge_tow (s : State) (n : Nat) : (s.dropBarge n).tow = s.tow := rfl
@[simp] theorem State.dropBarge_ixp (s : State) (n : Nat) : (s.dropBarge n).ixp = s.ixp := rfl
@[simp] theorem State.dropBarge_cor (s : State) (n : Nat) : (s.dropBarge n).cor = s.cor := rfl
@[simp] theorem State.dropBarge_ctr (s : State) (n : Nat) : (s.dropBarge n).ctr = s.ctr := rfl
@[simp] theorem State.dropBarge_snt (s : State) (n : Nat) : (s.dropBarge n).snt = s.snt := rfl
@[simp] theorem State.dropBarge_obs (s : State) (n : Nat) : (s.dropBarge n).obs = s.obs := rfl
@[simp] theorem State.dropBarge_clk (s : State) (n : Nat) : (s.dropBarge n).clk = s.clk := rfl
@[simp] theorem State.dropBarge_pwr (s : State) (n : Nat) : (s.dropBarge n).pwr = s.pwr := rfl
@[simp] theorem State.dropBarge_mem (s : State) (n : Nat) : (s.dropBarge n).mem = s.mem := rfl

/-! ### modBarge -/

@[simp] theorem State.modBarge_pending (s : State) (n : Nat) (f : BargeRec → BargeRec) : (s.modBarge n f).pending = s.pending := rfl
@[simp] theorem State.modBarge_draws (s : State) (n : Nat) (f : BargeRec → BargeRec) : (s.modBarge n f).draws = s.draws := rfl
@[simp] theorem State.modBarge_out (s : State) (n : Nat) (f : BargeRec → BargeRec) : (s.modBarge n f).out = s.out := rfl
@[simp] theorem State.modBarge_whf (s : State) (n : Nat) (f : BargeRec → BargeRec) : (s.modBarge n f).whf = s.whf := rfl
@[simp] theorem State.modBarge_readers (s : State) (n : Nat) (f : BargeRec → BargeRec) : (s.modBarge n f).readers = s.readers := rfl
@[simp] theorem State.modBarge_cus (s : State) (n : Nat) (f : BargeRec → BargeRec) : (s.modBarge n f).cus = s.cus := rfl
@[simp] theorem State.modBarge_vlt (s : State) (n : Nat) (f : BargeRec → BargeRec) : (s.modBarge n f).vlt = s.vlt := rfl
@[simp] theorem State.modBarge_cht (s : State) (n : Nat) (f : BargeRec → BargeRec) : (s.modBarge n f).cht = s.cht := rfl
@[simp] theorem State.modBarge_eng (s : State) (n : Nat) (f : BargeRec → BargeRec) : (s.modBarge n f).eng = s.eng := rfl
@[simp] theorem State.modBarge_ent (s : State) (n : Nat) (f : BargeRec → BargeRec) : (s.modBarge n f).ent = s.ent := rfl
@[simp] theorem State.modBarge_hlt (s : State) (n : Nat) (f : BargeRec → BargeRec) : (s.modBarge n f).hlt = s.hlt := rfl
@[simp] theorem State.modBarge_tow (s : State) (n : Nat) (f : BargeRec → BargeRec) : (s.modBarge n f).tow = s.tow := rfl
@[simp] theorem State.modBarge_ixp (s : State) (n : Nat) (f : BargeRec → BargeRec) : (s.modBarge n f).ixp = s.ixp := rfl
@[simp] theorem State.modBarge_cor (s : State) (n : Nat) (f : BargeRec → BargeRec) : (s.modBarge n f).cor = s.cor := rfl
@[simp] theorem State.modBarge_ctr (s : State) (n : Nat) (f : BargeRec → BargeRec) : (s.modBarge n f).ctr = s.ctr := rfl
@[simp] theorem State.modBarge_snt (s : State) (n : Nat) (f : BargeRec → BargeRec) : (s.modBarge n f).snt = s.snt := rfl
@[simp] theorem State.modBarge_obs (s : State) (n : Nat) (f : BargeRec → BargeRec) : (s.modBarge n f).obs = s.obs := rfl
@[simp] theorem State.modBarge_clk (s : State) (n : Nat) (f : BargeRec → BargeRec) : (s.modBarge n f).clk = s.clk := rfl
@[simp] theorem State.modBarge_pwr (s : State) (n : Nat) (f : BargeRec → BargeRec) : (s.modBarge n f).pwr = s.pwr := rfl
@[simp] theorem State.modBarge_mem (s : State) (n : Nat) (f : BargeRec → BargeRec) : (s.modBarge n f).mem = s.mem := rfl

/-! ### modFlight -/

@[simp] theorem State.modFlight_pending (s : State) (n : Nat) (f : Flight → Flight) : (s.modFlight n f).pending = s.pending := rfl
@[simp] theorem State.modFlight_draws (s : State) (n : Nat) (f : Flight → Flight) : (s.modFlight n f).draws = s.draws := rfl
@[simp] theorem State.modFlight_out (s : State) (n : Nat) (f : Flight → Flight) : (s.modFlight n f).out = s.out := rfl
@[simp] theorem State.modFlight_whf (s : State) (n : Nat) (f : Flight → Flight) : (s.modFlight n f).whf = s.whf := rfl
@[simp] theorem State.modFlight_readers (s : State) (n : Nat) (f : Flight → Flight) : (s.modFlight n f).readers = s.readers := rfl
@[simp] theorem State.modFlight_cus (s : State) (n : Nat) (f : Flight → Flight) : (s.modFlight n f).cus = s.cus := rfl
@[simp] theorem State.modFlight_vlt (s : State) (n : Nat) (f : Flight → Flight) : (s.modFlight n f).vlt = s.vlt := rfl
@[simp] theorem State.modFlight_cht (s : State) (n : Nat) (f : Flight → Flight) : (s.modFlight n f).cht = s.cht := rfl
@[simp] theorem State.modFlight_eng (s : State) (n : Nat) (f : Flight → Flight) : (s.modFlight n f).eng = s.eng := rfl
@[simp] theorem State.modFlight_ent (s : State) (n : Nat) (f : Flight → Flight) : (s.modFlight n f).ent = s.ent := rfl
@[simp] theorem State.modFlight_hlt (s : State) (n : Nat) (f : Flight → Flight) : (s.modFlight n f).hlt = s.hlt := rfl
@[simp] theorem State.modFlight_tow (s : State) (n : Nat) (f : Flight → Flight) : (s.modFlight n f).tow = s.tow := rfl
@[simp] theorem State.modFlight_ixp (s : State) (n : Nat) (f : Flight → Flight) : (s.modFlight n f).ixp = s.ixp := rfl
@[simp] theorem State.modFlight_cor (s : State) (n : Nat) (f : Flight → Flight) : (s.modFlight n f).cor = s.cor := rfl
@[simp] theorem State.modFlight_ctr (s : State) (n : Nat) (f : Flight → Flight) : (s.modFlight n f).ctr = s.ctr := rfl
@[simp] theorem State.modFlight_snt (s : State) (n : Nat) (f : Flight → Flight) : (s.modFlight n f).snt = s.snt := rfl
@[simp] theorem State.modFlight_obs (s : State) (n : Nat) (f : Flight → Flight) : (s.modFlight n f).obs = s.obs := rfl
@[simp] theorem State.modFlight_clk (s : State) (n : Nat) (f : Flight → Flight) : (s.modFlight n f).clk = s.clk := rfl
@[simp] theorem State.modFlight_pwr (s : State) (n : Nat) (f : Flight → Flight) : (s.modFlight n f).pwr = s.pwr := rfl
@[simp] theorem State.modFlight_mem (s : State) (n : Nat) (f : Flight → Flight) : (s.modFlight n f).mem = s.mem := rfl

/-! ### modClass -/

@[simp] theorem State.modClass_pending (s : State) (c : Nat) (f : ClassRegs → ClassRegs) : (s.modClass c f).pending = s.pending := rfl
@[simp] theorem State.modClass_draws (s : State) (c : Nat) (f : ClassRegs → ClassRegs) : (s.modClass c f).draws = s.draws := rfl
@[simp] theorem State.modClass_out (s : State) (c : Nat) (f : ClassRegs → ClassRegs) : (s.modClass c f).out = s.out := rfl
@[simp] theorem State.modClass_whf (s : State) (c : Nat) (f : ClassRegs → ClassRegs) : (s.modClass c f).whf = s.whf := rfl
@[simp] theorem State.modClass_readers (s : State) (c : Nat) (f : ClassRegs → ClassRegs) : (s.modClass c f).readers = s.readers := rfl
@[simp] theorem State.modClass_cus (s : State) (c : Nat) (f : ClassRegs → ClassRegs) : (s.modClass c f).cus = s.cus := rfl
@[simp] theorem State.modClass_vlt (s : State) (c : Nat) (f : ClassRegs → ClassRegs) : (s.modClass c f).vlt = s.vlt := rfl
@[simp] theorem State.modClass_cht (s : State) (c : Nat) (f : ClassRegs → ClassRegs) : (s.modClass c f).cht = s.cht := rfl
@[simp] theorem State.modClass_eng (s : State) (c : Nat) (f : ClassRegs → ClassRegs) : (s.modClass c f).eng = s.eng := rfl
@[simp] theorem State.modClass_ent (s : State) (c : Nat) (f : ClassRegs → ClassRegs) : (s.modClass c f).ent = s.ent := rfl
@[simp] theorem State.modClass_hlt (s : State) (c : Nat) (f : ClassRegs → ClassRegs) : (s.modClass c f).hlt = s.hlt := rfl
@[simp] theorem State.modClass_tow (s : State) (c : Nat) (f : ClassRegs → ClassRegs) : (s.modClass c f).tow = s.tow := rfl
@[simp] theorem State.modClass_ixp (s : State) (c : Nat) (f : ClassRegs → ClassRegs) : (s.modClass c f).ixp = s.ixp := rfl
@[simp] theorem State.modClass_cor (s : State) (c : Nat) (f : ClassRegs → ClassRegs) : (s.modClass c f).cor = s.cor := rfl
@[simp] theorem State.modClass_ctr (s : State) (c : Nat) (f : ClassRegs → ClassRegs) : (s.modClass c f).ctr = s.ctr := rfl
@[simp] theorem State.modClass_snt (s : State) (c : Nat) (f : ClassRegs → ClassRegs) : (s.modClass c f).snt = s.snt := rfl
@[simp] theorem State.modClass_obs (s : State) (c : Nat) (f : ClassRegs → ClassRegs) : (s.modClass c f).obs = s.obs := rfl
@[simp] theorem State.modClass_clk (s : State) (c : Nat) (f : ClassRegs → ClassRegs) : (s.modClass c f).clk = s.clk := rfl
@[simp] theorem State.modClass_pwr (s : State) (c : Nat) (f : ClassRegs → ClassRegs) : (s.modClass c f).pwr = s.pwr := rfl
@[simp] theorem State.modClass_mem (s : State) (c : Nat) (f : ClassRegs → ClassRegs) : (s.modClass c f).mem = s.mem := rfl

/-! ### setBucket -/

@[simp] theorem State.setBucket_pending (s : State) (k : Nat × Nat × Nat) (level : Nat) : (s.setBucket k level).pending = s.pending := rfl
@[simp] theorem State.setBucket_draws (s : State) (k : Nat × Nat × Nat) (level : Nat) : (s.setBucket k level).draws = s.draws := rfl
@[simp] theorem State.setBucket_out (s : State) (k : Nat × Nat × Nat) (level : Nat) : (s.setBucket k level).out = s.out := rfl
@[simp] theorem State.setBucket_whf (s : State) (k : Nat × Nat × Nat) (level : Nat) : (s.setBucket k level).whf = s.whf := rfl
@[simp] theorem State.setBucket_readers (s : State) (k : Nat × Nat × Nat) (level : Nat) : (s.setBucket k level).readers = s.readers := rfl
@[simp] theorem State.setBucket_cus (s : State) (k : Nat × Nat × Nat) (level : Nat) : (s.setBucket k level).cus = s.cus := rfl
@[simp] theorem State.setBucket_vlt (s : State) (k : Nat × Nat × Nat) (level : Nat) : (s.setBucket k level).vlt = s.vlt := rfl
@[simp] theorem State.setBucket_cht (s : State) (k : Nat × Nat × Nat) (level : Nat) : (s.setBucket k level).cht = s.cht := rfl
@[simp] theorem State.setBucket_eng (s : State) (k : Nat × Nat × Nat) (level : Nat) : (s.setBucket k level).eng = s.eng := rfl
@[simp] theorem State.setBucket_ent (s : State) (k : Nat × Nat × Nat) (level : Nat) : (s.setBucket k level).ent = s.ent := rfl
@[simp] theorem State.setBucket_hlt (s : State) (k : Nat × Nat × Nat) (level : Nat) : (s.setBucket k level).hlt = s.hlt := rfl
@[simp] theorem State.setBucket_tow (s : State) (k : Nat × Nat × Nat) (level : Nat) : (s.setBucket k level).tow = s.tow := rfl
@[simp] theorem State.setBucket_ixp (s : State) (k : Nat × Nat × Nat) (level : Nat) : (s.setBucket k level).ixp = s.ixp := rfl
@[simp] theorem State.setBucket_cor (s : State) (k : Nat × Nat × Nat) (level : Nat) : (s.setBucket k level).cor = s.cor := rfl
@[simp] theorem State.setBucket_ctr (s : State) (k : Nat × Nat × Nat) (level : Nat) : (s.setBucket k level).ctr = s.ctr := rfl
@[simp] theorem State.setBucket_snt (s : State) (k : Nat × Nat × Nat) (level : Nat) : (s.setBucket k level).snt = s.snt := rfl
@[simp] theorem State.setBucket_obs (s : State) (k : Nat × Nat × Nat) (level : Nat) : (s.setBucket k level).obs = s.obs := rfl
@[simp] theorem State.setBucket_clk (s : State) (k : Nat × Nat × Nat) (level : Nat) : (s.setBucket k level).clk = s.clk := rfl
@[simp] theorem State.setBucket_pwr (s : State) (k : Nat × Nat × Nat) (level : Nat) : (s.setBucket k level).pwr = s.pwr := rfl
@[simp] theorem State.setBucket_mem (s : State) (k : Nat × Nat × Nat) (level : Nat) : (s.setBucket k level).mem = s.mem := rfl

/-! ### modDomain -/

@[simp] theorem State.modDomain_pending (s : State) (d : Nat) (f : PowerDomain → PowerDomain) : (s.modDomain d f).pending = s.pending := rfl
@[simp] theorem State.modDomain_draws (s : State) (d : Nat) (f : PowerDomain → PowerDomain) : (s.modDomain d f).draws = s.draws := rfl
@[simp] theorem State.modDomain_out (s : State) (d : Nat) (f : PowerDomain → PowerDomain) : (s.modDomain d f).out = s.out := rfl
@[simp] theorem State.modDomain_whf (s : State) (d : Nat) (f : PowerDomain → PowerDomain) : (s.modDomain d f).whf = s.whf := rfl
@[simp] theorem State.modDomain_readers (s : State) (d : Nat) (f : PowerDomain → PowerDomain) : (s.modDomain d f).readers = s.readers := rfl
@[simp] theorem State.modDomain_cus (s : State) (d : Nat) (f : PowerDomain → PowerDomain) : (s.modDomain d f).cus = s.cus := rfl
@[simp] theorem State.modDomain_vlt (s : State) (d : Nat) (f : PowerDomain → PowerDomain) : (s.modDomain d f).vlt = s.vlt := rfl
@[simp] theorem State.modDomain_flt (s : State) (d : Nat) (f : PowerDomain → PowerDomain) : (s.modDomain d f).flt = s.flt := rfl
@[simp] theorem State.modDomain_cht (s : State) (d : Nat) (f : PowerDomain → PowerDomain) : (s.modDomain d f).cht = s.cht := rfl
@[simp] theorem State.modDomain_eng (s : State) (d : Nat) (f : PowerDomain → PowerDomain) : (s.modDomain d f).eng = s.eng := rfl
@[simp] theorem State.modDomain_ent (s : State) (d : Nat) (f : PowerDomain → PowerDomain) : (s.modDomain d f).ent = s.ent := rfl
@[simp] theorem State.modDomain_hlt (s : State) (d : Nat) (f : PowerDomain → PowerDomain) : (s.modDomain d f).hlt = s.hlt := rfl
@[simp] theorem State.modDomain_tow (s : State) (d : Nat) (f : PowerDomain → PowerDomain) : (s.modDomain d f).tow = s.tow := rfl
@[simp] theorem State.modDomain_ixp (s : State) (d : Nat) (f : PowerDomain → PowerDomain) : (s.modDomain d f).ixp = s.ixp := rfl
@[simp] theorem State.modDomain_cor (s : State) (d : Nat) (f : PowerDomain → PowerDomain) : (s.modDomain d f).cor = s.cor := rfl
@[simp] theorem State.modDomain_ctr (s : State) (d : Nat) (f : PowerDomain → PowerDomain) : (s.modDomain d f).ctr = s.ctr := rfl
@[simp] theorem State.modDomain_snt (s : State) (d : Nat) (f : PowerDomain → PowerDomain) : (s.modDomain d f).snt = s.snt := rfl
@[simp] theorem State.modDomain_obs (s : State) (d : Nat) (f : PowerDomain → PowerDomain) : (s.modDomain d f).obs = s.obs := rfl
@[simp] theorem State.modDomain_clk (s : State) (d : Nat) (f : PowerDomain → PowerDomain) : (s.modDomain d f).clk = s.clk := rfl
@[simp] theorem State.modDomain_mem (s : State) (d : Nat) (f : PowerDomain → PowerDomain) : (s.modDomain d f).mem = s.mem := rfl

/-! ### setPeer -/

@[simp] theorem State.setPeer_pending (s : State) (l : PeerLink) : (s.setPeer l).pending = s.pending := rfl
@[simp] theorem State.setPeer_draws (s : State) (l : PeerLink) : (s.setPeer l).draws = s.draws := rfl
@[simp] theorem State.setPeer_out (s : State) (l : PeerLink) : (s.setPeer l).out = s.out := rfl
@[simp] theorem State.setPeer_whf (s : State) (l : PeerLink) : (s.setPeer l).whf = s.whf := rfl
@[simp] theorem State.setPeer_readers (s : State) (l : PeerLink) : (s.setPeer l).readers = s.readers := rfl
@[simp] theorem State.setPeer_cus (s : State) (l : PeerLink) : (s.setPeer l).cus = s.cus := rfl
@[simp] theorem State.setPeer_vlt (s : State) (l : PeerLink) : (s.setPeer l).vlt = s.vlt := rfl
@[simp] theorem State.setPeer_flt (s : State) (l : PeerLink) : (s.setPeer l).flt = s.flt := rfl
@[simp] theorem State.setPeer_cht (s : State) (l : PeerLink) : (s.setPeer l).cht = s.cht := rfl
@[simp] theorem State.setPeer_eng (s : State) (l : PeerLink) : (s.setPeer l).eng = s.eng := rfl
@[simp] theorem State.setPeer_ent (s : State) (l : PeerLink) : (s.setPeer l).ent = s.ent := rfl
@[simp] theorem State.setPeer_hlt (s : State) (l : PeerLink) : (s.setPeer l).hlt = s.hlt := rfl
@[simp] theorem State.setPeer_ixp (s : State) (l : PeerLink) : (s.setPeer l).ixp = s.ixp := rfl
@[simp] theorem State.setPeer_cor (s : State) (l : PeerLink) : (s.setPeer l).cor = s.cor := rfl
@[simp] theorem State.setPeer_ctr (s : State) (l : PeerLink) : (s.setPeer l).ctr = s.ctr := rfl
@[simp] theorem State.setPeer_snt (s : State) (l : PeerLink) : (s.setPeer l).snt = s.snt := rfl
@[simp] theorem State.setPeer_obs (s : State) (l : PeerLink) : (s.setPeer l).obs = s.obs := rfl
@[simp] theorem State.setPeer_clk (s : State) (l : PeerLink) : (s.setPeer l).clk = s.clk := rfl
@[simp] theorem State.setPeer_pwr (s : State) (l : PeerLink) : (s.setPeer l).pwr = s.pwr := rfl
@[simp] theorem State.setPeer_mem (s : State) (l : PeerLink) : (s.setPeer l).mem = s.mem := rfl

/-! ### modTow -/

@[simp] theorem State.modTow_pending (s : State) (f : PeerLink → PeerLink) : (s.modTow f).pending = s.pending := rfl
@[simp] theorem State.modTow_draws (s : State) (f : PeerLink → PeerLink) : (s.modTow f).draws = s.draws := rfl
@[simp] theorem State.modTow_out (s : State) (f : PeerLink → PeerLink) : (s.modTow f).out = s.out := rfl
@[simp] theorem State.modTow_whf (s : State) (f : PeerLink → PeerLink) : (s.modTow f).whf = s.whf := rfl
@[simp] theorem State.modTow_readers (s : State) (f : PeerLink → PeerLink) : (s.modTow f).readers = s.readers := rfl
@[simp] theorem State.modTow_cus (s : State) (f : PeerLink → PeerLink) : (s.modTow f).cus = s.cus := rfl
@[simp] theorem State.modTow_vlt (s : State) (f : PeerLink → PeerLink) : (s.modTow f).vlt = s.vlt := rfl
@[simp] theorem State.modTow_flt (s : State) (f : PeerLink → PeerLink) : (s.modTow f).flt = s.flt := rfl
@[simp] theorem State.modTow_cht (s : State) (f : PeerLink → PeerLink) : (s.modTow f).cht = s.cht := rfl
@[simp] theorem State.modTow_eng (s : State) (f : PeerLink → PeerLink) : (s.modTow f).eng = s.eng := rfl
@[simp] theorem State.modTow_ent (s : State) (f : PeerLink → PeerLink) : (s.modTow f).ent = s.ent := rfl
@[simp] theorem State.modTow_hlt (s : State) (f : PeerLink → PeerLink) : (s.modTow f).hlt = s.hlt := rfl
@[simp] theorem State.modTow_ixp (s : State) (f : PeerLink → PeerLink) : (s.modTow f).ixp = s.ixp := rfl
@[simp] theorem State.modTow_cor (s : State) (f : PeerLink → PeerLink) : (s.modTow f).cor = s.cor := rfl
@[simp] theorem State.modTow_ctr (s : State) (f : PeerLink → PeerLink) : (s.modTow f).ctr = s.ctr := rfl
@[simp] theorem State.modTow_snt (s : State) (f : PeerLink → PeerLink) : (s.modTow f).snt = s.snt := rfl
@[simp] theorem State.modTow_obs (s : State) (f : PeerLink → PeerLink) : (s.modTow f).obs = s.obs := rfl
@[simp] theorem State.modTow_clk (s : State) (f : PeerLink → PeerLink) : (s.modTow f).clk = s.clk := rfl
@[simp] theorem State.modTow_pwr (s : State) (f : PeerLink → PeerLink) : (s.modTow f).pwr = s.pwr := rfl
@[simp] theorem State.modTow_mem (s : State) (f : PeerLink → PeerLink) : (s.modTow f).mem = s.mem := rfl

/-! ### modPtp -/

@[simp] theorem State.modPtp_pending (s : State) (cage : Nat) (f : PtpPort → PtpPort) : (s.modPtp cage f).pending = s.pending := rfl
@[simp] theorem State.modPtp_draws (s : State) (cage : Nat) (f : PtpPort → PtpPort) : (s.modPtp cage f).draws = s.draws := rfl
@[simp] theorem State.modPtp_out (s : State) (cage : Nat) (f : PtpPort → PtpPort) : (s.modPtp cage f).out = s.out := rfl
@[simp] theorem State.modPtp_readers (s : State) (cage : Nat) (f : PtpPort → PtpPort) : (s.modPtp cage f).readers = s.readers := rfl
@[simp] theorem State.modPtp_cus (s : State) (cage : Nat) (f : PtpPort → PtpPort) : (s.modPtp cage f).cus = s.cus := rfl
@[simp] theorem State.modPtp_vlt (s : State) (cage : Nat) (f : PtpPort → PtpPort) : (s.modPtp cage f).vlt = s.vlt := rfl
@[simp] theorem State.modPtp_flt (s : State) (cage : Nat) (f : PtpPort → PtpPort) : (s.modPtp cage f).flt = s.flt := rfl
@[simp] theorem State.modPtp_cht (s : State) (cage : Nat) (f : PtpPort → PtpPort) : (s.modPtp cage f).cht = s.cht := rfl
@[simp] theorem State.modPtp_eng (s : State) (cage : Nat) (f : PtpPort → PtpPort) : (s.modPtp cage f).eng = s.eng := rfl
@[simp] theorem State.modPtp_ent (s : State) (cage : Nat) (f : PtpPort → PtpPort) : (s.modPtp cage f).ent = s.ent := rfl
@[simp] theorem State.modPtp_hlt (s : State) (cage : Nat) (f : PtpPort → PtpPort) : (s.modPtp cage f).hlt = s.hlt := rfl
@[simp] theorem State.modPtp_tow (s : State) (cage : Nat) (f : PtpPort → PtpPort) : (s.modPtp cage f).tow = s.tow := rfl
@[simp] theorem State.modPtp_ixp (s : State) (cage : Nat) (f : PtpPort → PtpPort) : (s.modPtp cage f).ixp = s.ixp := rfl
@[simp] theorem State.modPtp_cor (s : State) (cage : Nat) (f : PtpPort → PtpPort) : (s.modPtp cage f).cor = s.cor := rfl
@[simp] theorem State.modPtp_ctr (s : State) (cage : Nat) (f : PtpPort → PtpPort) : (s.modPtp cage f).ctr = s.ctr := rfl
@[simp] theorem State.modPtp_snt (s : State) (cage : Nat) (f : PtpPort → PtpPort) : (s.modPtp cage f).snt = s.snt := rfl
@[simp] theorem State.modPtp_obs (s : State) (cage : Nat) (f : PtpPort → PtpPort) : (s.modPtp cage f).obs = s.obs := rfl
@[simp] theorem State.modPtp_clk (s : State) (cage : Nat) (f : PtpPort → PtpPort) : (s.modPtp cage f).clk = s.clk := rfl
@[simp] theorem State.modPtp_pwr (s : State) (cage : Nat) (f : PtpPort → PtpPort) : (s.modPtp cage f).pwr = s.pwr := rfl
@[simp] theorem State.modPtp_mem (s : State) (cage : Nat) (f : PtpPort → PtpPort) : (s.modPtp cage f).mem = s.mem := rfl

/-! ### modSensor -/

@[simp] theorem State.modSensor_pending (s : State) (code : Nat) (f : Sensor → Sensor) : (s.modSensor code f).pending = s.pending := rfl
@[simp] theorem State.modSensor_draws (s : State) (code : Nat) (f : Sensor → Sensor) : (s.modSensor code f).draws = s.draws := rfl
@[simp] theorem State.modSensor_out (s : State) (code : Nat) (f : Sensor → Sensor) : (s.modSensor code f).out = s.out := rfl
@[simp] theorem State.modSensor_whf (s : State) (code : Nat) (f : Sensor → Sensor) : (s.modSensor code f).whf = s.whf := rfl
@[simp] theorem State.modSensor_readers (s : State) (code : Nat) (f : Sensor → Sensor) : (s.modSensor code f).readers = s.readers := rfl
@[simp] theorem State.modSensor_cus (s : State) (code : Nat) (f : Sensor → Sensor) : (s.modSensor code f).cus = s.cus := rfl
@[simp] theorem State.modSensor_vlt (s : State) (code : Nat) (f : Sensor → Sensor) : (s.modSensor code f).vlt = s.vlt := rfl
@[simp] theorem State.modSensor_flt (s : State) (code : Nat) (f : Sensor → Sensor) : (s.modSensor code f).flt = s.flt := rfl
@[simp] theorem State.modSensor_cht (s : State) (code : Nat) (f : Sensor → Sensor) : (s.modSensor code f).cht = s.cht := rfl
@[simp] theorem State.modSensor_eng (s : State) (code : Nat) (f : Sensor → Sensor) : (s.modSensor code f).eng = s.eng := rfl
@[simp] theorem State.modSensor_ent (s : State) (code : Nat) (f : Sensor → Sensor) : (s.modSensor code f).ent = s.ent := rfl
@[simp] theorem State.modSensor_hlt (s : State) (code : Nat) (f : Sensor → Sensor) : (s.modSensor code f).hlt = s.hlt := rfl
@[simp] theorem State.modSensor_tow (s : State) (code : Nat) (f : Sensor → Sensor) : (s.modSensor code f).tow = s.tow := rfl
@[simp] theorem State.modSensor_ixp (s : State) (code : Nat) (f : Sensor → Sensor) : (s.modSensor code f).ixp = s.ixp := rfl
@[simp] theorem State.modSensor_cor (s : State) (code : Nat) (f : Sensor → Sensor) : (s.modSensor code f).cor = s.cor := rfl
@[simp] theorem State.modSensor_ctr (s : State) (code : Nat) (f : Sensor → Sensor) : (s.modSensor code f).ctr = s.ctr := rfl
@[simp] theorem State.modSensor_obs (s : State) (code : Nat) (f : Sensor → Sensor) : (s.modSensor code f).obs = s.obs := rfl
@[simp] theorem State.modSensor_clk (s : State) (code : Nat) (f : Sensor → Sensor) : (s.modSensor code f).clk = s.clk := rfl
@[simp] theorem State.modSensor_pwr (s : State) (code : Nat) (f : Sensor → Sensor) : (s.modSensor code f).pwr = s.pwr := rfl
@[simp] theorem State.modSensor_mem (s : State) (code : Nat) (f : Sensor → Sensor) : (s.modSensor code f).mem = s.mem := rfl

/-! ### modCopies -/

@[simp] theorem State.modCopies_pending (s : State) (r : Reader) (f : ReaderRegs → ReaderRegs) : (s.modCopies r f).pending = s.pending := rfl
@[simp] theorem State.modCopies_draws (s : State) (r : Reader) (f : ReaderRegs → ReaderRegs) : (s.modCopies r f).draws = s.draws := rfl
@[simp] theorem State.modCopies_out (s : State) (r : Reader) (f : ReaderRegs → ReaderRegs) : (s.modCopies r f).out = s.out := rfl
@[simp] theorem State.modCopies_whf (s : State) (r : Reader) (f : ReaderRegs → ReaderRegs) : (s.modCopies r f).whf = s.whf := rfl
@[simp] theorem State.modCopies_cus (s : State) (r : Reader) (f : ReaderRegs → ReaderRegs) : (s.modCopies r f).cus = s.cus := rfl
@[simp] theorem State.modCopies_vlt (s : State) (r : Reader) (f : ReaderRegs → ReaderRegs) : (s.modCopies r f).vlt = s.vlt := rfl
@[simp] theorem State.modCopies_flt (s : State) (r : Reader) (f : ReaderRegs → ReaderRegs) : (s.modCopies r f).flt = s.flt := rfl
@[simp] theorem State.modCopies_cht (s : State) (r : Reader) (f : ReaderRegs → ReaderRegs) : (s.modCopies r f).cht = s.cht := rfl
@[simp] theorem State.modCopies_eng (s : State) (r : Reader) (f : ReaderRegs → ReaderRegs) : (s.modCopies r f).eng = s.eng := rfl
@[simp] theorem State.modCopies_ent (s : State) (r : Reader) (f : ReaderRegs → ReaderRegs) : (s.modCopies r f).ent = s.ent := rfl
@[simp] theorem State.modCopies_hlt (s : State) (r : Reader) (f : ReaderRegs → ReaderRegs) : (s.modCopies r f).hlt = s.hlt := rfl
@[simp] theorem State.modCopies_tow (s : State) (r : Reader) (f : ReaderRegs → ReaderRegs) : (s.modCopies r f).tow = s.tow := rfl
@[simp] theorem State.modCopies_ixp (s : State) (r : Reader) (f : ReaderRegs → ReaderRegs) : (s.modCopies r f).ixp = s.ixp := rfl
@[simp] theorem State.modCopies_cor (s : State) (r : Reader) (f : ReaderRegs → ReaderRegs) : (s.modCopies r f).cor = s.cor := rfl
@[simp] theorem State.modCopies_ctr (s : State) (r : Reader) (f : ReaderRegs → ReaderRegs) : (s.modCopies r f).ctr = s.ctr := rfl
@[simp] theorem State.modCopies_snt (s : State) (r : Reader) (f : ReaderRegs → ReaderRegs) : (s.modCopies r f).snt = s.snt := rfl
@[simp] theorem State.modCopies_obs (s : State) (r : Reader) (f : ReaderRegs → ReaderRegs) : (s.modCopies r f).obs = s.obs := rfl
@[simp] theorem State.modCopies_clk (s : State) (r : Reader) (f : ReaderRegs → ReaderRegs) : (s.modCopies r f).clk = s.clk := rfl
@[simp] theorem State.modCopies_pwr (s : State) (r : Reader) (f : ReaderRegs → ReaderRegs) : (s.modCopies r f).pwr = s.pwr := rfl
@[simp] theorem State.modCopies_mem (s : State) (r : Reader) (f : ReaderRegs → ReaderRegs) : (s.modCopies r f).mem = s.mem := rfl

/-! ### setCounter -/

@[simp] theorem State.setCounter_pending (s : State) (block inst n : Nat) (c : Counter48) : (s.setCounter block inst n c).pending = s.pending := rfl
@[simp] theorem State.setCounter_draws (s : State) (block inst n : Nat) (c : Counter48) : (s.setCounter block inst n c).draws = s.draws := rfl
@[simp] theorem State.setCounter_out (s : State) (block inst n : Nat) (c : Counter48) : (s.setCounter block inst n c).out = s.out := rfl
@[simp] theorem State.setCounter_whf (s : State) (block inst n : Nat) (c : Counter48) : (s.setCounter block inst n c).whf = s.whf := rfl
@[simp] theorem State.setCounter_readers (s : State) (block inst n : Nat) (c : Counter48) : (s.setCounter block inst n c).readers = s.readers := rfl
@[simp] theorem State.setCounter_cus (s : State) (block inst n : Nat) (c : Counter48) : (s.setCounter block inst n c).cus = s.cus := rfl
@[simp] theorem State.setCounter_vlt (s : State) (block inst n : Nat) (c : Counter48) : (s.setCounter block inst n c).vlt = s.vlt := rfl
@[simp] theorem State.setCounter_flt (s : State) (block inst n : Nat) (c : Counter48) : (s.setCounter block inst n c).flt = s.flt := rfl
@[simp] theorem State.setCounter_cht (s : State) (block inst n : Nat) (c : Counter48) : (s.setCounter block inst n c).cht = s.cht := rfl
@[simp] theorem State.setCounter_eng (s : State) (block inst n : Nat) (c : Counter48) : (s.setCounter block inst n c).eng = s.eng := rfl
@[simp] theorem State.setCounter_ent (s : State) (block inst n : Nat) (c : Counter48) : (s.setCounter block inst n c).ent = s.ent := rfl
@[simp] theorem State.setCounter_hlt (s : State) (block inst n : Nat) (c : Counter48) : (s.setCounter block inst n c).hlt = s.hlt := rfl
@[simp] theorem State.setCounter_tow (s : State) (block inst n : Nat) (c : Counter48) : (s.setCounter block inst n c).tow = s.tow := rfl
@[simp] theorem State.setCounter_ixp (s : State) (block inst n : Nat) (c : Counter48) : (s.setCounter block inst n c).ixp = s.ixp := rfl
@[simp] theorem State.setCounter_cor (s : State) (block inst n : Nat) (c : Counter48) : (s.setCounter block inst n c).cor = s.cor := rfl
@[simp] theorem State.setCounter_ctr (s : State) (block inst n : Nat) (c : Counter48) : (s.setCounter block inst n c).ctr = s.ctr := rfl
@[simp] theorem State.setCounter_snt (s : State) (block inst n : Nat) (c : Counter48) : (s.setCounter block inst n c).snt = s.snt := rfl
@[simp] theorem State.setCounter_clk (s : State) (block inst n : Nat) (c : Counter48) : (s.setCounter block inst n c).clk = s.clk := rfl
@[simp] theorem State.setCounter_pwr (s : State) (block inst n : Nat) (c : Counter48) : (s.setCounter block inst n c).pwr = s.pwr := rfl
@[simp] theorem State.setCounter_mem (s : State) (block inst n : Nat) (c : Counter48) : (s.setCounter block inst n c).mem = s.mem := rfl

/-! ### setBuffer -/

@[simp] theorem State.setBuffer_pending (s : State) (i : Nat) (x : OpBuf) : (s.setBuffer i x).pending = s.pending := rfl
@[simp] theorem State.setBuffer_draws (s : State) (i : Nat) (x : OpBuf) : (s.setBuffer i x).draws = s.draws := rfl
@[simp] theorem State.setBuffer_out (s : State) (i : Nat) (x : OpBuf) : (s.setBuffer i x).out = s.out := rfl
@[simp] theorem State.setBuffer_whf (s : State) (i : Nat) (x : OpBuf) : (s.setBuffer i x).whf = s.whf := rfl
@[simp] theorem State.setBuffer_readers (s : State) (i : Nat) (x : OpBuf) : (s.setBuffer i x).readers = s.readers := rfl
@[simp] theorem State.setBuffer_cus (s : State) (i : Nat) (x : OpBuf) : (s.setBuffer i x).cus = s.cus := rfl
@[simp] theorem State.setBuffer_vlt (s : State) (i : Nat) (x : OpBuf) : (s.setBuffer i x).vlt = s.vlt := rfl
@[simp] theorem State.setBuffer_flt (s : State) (i : Nat) (x : OpBuf) : (s.setBuffer i x).flt = s.flt := rfl
@[simp] theorem State.setBuffer_cht (s : State) (i : Nat) (x : OpBuf) : (s.setBuffer i x).cht = s.cht := rfl
@[simp] theorem State.setBuffer_ent (s : State) (i : Nat) (x : OpBuf) : (s.setBuffer i x).ent = s.ent := rfl
@[simp] theorem State.setBuffer_hlt (s : State) (i : Nat) (x : OpBuf) : (s.setBuffer i x).hlt = s.hlt := rfl
@[simp] theorem State.setBuffer_tow (s : State) (i : Nat) (x : OpBuf) : (s.setBuffer i x).tow = s.tow := rfl
@[simp] theorem State.setBuffer_ixp (s : State) (i : Nat) (x : OpBuf) : (s.setBuffer i x).ixp = s.ixp := rfl
@[simp] theorem State.setBuffer_cor (s : State) (i : Nat) (x : OpBuf) : (s.setBuffer i x).cor = s.cor := rfl
@[simp] theorem State.setBuffer_ctr (s : State) (i : Nat) (x : OpBuf) : (s.setBuffer i x).ctr = s.ctr := rfl
@[simp] theorem State.setBuffer_snt (s : State) (i : Nat) (x : OpBuf) : (s.setBuffer i x).snt = s.snt := rfl
@[simp] theorem State.setBuffer_obs (s : State) (i : Nat) (x : OpBuf) : (s.setBuffer i x).obs = s.obs := rfl
@[simp] theorem State.setBuffer_clk (s : State) (i : Nat) (x : OpBuf) : (s.setBuffer i x).clk = s.clk := rfl
@[simp] theorem State.setBuffer_pwr (s : State) (i : Nat) (x : OpBuf) : (s.setBuffer i x).pwr = s.pwr := rfl
@[simp] theorem State.setBuffer_mem (s : State) (i : Nat) (x : OpBuf) : (s.setBuffer i x).mem = s.mem := rfl

/-! ### push -/

@[simp] theorem State.push_pending (s : State) (o : Output) : (s.push o).pending = s.pending := by unfold State.push; split <;> rfl
@[simp] theorem State.push_whf (s : State) (o : Output) : (s.push o).whf = s.whf := by unfold State.push; split <;> rfl
@[simp] theorem State.push_readers (s : State) (o : Output) : (s.push o).readers = s.readers := by unfold State.push; split <;> rfl
@[simp] theorem State.push_cus (s : State) (o : Output) : (s.push o).cus = s.cus := by unfold State.push; split <;> rfl
@[simp] theorem State.push_vlt (s : State) (o : Output) : (s.push o).vlt = s.vlt := by unfold State.push; split <;> rfl
@[simp] theorem State.push_flt (s : State) (o : Output) : (s.push o).flt = s.flt := by unfold State.push; split <;> rfl
@[simp] theorem State.push_cht (s : State) (o : Output) : (s.push o).cht = s.cht := by unfold State.push; split <;> rfl
@[simp] theorem State.push_eng (s : State) (o : Output) : (s.push o).eng = s.eng := by unfold State.push; split <;> rfl
@[simp] theorem State.push_ent (s : State) (o : Output) : (s.push o).ent = s.ent := by unfold State.push; split <;> rfl
@[simp] theorem State.push_hlt (s : State) (o : Output) : (s.push o).hlt = s.hlt := by unfold State.push; split <;> rfl
@[simp] theorem State.push_tow (s : State) (o : Output) : (s.push o).tow = s.tow := by unfold State.push; split <;> rfl
@[simp] theorem State.push_ixp (s : State) (o : Output) : (s.push o).ixp = s.ixp := by unfold State.push; split <;> rfl
@[simp] theorem State.push_cor (s : State) (o : Output) : (s.push o).cor = s.cor := by unfold State.push; split <;> rfl
@[simp] theorem State.push_ctr (s : State) (o : Output) : (s.push o).ctr = s.ctr := by unfold State.push; split <;> rfl
@[simp] theorem State.push_snt (s : State) (o : Output) : (s.push o).snt = s.snt := by unfold State.push; split <;> rfl
@[simp] theorem State.push_clk (s : State) (o : Output) : (s.push o).clk = s.clk := by unfold State.push; split <;> rfl
@[simp] theorem State.push_pwr (s : State) (o : Output) : (s.push o).pwr = s.pwr := by unfold State.push; split <;> rfl
@[simp] theorem State.push_mem (s : State) (o : Output) : (s.push o).mem = s.mem := by unfold State.push; split <;> rfl
@[simp] theorem State.push_draws (s : State) (o : Output) : (s.push o).draws = s.draws := by unfold State.push; split <;> rfl
@[simp] theorem State.push_obs (s : State) (o : Output) : (s.push o).obs = s.obs := by unfold State.push; split <;> rfl

/-! ### route -/

@[simp] theorem State.route_pending (s : State) (n : Nat) (info : W64) (asserted : Bool) : (s.route n info asserted).pending = s.pending := rfl
@[simp] theorem State.route_whf (s : State) (n : Nat) (info : W64) (asserted : Bool) : (s.route n info asserted).whf = s.whf := rfl
@[simp] theorem State.route_readers (s : State) (n : Nat) (info : W64) (asserted : Bool) : (s.route n info asserted).readers = s.readers := rfl
@[simp] theorem State.route_cus (s : State) (n : Nat) (info : W64) (asserted : Bool) : (s.route n info asserted).cus = s.cus := rfl
@[simp] theorem State.route_vlt (s : State) (n : Nat) (info : W64) (asserted : Bool) : (s.route n info asserted).vlt = s.vlt := rfl
@[simp] theorem State.route_flt (s : State) (n : Nat) (info : W64) (asserted : Bool) : (s.route n info asserted).flt = s.flt := rfl
@[simp] theorem State.route_cht (s : State) (n : Nat) (info : W64) (asserted : Bool) : (s.route n info asserted).cht = s.cht := rfl
@[simp] theorem State.route_eng (s : State) (n : Nat) (info : W64) (asserted : Bool) : (s.route n info asserted).eng = s.eng := rfl
@[simp] theorem State.route_ent (s : State) (n : Nat) (info : W64) (asserted : Bool) : (s.route n info asserted).ent = s.ent := rfl
@[simp] theorem State.route_hlt (s : State) (n : Nat) (info : W64) (asserted : Bool) : (s.route n info asserted).hlt = s.hlt := rfl
@[simp] theorem State.route_tow (s : State) (n : Nat) (info : W64) (asserted : Bool) : (s.route n info asserted).tow = s.tow := rfl
@[simp] theorem State.route_ixp (s : State) (n : Nat) (info : W64) (asserted : Bool) : (s.route n info asserted).ixp = s.ixp := rfl
@[simp] theorem State.route_cor (s : State) (n : Nat) (info : W64) (asserted : Bool) : (s.route n info asserted).cor = s.cor := rfl
@[simp] theorem State.route_ctr (s : State) (n : Nat) (info : W64) (asserted : Bool) : (s.route n info asserted).ctr = s.ctr := rfl
@[simp] theorem State.route_snt (s : State) (n : Nat) (info : W64) (asserted : Bool) : (s.route n info asserted).snt = s.snt := rfl
@[simp] theorem State.route_clk (s : State) (n : Nat) (info : W64) (asserted : Bool) : (s.route n info asserted).clk = s.clk := rfl
@[simp] theorem State.route_pwr (s : State) (n : Nat) (info : W64) (asserted : Bool) : (s.route n info asserted).pwr = s.pwr := rfl
@[simp] theorem State.route_mem (s : State) (n : Nat) (info : W64) (asserted : Bool) : (s.route n info asserted).mem = s.mem := rfl
@[simp] theorem State.route_draws (s : State) (n : Nat) (info : W64) (asserted : Bool) : (s.route n info asserted).draws = s.draws := rfl
@[simp] theorem State.route_out (s : State) (n : Nat) (info : W64) (asserted : Bool) : (s.route n info asserted).out = s.out := rfl

/-! ### overflows -/

@[simp] theorem State.overflows_pending (s : State) (l : List (Nat × Nat × Nat)) : (s.overflows l).pending = s.pending := foldl_field _ (fun s k => by dsimp only; split <;> simp [State.freeNat]) l s
@[simp] theorem State.overflows_whf (s : State) (l : List (Nat × Nat × Nat)) : (s.overflows l).whf = s.whf := foldl_field _ (fun s k => by dsimp only; split <;> simp [State.freeNat]) l s
@[simp] theorem State.overflows_readers (s : State) (l : List (Nat × Nat × Nat)) : (s.overflows l).readers = s.readers := foldl_field _ (fun s k => by dsimp only; split <;> simp [State.freeNat]) l s
@[simp] theorem State.overflows_cus (s : State) (l : List (Nat × Nat × Nat)) : (s.overflows l).cus = s.cus := foldl_field _ (fun s k => by dsimp only; split <;> simp [State.freeNat]) l s
@[simp] theorem State.overflows_vlt (s : State) (l : List (Nat × Nat × Nat)) : (s.overflows l).vlt = s.vlt := foldl_field _ (fun s k => by dsimp only; split <;> simp [State.freeNat]) l s
@[simp] theorem State.overflows_flt (s : State) (l : List (Nat × Nat × Nat)) : (s.overflows l).flt = s.flt := foldl_field _ (fun s k => by dsimp only; split <;> simp [State.freeNat]) l s
@[simp] theorem State.overflows_cht (s : State) (l : List (Nat × Nat × Nat)) : (s.overflows l).cht = s.cht := foldl_field _ (fun s k => by dsimp only; split <;> simp [State.freeNat]) l s
@[simp] theorem State.overflows_eng (s : State) (l : List (Nat × Nat × Nat)) : (s.overflows l).eng = s.eng := foldl_field _ (fun s k => by dsimp only; split <;> simp [State.freeNat]) l s
@[simp] theorem State.overflows_ent (s : State) (l : List (Nat × Nat × Nat)) : (s.overflows l).ent = s.ent := foldl_field _ (fun s k => by dsimp only; split <;> simp [State.freeNat]) l s
@[simp] theorem State.overflows_hlt (s : State) (l : List (Nat × Nat × Nat)) : (s.overflows l).hlt = s.hlt := foldl_field _ (fun s k => by dsimp only; split <;> simp [State.freeNat]) l s
@[simp] theorem State.overflows_tow (s : State) (l : List (Nat × Nat × Nat)) : (s.overflows l).tow = s.tow := foldl_field _ (fun s k => by dsimp only; split <;> simp [State.freeNat]) l s
@[simp] theorem State.overflows_ixp (s : State) (l : List (Nat × Nat × Nat)) : (s.overflows l).ixp = s.ixp := foldl_field _ (fun s k => by dsimp only; split <;> simp [State.freeNat]) l s
@[simp] theorem State.overflows_cor (s : State) (l : List (Nat × Nat × Nat)) : (s.overflows l).cor = s.cor := foldl_field _ (fun s k => by dsimp only; split <;> simp [State.freeNat]) l s
@[simp] theorem State.overflows_ctr (s : State) (l : List (Nat × Nat × Nat)) : (s.overflows l).ctr = s.ctr := foldl_field _ (fun s k => by dsimp only; split <;> simp [State.freeNat]) l s
@[simp] theorem State.overflows_snt (s : State) (l : List (Nat × Nat × Nat)) : (s.overflows l).snt = s.snt := foldl_field _ (fun s k => by dsimp only; split <;> simp [State.freeNat]) l s
@[simp] theorem State.overflows_clk (s : State) (l : List (Nat × Nat × Nat)) : (s.overflows l).clk = s.clk := foldl_field _ (fun s k => by dsimp only; split <;> simp [State.freeNat]) l s
@[simp] theorem State.overflows_pwr (s : State) (l : List (Nat × Nat × Nat)) : (s.overflows l).pwr = s.pwr := foldl_field _ (fun s k => by dsimp only; split <;> simp [State.freeNat]) l s
@[simp] theorem State.overflows_mem (s : State) (l : List (Nat × Nat × Nat)) : (s.overflows l).mem = s.mem := foldl_field _ (fun s k => by dsimp only; split <;> simp [State.freeNat]) l s

/-! ### tally -/

@[simp] theorem State.tally_pending (s : State) (f : SiteCounter → Nat) : (s.tally f).pending = s.pending := State.overflows_pending ..
@[simp] theorem State.tally_whf (s : State) (f : SiteCounter → Nat) : (s.tally f).whf = s.whf := State.overflows_whf ..
@[simp] theorem State.tally_readers (s : State) (f : SiteCounter → Nat) : (s.tally f).readers = s.readers := State.overflows_readers ..
@[simp] theorem State.tally_cus (s : State) (f : SiteCounter → Nat) : (s.tally f).cus = s.cus := State.overflows_cus ..
@[simp] theorem State.tally_vlt (s : State) (f : SiteCounter → Nat) : (s.tally f).vlt = s.vlt := State.overflows_vlt ..
@[simp] theorem State.tally_flt (s : State) (f : SiteCounter → Nat) : (s.tally f).flt = s.flt := State.overflows_flt ..
@[simp] theorem State.tally_cht (s : State) (f : SiteCounter → Nat) : (s.tally f).cht = s.cht := State.overflows_cht ..
@[simp] theorem State.tally_eng (s : State) (f : SiteCounter → Nat) : (s.tally f).eng = s.eng := State.overflows_eng ..
@[simp] theorem State.tally_ent (s : State) (f : SiteCounter → Nat) : (s.tally f).ent = s.ent := State.overflows_ent ..
@[simp] theorem State.tally_hlt (s : State) (f : SiteCounter → Nat) : (s.tally f).hlt = s.hlt := State.overflows_hlt ..
@[simp] theorem State.tally_tow (s : State) (f : SiteCounter → Nat) : (s.tally f).tow = s.tow := State.overflows_tow ..
@[simp] theorem State.tally_ixp (s : State) (f : SiteCounter → Nat) : (s.tally f).ixp = s.ixp := State.overflows_ixp ..
@[simp] theorem State.tally_cor (s : State) (f : SiteCounter → Nat) : (s.tally f).cor = s.cor := State.overflows_cor ..
@[simp] theorem State.tally_ctr (s : State) (f : SiteCounter → Nat) : (s.tally f).ctr = s.ctr := State.overflows_ctr ..
@[simp] theorem State.tally_snt (s : State) (f : SiteCounter → Nat) : (s.tally f).snt = s.snt := State.overflows_snt ..
@[simp] theorem State.tally_clk (s : State) (f : SiteCounter → Nat) : (s.tally f).clk = s.clk := State.overflows_clk ..
@[simp] theorem State.tally_pwr (s : State) (f : SiteCounter → Nat) : (s.tally f).pwr = s.pwr := State.overflows_pwr ..
@[simp] theorem State.tally_mem (s : State) (f : SiteCounter → Nat) : (s.tally f).mem = s.mem := State.overflows_mem ..

/-! ### countSite -/

@[simp] theorem State.countSite_pending (s : State) (block inst event n : Nat) : (s.countSite block inst event n).pending = s.pending := State.tally_pending ..
@[simp] theorem State.countSite_whf (s : State) (block inst event n : Nat) : (s.countSite block inst event n).whf = s.whf := State.tally_whf ..
@[simp] theorem State.countSite_readers (s : State) (block inst event n : Nat) : (s.countSite block inst event n).readers = s.readers := State.tally_readers ..
@[simp] theorem State.countSite_cus (s : State) (block inst event n : Nat) : (s.countSite block inst event n).cus = s.cus := State.tally_cus ..
@[simp] theorem State.countSite_vlt (s : State) (block inst event n : Nat) : (s.countSite block inst event n).vlt = s.vlt := State.tally_vlt ..
@[simp] theorem State.countSite_flt (s : State) (block inst event n : Nat) : (s.countSite block inst event n).flt = s.flt := State.tally_flt ..
@[simp] theorem State.countSite_cht (s : State) (block inst event n : Nat) : (s.countSite block inst event n).cht = s.cht := State.tally_cht ..
@[simp] theorem State.countSite_eng (s : State) (block inst event n : Nat) : (s.countSite block inst event n).eng = s.eng := State.tally_eng ..
@[simp] theorem State.countSite_ent (s : State) (block inst event n : Nat) : (s.countSite block inst event n).ent = s.ent := State.tally_ent ..
@[simp] theorem State.countSite_hlt (s : State) (block inst event n : Nat) : (s.countSite block inst event n).hlt = s.hlt := State.tally_hlt ..
@[simp] theorem State.countSite_tow (s : State) (block inst event n : Nat) : (s.countSite block inst event n).tow = s.tow := State.tally_tow ..
@[simp] theorem State.countSite_ixp (s : State) (block inst event n : Nat) : (s.countSite block inst event n).ixp = s.ixp := State.tally_ixp ..
@[simp] theorem State.countSite_cor (s : State) (block inst event n : Nat) : (s.countSite block inst event n).cor = s.cor := State.tally_cor ..
@[simp] theorem State.countSite_ctr (s : State) (block inst event n : Nat) : (s.countSite block inst event n).ctr = s.ctr := State.tally_ctr ..
@[simp] theorem State.countSite_snt (s : State) (block inst event n : Nat) : (s.countSite block inst event n).snt = s.snt := State.tally_snt ..
@[simp] theorem State.countSite_clk (s : State) (block inst event n : Nat) : (s.countSite block inst event n).clk = s.clk := State.tally_clk ..
@[simp] theorem State.countSite_pwr (s : State) (block inst event n : Nat) : (s.countSite block inst event n).pwr = s.pwr := State.tally_pwr ..
@[simp] theorem State.countSite_mem (s : State) (block inst event n : Nat) : (s.countSite block inst event n).mem = s.mem := State.tally_mem ..

/-! ### countSource -/

@[simp] theorem State.countSource_pending (s : State) (n : Nat) : (s.countSource n).pending = s.pending := State.tally_pending ..
@[simp] theorem State.countSource_whf (s : State) (n : Nat) : (s.countSource n).whf = s.whf := State.tally_whf ..
@[simp] theorem State.countSource_readers (s : State) (n : Nat) : (s.countSource n).readers = s.readers := State.tally_readers ..
@[simp] theorem State.countSource_cus (s : State) (n : Nat) : (s.countSource n).cus = s.cus := State.tally_cus ..
@[simp] theorem State.countSource_vlt (s : State) (n : Nat) : (s.countSource n).vlt = s.vlt := State.tally_vlt ..
@[simp] theorem State.countSource_flt (s : State) (n : Nat) : (s.countSource n).flt = s.flt := State.tally_flt ..
@[simp] theorem State.countSource_cht (s : State) (n : Nat) : (s.countSource n).cht = s.cht := State.tally_cht ..
@[simp] theorem State.countSource_eng (s : State) (n : Nat) : (s.countSource n).eng = s.eng := State.tally_eng ..
@[simp] theorem State.countSource_ent (s : State) (n : Nat) : (s.countSource n).ent = s.ent := State.tally_ent ..
@[simp] theorem State.countSource_hlt (s : State) (n : Nat) : (s.countSource n).hlt = s.hlt := State.tally_hlt ..
@[simp] theorem State.countSource_tow (s : State) (n : Nat) : (s.countSource n).tow = s.tow := State.tally_tow ..
@[simp] theorem State.countSource_ixp (s : State) (n : Nat) : (s.countSource n).ixp = s.ixp := State.tally_ixp ..
@[simp] theorem State.countSource_cor (s : State) (n : Nat) : (s.countSource n).cor = s.cor := State.tally_cor ..
@[simp] theorem State.countSource_ctr (s : State) (n : Nat) : (s.countSource n).ctr = s.ctr := State.tally_ctr ..
@[simp] theorem State.countSource_snt (s : State) (n : Nat) : (s.countSource n).snt = s.snt := State.tally_snt ..
@[simp] theorem State.countSource_clk (s : State) (n : Nat) : (s.countSource n).clk = s.clk := State.tally_clk ..
@[simp] theorem State.countSource_pwr (s : State) (n : Nat) : (s.countSource n).pwr = s.pwr := State.tally_pwr ..
@[simp] theorem State.countSource_mem (s : State) (n : Nat) : (s.countSource n).mem = s.mem := State.tally_mem ..

/-! ### countOutput -/

@[simp] theorem State.countOutput_pending (s : State) (o : Output) : (s.countOutput o).pending = s.pending := by unfold State.countOutput; split <;> simp
@[simp] theorem State.countOutput_whf (s : State) (o : Output) : (s.countOutput o).whf = s.whf := by unfold State.countOutput; split <;> simp
@[simp] theorem State.countOutput_readers (s : State) (o : Output) : (s.countOutput o).readers = s.readers := by unfold State.countOutput; split <;> simp
@[simp] theorem State.countOutput_cus (s : State) (o : Output) : (s.countOutput o).cus = s.cus := by unfold State.countOutput; split <;> simp
@[simp] theorem State.countOutput_vlt (s : State) (o : Output) : (s.countOutput o).vlt = s.vlt := by unfold State.countOutput; split <;> simp
@[simp] theorem State.countOutput_flt (s : State) (o : Output) : (s.countOutput o).flt = s.flt := by unfold State.countOutput; split <;> simp
@[simp] theorem State.countOutput_cht (s : State) (o : Output) : (s.countOutput o).cht = s.cht := by unfold State.countOutput; split <;> simp
@[simp] theorem State.countOutput_eng (s : State) (o : Output) : (s.countOutput o).eng = s.eng := by unfold State.countOutput; split <;> simp
@[simp] theorem State.countOutput_ent (s : State) (o : Output) : (s.countOutput o).ent = s.ent := by unfold State.countOutput; split <;> simp
@[simp] theorem State.countOutput_hlt (s : State) (o : Output) : (s.countOutput o).hlt = s.hlt := by unfold State.countOutput; split <;> simp
@[simp] theorem State.countOutput_tow (s : State) (o : Output) : (s.countOutput o).tow = s.tow := by unfold State.countOutput; split <;> simp
@[simp] theorem State.countOutput_ixp (s : State) (o : Output) : (s.countOutput o).ixp = s.ixp := by unfold State.countOutput; split <;> simp
@[simp] theorem State.countOutput_cor (s : State) (o : Output) : (s.countOutput o).cor = s.cor := by unfold State.countOutput; split <;> simp
@[simp] theorem State.countOutput_ctr (s : State) (o : Output) : (s.countOutput o).ctr = s.ctr := by unfold State.countOutput; split <;> simp
@[simp] theorem State.countOutput_snt (s : State) (o : Output) : (s.countOutput o).snt = s.snt := by unfold State.countOutput; split <;> simp
@[simp] theorem State.countOutput_clk (s : State) (o : Output) : (s.countOutput o).clk = s.clk := by unfold State.countOutput; split <;> simp
@[simp] theorem State.countOutput_pwr (s : State) (o : Output) : (s.countOutput o).pwr = s.pwr := by unfold State.countOutput; split <;> simp
@[simp] theorem State.countOutput_mem (s : State) (o : Output) : (s.countOutput o).mem = s.mem := by unfold State.countOutput; split <;> simp

/-! ### emit -/

@[simp] theorem State.emit_pending (s : State) (o : Output) : (s.emit o).pending = s.pending := by unfold State.emit; split <;> simp
@[simp] theorem State.emit_whf (s : State) (o : Output) : (s.emit o).whf = s.whf := by unfold State.emit; split <;> simp
@[simp] theorem State.emit_readers (s : State) (o : Output) : (s.emit o).readers = s.readers := by unfold State.emit; split <;> simp
@[simp] theorem State.emit_cus (s : State) (o : Output) : (s.emit o).cus = s.cus := by unfold State.emit; split <;> simp
@[simp] theorem State.emit_vlt (s : State) (o : Output) : (s.emit o).vlt = s.vlt := by unfold State.emit; split <;> simp
@[simp] theorem State.emit_flt (s : State) (o : Output) : (s.emit o).flt = s.flt := by unfold State.emit; split <;> simp
@[simp] theorem State.emit_cht (s : State) (o : Output) : (s.emit o).cht = s.cht := by unfold State.emit; split <;> simp
@[simp] theorem State.emit_eng (s : State) (o : Output) : (s.emit o).eng = s.eng := by unfold State.emit; split <;> simp
@[simp] theorem State.emit_ent (s : State) (o : Output) : (s.emit o).ent = s.ent := by unfold State.emit; split <;> simp
@[simp] theorem State.emit_hlt (s : State) (o : Output) : (s.emit o).hlt = s.hlt := by unfold State.emit; split <;> simp
@[simp] theorem State.emit_tow (s : State) (o : Output) : (s.emit o).tow = s.tow := by unfold State.emit; split <;> simp
@[simp] theorem State.emit_ixp (s : State) (o : Output) : (s.emit o).ixp = s.ixp := by unfold State.emit; split <;> simp
@[simp] theorem State.emit_cor (s : State) (o : Output) : (s.emit o).cor = s.cor := by unfold State.emit; split <;> simp
@[simp] theorem State.emit_ctr (s : State) (o : Output) : (s.emit o).ctr = s.ctr := by unfold State.emit; split <;> simp
@[simp] theorem State.emit_snt (s : State) (o : Output) : (s.emit o).snt = s.snt := by unfold State.emit; split <;> simp
@[simp] theorem State.emit_clk (s : State) (o : Output) : (s.emit o).clk = s.clk := by unfold State.emit; split <;> simp
@[simp] theorem State.emit_pwr (s : State) (o : Output) : (s.emit o).pwr = s.pwr := by unfold State.emit; split <;> simp
@[simp] theorem State.emit_mem (s : State) (o : Output) : (s.emit o).mem = s.mem := by unfold State.emit; split <;> simp

/-! ### raise -/

@[simp] theorem State.raise_pending (s : State) (n inst slice code detail : Nat) : (s.raise n inst slice code detail).pending = s.pending := by unfold State.raise; dsimp only; (repeat' split) <;> simp
@[simp] theorem State.raise_whf (s : State) (n inst slice code detail : Nat) : (s.raise n inst slice code detail).whf = s.whf := by unfold State.raise; dsimp only; (repeat' split) <;> simp
@[simp] theorem State.raise_readers (s : State) (n inst slice code detail : Nat) : (s.raise n inst slice code detail).readers = s.readers := by unfold State.raise; dsimp only; (repeat' split) <;> simp
@[simp] theorem State.raise_cus (s : State) (n inst slice code detail : Nat) : (s.raise n inst slice code detail).cus = s.cus := by unfold State.raise; dsimp only; (repeat' split) <;> simp
@[simp] theorem State.raise_vlt (s : State) (n inst slice code detail : Nat) : (s.raise n inst slice code detail).vlt = s.vlt := by unfold State.raise; dsimp only; (repeat' split) <;> simp
@[simp] theorem State.raise_flt (s : State) (n inst slice code detail : Nat) : (s.raise n inst slice code detail).flt = s.flt := by unfold State.raise; dsimp only; (repeat' split) <;> simp
@[simp] theorem State.raise_cht (s : State) (n inst slice code detail : Nat) : (s.raise n inst slice code detail).cht = s.cht := by unfold State.raise; dsimp only; (repeat' split) <;> simp
@[simp] theorem State.raise_eng (s : State) (n inst slice code detail : Nat) : (s.raise n inst slice code detail).eng = s.eng := by unfold State.raise; dsimp only; (repeat' split) <;> simp
@[simp] theorem State.raise_ent (s : State) (n inst slice code detail : Nat) : (s.raise n inst slice code detail).ent = s.ent := by unfold State.raise; dsimp only; (repeat' split) <;> simp
@[simp] theorem State.raise_hlt (s : State) (n inst slice code detail : Nat) : (s.raise n inst slice code detail).hlt = s.hlt := by unfold State.raise; dsimp only; (repeat' split) <;> simp
@[simp] theorem State.raise_tow (s : State) (n inst slice code detail : Nat) : (s.raise n inst slice code detail).tow = s.tow := by unfold State.raise; dsimp only; (repeat' split) <;> simp
@[simp] theorem State.raise_ixp (s : State) (n inst slice code detail : Nat) : (s.raise n inst slice code detail).ixp = s.ixp := by unfold State.raise; dsimp only; (repeat' split) <;> simp
@[simp] theorem State.raise_ctr (s : State) (n inst slice code detail : Nat) : (s.raise n inst slice code detail).ctr = s.ctr := by unfold State.raise; dsimp only; (repeat' split) <;> simp
@[simp] theorem State.raise_snt (s : State) (n inst slice code detail : Nat) : (s.raise n inst slice code detail).snt = s.snt := by unfold State.raise; dsimp only; (repeat' split) <;> simp
@[simp] theorem State.raise_clk (s : State) (n inst slice code detail : Nat) : (s.raise n inst slice code detail).clk = s.clk := by unfold State.raise; dsimp only; (repeat' split) <;> simp
@[simp] theorem State.raise_pwr (s : State) (n inst slice code detail : Nat) : (s.raise n inst slice code detail).pwr = s.pwr := by unfold State.raise; dsimp only; (repeat' split) <;> simp
@[simp] theorem State.raise_mem (s : State) (n inst slice code detail : Nat) : (s.raise n inst slice code detail).mem = s.mem := by unfold State.raise; dsimp only; (repeat' split) <;> simp

/-! ### judgeAll -/

@[simp] theorem State.judgeAll_pending (s : State) : (s.judgeAll).pending = s.pending := rfl
@[simp] theorem State.judgeAll_draws (s : State) : (s.judgeAll).draws = s.draws := rfl
@[simp] theorem State.judgeAll_out (s : State) : (s.judgeAll).out = s.out := rfl
@[simp] theorem State.judgeAll_whf (s : State) : (s.judgeAll).whf = s.whf := rfl
@[simp] theorem State.judgeAll_readers (s : State) : (s.judgeAll).readers = s.readers := rfl
@[simp] theorem State.judgeAll_cus (s : State) : (s.judgeAll).cus = s.cus := rfl
@[simp] theorem State.judgeAll_vlt (s : State) : (s.judgeAll).vlt = s.vlt := rfl
@[simp] theorem State.judgeAll_cht (s : State) : (s.judgeAll).cht = s.cht := rfl
@[simp] theorem State.judgeAll_eng (s : State) : (s.judgeAll).eng = s.eng := rfl
@[simp] theorem State.judgeAll_ent (s : State) : (s.judgeAll).ent = s.ent := rfl
@[simp] theorem State.judgeAll_hlt (s : State) : (s.judgeAll).hlt = s.hlt := rfl
@[simp] theorem State.judgeAll_tow (s : State) : (s.judgeAll).tow = s.tow := rfl
@[simp] theorem State.judgeAll_ixp (s : State) : (s.judgeAll).ixp = s.ixp := rfl
@[simp] theorem State.judgeAll_cor (s : State) : (s.judgeAll).cor = s.cor := rfl
@[simp] theorem State.judgeAll_ctr (s : State) : (s.judgeAll).ctr = s.ctr := rfl
@[simp] theorem State.judgeAll_snt (s : State) : (s.judgeAll).snt = s.snt := rfl
@[simp] theorem State.judgeAll_obs (s : State) : (s.judgeAll).obs = s.obs := rfl
@[simp] theorem State.judgeAll_clk (s : State) : (s.judgeAll).clk = s.clk := rfl
@[simp] theorem State.judgeAll_pwr (s : State) : (s.judgeAll).pwr = s.pwr := rfl
@[simp] theorem State.judgeAll_mem (s : State) : (s.judgeAll).mem = s.mem := rfl

/-! ### sampleSites -/

@[simp] theorem State.sampleSites_pending (s : State) (s0 : State) : (s.sampleSites s0).pending = s.pending := State.tally_pending ..
@[simp] theorem State.sampleSites_whf (s : State) (s0 : State) : (s.sampleSites s0).whf = s.whf := State.tally_whf ..
@[simp] theorem State.sampleSites_readers (s : State) (s0 : State) : (s.sampleSites s0).readers = s.readers := State.tally_readers ..
@[simp] theorem State.sampleSites_cus (s : State) (s0 : State) : (s.sampleSites s0).cus = s.cus := State.tally_cus ..
@[simp] theorem State.sampleSites_vlt (s : State) (s0 : State) : (s.sampleSites s0).vlt = s.vlt := State.tally_vlt ..
@[simp] theorem State.sampleSites_flt (s : State) (s0 : State) : (s.sampleSites s0).flt = s.flt := State.tally_flt ..
@[simp] theorem State.sampleSites_cht (s : State) (s0 : State) : (s.sampleSites s0).cht = s.cht := State.tally_cht ..
@[simp] theorem State.sampleSites_eng (s : State) (s0 : State) : (s.sampleSites s0).eng = s.eng := State.tally_eng ..
@[simp] theorem State.sampleSites_ent (s : State) (s0 : State) : (s.sampleSites s0).ent = s.ent := State.tally_ent ..
@[simp] theorem State.sampleSites_hlt (s : State) (s0 : State) : (s.sampleSites s0).hlt = s.hlt := State.tally_hlt ..
@[simp] theorem State.sampleSites_tow (s : State) (s0 : State) : (s.sampleSites s0).tow = s.tow := State.tally_tow ..
@[simp] theorem State.sampleSites_ixp (s : State) (s0 : State) : (s.sampleSites s0).ixp = s.ixp := State.tally_ixp ..
@[simp] theorem State.sampleSites_cor (s : State) (s0 : State) : (s.sampleSites s0).cor = s.cor := State.tally_cor ..
@[simp] theorem State.sampleSites_ctr (s : State) (s0 : State) : (s.sampleSites s0).ctr = s.ctr := State.tally_ctr ..
@[simp] theorem State.sampleSites_snt (s : State) (s0 : State) : (s.sampleSites s0).snt = s.snt := State.tally_snt ..
@[simp] theorem State.sampleSites_clk (s : State) (s0 : State) : (s.sampleSites s0).clk = s.clk := State.tally_clk ..
@[simp] theorem State.sampleSites_pwr (s : State) (s0 : State) : (s.sampleSites s0).pwr = s.pwr := State.tally_pwr ..
@[simp] theorem State.sampleSites_mem (s : State) (s0 : State) : (s.sampleSites s0).mem = s.mem := State.tally_mem ..

/-! ### upTo -/

@[simp] theorem State.upTo_pending (s : State) (t : Nat) : (s.upTo t).pending = s.pending := State.sampleSites_pending ..
@[simp] theorem State.upTo_whf (s : State) (t : Nat) : (s.upTo t).whf = s.whf := State.sampleSites_whf ..
@[simp] theorem State.upTo_readers (s : State) (t : Nat) : (s.upTo t).readers = s.readers := State.sampleSites_readers ..
@[simp] theorem State.upTo_cus (s : State) (t : Nat) : (s.upTo t).cus = s.cus := State.sampleSites_cus ..
@[simp] theorem State.upTo_vlt (s : State) (t : Nat) : (s.upTo t).vlt = s.vlt := State.sampleSites_vlt ..
@[simp] theorem State.upTo_cht (s : State) (t : Nat) : (s.upTo t).cht = s.cht := State.sampleSites_cht ..
@[simp] theorem State.upTo_eng (s : State) (t : Nat) : (s.upTo t).eng = s.eng := State.sampleSites_eng ..
@[simp] theorem State.upTo_ent (s : State) (t : Nat) : (s.upTo t).ent = s.ent := State.sampleSites_ent ..
@[simp] theorem State.upTo_hlt (s : State) (t : Nat) : (s.upTo t).hlt = s.hlt := State.sampleSites_hlt ..
@[simp] theorem State.upTo_tow (s : State) (t : Nat) : (s.upTo t).tow = s.tow := State.sampleSites_tow ..
@[simp] theorem State.upTo_ixp (s : State) (t : Nat) : (s.upTo t).ixp = s.ixp := State.sampleSites_ixp ..
@[simp] theorem State.upTo_cor (s : State) (t : Nat) : (s.upTo t).cor = s.cor := State.sampleSites_cor ..
@[simp] theorem State.upTo_ctr (s : State) (t : Nat) : (s.upTo t).ctr = s.ctr := State.sampleSites_ctr ..
@[simp] theorem State.upTo_snt (s : State) (t : Nat) : (s.upTo t).snt = s.snt := State.sampleSites_snt ..
@[simp] theorem State.upTo_pwr (s : State) (t : Nat) : (s.upTo t).pwr = s.pwr := State.sampleSites_pwr ..
@[simp] theorem State.upTo_mem (s : State) (t : Nat) : (s.upTo t).mem = s.mem := State.sampleSites_mem ..

/-! ### tick -/

@[simp] theorem State.tick_pending (s : State) (ns : Nat) : (s.tick ns).pending = s.pending := State.upTo_pending ..
@[simp] theorem State.tick_whf (s : State) (ns : Nat) : (s.tick ns).whf = s.whf := State.upTo_whf ..
@[simp] theorem State.tick_readers (s : State) (ns : Nat) : (s.tick ns).readers = s.readers := State.upTo_readers ..
@[simp] theorem State.tick_cus (s : State) (ns : Nat) : (s.tick ns).cus = s.cus := State.upTo_cus ..
@[simp] theorem State.tick_vlt (s : State) (ns : Nat) : (s.tick ns).vlt = s.vlt := State.upTo_vlt ..
@[simp] theorem State.tick_cht (s : State) (ns : Nat) : (s.tick ns).cht = s.cht := State.upTo_cht ..
@[simp] theorem State.tick_eng (s : State) (ns : Nat) : (s.tick ns).eng = s.eng := State.upTo_eng ..
@[simp] theorem State.tick_ent (s : State) (ns : Nat) : (s.tick ns).ent = s.ent := State.upTo_ent ..
@[simp] theorem State.tick_hlt (s : State) (ns : Nat) : (s.tick ns).hlt = s.hlt := State.upTo_hlt ..
@[simp] theorem State.tick_tow (s : State) (ns : Nat) : (s.tick ns).tow = s.tow := State.upTo_tow ..
@[simp] theorem State.tick_ixp (s : State) (ns : Nat) : (s.tick ns).ixp = s.ixp := State.upTo_ixp ..
@[simp] theorem State.tick_cor (s : State) (ns : Nat) : (s.tick ns).cor = s.cor := State.upTo_cor ..
@[simp] theorem State.tick_ctr (s : State) (ns : Nat) : (s.tick ns).ctr = s.ctr := State.upTo_ctr ..
@[simp] theorem State.tick_snt (s : State) (ns : Nat) : (s.tick ns).snt = s.snt := State.upTo_snt ..
@[simp] theorem State.tick_pwr (s : State) (ns : Nat) : (s.tick ns).pwr = s.pwr := State.upTo_pwr ..
@[simp] theorem State.tick_mem (s : State) (ns : Nat) : (s.tick ns).mem = s.mem := State.upTo_mem ..

/-! ### What the updates set -/

/-- A slot set reads back. -/
@[simp] theorem State.slot_setSlot (s : State) (i : Nat) (x : Slot) : (s.setSlot i x).slot i = x := by
  simp [State.slot, State.setSlot, Map.at]

/-- Setting a slot leaves every other slot. -/
theorem State.slot_setSlot_ne (s : State) (i j : Nat) (x : Slot) (h : j ≠ i) : (s.setSlot i x).slot j = s.slot j := by
  simp [State.slot, State.setSlot, Map.at, Map.find_put_ne _ _ _ _ h]

/-- A slice set reads back. -/
@[simp] theorem State.slice_setSlice (s : State) (id : Nat) (x : Slice) : (s.setSlice id x).slice id = x := by
  simp [State.slice, State.setSlice, Map.at]

/-- Setting a slice leaves every other slice. -/
theorem State.slice_setSlice_ne (s : State) (i j : Nat) (x : Slice) (h : j ≠ i) : (s.setSlice i x).slice j = s.slice j := by
  simp [State.slice, State.setSlice, Map.at, Map.find_put_ne _ _ _ _ h]

/-- A power domain changed reads back changed. -/
@[simp] theorem State.domain_modDomain (s : State) (d : Nat) (f : PowerDomain → PowerDomain) :
    (s.modDomain d f).domain d = f (s.domain d) := by
  simp [State.domain, State.modDomain, Map.at]

/-- A flight changed reads back changed. -/
@[simp] theorem State.flight_modFlight (s : State) (n : Nat) (f : Flight → Flight) : (s.modFlight n f).flight n = f (s.flight n) := by
  simp [State.flight, State.modFlight, Map.at]

/-- A link changed reads back changed. -/
@[simp] theorem State.link_modLink (s : State) (c : Nat) (f : Link → Link) : (s.modLink c f).link c = f (s.link c) := by
  simp [State.link, State.modLink, Map.at]

end Sys2Proof.Machine
end

