-- ==== Sys2Proof/Tests/Slice0.lean ====
section
/-! SUPPORT. Tests: ill-formed commands are refused, single steps on small states, and states that meet the hypotheses of each
statement of Certificates/Slice0/Obligations.lean. -/

set_option Elab.async false
set_option linter.unusedSimpArgs false

namespace Sys2Proof.Tests

open Sys2Proof Sys2Proof.Machine

/-! ## Small states -/

/-- Zero bytes with some set. -/
def bytesWith (n : Nat) (edits : List (Nat × Byte)) : Bytes := edits.foldl (fun bs e => bs.set e.1 e.2) (zeros n)

/-- An FGL-3 session of slice 0. -/
def oneSession : Session :=
  { fgl := 3, slice := 0, generation := 0, anchor := 0, principal := [], limit := 9146, cage := 0, source := zeros 18,
    lastHeard := 0, recv := { secret := [], since := 0 }, send := { secret := [], since := 0 } }

/-- A module in CUSTODY with custody established, slices 0 and 5 and session 1. -/
def bench : State :=
  let s := State.reset
  { s with
    ctr := { s.ctr with state := .custody, bootDone := true, svn := 5 },
    pwr := { s.pwr with started := true },
    whf := { s.whf with sessions := [(1, oneSession)] },
    cus := { s.cus with established := true, slices := [(0, { state := .active }), (5, { state := .active })] } }

/-- Custody not established. -/
def fresh : State := { bench with cus := { bench.cus with established := false } }

/-- A module on the foundry floor. -/
def lab : State := { bench with ctr := { bench.ctr with state := .foundryTest } }

/-- A custodian enrolled and slice 5 frozen. -/
def held : State :=
  { bench with cus := { bench.cus with
    custodians := [(0, { label := [], kinds := 1, ecdsaKey := [], mldsaKey := [], roles := 1, state := .enrolled })],
    slices := [(0, { state := .active }), (5, { state := .frozen })] } }

/-- Slice 5 being restored. -/
def moving : State :=
  { bench with cus := { bench.cus with slices := [(0, { state := .active }), (5, { state := .restoring })] } }

/-- A request of session 1. -/
def barge (slice : Nat) (payload : Bytes) : Barge :=
  { session := 1, pn := 1, slice := slice, generation := 0, cls := 2, opcode := 0, requestId := 7, idem := 0, payload := payload }

/-- Does a request meet its verb's own work. -/
def meets (v : Verb) (s : State) (b : Barge) : Bool :=
  decide (idemOutcome (v.served b) s = .run) && decide (intakeFail (v.served b) s = none) && !s.holdsAdmission v.opcode &&
    decide (gate v (v.served b) (s.busyWith b) = none)

theorem meets_iff (v : Verb) (s : State) (b : Barge) :
    meets v s b = true ↔ v.takesIn b s ∧ gate v (v.served b) (s.busyWith b) = none := by
  simp [meets, Verb.takesIn, and_assoc]

/-! ## The verbs: a request that each serves -/

theorem witness_SessionVerbsServe :
    meets sessionInfoVerb bench (barge 0 []) ∧ meets moduleInfoVerb bench (barge 0 []) ∧
    meets moduleInfoDx6100Verb bench (barge 0 []) ∧ meets idleAnnounceVerb bench (barge 0 (bytesWith 8 [(5, 1)])) := by decide +kernel

theorem witness_CustodyVerbsServe :
    meets custodianEnrolVerb fresh (barge 0 (bytesWith 229 [(1, 1), (2, 1)])) ∧
    meets custodianReadVerb held (barge 0 (bytesWith 4 [])) ∧
    meets ballotProposeVerb bench (barge 0 (bytesWith 12 [(0, 2), (1, 2), (5, 4)])) ∧
    meets ballotApproveVerb bench (barge 0 (bytesWith 12 [])) ∧ meets ballotExecuteVerb bench (barge 0 (bytesWith 12 [])) ∧
    meets ballotWithdrawVerb bench (barge 0 (bytesWith 8 [])) ∧ meets ballotStatusVerb bench (barge 0 (bytesWith 8 [])) ∧
    meets sliceFreezeVerb bench (barge 0 (bytesWith 4 [(1, 5)])) ∧
    meets sliceSaveVerb held (barge 0 (bytesWith 16 [(1, 5), (7, 1)])) ∧
    meets sliceRestoreVerb moving (barge 0 (bytesWith 9 [(1, 5), (7, 1)])) ∧
    meets sliceStatusVerb bench (barge 0 (bytesWith 4 [])) ∧ meets sliceMapReadVerb held (barge 0 (bytesWith 12 [(1, 5)])) := by decide +kernel

theorem witness_KeyStoreVerbsServe :
    meets keyGenerateVerb bench (barge 0 (bytesWith 36 [(0, 1)])) ∧
    meets keyImportWrappedVerb bench (barge 5 (bytesWith 72 [(8, 1), (45, 24)])) ∧
    meets keyDeleteVerb bench (barge 0 (bytesWith 8 [])) ∧ meets keyAttrReadVerb bench (barge 0 (bytesWith 8 [])) ∧
    meets keyAttrRestrictVerb bench (barge 0 (bytesWith 24 [])) ∧ meets keyExportWrappedVerb bench (barge 0 (bytesWith 16 [])) ∧
    meets keyBlobReadVerb bench (barge 5 (bytesWith 16 [(13, 1)])) ∧
    meets keyBlobLoadVerb bench (barge 5 (bytesWith 17 [(13, 1)])) ∧ meets keyShredVerb bench (barge 0 (bytesWith 8 [])) ∧
    meets certReadVerb bench (barge 5 (bytesWith 16 [(13, 1)])) ∧ meets shareImportKeyVerb fresh (barge 0 []) ∧
    meets domainShareImportVerb fresh (barge 0 (bytesWith 1265 [])) ∧
    meets keyAttrReadDx6100Verb bench (barge 0 (bytesWith 12 [])) ∧ meets keyDeleteDx6100Verb bench (barge 0 (bytesWith 12 [])) := by decide +kernel

theorem witness_StorageVerbsServe :
    meets dkGenerateVerb bench (barge 5 (bytesWith 32 [(26, 1), (27, 16)])) ∧
    meets dkWrapVerb bench (barge 5 (bytesWith 64 [(26, 1), (27, 16)])) ∧
    meets dkUnwrapVerb bench (barge 5 (bytesWith 96 [(32, 1), (33, 16)])) ∧
    meets dkRewrapVerb bench (barge 5 (bytesWith 112 [(44, 1), (48, 1), (49, 16)])) ∧
    meets dkUnwrapBulkVerb bench (barge 5 (bytesWith 96 [(16, 1), (32, 1), (33, 16)])) ∧
    meets dkRewrapBulkVerb bench (barge 5 (bytesWith 112 [(32, 1), (33, 1), (48, 1), (49, 16)])) ∧
    meets bucketCreateVerb bench (barge 0 (bytesWith 44 [])) ∧
    meets bucketReparentVerb bench (barge 5 (bytesWith 132 [(36, 68), (37, 88), (38, 75), (39, 69), (40, 2), (41, 3)])) ∧
    meets kekLoadVerb bench (barge 5 (bytesWith 96 [(0, 68), (1, 88), (2, 75), (3, 69), (4, 1), (5, 3)])) ∧
    meets kekEvictVerb bench (barge 0 (bytesWith 8 [])) ∧ meets kekShredVerb bench (barge 0 (bytesWith 20 [])) := by decide +kernel

theorem witness_PaymentVerbsServe :
    meets pinTranslateVerb bench (barge 5 (bytesWith 60 [(19, 13)])) ∧
    meets pinTranslate4Verb bench (barge 5 (bytesWith 40 [(16, 1)])) ∧
    meets pinVerifyVerb bench (barge 5 (bytesWith 76 [(16, 2), (19, 13)])) ∧
    meets arqcVerifyVerb bench (barge 5 (bytesWith 40 [(8, 2), (10, 12), (15, 1)])) ∧
    meets arqcVerifyExtVerb bench (barge 5 (bytesWith 56 [(8, 1), (10, 12), (15, 1)])) ∧
    meets cvvGenerateVerb bench (barge 5 (bytesWith 24 [(8, 12), (9, 3)])) ∧
    meets cvvVerifyVerb bench (barge 5 (bytesWith 28 [(8, 12), (9, 3)])) ∧
    meets macGenerateVerb bench (barge 5 (bytesWith 36 [(8, 1), (9, 1), (10, 4), (13, 1)])) ∧
    meets macVerifyVerb bench (barge 5 (bytesWith 36 [(8, 1), (9, 1), (10, 4), (13, 1)])) ∧
    meets kbImportVerb bench (barge 5 (bytesWith 52 [(33, 16), (36, 68), (37, 48), (38, 48), (39, 49), (40, 54), (41, 80), (42, 48), (43, 65), (44, 69), (45, 48), (46, 48), (47, 69), (48, 48), (49, 48), (50, 48), (51, 48)])) ∧
    meets pinVerifyDx6100Verb bench (barge 5 (bytesWith 76 [(16, 1), (19, 13), (31, 12)])) ∧
    meets pinTranslateDx6100Verb bench (barge 5 (bytesWith 40 [(20, 48), (21, 48), (22, 48), (23, 48), (24, 48), (25, 48), (26, 48), (27, 48), (28, 48), (29, 48), (30, 48), (31, 48)])) ∧
    meets pinTranslateDukptDx6100Verb bench (barge 5 (bytesWith 60 [(18, 1), (19, 13), (41, 1)])) ∧
    meets cvvGenerateDx6100Verb bench (barge 5 (bytesWith 24 [(8, 12), (9, 3)])) ∧
    meets cvvVerifyDx6100Verb bench (barge 5 (bytesWith 28 [(8, 12), (9, 3)])) ∧
    meets macGenerateDx6100Verb bench (barge 5 (bytesWith 36 [(8, 1), (9, 1), (10, 4), (13, 1)])) ∧
    meets macVerifyDx6100Verb bench (barge 5 (bytesWith 36 [(8, 1), (9, 1), (10, 4), (13, 1)])) ∧
    meets arqcVerifyExtDx6100Verb bench (barge 5 (bytesWith 56 [(8, 1), (10, 12), (15, 1)])) ∧
    meets kbImportDx6100Verb bench (barge 5 (bytesWith 52 [(33, 16), (36, 66), (37, 48), (38, 48), (39, 49), (40, 54), (41, 80), (42, 48), (43, 84), (44, 69), (45, 48), (46, 48), (47, 69), (48, 48), (49, 48), (50, 48), (51, 48)])) := by decide +kernel

theorem witness_EngineVerbsServe :
    meets aeadSealVerb bench (barge 5 (bytesWith 208 [(8, 3), (9, 10)])) ∧
    meets aeadOpenVerb bench (barge 5 (bytesWith 72 [(8, 2), (16, 68), (17, 88), (18, 67), (19, 65), (20, 1), (21, 10), (55, 16)])) ∧
    meets ecdsaSignVerb bench (barge 5 (bytesWith 48 [(8, 1), (12, 32)])) ∧
    meets ecdsaVerifyVerb bench (barge 5 (bytesWith 180 [(8, 1), (12, 32)])) ∧
    meets ecdhDeriveVerb bench (barge 0 (bytesWith 84 [(8, 1)])) ∧ meets eddsaSignVerb bench (barge 0 (bytesWith 16 [(8, 4)])) ∧
    meets eddsaVerifyVerb bench (barge 0 (bytesWith 112 [(8, 4)])) ∧
    meets xdhDeriveVerb bench (barge 0 (bytesWith 48 [(8, 4)])) ∧ meets pubkeyReadVerb bench (barge 0 (bytesWith 16 [(8, 1)])) ∧
    meets rsaPrivateVerb bench (barge 5 (bytesWith 272 [(8, 16), (10, 8)])) ∧
    meets rsaPublicVerb bench (barge 5 (bytesWith 532 [(8, 16), (10, 8)])) ∧
    meets modOpVerb bench (barge 5 (bytesWith 76 [(8, 17), (11, 136)])) ∧
    meets kemEncapsVerb bench (barge 5 (bytesWith 1200 [(8, 32)])) ∧
    meets kemDecapsVerb bench (barge 5 (bytesWith 1104 [(8, 32)])) ∧
    meets mldsaSignVerb bench (barge 5 (bytesWith 16 [(8, 33)])) ∧
    meets mldsaVerifyVerb bench (barge 5 (bytesWith 80 [(8, 33), (9, 1), (30, 7), (31, 160), (46, 12), (47, 237)])) ∧
    meets hashVerb bench (barge 5 (bytesWith 16 [(12, 1)])) ∧ meets hmacGenerateVerb bench (barge 5 (bytesWith 16 [(12, 1)])) ∧
    meets hmacVerifyVerb bench (barge 5 (bytesWith 48 [(12, 1)])) ∧ meets opbufAllocVerb bench (barge 0 (bytesWith 8 [(1, 1)])) ∧
    meets opbufWriteVerb bench (barge 0 (bytesWith 16 [])) ∧ meets opbufReadVerb bench (barge 0 (bytesWith 16 [])) ∧
    meets opbufFreeVerb bench (barge 0 (bytesWith 8 [])) ∧
    meets rsaPrivateDx6100Verb bench (barge 5 (bytesWith 272 [(8, 16), (10, 8)])) ∧
    meets rsaPublicDx6100Verb bench (barge 5 (bytesWith 532 [(8, 16), (10, 8)])) ∧
    meets ecdsaSignDx6100Verb bench (barge 5 (bytesWith 48 [(8, 1), (12, 32)])) ∧
    meets ecdsaVerifyDx6100Verb bench (barge 5 (bytesWith 180 [(8, 1), (12, 32)])) := by decide +kernel

theorem witness_PairVerbsServe :
    meets pairStatusVerb bench (barge 0 []) ∧ meets basinStatusVerb bench (barge 0 []) ∧
    meets domainStatusVerb bench (barge 0 []) ∧ meets domainJoinVerb fresh (barge 0 (bytesWith 16 [])) ∧
    meets keyDistributeVerb bench (barge 5 (bytesWith 8 [])) ∧ meets pairStatusDxVerb bench (barge 0 []) := by decide +kernel

theorem witness_CharterVerbsServe :
    meets lcStatusVerb bench (barge 0 []) ∧ meets lcTransitionVerb lab (barge 0 (bytesWith 4 [(0, 150), (1, 225)])) ∧
    meets fwStageVerb bench (barge 0 (bytesWith 8 [(6, 1)])) ∧ meets fwStatusVerb bench (barge 0 []) ∧
    meets attestIdentityVerb bench (barge 0 []) ∧ meets attestQuoteVerb bench (barge 0 (bytesWith 36 [])) ∧
    meets foundryCertReadVerb bench (barge 0 (bytesWith 8 [])) ∧ meets dbgChallengeVerb bench (barge 0 []) ∧
    meets dbgEnableVerb lab (barge 0 []) ∧ meets dbgEndVerb bench (barge 0 []) ∧
    meets dbgReadVerb bench (barge 0 (bytesWith 12 [])) ∧ meets dbgWriteVerb bench (barge 0 (bytesWith 12 [])) ∧
    meets dbgCoreVerb bench (barge 0 (bytesWith 4 [(1, 1)])) ∧ meets lcStatusDx6100Verb bench (barge 0 []) ∧
    meets tamperStatusVerb bench (barge 0 []) ∧ meets tamperConfigVerb lab (barge 0 (bytesWith 8 [(0, 1), (4, 1), (5, 3)])) ∧
    meets evidenceExportVerb bench (barge 0 (bytesWith 12 [(8, 1)])) ∧ meets evidenceMarkVerb bench (barge 0 (bytesWith 8 [])) := by decide +kernel

theorem witness_ChartVerbsServe :
    meets chartReadVerb bench (barge 0 (bytesWith 12 [(1, 1)])) ∧ meets chartStageVerb bench (barge 0 (bytesWith 8 [])) ∧
    meets chartDiscardVerb bench (barge 0 []) ∧ meets chartStatusVerb bench (barge 0 []) ∧
    meets settingsReadVerb bench (barge 0 (bytesWith 12 [])) ∧ meets chartStatusDx6100Verb bench (barge 0 []) := by decide +kernel

theorem witness_ObservabilityVerbsServe :
    meets readRegVerb bench (barge 0 (bytesWith 4 [(1, 1)])) ∧ meets writeRegVerb bench (barge 0 (bytesWith 8 [(1, 1)])) ∧
    meets readRegDx6100Verb bench (barge 0 (bytesWith 4 [(1, 1)])) ∧ meets recReadVerb bench (barge 0 (bytesWith 12 [(8, 1)])) ∧
    meets recClearVerb bench (barge 0 (bytesWith 4 [])) ∧ meets healthReadVerb bench (barge 0 []) ∧
    meets counterReadVerb bench (barge 0 (bytesWith 4 [(0, 1)])) ∧ meets timeStatusVerb bench (barge 0 []) ∧
    meets timeSetVerb bench (barge 0 (bytesWith 8 [])) := by decide +kernel

/-! ## KB_EXPORT: its handle is checked by an uninterpreted function, so a free slot is needed -/

theorem live_free (s : State) (h : Nat) (hs : (s.slot (h / 65536 % 65536)).state = .free) : s.live h = none := by
  simp [State.live, hs]

/-- KB_EXPORT of a handle whose slot is free needs no ballot. -/
theorem gate_kbExport (v : Verb) (b : Barge) (s : State) (hr : v.role = kbExportRole) (he : s.cus.established = true)
    (hf : (s.slot (fld b.payload 8 8 / 65536 % 65536)).state = .free) (ht : s.runningRecord b.opcode = none)
    (hp : firstFail [restartFail v s, parseFail v b s, darkFail b.opcode s, primaryFail v s, modeFail v b s, v.state b s,
      must (v.sender b s) stNotAuthorised, frozenFail v b s, lockedFail b s, soloFail v b s] = none) :
    gate v b s = none := by
  have q : quorumFail v b s = none := by simp [quorumFail, hr, kbExportRole, State.owned, live_free s _ hf]
  have c : custodyFail v b s = none := by simp [custodyFail, he]
  unfold gate policyFail
  rw [q, c, ht]
  revert hp
  cases restartFail v s <;> cases parseFail v b s <;> simp only [firstFail, Option.bind_none, reduceCtorEq, false_imp_iff]
  cases darkFail b.opcode s <;> cases primaryFail v s <;> cases modeFail v b s <;> cases v.state b s <;>
    cases must (v.sender b s) stNotAuthorised <;> cases frozenFail v b s <;> cases lockedFail b s <;> cases soloFail v b s <;>
    simp [firstFail]

theorem witness_kbExport : kbExportVerb.takesIn (barge 5 (bytesWith 24 [(16, 68), (17, 69)])) bench ∧
    gate kbExportVerb (kbExportVerb.served (barge 5 (bytesWith 24 [(16, 68), (17, 69)])))
      (bench.busyWith (barge 5 (bytesWith 24 [(16, 68), (17, 69)]))) = none :=
  ⟨⟨by decide +kernel, by decide +kernel, by decide +kernel⟩,
    gate_kbExport _ _ _ rfl (by decide +kernel) (by decide +kernel) (by decide +kernel) (by decide +kernel)⟩

theorem witness_kbExportDx6100 : kbExportDx6100Verb.takesIn (barge 5 (bytesWith 24 [(16, 66), (17, 69)])) bench ∧
    gate kbExportDx6100Verb (kbExportDx6100Verb.served (barge 5 (bytesWith 24 [(16, 66), (17, 69)])))
      (bench.busyWith (barge 5 (bytesWith 24 [(16, 66), (17, 69)]))) = none :=
  ⟨⟨by decide +kernel, by decide +kernel, by decide +kernel⟩,
    gate_kbExport _ _ _ rfl (by decide +kernel) (by decide +kernel) (by decide +kernel) (by decide +kernel)⟩

/-! ## The block -/

theorem test_step_front : step { bench with pending := [.dischargeEnd, .boot] } = exec .dischargeEnd { bench with pending := [.boot] } := rfl

theorem witness_StepIdlesOnEmptyQueue : State.reset.pending = [] := rfl

theorem witness_CommandsLeaveMemory : stores .dischargeEnd = false ∧ clears .dischargeEnd = false ∧
    exec .dischargeEnd bench = .next { bench with pwr := { bench.pwr with discharge := none } } := ⟨rfl, rfl, rfl⟩

/-- A module that has not started has no watchdog. -/
theorem witness_ResetsOnlyClearMemory : clears .keeperWatchdogExpire = true ∧
    exec .keeperWatchdogExpire State.reset = .next State.reset := ⟨rfl, rfl⟩

theorem witness_StepKeepsMemoryForm : State.reset.Inv ∧
    step { State.reset with pending := [.dischargeEnd] } = .next State.reset := ⟨rfl, rfl⟩

theorem witness_StoreBytesFrame : placeOf 0 = .hold ∧ placeOf 0x1000000000 = .mram ∧ placeOf 0x1200000000 = .sram 0 ∧
    placeOf 0x1201FFFFFF = .sram 7 := by decide +kernel

theorem test_store_zero_unlists : (bench.storeBytes 5 [7]).mem = [(5, 7)] ∧ ((bench.storeBytes 5 [7]).storeBytes 5 [0]).mem = [] := by
  decide +kernel

/-! ## Registers, protection, leases and restarts -/

/-- A write by the kernel of core 0, of the secure world. -/
def kernelWrite (v : W32) : RegWrite := { reader := .core 0, kernel := true, value := v }

/-- A write by a task of core 0. -/
def taskWrite (v : W32) : RegWrite := { reader := .core 0, kernel := false, value := v }

/-- A control core's selections. -/
def selecting (block i : Nat) : State := { bench with readers := [(0, { chsel := [(block, i)] }), (1, { chsel := [(block, i)] })] }

/-- A domain as given. -/
def domain3 (d : PowerDomain) : State := { selecting 16 3 with pwr := { bench.pwr with domains := [(3, d)] } }

/-- The secure world restarting. -/
def restarting : State := { bench with cor := { bench.cor with restarting := true }, vlt := { bench.vlt with rootTries := 0 } }

theorem witness_RegisterCommandsAct :
    (registerAddress 0x10010 = true ∧ bench.mayRead (.core 0) true 0x10010 = true ∧ bench.mayRead (.session 1) true 0x10010 = true) ∧
    (let counted : State := { bench with readers := [(0, { pcsel := [(3, blockCounters 3)] })] }
     blockCounters 3 ≠ 0 ∧ bench.mayWrite (.core 0) true (3 * 65536 + 0x88) = true ∧ bench.beyond (.core 0) 3 = false ∧
      (bench.wakeRegister (.core 0) (3 * 65536 + 0x88)).counterSel (.core 0) 3 < blockCounters 3 ∧
      counted.mayWrite (.core 0) true (3 * 65536 + 0x88) = true ∧ counted.beyond (.core 0) 3 = false ∧
      blockCounters 3 ≤ (counted.wakeRegister (.core 0) (3 * 65536 + 0x88)).counterSel (.core 0) 3 ∧
      (selecting 3 256).mayWrite (.core 0) true (3 * 65536 + 0x88) = true ∧ (selecting 3 256).beyond (.core 0) 3 = true) ∧
    ([0, 1, 2, 3].all fun c => (selecting 1 c).mayWrite (.core 0) true 0x10010 && (selecting 1 c).channel (.core 0) 1 == c) = true ∧
    (kernelWrite 0).value.toNat.testBit 10 = false ∧ (kernelWrite 0x400).value.toNat.testBit 10 = true := by decide +kernel

theorem witness_ProtectionCommandsAct :
    (let drops (s : State) (w : RegWrite) : Bool :=
       let u := s.wakeRegister w.reader 0xC001C
       commitDropped (u.secureReader w.reader) (u.region (u.channel w.reader 12) (u.copies w.reader).rsel)
         ((u.region (u.channel w.reader 12) (u.copies w.reader).rsel).commit (u.copies w.reader).rbase (u.copies w.reader).rlast
           w.value.toNat)
     let locked : State := { bench with ixp := { bench.ixp with regions := [(0, { lock := true })] } }
     bench.mayWrite (.core 0) true 0xC001C = true ∧ bench.channel (.core 0) 12 < 141 ∧ drops bench (kernelWrite 0x80000000) = false ∧
       locked.mayWrite (.core 0) true 0xC001C = true ∧ locked.channel (.core 0) 12 < 141 ∧ drops locked (kernelWrite 0x80000000) = true ∧
       (selecting 12 140).channel (.core 0) 12 < 141) ∧
    (let drops (s : State) (w : RegWrite) : Bool :=
       let u := s.wakeRegister w.reader 0xC004C
       commitDropped (u.secureReader w.reader) (u.fallback (u.copies w.reader).fbsel)
         ((u.fallback (u.copies w.reader).fbsel).commit (u.copies w.reader).fbbase (u.copies w.reader).fblast w.value.toNat)
     let locked : State := { bench with ixp := { bench.ixp with fallback := [(0, { lock := true })] } }
     bench.mayWrite (.core 0) true 0xC004C = true ∧ bench.beyond (.core 0) 12 = false ∧ drops bench (kernelWrite 0x80000000) = false ∧
       locked.mayWrite (.core 0) true 0xC004C = true ∧ locked.beyond (.core 0) 12 = false ∧
       drops locked (kernelWrite 0x80000000) = true) ∧
    (bench.mayWrite (.core 0) true 0xC0060 = true ∧ bench.beyond (.core 0) 12 = false ∧ (2 : W32).toNat.testBit 1 = true ∧
      (2 : W32).toNat % 2 = 0 ∧ (3 : W32).toNat.testBit 1 = true ∧ (3 : W32).toNat % 2 = 1 ∧
      (bench.wakeRegister (.core 0) 0xC0060).secureReader (.core 0) = true ∧
      bench.mayWrite (.core 63) true 0xC0060 = true ∧ bench.beyond (.core 63) 12 = false ∧
      (bench.wakeRegister (.core 63) 0xC0060).secureReader (.core 63) = false) := by decide +kernel

theorem witness_RegisterCommandsDenied :
    ([0x10010, 0xC001C, 0xC004C, 0xC0060, 0x100024, 0xB0044, 0xB004C].all fun a =>
      !bench.mayWrite (taskWrite 1).reader (taskWrite 1).kernel a) = true := by decide +kernel

theorem witness_BeyondLastInstance :
    (selecting 12 141).beyond (.core 0) (0xC001C / 65536) = true ∧ (selecting 12 140).beyond (.core 0) (0xC001C / 65536) = false ∧
    0xC001C % 65536 ≠ 0 := by decide +kernel

theorem witness_LeaseCommandsAct :
    let free := domain3 {}
    let leased := domain3 { keeper := true }
    let gated := domain3 { keeper := true, clockOff := true, powerOff := true }
    (free.mayWrite (.core 0) true 0x100020 = true ∧ free.channel (.core 0) 16 < 32 ∧ free.channel (.core 0) 16 = 3 ∧
      free.leased 3 = false ∧ (free.domain 3).clockOff = false ∧ (free.domain 3).powerOff = false ∧
      (1 : W32).toNat % 4 = 1 ∧ (3 : W32).toNat % 4 = 3 ∧ (2 : W32).toNat % 4 ≠ 0 ∧ (4 : W32).toNat % 4 = 0) ∧
    (leased.mayWrite (.core 0) true 0x100020 = true ∧ leased.channel (.core 0) 16 = 3 ∧ leased.leased 3 = true ∧
      gated.mayWrite (.core 0) true 0x100020 = true ∧ gated.leased 3 = true ∧ (gated.domain 3).powerOff = true) ∧
    (free.mayWrite (.core 0) true 0x100024 = true ∧ free.mayWrite (.core 0) true 0x100028 = true) ∧
    (selecting 16 31).channel (.core 0) 16 < 32 ∧
    ((domain3 { queued := some (.clockOff, 5) }).domain 3).queued = some (.clockOff, 5) ∧
    (domain3 { queued := some (.clockOff, 5) }).leased 3 = false ∧
    ((domain3 { keeper := true, queued := some (.clockOff, 5) }).upTo 5).leased 3 = true ∧
    ((domain3 { queued := some (.clockOff, 5) }).upTo 5).leased 3 = false := by decide +kernel

theorem witness_RestartCommandsAct :
    (bench.mayWrite (.core 0) true 0xB0044 = true ∧ bench.mayWrite (.core 0) true 0xB0054 = true ∧
      bench.mayWrite (.core 0) true 0xB004C = true ∧ bench.cor.restarting = false ∧ bench.beyond (.core 0) 11 = false ∧
      bench.pwr.started = true ∧ bench.pwr.shutDown = false ∧ bench.secureHalted = false ∧ bench.coreSecure 0 = true ∧
      bench.cor.normalRestarting = false) ∧
    ((kernelWrite 0x5A5A).value = (if bench.cor.keeperDog.second then 0xA5A5 else 0x5A5A) ∧
      (kernelWrite 0xA5A5).value ≠ (if bench.cor.keeperDog.second then 0xA5A5 else 0x5A5A) ∧
      (kernelWrite 0x5A5A).value = (if bench.cor.normalDog.second then 0xA5A5 else 0x5A5A) ∧
      (kernelWrite 1).value.toNat.testBit 0 = true ∧ (kernelWrite 2).value.toNat.testBit 0 = false) ∧
    restarting.cor.restarting = true ∧
    (let t : State := { bench with cor := { bench.cor with normalRestarting := true } }
     t.cor.normalRestarting = true) := by decide +kernel

theorem witness_SecureRestartBegins :
    bench.pwr.started = true ∧ bench.pwr.shutDown = false ∧ bench.cor.restarting = false ∧
    (within bench.now 600000000000 bench.cor.restarts ++ [bench.now]).length < 3 ∧
    (let t : State := { bench with cor := { bench.cor with restarts := [0, 0] } }
     3 ≤ (within t.now 600000000000 t.cor.restarts ++ [t.now]).length) ∧ State.reset.pwr.started = false := by decide +kernel

/-- A read of hold by the debug port's unit. -/
def holdRead (unit : Nat) : FabricAccess :=
  { unit := unit, task := false, kind := .read, address := 0, length := 4, data := [], tag := none, barge := 0 }

/-- Unit 0 may read and write the first page of hold, which has an owner record as given. -/
def mapped (owner : Nat) : State :=
  { bench with ixp := { bench.ixp with
    regions := [(0, { enable := true, perms := 63, first := 0, last := 0 })], owners := [(0, owner)] } }

theorem witness_FabricAccessActs :
    let x := holdRead 0
    let s := mapped 0x4000
    let t := mapped 0
    let window : State := { bench with ixp := { bench.ixp with
      regions := [(0, { enable := true, perms := 63, first := 0x1400000, last := 0x1400110 })] } }
    let half : FabricAccess := { x with address := 0x1400010010, length := 2 }
    let move : FabricAccess := { x with unit := 128, kind := .write, data := zeros x.length }
    accessFits x = true ∧ x.kind ≠ .write ∧ s.looksUp (s.master x) x.address x.length = false ∧
    (s.countLookup (s.master x) x).firstForbidden (s.master x) x.kind x.address x.length = none ∧ misshapen x = false ∧
    t.looksUp (t.master x) x.address x.length = false ∧ bench.looksUp (bench.master x) x.address x.length = true ∧
    (t.countLookup (t.master x) x).firstForbidden (t.master x) x.kind x.address x.length = some (0, 3, 2, 2, some 0) ∧
    accessFits half = true ∧ misshapen half = true ∧
    (window.countLookup (window.master half) half).firstForbidden (window.master half) half.kind half.address half.length = none ∧
    accessFits move = true ∧ move.kind = .write ∧ 96 ≤ move.unit ∧
    ((accessParts move).find? fun p =>
      (bench.firstForbidden (bench.master move) p.kind p.address p.length).isSome).isSome = true := by
  decide +kernel

/-! ## Dual control -/

/-- Custodian 0 suspended. -/
def suspended : State :=
  { bench with cus := { bench.cus with
    custodians := [(0, { label := [], kinds := 1, ecdsaKey := [], mldsaKey := [], roles := 1, state := .suspended })] } }

/-- Slice 5 absent. -/
def absent : State := { bench with cus := { bench.cus with slices := [(0, { state := .active })] } }

/-- The clock set. -/
def timed : State := { bench with clk := { bench.clk with valid := true } }

/-- An image staged whose digest is zero. -/
def staged : State := { bench with ctr := { bench.ctr with staged := some (zeros 48) } }

/-- Does a request meet QUORUM_REQUIRED. -/
def sentAlone (v : Verb) (s : State) (b : Barge) : Bool :=
  decide (idemOutcome (v.served b) s = .run) && decide (intakeFail (v.served b) s = none) && !s.holdsAdmission v.opcode &&
    decide (v.beforeBallot (v.served b) (s.busyWith b) = none) && (v.role (v.served b) (s.busyWith b)).isSome

theorem sentAlone_iff (v : Verb) (s : State) (b : Barge) :
    sentAlone v s b = true ↔ v.takesIn b s ∧ v.beforeBallot (v.served b) (s.busyWith b) = none ∧
      ∃ r, v.role (v.served b) (s.busyWith b) = some r := by
  simp [sentAlone, Verb.takesIn, and_assoc, Option.isSome_iff_exists]

theorem witness_DualControlNeedsBallot :
    sentAlone keyComponentVerb bench (barge 5 (bytesWith 72 [(8, 1), (9, 2), (10, 1)])) ∧
    sentAlone domainBackupVerb bench (barge 0 (bytesWith 2572 [(0, 2), (1, 2)])) ∧
    sentAlone dectabSetVerb bench (barge 5 (bytesWith 12 [(0, 1), (4, 255), (5, 255), (6, 255), (7, 255), (8, 255), (9, 255), (10, 255), (11, 255)])) ∧
    sentAlone kbImportVerb bench (barge 5 (bytesWith 52 [(33, 16), (36, 68), (37, 48), (38, 48), (39, 49), (40, 54), (41, 66), (42, 48), (43, 65), (44, 88), (45, 48), (46, 48), (47, 69), (48, 48), (49, 48), (50, 48), (51, 48)])) ∧
    sentAlone kbImportDx6100Verb bench (barge 5 (bytesWith 52 [(33, 16), (36, 66), (37, 48), (38, 48), (39, 49), (40, 54), (41, 66), (42, 48), (43, 84), (44, 88), (45, 48), (46, 48), (47, 69), (48, 48), (49, 48), (50, 48), (51, 48)])) ∧
    sentAlone timeSetVerb timed (barge 0 (bytesWith 8 [])) ∧ sentAlone chartApplyVerb bench (barge 0 (bytesWith 48 [])) ∧
    sentAlone settingsStoreVerb bench (barge 0 (bytesWith 4 [])) ∧ sentAlone pairBindVerb bench (barge 0 (bytesWith 56 [])) ∧
    sentAlone pairPolicyVerb bench (barge 0 (bytesWith 4 [])) ∧ sentAlone witnessSetVerb bench (barge 0 (bytesWith 4 [(0, 3)])) ∧
    sentAlone custodianEnrolVerb bench (barge 0 (bytesWith 229 [(1, 1), (2, 1)])) ∧
    sentAlone custodianSuspendVerb held (barge 0 (bytesWith 4 [])) ∧
    sentAlone custodianReinstateVerb suspended (barge 0 (bytesWith 4 [])) ∧
    sentAlone custodianRevokeVerb held (barge 0 (bytesWith 4 [])) ∧ sentAlone custodyEstablishVerb fresh (barge 0 []) ∧
    sentAlone sliceCreateVerb bench (barge 0 (bytesWith 20 [(0, 1)])) ∧
    sentAlone sliceSetQuotaVerb bench (barge 0 (bytesWith 20 [(1, 5)])) ∧
    sentAlone sliceBindVerb bench (barge 0 (bytesWith 24 [(5, 5)])) ∧
    sentAlone sliceThawVerb held (barge 0 (bytesWith 4 [(1, 5)])) ∧
    sentAlone sliceResetVerb bench (barge 0 (bytesWith 4 [(1, 5)])) ∧
    sentAlone sliceRemoveVerb held (barge 0 (bytesWith 4 [(1, 5)])) ∧
    sentAlone sliceSaveVerb held (barge 0 (bytesWith 16 [(1, 5)])) ∧
    sentAlone sliceRestoreVerb absent (barge 0 (bytesWith 9 [(1, 5)])) ∧
    sentAlone anchorRemoveVerb bench (barge 0 (bytesWith 4 [])) ∧
    sentAlone tamperConfigVerb bench (barge 0 (bytesWith 8 [(0, 1), (4, 1), (5, 3)])) ∧
    sentAlone basinConfigVerb bench (barge 0 (bytesWith 36 [])) ∧ sentAlone domainJoinVerb bench (barge 0 (bytesWith 16 [])) ∧
    sentAlone domainAdmitVerb bench (barge 0 (bytesWith 56 [])) ∧ sentAlone domainExpelVerb bench (barge 0 (bytesWith 8 [])) ∧
    sentAlone commitFloorVerb bench (barge 0 (bytesWith 4 [])) ∧
    sentAlone sliceSpreadVerb bench (barge 0 (bytesWith 12 [(1, 5), (3, 1)])) ∧
    sentAlone domainRegistrarVerb bench (barge 0 (bytesWith 8 [])) ∧
    sentAlone lcTransitionVerb bench (barge 0 (bytesWith 4 [(0, 225), (1, 135)])) ∧
    sentAlone fwActivateVerb staged (barge 0 (bytesWith 48 [])) ∧ sentAlone dbgEnableVerb bench (barge 0 []) ∧
    sentAlone vendorRevokeVerb bench (barge 0 (bytesWith 5816 [])) := by decide +kernel

/-- ANCHOR_ADD of any certificate that the uninterpreted check of certificates takes needs a ballot. -/
theorem witness_anchorAdd (h : Config.caCertificate [1] = true) :
    anchorAddVerb.takesIn (barge 0 [0, 0, 0, 0, 1]) bench ∧
    anchorAddVerb.beforeBallot (anchorAddVerb.served (barge 0 [0, 0, 0, 0, 1])) (bench.busyWith (barge 0 [0, 0, 0, 0, 1])) = none ∧
    anchorAddVerb.role (anchorAddVerb.served (barge 0 [0, 0, 0, 0, 1])) (bench.busyWith (barge 0 [0, 0, 0, 0, 1])) = some 1 := by
  refine ⟨⟨by decide +kernel, by decide +kernel, by decide +kernel⟩, ?_, rfl⟩
  have hf : parseFail anchorAddVerb (anchorAddVerb.served (barge 0 [0, 0, 0, 0, 1])) (bench.busyWith (barge 0 [0, 0, 0, 0, 1])) = none := by
    show firstFail [sizeFail _ _ _, (firstCode [_, _, _, wellFormed (Config.caCertificate [1])]).map _] = none
    rw [h]
    decide +kernel
  unfold Verb.beforeBallot
  rw [hf]
  decide +kernel

/-- A ballot to suspend custodian 0, armed. -/
def oneBallot : Ballot :=
  { opcode := 0x0202, target := 0, generation := held.bound 0x0202 0, pflags := 0, length := 4, payload := zeros 4, bd := [],
    role := 0, m := 1, window := 600, state := .armed, proposer := 1, expires := 600000000000, approvals := [(0, 600000000000)],
    isLocal := false }

/-- Custody with that ballot. -/
def armed : State := { held with cus := { held.cus with ballots := [(1, oneBallot)] } }

theorem witness_BallotExecutes :
    let b := barge 0 (bytesWith 12 [(7, 1)])
    let w := armed.busyWith b
    let c := ballotExecuteVerb.served b
    let inner := executedBarge c w oneBallot
    let old : State := { held with cus := { held.cus with ballots := [(1, { oneBallot with generation := oneBallot.generation + 1 })] } }
    meets ballotExecuteVerb armed b = true ∧ namedBallot c w = some (1, oneBallot) ∧
      (baseVerb 0x0202).map (·.opcode) = some custodianSuspendVerb.opcode ∧ oneBallot.pflags % 2 = 0 ∧
      w.bound 0x0202 0 = oneBallot.generation ∧ sliceOpcode 0x0202 = false ∧ custodianSuspendVerb.state inner w = none ∧
      targetFits 0x0202 0 false inner.payload = true ∧ innerGate custodianSuspendVerb inner w = none ∧
      meets ballotExecuteVerb old b = true ∧
      (namedBallot c (old.busyWith b)).map (·.2.generation) = some (oneBallot.generation + 1) ∧
      (old.busyWith b).bound 0x0202 0 ≠ oneBallot.generation + 1 := by decide +kernel

/-! ## The verbs: a request that a check of each family refuses -/

/-- Is a request refused by a check. -/
def refusedBy (v : Verb) (s : State) (b : Barge) : Bool :=
  decide (idemOutcome (v.served b) s = .run) && decide (intakeFail (v.served b) s = none) && !s.holdsAdmission v.opcode &&
    (gate v (v.served b) (s.busyWith b)).isSome

theorem refusedBy_iff (v : Verb) (s : State) (b : Barge) :
    refusedBy v s b = true ↔ v.takesIn b s ∧ ∃ r, gate v (v.served b) (s.busyWith b) = some r := by
  simp [refusedBy, Verb.takesIn, and_assoc, Option.isSome_iff_exists]

theorem witness_refusals :
    let b := barge 0 (zeros 1)
    refusedBy sessionInfoVerb bench b ∧ refusedBy ballotStatusVerb bench b ∧ refusedBy keyDeleteVerb bench b ∧
    refusedBy dkWrapVerb bench b ∧ refusedBy pinVerifyVerb bench b ∧ refusedBy hashVerb bench b ∧
    refusedBy basinStatusVerb bench b ∧ refusedBy lcStatusVerb bench b ∧ refusedBy chartReadVerb bench b ∧
    refusedBy readRegVerb bench b ∧ (custodyEstablishVerb.beforeBallot (custodyEstablishVerb.served b) (fresh.busyWith b)).isSome := by
  decide +kernel

/-! ## The wharf -/

/-- One record of the settings. -/
def withSetting (item : Nat) (v : Bytes) : State :=
  { bench with cht := { bench.cht with sections := bench.cht.sections.put 0x0020 [be 2 item ++ be 2 v.length ++ v] } }

/-- One cage's link. -/
def linked (cage : Nat) (l : Link) : State := { bench with whf := { bench.whf with links := [(cage, l)] } }

theorem witness_WharfCommandsAct :
    (let frame (cage : Nat) (fcs : Bool) (type : Nat × Nat) : HostFrame :=
       { cage := cage, bytes := bytesWith 64 [(12, BitVec.ofNat 8 type.1), (13, BitVec.ofNat 8 type.2)], fcsOk := fcs }
     let asleep (held : List (Nat × Bytes)) : State := { bench with pwr := { bench.pwr with state := 4, linkBuffer := held } }
     (frame 2 true (8, 6)).cage = 2 ∧ isPause (frame 1 true (0x88, 8)).bytes = true ∧ isPause (frame 1 false (8, 6)).bytes = false ∧
       acceptFrame (frame 1 false (8, 6)) = none ∧ acceptFrame (frame 1 true (8, 6)) = some none ∧
       ((bench.countFec (frame 1 true (8, 6))).countSite 1 1 512 1).pwr.state ≠ 4 ∧
       (((asleep []).countFec (frame 1 true (8, 6))).countSite 1 1 512 1).pwr.state = 4) ∧
    (let s := withSetting 4 (bytesWith 8 [(1, 0xFF), (7, 9)])
     let q := bytesWith 4 [(3, 9)]
     s.wake.answersFor 0 none q = true ∧ s.answersFor 0 none q = true ∧ bench.wake.answersFor 0 none q = false ∧
       bench.answersFor 0 none q = false ∧ (s.link 0).echoes < 1000 ∧
       (let t : State := { s with whf := { s.whf with links := [(0, { cfg := 0, echoes := 1000 })] } }
        (t.link 0).echoSecond = t.now / 1000000000 ∧ 1000 ≤ (t.link 0).echoes ∧ t.answersFor 0 none q = true)) ∧
    (withSetting 5 (bytesWith 20 [(1, 0xFF), (19, 9)])).wake.answersFor 0 none (bytesWith 16 [(15, 9)]) = true ∧
    (let big : State := { bench with pwr := { bench.pwr with cages := [(0, { exceeds := true }), (2, { exceeds := true })] } }
     (big.cage 0).exceeds = true ∧ (big.cage 2).exceeds = true ∧ (bench.cage 0).exceeds = false ∧ (bench.cage 2).exceeds = false ∧
       (bench.link 0).resolve 0 { modes := 1, fec := false } = some (0, 2) ∧
       (bench.link 2).resolve 2 { modes := 0, fec := false } = some (1, 2) ∧
       (bench.link 0).resolve 0 { modes := 0, fec := false } = none) ∧
    ((linked 0 { cfg := 0, anRestart := some 5 }).link 0).anRestart = some 5 ∧
    (let s : State := { withSetting 6 (bytesWith 22 [(0, 1)]) with whf := { bench.whf with links := [(1, { cfg := 0, up := true })] } }
     s.setting 6 (be 1 1) = some (bytesWith 22 [(0, 1)]) ∧ (s.link 1).up = true) ∧
    (let up (s : State) : State := (s.modLink 2 fun l => { l with
       up := true, anDone := l.anEn, mode := 1, fec := 2, anRestart := none, beaconAt := s.now }).raise 0 2 0xFFFF 0 1
     (up bench).tow.partner = 0 ∧ (up { bench with tow := { bench.tow with partner := 3 } }).tow.partner ≠ 0) := by decide +kernel

/-- Room in the link buffer, to its last byte. -/
theorem witness_LinkBuffer (n : Nat) (bs : Bytes) (h : bs.length = 64) :
    let asleep : State := { bench with pwr := { bench.pwr with state := 4, linkBuffer := [(0, List.replicate n 0)] } }
    let used := (asleep.pwr.linkBuffer.map fun e => e.2.length).foldl (· + ·) 0
    (n = 2097088 → used + bs.length ≤ 2097152) ∧ (n = 2097089 → 2097152 < used + bs.length) := by
  simp [h]; omega

/-- A PTP message of port 1 and domain 0. -/
def ptp (kind : PtpKind) (two : Bool) : PtpMessage :=
  { cage := 1, kind := kind, domain := 0, source := [7], sequence := 3, quality := [1], twoStep := two, origin := 100, utcOffset := 37,
    utcOffsetValid := true, leap61 := false, leap59 := false }

/-- Port 1 as given. -/
def ported (best : Option Nat) (p : PtpPort) : State :=
  { bench with whf := { bench.whf with ptp := [(1, p)], ptpBest := best } }

theorem witness_PtpCommandsAct :
    (bench.ptpSetting.1 = (ptp .sync false).domain ∧ bench.ptpSetting.2.1.testBit (ptp .sync false).cage = true ∧
      { ptp .sync false with domain := 9 }.domain ≠ bench.ptpSetting.1) ∧
    (let at1 (s : State) : PtpPort := (s.wake.countSite 1 1 518 1).ptpPort 1
     (at1 (ported (some 0) {})).best = none ∧ datasetLess [1] [1] = false ∧
     (let known := ported (some 1) { best := some [1], master := [7] }
      (at1 known).master = (ptp .sync false).source ∧ (at1 known).best ≠ none ∧
       (at1 (ported (some 1) { best := some [0], master := [8] })).master ≠ (ptp .announce false).source ∧
       datasetLess (ptp .announce false).quality [0] = false) ∧
     (ptp .sync false).twoStep = false ∧ (ptp .sync true).twoStep = true ∧
     (at1 (ported (some 1) { master := [7], sync := some (3, 50) })).sync = some ((ptp .followUp true).sequence, 50) ∧
     (at1 (ported (some 1) { req := some (3, 60), last := some (1, 2) })).req = some ((ptp .delayResp true).sequence, 60) ∧
     (at1 (ported (some 1) { req := some (3, 60), last := some (1, 2) })).last = some (1, 2)) ∧
    (let best (s : State) := ((s.wake.countSite 1 1 518 1).modPtp 1 fun p => { p with best := some [1], master := [7] }).whf.ptpBest
     best (ported (some 0) {}) = some 0 ∧ best (ported (some 1) {}) = some 1 ∧ best (ported none {}) = none) ∧
    ((withSetting 11 [0, 3, 1]).ptpSetting.2.2 = 1 ∧ bench.ptpSetting.2.2 ≠ 1) ∧
    (ported none { locked := true }).whf.ptp.find 1 = some { locked := true } := by decide +kernel

/-! ## Sessions -/

/-- A datagram of a type to session 1. -/
def gram (type : Byte) (bodyLen : Nat) (edits : List (Nat × Byte)) : Datagram :=
  { cage := 0, source := zeros 18, bytes := bytesWith (24 + bodyLen) ([(0, 3), (1, type), (11, 1)] ++ edits) }

/-- A handshake half open. -/
def halfOpen : State :=
  { bench with whf := { bench.whf with halfOpen := [(1, { cage := 0, source := [], limit := 9146, hs := [], cHs := [], mHs := [],
                                                           stem := [], deadline := 9 })] } }

/-- A TLS client of FGL-2. -/
def tls (group : Nat) : TlsHello :=
  { cage := 0, source := [], fgl := 2, suite := 0x1302, group := group, sigAlg := 0x0503, extendedMaster := true,
    chain := [], transcript := [], signature := [] }

theorem witness_HandshakesAct :
    (let d (v : Byte) := gram 1 1349 [(0, v), (20, 5), (21, 69)]
     24 ≤ (d 3).bytes.length ∧ dgType (d 3) = 1 ∧ fld (d 3).bytes 0 1 = 3 ∧ fld (d 2).bytes 0 1 ≠ 3 ∧ dgType (d 2) = 1 ∧
       bench.wake.cor.normalRestarting = false ∧ bench.wake.fglEnabled.testBit 2 = true ∧ (dgBody (d 3)).length = 1349 ∧
       fld (d 3).bytes 20 2 = 1349) ∧
    (dgShape (gram 3 16 []) 3 = true ∧ (halfOpen.wake.whf.halfOpen.find (dgSession (gram 3 16 []))).isSome = true ∧
      bench.wake.whf.halfOpen.find (dgSession (gram 3 16 [])) = none) ∧
    (let w := bench.wake.firmwareJobs .publicKey
     let many : State := { bench with whf := { bench.whf with
       sessions := (List.range 4096).map fun i => (i, { oneSession with fgl := 2 }) } }
     (tls 24).ask = .full ∧ w.cor.normalRestarting = false ∧ w.ctr.dbgNormal = none ∧
       w.fglEnabled.testBit ((tls 24).fgl - 1) = true ∧ tlsParams (tls 23) = false ∧ tlsParams (tls 24) = true ∧
       w.sessionCount (fun x => x.fgl != 3) < 4096 ∧
       4096 ≤ (many.wake.firmwareJobs .publicKey).sessionCount (fun x => x.fgl != 3) ∧
       { tls 24 with ask := .renegotiation }.ask = .renegotiation ∧ { tls 24 with ask := .keyUpdate true }.ask = .keyUpdate true) := by
  decide +kernel

/-- Session 1 as given. -/
def session1 (x : Session) : State := { bench with whf := { bench.whf with sessions := [(1, x)] } }

theorem witness_SessionDatagramsAct :
    (dgType (gram 0x32 8 []) = 0x32 ∧ dgType (gram 0x31 8 []) ≠ 0x32) ∧
    (session1 { oneSession with fgl := 1 }).session 1 = some { oneSession with fgl := 1 } ∧
    (let f := bytesWith 8 [(1, 6)]
     8 ≤ f.length ∧ f.length ≤ 65535 ∧ f.length = 2 + fld f 0 2 ∧ oneSession.order.length < 16 ∧
       16 ≤ ({ oneSession with order := List.range 16 } : Session).order.length ∧ ¬8 ≤ (zeros 7).length) ∧
    (let f := bytesWith 16 [(3, 12), (4, 1)]
     let w (x : Session) := (session1 { x with fgl := 2 }).wake.endIdle.modSession 1 fun x => { x with lastHeard := 0 }
     let b : Barge := { barge 0 [] with pn := 0, opcode := 256, requestId := 0 }
     16 ≤ f.length ∧ f.length = 4 + fld f 0 4 ∧ fld f 6 2 = 0 ∧ fld (bytesWith 16 [(3, 12), (7, 1)]) 6 2 ≠ 0 ∧
       fld (bytesWith 16 [(3, 12), (7, 1)]) 0 4 = 12 ∧ fld f 4 2 = b.opcode ∧ intakeFail b (w oneSession) = none ∧
       (intakeFail b (w { oneSession with inProgress := List.replicate 256 (1, 1) })).isSome = true) := by decide +kernel

theorem witness_SessionTimersAct :
    (let g : Gather := { outstanding := 1, records := [[1]], source := [], cage := 0 }
     ({ bench with whf := { bench.whf with gathers := [((1, 2), g)] } } : State).gather 1 2 = some g ∧ g.records ≠ []) ∧
    (halfOpen.whf.halfOpen.find 1).isSome = true ∧ (bench.session 1).isSome = true ∧ oneSession.fgl = 3 ∧
    oneSession.heardSinceFlip = true ∧
    ((session1 { oneSession with send := { oneSession.send with count := 2 ^ 30 } }).session 1).map (·.send.count) = some (2 ^ 30) ∧
    ((session1 { oneSession with recv := { oneSession.recv with prev := some ([], 9) } }).session 1).map (·.recv.prev) =
      some (some ([], 9)) ∧
    (({ bench with whf := { bench.whf with
        idem := [((0, 0, 5), { opcode := none, digest := [], result := none, expiry := 9 })] } } : State).idemEntry 0 0 5).isSome = true := by
  decide +kernel

/-! ## The lock keeper, flights and jobs -/

/-- A barge of an opcode. -/
def request (opcode : Nat) (payload : Bytes) : Barge := { barge 5 payload with opcode := opcode }

/-- Barge 7 of flight 28 at a stage. -/
def atStage (stage : BargeStage) (b : Barge) : BargeRec :=
  { barge := b, stage := stage, pn := 1, admitted := 2, arrived := 0, flight := 28 }

/-- The module with barge 7. -/
def running (r : BargeRec) : State :=
  { bench with flt := { bench.flt with barges := [(7, r)] }, vlt := { bench.vlt with unlocked := true } }

theorem witness_LockKeeperCommandsAct :
    (let r := atStage .arrived (request 0x0640 [])
     let s := running r
     let dark : State := { s with ctr := { bench.ctr with dark := [(0x0640, 9)] } }
     let again := atStage .arrived { request 0x0401 [] with idem := 3 }
     let held : State := { running again with whf := { bench.whf with
       idem := [((5, 0, 3), { opcode := some 0x0401, digest := [], result := some (stDone, []), expiry := 9 })] } }
     let gate : State := { s with tow := { s.tow with
       basinId := 6, gatePair := 4, pairId := 4, directory := [(5, { home := 8, generation := 0 })] } }
     s.flt.barges.find 7 = some r ∧ r.stage = .arrived ∧ s.holdsAdmission r.barge.opcode = false ∧ s.storedResult r.barge = none ∧
       s.forwardHome r.barge.slice = none ∧ held.forwardHome again.barge.slice = none ∧ dark.forwardHome r.barge.slice = none ∧
       gate.holdsAdmission r.barge.opcode = false ∧ gate.forwardHome r.barge.slice = some 8 ∧ gate.tow.foreign.find 1 = none ∧
       held.holdsAdmission again.barge.opcode = false ∧ held.storedResult again.barge = some ⟨stDone, []⟩ ∧
       assigned r.barge.opcode = true ∧ assigned 0x06F0 = false ∧ darkFail r.barge.opcode s = none ∧
       (darkFail r.barge.opcode dark).isSome = true) ∧
    (let b := request 0x0640 []
     let first := { b with cls := 0 }
     let right (flags depth : Byte) : State :=
       let sections := bench.cht.sections.put 0x0012 [[0, 5, 2, 1, 0, 0, 0, 0, 0, 0, 0, depth, flags, 0, 0, 0]]
       { bench with cht := { bench.cht with sections := sections } }
     let one := { b with cls := 1 }
     let down := (List.range 32).map fun f => ((f, { inService := false }) : Nat × Flight)
     let shut : State := { bench with flt := { bench.flt with flights := down } }
     bench.ineligible b 2 = false ∧ bench.ineligible first 2 = true ∧ (bench.groupFor bench.cht.bank b.opcode) = 2 ∧
       b.cls ≠ 0 ∧ bench.grant b 2 70 = some (2, false) ∧ (bench.place b 2 2).isSome = true ∧ shut.place b 2 2 = none ∧
       (right 0 9).ineligible one 2 = false ∧ (right 0 0).grant one 2 70 = none ∧ (right 0 90).grant one 2 70 = some (1, true)) ∧
    ((running (atStage .pound (request 0x0640 []))).flightUp 28 = true ∧
      (running (atStage .pound (request 0x0640 []))).contexts 28 < 16 ∧
      ((running (atStage .pound (request 0x0640 []))).nextBarge 28).isSome = true) ∧
    ((bench.flight 31).out = false ∧ (within bench.now 1000000000 (bench.flight 31).faults ++ [bench.now]).length < 3 ∧
      (let s : State := { bench with flt := { bench.flt with flights := [(31, { faults := [0, 0] })] } }
       (s.flight 31).out = false ∧ 3 ≤ (within s.now 1000000000 (s.flight 31).faults ++ [s.now]).length) ∧
      (let s : State := { bench with flt := { bench.flt with flights := [(31, { inService := false })] } }
       (s.flight 31).inService = false ∧ (s.flight 31).out = false)) ∧
    ((running { atStage .context (request 0x0640 []) with leaseWait := some 9 }).flt.barges.find 7).map (·.leaseWait) =
      some (some 9) := by decide +kernel

theorem witness_StepsAct :
    let hash := bytesWith 16 [(12, 1)]
    let at_ (opcode flight steps : Nat) (p : Bytes) : BargeRec :=
      { atStage .context (request opcode p) with flight := flight, steps := steps }
    let fails (v : Verb) (r : BargeRec) (s : State) := firstFail [restartFail v s, s.worldFail r v, policyFail v r.barge s, s.handleFail r]
    let parse (r : BargeRec) (s : State) :=
      firstFail [s.fieldFail r, (verbOf r.barge.opcode).bind fun v => parseFail v r.barge s]
    let h (steps : Nat) := at_ 0x0640 28 steps hash
    let turns (r : BargeRec) (lock : Nat) := (running r).turn 7 r lock
    (turns (h 0) 0 = true ∧ parse (h 0) (running (h 0)) = none ∧
      turns (at_ 0x0640 28 0 []) 0 = true ∧ (parse (at_ 0x0640 28 0 []) (running (at_ 0x0640 28 0 []))).isSome = true) ∧
    (turns (h 1) 1 = true ∧ fails hashVerb (h 1) (running (h 1)) = none ∧ (running (h 1)).assists (h 1) hashVerb = false ∧
      (let away := { h 1 with barge := { (h 1).barge with slice := 6 } }
       turns away 1 = true ∧ (fails hashVerb away (running away)).isSome = true) ∧
      turns (at_ 0x0110 28 1 []) 1 = true ∧ fails sessionInfoVerb (at_ 0x0110 28 1 []) (running (at_ 0x0110 28 1 [])) = none ∧
      (running (at_ 0x0110 28 1 [])).assists (at_ 0x0110 28 1 []) sessionInfoVerb = true) ∧
    (turns (at_ 0x0610 28 2 []) 2 = true ∧ (at_ 0x0610 28 2 []).reply = none ∧
      turns { at_ 0x0610 28 2 [] with reply := some ⟨stFault, []⟩ } 2 = true) ∧
    (let r := at_ 0x0401 10 3 (bytesWith 32 [(26, 1), (27, 16)])
     turns r 3 = true ∧ ((running r).cipherJob 7 r).isSome = true) ∧
    (turns (h 2) 4 = true ∧ (lowest ((running (h 2)).grantable .hash (h 2))).isSome = true) ∧
    (let r := at_ 0x0610 28 3 []
     let s : State := { running r with ent := { (running r).ent with genOk := 255, ring := { state := .running } } }
     s.turn 7 r 5 = true ∧ (lowest (s.grantable (pkeKind r) r)).isSome = true) ∧
    turns (h 3) 6 = true ∧ turns { h 4 with reply := some ⟨stDone, []⟩ } 7 = true ∧
    (let r := { h 0 with stage := .coreQueue }
     ((running r).slice 5).generation = r.barge.generation ∧
       ((running { r with barge := { r.barge with generation := 1 } }).slice 5).generation ≠ 1) := by decide +kernel

/-- A job of a barge. -/
def job (kind : EngineKind) (engine segments : Nat) : Job := { kind := kind, engine := engine, attached := false, segments := segments }

theorem witness_JobEndsAct :
    let r (j : Job) := { atStage .context (request 0x0640 []) with job := some j }
    let dsa (j : Job) := { atStage .context (request 0x0632 []) with job := some j }
    runningJob (r (job .shuffled 223 0)) isCipher = some (job .shuffled 223 0) ∧ (job .shuffled 223 0).segments = 0 ∧
    runningJob (r (job .shuffled 0 1)) isCipher = some (job .shuffled 0 1) ∧ (job .shuffled 0 1).segments = 1 ∧
    runningJob (r (job .shuffled 0 2)) isCipher = some (job .shuffled 0 2) ∧ 2 ≤ (job .shuffled 0 2).segments ∧
    runningJob (r (job .masked 224 2)) isCipher = some (job .masked 224 2) ∧
    (let keyless (j : Job) :=
       (j.engine :: j.more).any fun c => j.kind == .masked && (((running (r j)).retrySetUp 7 (r j) j).engine j.kind c).path.roundKeys.isEmpty
     keyless (job .masked 224 2) = true ∧ keyless (job .shuffled 0 2) = false ∧ keyless (job .shuffled 223 0) = false) ∧
    runningJob (r (job .publicKey 31 0)) (· == .publicKey) = some (job .publicKey 31 0) ∧
    runningJob (r (job .lattice 7 0)) (· == .lattice) = some (job .lattice 7 0) ∧
    runningJob (dsa (job .lattice 0 0)) (· == .lattice) = some (job .lattice 0 0) ∧
    (r (job .lattice 7 0)).barge.opcode ≠ 0x0632 ∧ (dsa (job .lattice 0 0)).barge.opcode = 0x0632 ∧
    runningJob (r (job .hash 31 0)) (· == .hash) = some (job .hash 31 0) ∧
    (let j := { job .masked 224 0 with suspended := true }
     let s := running (r j)
     let fed : State := { s with ent := { s.ent with genOk := 255, ring := { state := .running } } }
     let seed (t : State) := ((t.loadKey .masked 224 (t.jobKey (r j) j.position) 7).engine .masked 224).seedless
     (r j).job = some j ∧ s.blocked (r j) j.position = false ∧ (s.engine .masked 224).busy = false ∧ seed s ≠ none ∧
       fed.blocked (r j) j.position = false ∧ (fed.engine .masked 224).busy = false ∧ seed fed = none) := by
  decide +kernel

/-! ## Epochs, custody and shreds -/

/-- The towpath as given. -/
def towed (t : Towpath) : State := { bench with tow := t }

theorem witness_EpochCommandsAct :
    let e (closed : Bool) (resends : Nat) : Epoch := { closed := closed, resends := resends }
    let up (n : Nat) (x : Epoch) (live : Bool) : Towpath :=
      { bench.tow with epoch := 4, epochs := [(n, x)], link := some { peer := 1, live := live } }
    let at_ (p : PairState) (acked : Nat) : State := towed { bench.tow with pair := p, acked := acked }
    let frame := bytesWith 40 [(31, 2)]
    ((towed (up 4 (e false 0) true)).tow.epochs.find 4 = some (e false 0) ∧ (towed (up 4 (e false 0) true)).tow.epoch = 4) ∧
    ((towed (up 3 (e true 39) true)).tow.epochs.find 3 = some (e true 39) ∧ (towed (up 3 (e true 39) true)).linkLive = true) ∧
    (towed (up 3 (e true 40) true)).tow.epochs.find 3 = some (e true 40) ∧
    ((towed (up 3 (e true 0) false)).tow.epochs.find 3 = some (e true 0) ∧ (towed (up 3 (e true 0) false)).linkLive = false) ∧
    fld frame 24 8 = 2 ∧ bench.tow.pair ≠ .standby ∧ bench.tow.pair ≠ .syncing ∧
    ((at_ .standby 2).tow.pair = .standby ∧ (at_ .standby 2).tow.acked = 2 ∧ (at_ .standby 1).tow.acked = 1) ∧
    (at_ .standby 1).tow.mirrorRefused = false ∧
    (towed { bench.tow with pair := .standby, mirrorRefused := true }).tow.mirrorRefused = true ∧
    ((at_ .syncing 0).tow.pair = .syncing ∧ (at_ .syncing 0).tow.acked = 0 ∧ (at_ .syncing 0).syncStart = none) ∧
    (let first : MirrorRec := { kind := 9, destructive := false, body := zeros 4 ++ syncOpens }
     let s := towed { bench.tow with pair := .syncing, received := [(2, { segments := [(0, [first])] })] }
     s.syncStart = some 2) := by decide +kernel

theorem witness_CustodyTimersAct :
    (armed.cus.ballots.find 1 = some oneBallot ∧ oneBallot.approvals.find 0 = some 600000000000 ∧ oneBallot.state.terminal = false ∧
      ({ oneBallot with state := .void } : Ballot).state.terminal = true) ∧
    (let s : State := { held with cus := { held.cus with custodians := held.cus.custodians.mod 0 fun c => { c with holdOff := some 9 } } }
     (s.custodian 0).map (·.holdOff) = some (some 9)) ∧
    (let d : DrainSeq := { removal := false, prior := .active, oldGeneration := 0, deadline := 9, answer := none }
     let s : State := { bench with cus := { bench.cus with slices := [(5, { state := .resetting, generation := 1, drain := some d })] } }
     (s.slice 5).drain = some d ∧ s.draining 5 d = false) ∧
    (let tr (save : Bool) : Transfer := { save := save, image := [], offset := 0, job := 0, context := [], deadline := 9 }
     let s (save : Bool) : State := { bench with cus := { bench.cus with slices := [(5, { transfer := some (tr save) })] } }
     let retired : State := { bench with cus := { bench.cus with
       slices := [(5, { state := .retired, transfer := some (tr false) })] } }
     ((s true).slice 5).transfer = some (tr true) ∧ ((s false).slice 5).transfer = some (tr false) ∧
       (retired.slice 5).transfer = some (tr false) ∧ ((retired.upTo 9).slice 5).state = .retired) := by decide +kernel

/-- A shred at a phase. -/
def shredAt (phase : Nat) : ShredSeq :=
  { handle := 0, keyId := 1, slice := 5, generation := 0, keyType := 1, flags := 0, fingerprint := [], derivatives := [], slots := [],
    phase := phase, deadline := 9, members := 0, awaiting := [], evidence := none, time := 0, waiting := [] }

/-- The vault as given. -/
def vaulted (v : Vault) : State := { bench with vlt := v }

theorem witness_KeyStoreTimersAct :
    (let s (phase : Nat) := vaulted { bench.vlt with shreds := [(1, shredAt phase)] }
     (s 2).vlt.shreds.find 1 = some (shredAt 2) ∧ (s 3).vlt.shreds.find 1 = some (shredAt 3) ∧ (s 2).tow.pair.serves = true ∧
       (s 2).flt.barges.vals.any (shredInUse (shredAt 2)) = false) ∧
    ({ bench with eng := { bench.eng with lmsQueue := [.cert 1] } } : State).eng.lmsQueue = [.cert 1] ∧
    (let im : ShareImport := { ecKey := [], kemKey := [], keyEnd := 9, shares := [(1, [])], windowEnd := 8 }
     (vaulted { bench.vlt with shareImport := some im }).vlt.shareImport = some im ∧ im.shares ≠ [] ∧ im.windowEnd < im.keyEnd ∧
       ({ im with windowEnd := 9 } : ShareImport).keyEnd ≤ 9 ∧ ({ im with shares := [] } : ShareImport).shares = []) ∧
    (let s := vaulted { bench.vlt with
        pendingKeys := [(65535, { head := [], count := 2, got := [1], deadline := 9 })], slots := [(65535, { state := .pending })] }
     (s.vlt.pendingKeys.find 65535).isSome = true ∧ (s.slot 65535).state = .pending) ∧
    (let s := vaulted { bench.vlt with loads := [(5, 7, [1], none)] }
     s.vlt.loads.find? (fun l => l.2.1 == 7) = some (5, 7, [1], none)) ∧
    (let s (x : Slot) : State := { vaulted { bench.vlt with slots := [(3, x)] } with tow := { bench.tow with slotFetches := [3] } }
     let bad (epoch : Nat) := s { state := .quarantined, epoch := epoch }
     3 ∈ (bad 2).tow.slotFetches ∧ ((bad 2).slot 3).state = .quarantined ∧ ((bad 2).slot 3).epoch = 2 ∧ ((bad 0).slot 3).epoch = 0 ∧
       ((s {}).slot 3).state = .free ∧ ((s { state := .retired }).slot 3).state = .retired ∧
       ((s { state := .active }).slot 3).state = .active ∧ (s {}).tow.pair ≠ .standby ∧
       (let t : State := { s {} with tow := { (s {}).tow with pair := .standby } }
        3 ∈ t.tow.slotFetches ∧ (t.slot 3).state ≠ .quarantined ∧ t.tow.pair = .standby)) := by decide +kernel

/-- LC_TRANSITION answers later. -/
theorem witness_AnswersLater :
    (worldEffect lcTransitionVerb (atStage .coreQueue { request 0x0802 (bytesWith 4 [(0, 0x96), (1, 0xE1)]) with slice := 0 }) lab).later =
      true := by
  decide +kernel

/-! ## The chart, the engines and entropy -/

/-- The chart controller as given. -/
def charted (c : Chart) : State := { bench with cht := c }

theorem witness_ChartTimersAct :
    (charted { bench.cht with staging := { valid := true } }).cht.staging.valid = true ∧
    (charted { bench.cht with mode := .draining }).cht.mode = .draining ∧
    (charted { bench.cht with mode := .draining }).flt.barges.vals.any (charted { bench.cht with mode := .draining }).onOldBank = false ∧
    (charted { bench.cht with mode := .clocking, clocking := [3] }).cht.mode = .clocking ∧
    3 ∈ (charted { bench.cht with mode := .clocking, clocking := [3] }).cht.clocking := by decide +kernel

/-- The engines as given. -/
def engined (e : Engines) : State := { bench with eng := e }

theorem witness_EngineCommandsAct :
    (let s : State := { bench with flt := { bench.flt with
        barges := [(7, { atStage .context (request 0x0401 []) with job := some (job .masked 255 0) })] } }
     let t := s.modEngine .masked 255 fun e => { e with seedless := some 9 }
     t.jobsOn (coreKind 255) 255 ≠ [] ∧ (t.engine (coreKind 255) 255).seedless = some 9) ∧
    bench.katMayRun .hash 31 = true ∧ bench.katMayRun .shuffled 0 = true ∧
    (let p : Parked := { slice := 5, generation := 0, seq := 0, expiry := 9 }
     (engined { bench.eng with parked := [(1, p)] }).eng.parked.find 1 = some p) ∧
    ((0, 0) ∉ bench.eng.lmsTrees ∧ (0, 0) ∈ treesAt bench.eng.lmsPos ++ treesDue bench.eng.lmsPos) ∧
    (islandKinds 0x03 = [.shuffled, .masked] ∧ islandKinds 0x04 = [.hash] ∧ islandKinds 0x05 = [.publicKey] ∧
      islandKinds 0x06 = [.lattice]) ∧
    (let s := engined { bench.eng with
        bank := { bench.eng.bank with resetting := true }, hash := { bench.eng.hash with resetting := true },
        pke := { bench.eng.pke with resetting := true } }
     (s.block .shuffled).resetting = true ∧ (s.block .hash).resetting = true ∧ (s.block .publicKey).resetting = true) ∧
    (let w : Waiter := { session := 1, pn := 1, opcode := 0x0910, cls := 2, request := 7, idem := (5, 0, 0) }
     let s (pos : Nat) (seed : Bool) := engined { bench.eng with
        lmsPos := pos, lmsSeed := seed, lmsTokens := 1, lmsTrees := [(0, 0), (1, 0), (2, 0)], lmsQueue := [.cert 1, .quote w []] }
     (s (2 ^ 37) true).lmsSpent = true ∧ (s 0 true).lmsSpent = false ∧
       ((s 0 true).eng.lmsTokens ≠ 0 ∧ (s 0 true).eng.lmsSeed = true ∧ (s 0 true).ctr.dbgStart = false ∧
         (treesAt (s 0 true).eng.lmsPos).all (s 0 true).eng.lmsTrees.contains = true) ∧
       (s 0 false).eng.lmsSeed = false) := by decide +kernel

/-- The entropy unit as given. -/
def entropic (e : Entropy) : State := { bench with ent := e }

/-- A source as given. -/
def sourced (x : Source) : State := entropic { bench.ent with ring := x }

theorem witness_EntropyCommandsAct :
    ((sourced { state := .startup }).source 0).state = .startup ∧ ((sourced { state := .running }).source 0).state = .running ∧
    (within bench.now 3600000000000 ((sourced { state := .running }).source 0).fails ++ [bench.now]).length < 3 ∧
    3 ≤ (within bench.now 3600000000000 ((sourced { state := .running, fails := [0, 0] }).source 0).fails ++ [bench.now]).length ∧
    ((sourced { state := .restarting }).source 0).state = .restarting ∧ bench.pwr.started = true ∧
    (sourced { state := .startup }).sourceRunning = false ∧ (sourced { state := .running }).sourceRunning = true ∧
    State.reset.pwr.started = false ∧
    (let r := atStage .coreQueue { request 0x0830 [] with slice := 0 }
     (running r).flt.barges.find 7 = some r ∧ (running r).waitsForDraw 7 r = true) ∧
    (entropic { bench.ent with readyAt := some 9 }).ent.readyAt = some 9 ∧ bench.pwr.state ≠ 4 ∧
    ({ bench with pwr := { bench.pwr with state := 4 } } : State).pwr.state = 4 ∧
    (let s : State := { bench with hlt := { bench.hlt with report := bench.healthBytes 0 } }
     reportFields (s.healthBytes 0) = reportFields s.hlt.report) ∧
    reportFields (bench.healthBytes 0) ≠ reportFields bench.hlt.report := by decide +kernel

/-! ## The pair and the witness -/

theorem witness_TowpathCommandsAct :
    (let s (tx : Nat) := towed { bench.tow with pair := .primary, link := some { peer := 1, live := true, txPn := tx } }
     (s 9).tow.link = some { peer := 1, live := true, txPn := 9 } ∧ (s 9).tow.pair = .primary ∧ (s 9).linkLive = true) ∧
    (towed { bench.tow with pair := .standby }).tow.pair = .standby ∧ (towed { bench.tow with pair := .syncing }).tow.pair = .syncing ∧
    (let s := towed { bench.tow with pair := .solo, syncing := true }
     s.tow.pair = .solo ∧ s.tow.syncing = true) := by decide +kernel

/-- A witness message of 128 bytes. -/
def message (edits : List (Nat × Byte)) : WitnessMsg := { via := none, bytes := bytesWith 128 edits }

theorem witness_LeaseOfPairActs :
    (let s (p : PairState) (kind : Nat) := towed { bench.tow with pair := p, witness := { bench.tow.witness with kind := kind } }
     (s .primary 2).tow.pair = .primary ∧ (s .primary 2).tow.witness.kind = 2 ∧ (s .seeking 1).tow.pair = .seeking ∧
       (s .seeking 1).tow.witness.kind = 1) ∧
    (let s (lease : Bool) (p : PairState) (kind : Nat) := towed { bench.tow with
        lease := lease, pair := p, witness := { bench.tow.witness with kind := kind } }
     ((s true .solo 2).tow.lease = true ∧ (s true .solo 2).tow.pair = .solo ∧ (s true .solo 2).tow.witness.kind ≠ 3) ∧
       ((s false .standby 3).tow.lease = false ∧ (s false .standby 3).tow.pair = .standby ∧
         (s false .standby 3).tow.witness.kind = 3) ∧
       (s false .seeking 3).tow.pair = .seeking ∧ (s false .solo 3).tow.pair = .solo ∧ (s true .primary 3).tow.pair = .primary ∧
       ((s true .standby 3).tow.pair ≠ .primary ∧ (s true .standby 3).tow.pair ≠ .solo)) ∧
    (bench.tow.beatsOut = [] ∧ (towed { bench.tow with beatsOut := [7, 8] }).tow.beatsOut ≠ []) ∧
    (let s := towed { bench.tow with pair := .standby, fence := some 9, lease := true }
     s.tow.lease = true ∧ s.tow.witness.kind ≠ 3 ∧ s.tow.pair = .standby ∧ s.tow.fence ≠ none) ∧
    (let s := towed { bench.tow with pair := .standby, claiming := true }
     s.tow.pair = .standby ∧ s.tow.claiming = true ∧ s.tow.fence = none ∧ s.tow.term < fld (message [(31, 1)]).bytes 24 8) ∧
    (towed { bench.tow with fence := some 9 }).tow.fence = some 9 ∧
    (let t : Towpath := { bench.tow with pair := .primary, link := some { peer := 1, live := true, ready := true, state := 2 } }
     let s : State := { towed t with ent := { bench.ent with noneSince := some 9 } }
     s.ent.noneSince = some 9 ∧ s.tow.pair = .primary ∧ s.standbyReady = true ∧ s.tow.switchover = false ∧
       meets pairSwitchoverVerb s (barge 0 (zeros 4))) ∧
    (let s := towed { bench.tow with switchover := true, pair := .primary }
     s.tow.switchover = true ∧ s.tow.pair = .primary) := by decide +kernel

/-- A record of a pair that this module is the witness of. -/
def witnessing (r : WitnessRec) : State := towed { bench.tow with witnessed := [(4, r)] }

theorem witness_WitnessCommandsAct :
    let r : WitnessRec := { term := 1, holder := 8, expiry := 0, renewed := 0, claim := some 9 }
    let given : WitnessRec := { r with standby := some (9, 0, 2, 0), released := true }
    (witnessing r).tow.witnessed.find (4 : W64).toNat = some r ∧ r.claim = some 9 ∧ r.released = false ∧
      (witnessing given).tow.witnessed.find (4 : W64).toNat = some given ∧ given.released = true ∧
      given.standby = some (9, 0, 2, 0) := by decide +kernel

/-! ## The domain -/

theorem witness_InterlinkCommandsAct :
    (let f : Forward := { session := 1, pn := 1, opcode := 0x0640, cls := 2, request := 7, deadline := 9 }
     (towed { bench.tow with forwards := [(3, f)] }).tow.forwards.find 3 = some f) ∧
    (let s (home basin gate : W64) := towed { bench.tow with
        directory := [(5, { home := home, generation := 0 })], pairId := 4, basinId := basin, gatePair := gate }
     (s 8 6 4).tow.directory.find 5 = some { home := 8, generation := 0 } ∧ (s 8 6 4).tow.directory.find 4 = none ∧
       (s 8 6 4).atGate = true ∧ (s 8 6 4).basinRoom 8 = true ∧
       (s 9 6 4).tow.directory.find 5 = some { home := 9, generation := 0 } ∧ (s 8 0 4).atGate = false ∧ (s 8 6 3).atGate = false ∧
       (let full : State := towed { (s 8 6 4).tow with
          directory := [], links := (List.range 63).map fun i => { peer := BitVec.ofNat 64 (100 + i), pairId := 4 } }
        full.basinRoom 8 = true ∧ (towed { full.tow with links := full.tow.links ++ [{ peer := 99, pairId := 4 }] }).basinRoom 9 = false)) := by decide +kernel

theorem witness_DomainCommandsAct :
    (let s (registrar : W64) := towed { bench.tow with registrar := registrar, pairId := 4, domainSeq := 1 }
     (s 3).cannotEnter 1 [] = false ∧ (s 4).cannotEnter 2 [] = false ∧ (s 4).cannotEnter 8 [] = false ∧
       (s 3).tow.registrar ≠ (s 3).tow.pairId ∧ (s 4).tow.registrar = (s 4).tow.pairId ∧ (s 4).tow.domainSeq = 1) ∧
    (let open_ : Ledger := { key := 1, limit := 2048, issued := 1024 }
     let s (ls : List Ledger) := towed { bench.tow with registrar := 4, pairId := 4, ledgers := ls }
     (s [open_]).tow.registrar = (s [open_]).tow.pairId ∧ ((s [open_]).ledgerFor 1 2048).1.cut 2048 = none ∧
       ((s []).ledgerFor 1 2048).1.cut 2048 =
         some (0, 1, { key := 1, limit := 2048, issued := 1, given := 2 })) ∧
    (let s := towed { bench.tow with units := [(1, 2, 3)], exhausted := [1] }
     (1, 2, 3) ∈ s.tow.units ∧ (1, 4, 5) ∉ s.tow.units ∧ (1 : W64) ∈ s.tow.exhausted ∧ (2 : W64) ∉ s.tow.exhausted) ∧
    (let a : Admission := { joiner := 0, digest := [], deadline := 9 }
     let s := towed { bench.tow with admissions := [a] }
     s.tow.admissions.find? (fun a => a.joiner == interlinkSender (zeros 32) && s.now < a.deadline) = some a ∧
       s.tow.admissions.find? (fun a => a.joiner == 0) = some a) ∧
    (let d := bytesWith 108 [(0, 0x44), (1, 0x58), (2, 0x48), (3, 0x4E), (4, 0x0A), (11, 76)]
     let s := towed { bench.tow with join := some (interlinkSender d, 1, [], []) }
     s.tow.join = some (interlinkSender d, 1, [], []) ∧ interlinkShape 0x0A d = true ∧ s.noSliceKeys = true) := by
  refine ⟨?_, ?_, ?_, ?_, ?_⟩ <;> decide +kernel

/-! ## Boot, the charter and the sentinel -/

/-- The charter as given. -/
def chartered (c : Charter) : State := { bench with ctr := c }

theorem witness_BootCommandsAct :
    (let w (a : Option Waiter) : LcWrite := { target := .scrap, slot := none, answer := a }
     let a : Waiter := { session := 1, pn := 1, opcode := 0x0901, cls := 2, request := 7, idem := (0, 0, 0) }
     (chartered { bench.ctr with writing := some (w none) }).ctr.writing = some (w none) ∧
       (chartered { bench.ctr with writing := some (w (some a)) }).ctr.writing = some (w (some a))) ∧
    (chartered { bench.ctr with resetAt := some 9 }).ctr.resetAt = some 9 ∧
    (let s := chartered { bench.ctr with state := .blank }
     s.ctr.state = .blank ∧ s.ctr.writing = none ∧ s.pwr.shutDown = false ∧ s.ctr.bootDone = true ∧ s.ctr.freeSlots ≠ []) ∧
    (let s := chartered { bench.ctr with dbgNormal := some 9 }
     [s.ctr.dbgNormal, s.ctr.dbgSecure, s.ctr.dbgArmed].filterMap (fun x => x.map BitVec.toNat) = [9]) ∧
    (let s : State := { chartered { bench.ctr with bootDone := false } with vlt := { bench.vlt with rootTries := 2 } }
     s.vlt.rootTries ≠ 0 ∧ s.vlt.rootTries < 3 ∧ s.ctr.bootDone = false ∧ (s.upTo s.vlt.rootAt).bothSources = false ∧
       (let t : State := { s with ent := { s.ent with ring := { state := .running }, latch := { state := .running } } }
        (t.upTo t.vlt.rootAt).bothSources = true ∧ (t.upTo t.vlt.rootAt).ctr.state ≠ .foundryTest ∧
          (t.upTo t.vlt.rootAt).ctr.state ≠ .returnTest ∧
          (({ t with ctr := { t.ctr with state := .foundryTest } } : State).upTo t.vlt.rootAt).ctr.state = .foundryTest)) ∧
    (State.reset.pwr.started = false ∧ State.reset.pwr.shutDown = false) ∧
    (let s : State := { bench with snt := { bench.snt with held := true } }
     s.snt.held = true ∧ s.snt.locked = false ∧ s.zeroisingCondition = false) := by decide +kernel

/-- A sensor with a condition as given. -/
def sensing (code : Nat) (f : Sensor → Sensor) : State := bench.modSensor code f

theorem witness_SentinelCommandsAct :
    let now (code : Nat) (f : Sensor → Sensor) := (sensing code f).sensor code
    let mains (on a b : Bool) : State := { bench with snt := { bench.snt with onMain := on, cellA := a, cellB := b } }
    logicAlarm 0x20 = true ∧ (logicAlarm 0x01 = false ∧ pairedSensor 0x01 = true) ∧ (logicAlarm 0x05 = false ∧ pairedSensor 0x05 = true) ∧
    (bench.snt.onMain = true ∧ (mains false true true).snt.onMain = false ∧ (sensorBound 0x01).2 ≠ none ∧ (sensorBound 0x05).2 = none) ∧
    ((bench.sensor 0x01).condition = false ∧ (bench.sensor 0x01).clearSince = none ∧ (bench.sensor 0x01).level = 3) ∧
    ((bench.sensor 0x04).condition = false ∧ (bench.sensor 0x04).clearSince = none ∧ (bench.sensor 0x04).level ≠ 3) ∧
    (now 0x04 fun x => { x with condition := true }).condition = true ∧
    ((now 0x04 fun x => { x with clearSince := some 0 }).clearSince = some 0 ∧ bench.now < 0 + (sensorBound 0x04).1) ∧
    ((bench.sensor 0x0B).condition = false ∧ (now 0x0B fun x => { x with condition := true }).condition = true ∧
      ((mains false true true).cellsReport true true).snt.onMain = false) ∧
    (let s : State := { bench with snt := { bench.snt with sensors := bench.snt.sensors.put 1 { code := 0, shadow := 0 } } }
     (s.upTo s.snt.scanAt).snt.corrupt = true) ∧
    (bench.upTo bench.snt.scanAt).snt.corrupt = false := by decide +kernel

/-! ## Power and observability -/

/-- The power stage as given. -/
def powered (p : Power) : State := { bench with pwr := p }

theorem witness_InputCommandsAct :
    (let s (down : Bool) (at_ : Option Nat) (mono : Nat) : State :=
       { powered { bench.pwr with inputOk := false, shutDown := down, downAt := at_ } with clk := { bench.clk with mono := mono } }
     ((s false none 0).pwr.inputOk = false ∧ (s false none 0).pwr.shutDown = false) ∧ (s true none 0).pwr.shutDown = true ∧
       ((s true (some 0) 1000000000).pwr.downAt = some 0 ∧ 0 + 1000000000 ≤ (s true (some 0) 1000000000).now) ∧
       ((s true (some 0) 60000000000).pwr.downAt = some 0 ∧ 0 + 60000000000 ≤ (s true (some 0) 60000000000).now) ∧
       (s true none 0).pwr.downAt = none) ∧
    (powered { bench.pwr with inputOk := true }).pwr.inputOk = true ∧
    ((powered { bench.pwr with outage := some (0, false) }).pwr.outage = some (0, false) ∧ bench.now ≤ 0 + 1000000) ∧
    (let s : State := { powered { bench.pwr with outage := some (0, false) } with clk := { bench.clk with mono := 1000001 } }
     s.pwr.outage = some (0, false) ∧ 0 + 1000000 < s.now) ∧
    bench.pwr.shutDown = false ∧ (powered { bench.pwr with shortL := true }).pwr.shortL = true := by decide +kernel

theorem witness_PowerCommandsAct :
    (let s := powered { bench.pwr with thermal := true, divisor := 2 }
     s.pwr.thermal = true ∧ s.pwr.divisor = 2) ∧
    (powered { bench.pwr with idle := some (1, 2) }).pwr.idle = some (1, 2) ∧ bench.pwr.started = true ∧
    (((bench.modDomain 31 fun x => { x with clockOff := true }).domain 31).stopped = true ∧ (bench.domain 31).stopped = false) ∧
    (((powered { bench.pwr with cages := [(2, { onAt := some 9 })] }).cage 2).onAt = some 9 ∧
      ((powered { bench.pwr with cages := [(0, { onAt := some 9 })] }).cage 0).onAt = some 9 ∧
      ((powered { bench.pwr with cages := [(2, { powered := true })] }).cage 2).powered = true ∧
      cageBudget 2 < 65535 ∧ 0 ≤ cageBudget 0 ∧ 0 ≤ cageBudget 2) ∧
    (bench.pwr.shutDown = false ∧ bench.pmAnswer 0x7E = some [0] ∧ bench.pmAnswer 0x7B = none) := by decide +kernel

theorem witness_ObservabilityCommandsAct :
    (let s (restarting : Bool) (dropped n : Nat) : State :=
       { bench with cor := { bench.cor with normalRestarting := restarting },
                    obs := { bench.obs with
                      dropped := dropped,
                      queue := List.replicate n { source := 1, count := 1, time := 0, asserted := true, merged := false, info := 0 } } }
     (s true 0 0).cor.normalRestarting = true ∧
       ((s false 1 1023).cor.normalRestarting = false ∧ (s false 1 1023).obs.dropped ≠ 0 ∧ (s false 1 1023).obs.queue.length < 1024) ∧
       ((s false 0 1).obs.dropped = 0 ∧ (s false 0 1).obs.queue ≠ []) ∧
       (1024 ≤ (s false 1 1024).obs.queue.length ∧ (s false 1 1024).obs.queue ≠ [])) ∧
    (5 < blockCounters 11 ∧ 7 < blockCounters 3) ∧ (bench.counter 3 0 0).cfg.toNat.testBit 29 = false ∧
    (let s (block : Nat) := bench.setCounter block 0 0 { cfg := 0x20000000 }
     ((s 3).counter 3 0 0).cfg.toNat.testBit 29 = true ∧ ((s 11).counter 11 0 0).cfg.toNat.testBit 29 = true) ∧
    ({ bench with clk := { bench.clk with leapFlag := 1 } } : State).clk.leapFlag ≠ 0 ∧ bench.clk.leapFlag = 0 := by decide +kernel

/-! ## Rules of the manual -/

theorem witness_SessionEndKeepsWork : bench.tow.foreign.find 1 = none := rfl

/-- An idempotency entry of slice 5. -/
def remembered (opcode : Nat) (result : Option (W16 × Bytes)) : State :=
  { bench with whf := { bench.whf with
      idem := [((5, 0, 3), { opcode := some opcode, digest := Config.sha384 [], result := result, expiry := 9 })] } }

theorem witness_RepeatsExecuteNothing :
    let b : Barge := { request 0x0640 [] with idem := 3 }
    let e (opcode : Nat) (result : Option (W16 × Bytes)) : IdemEntry :=
      { opcode := some opcode, digest := Config.sha384 (idemPayload b), result := result, expiry := 9 }
    let busy : State := { remembered 0x0640 none with whf := { (remembered 0x0640 none).whf with
      sessions := [(1, { oneSession with inProgress := [(7, 0)] })] } }
    (b.idem ≠ 0 ∧ sealPortOpcodes.contains b.opcode = false ∧ refillOpcodes.contains b.opcode = false) ∧
    (remembered 0x0640 none).idemEntry b.slice b.generation b.idem = some (e b.opcode none) ∧
    (remembered 0x0640 (some (stDone, []))).idemEntry b.slice b.generation b.idem = some (e b.opcode (some (stDone, []))) ∧
    ((remembered 0x0110 none).idemEntry b.slice b.generation b.idem = some (e 0x0110 none) ∧ (0x0110 : Nat) ≠ b.opcode) ∧
    intakeFail b (remembered 0x0640 none) = none ∧ intakeFail b (remembered 0x0640 (some (stDone, []))) = none ∧
    (busy.idemEntry b.slice b.generation b.idem = some (e b.opcode none) ∧ intakeFail b busy = some ⟨stBadFormat, []⟩) :=
  ⟨by decide, rfl, rfl, ⟨rfl, by decide⟩, by decide +kernel, by decide +kernel, rfl, by decide +kernel⟩

theorem witness_EraseRetires :
    let failing : State := vaulted { bench.vlt with badWrites := 3 }
    isTransit 3 = false ∧ bench.vlt.badWrites < 3 ∧ 3 ≤ failing.vlt.badWrites ∧ isTransit 65535 = true := by decide +kernel

theorem witness_RegionChangesAtOnce :
    bench.mayWrite (.core 0) true 0xC001C = true ∧ bench.channel (.core 0) 12 < 141 ∧
      (let w := bench.wakeRegister (.core 0) 0xC001C
       let u := w.channel (.core 0) 12
       let c := w.copies (.core 0)
       commitDropped (w.secureReader (.core 0)) (w.region u c.rsel) ((w.region u c.rsel).commit c.rbase c.rlast 0) = false) := by
  decide +kernel

/-- A slot with a counter. -/
def counting (next top : Nat) : State :=
  { bench with
    vlt := { bench.vlt with slots := [(3, { state := .active })] },
    eng := { bench.eng with counters := [(3, { next := next, top := top })] } }

theorem witness_CounterDraws :
    ((counting (2 ^ 48 - 1) (2 ^ 48 - 1)).counterOf (.slot 3)).map (·.next) = some (2 ^ 48 - 1) ∧
    ((counting (2 ^ 48) (2 ^ 48 - 1)).counterOf (.slot 3)).map (·.next) = some (2 ^ 48) ∧
    ((counting 5 9).counterOf (.slot 3)).map (·.next) = some 5 := by decide +kernel

theorem witness_DrawsAscend :
    ((counting 5 9).issue (.slot 3) 1 [] 0 9).2 = .ok 5 ∧
    (((counting 5 9).issue (.slot 3) 1 [] 0 9).1.issue (.slot 3) 1 [] 0 9).2 = .ok 6 := ⟨rfl, rfl⟩

theorem witness_FormatStorm :
    (within bench.now 1000000000 (bench.slice 5).storm ++ [bench.now]).length ≤ 1000 ∧
    (let s : State := { bench with cus := { bench.cus with
        slices := [(5, { state := .active, storm := List.replicate 1000 0, stormAt := some 0 })] } }
     1000 < (within s.now 1000000000 (s.slice 5).storm ++ [s.now]).length ∧ (s.slice 5).stormAt = some 0 ∧ s.now < 0 + 1000000000) ∧
    (bench.slice 5).stormAt = none := by decide +kernel

/-! ## Ill-formed commands are refused -/

theorem test_illFormed_requests :
    [Instr.readReg { barge 0 [] with session := 2 ^ 73 }, .readReg { barge 0 [] with pn := 2 ^ 64 },
     .readReg { barge 0 [] with slice := 4096 }, .readReg { barge 0 [] with cls := 4 }, .readReg { barge 0 [] with opcode := 65536 },
     .loReadLatch ⟨.core 64, true, 0⟩, .loReadLatch ⟨.core 0, true, 2 ^ 32⟩, .pop { kernelWrite 2 with reader := .core 64 },
     .pcntLoWrite (kernelWrite 2) 21].all (fun c => !c.wellFormed) = true := by decide +kernel

theorem test_illFormed_frames :
    [Instr.fabricAccess { holdRead 0 with unit := 141 }, .fabricAccess { holdRead 0 with address := 2 ^ 40 },
     .fabricAccess { holdRead 0 with length := 0 }, .fabricAccess { holdRead 0 with kind := .write },
     .hostFrameRx { cage := 3, bytes := [], fcsOk := true }, .arpRequest { cage := 0, vlan := none, sender := [], target := [], data := [] },
     .hostLinkUp 0 { modes := 256, fec := false }, .hostLinkUp 3 { modes := 0, fec := false }, .hostLinkDown 3 false,
     .anRestartTimeout 3, .helloC { gram 1 0 [] with source := [] }, .tlsHandshake { tls 24 with fgl := 3 }, .beaconTimer 3,
     .ptpMessage { ptp .sync false with cage := 3 }, .witnessAnswer { via := none, bytes := [] }].all (fun c => !c.wellFormed) = true := by
  decide +kernel

theorem test_illFormed_numbers :
    [Instr.idemEntryExpire 4096 0 0, .bargeTakeContext 32, .flightFault 32 .guard, .flightReturn 32, .sliceDrainDone 4096,
     .drainTimeout (.slice 4096), .sliceTransferAbandon 4096, .pendingSlotExpire 65536, .vaultSlotRestore 65536, .islandClockSettled 0,
     .bnkCoreFault 256 .guard, .bnkCoreReturn 256 true, .seedTimeout 256, .engineFault .shuffled 224 .guard, .engineReturn .masked 223 true,
     .periodicKat .hash 32 true, .engineFault .publicKey 32 .guard, .engineFault .lattice 8 .guard, .lmsTreeBuilt 3 0,
     .entSourceFail 2 false, .sourceRestartTimeout 2, .sourceStartupPass 2, .drbgReseed 113, .genPairFail 8, .gateRequestGrant 32,
     .leaseCeiling 32, .secureKernelException 64].all (fun c => !c.wellFormed) = true := by decide +kernel

theorem test_illFormed_supply :
    [Instr.start { cold := true, engines := [], flights := [32], generators := 0, sources := 0, badLines := 0 },
     .start { cold := true, engines := [(.lattice, 8)], flights := [], generators := 0, sources := 0, badLines := 0 },
     .start { cold := true, engines := [], flights := [], generators := 256, sources := 0, badLines := 0 },
     .start { cold := true, engines := [], flights := [], generators := 0, sources := 4, badLines := 0 },
     .sensorAlarm { code := 256, a := false, b := false, reading := 0, island := 0 },
     .sensorAlarm { code := 0, a := false, b := false, reading := 0, island := 0x16 }, .counterWrap 21 0 0, .counterWrap 0 6 0,
     .counterWrap 0 0 256, .inputQualified 65536, .holdupThreshold 65536, .cageInsert 3, .cagePowerOn 0 65536 false, .cagePowerOn 3 0 false,
     .cageInterrupt 0 256, .cageInterrupt 3 0, .pmbusRead 256, .pmbusWrite 256 [], .detectorDisagreement 256 false, .outageEnd 65536,
     .islandRelease 0x16, .blockWake 32, .ptpLockLost 3].all (fun c => !c.wellFormed) = true := by decide +kernel

theorem test_wellFormed_limits :
    [Instr.readReg { barge 4095 [] with session := 2 ^ 73 - 1, cls := 3 }, .loReadLatch ⟨.core 140, true, 0⟩, .bnkCoreFault 255 .guard,
     .engineFault .shuffled 223 .guard, .engineFault .masked 255 .guard, .drbgReseed 112, .islandRelease 0x15].all (·.wellFormed) = true := by
  decide +kernel

/-! ## Words and single steps -/

/-- No row of the opcode table has bits, so no word spells a command. -/
theorem test_no_word_spells_a_command : decodeTableWord 16 0x0110 = none := rfl

theorem test_fetch_word_changes_nothing : bench.withFetchWord 8 3 = bench := rfl

/-- The state a command leaves. -/
def after (i : Instr) (s : State) : State :=
  match exec i s with
  | .next t => t
  | _ => State.reset

/-- The example of R407: core 20 stores 16 bytes as a task across a page that fall-back entry 12 makes read-only. -/
theorem test_forbidden_page :
    let s : State := { bench with ixp := { bench.ixp with
      regions := [(20 * 32 + 5, { enable := true, normal := true, perms := 0x1B, first := 0x23000, last := 0x23400 })],
      fallback := [(12, { enable := true, normal := true, perms := 0x09, first := 0x23401, last := 0x237FF })],
      owners := [(0x23400, 0x8000), (0x23401, 0x8000)] } }
    let t := after (.fabricAccess { unit := 20, task := true, kind := .write, address := 0x23400FF8, length := 16, data := zeros 16,
                                    tag := none, barge := 0 }) s
    t.mem = [] ∧ t.ixp.normalQueue.reports.map (fun r => (fld r 0 8, fld r 8 4, fld r 12 4)) =
      [(0x23401000, 0x9C000010, 0x0014400C)] := by decide +kernel

/-- A slot whose epoch has reached its end is retired when it is erased (R13). -/
theorem test_erase_retires :
    (((vaulted { bench.vlt with slots := [(3, { state := .active, epoch := 0xFFFFF })] }).eraseSlot 3).slot 3).state = .retired := by
  decide +kernel

/-- The example of R138: after block 7 with block 8 readied, the draw of value 491,520 leaves the block in use as it is. -/
theorem test_half_spent_block :
    ((counting 491520 524287).issue (.slot 3) 1 [] 0 (2 ^ 64 - 1)).2 = .ok 491520 := rfl

/-- The example of R242: the format 4 PAN field of a 16-digit PAN. -/
theorem test_pan_field :
    panField 4 [5, 4, 3, 2, 1, 0, 9, 8, 7, 6, 5, 4, 3, 2, 1, 0] =
      [0x45, 0x43, 0x21, 0x09, 0x87, 0x65, 0x43, 0x21, 0, 0, 0, 0, 0, 0, 0, 0] := by decide +kernel

/-- The keeper's watchdog takes 0x5A5A first and then 0xA5A5 (R418). -/
theorem test_kicks_alternate :
    (after (.coreWdkick (kernelWrite 0xA5A5)) (after (.coreWdkick (kernelWrite 0x5A5A)) bench)).cor.restarting = false ∧
    bench.cor.keeperDog.expects = 0x5A5A := by decide +kernel

/-- A gated domain is off at once, and a restore brings it back (R412, R417). -/
theorem test_gate_and_restore :
    let s := after (.pwrOff (kernelWrite 3)) (domain3 {})
    (s.domain 3).powerOff = true ∧ ((after (.gatereqRestore (kernelWrite 3)) s).domain 3).powerOff = false := by decide +kernel

/-- An outage of more than 1 ms shuts the module down (R502, R504). -/
theorem test_outage_shuts_down :
    (after .outageTimeout (after (.inputOutage false) (powered { bench.pwr with inputOk := true }))).pwr.shutDown = true := by
  decide +kernel

/-- A cage over its budget is held and its link comes down (R521). -/
theorem test_cage_over_budget :
    ((after (.cagePowerOn 0 (cageBudget 0 + 1) false) (powered { bench.pwr with cages := [(0, { onAt := some 9 })] })).cage 0).exceeds = true := by
  decide +kernel

/-- The worked encodings of guarded bytes under R8, and its two words that are never valid. -/
theorem test_guarded_bytes :
    [0x00, 0x01, 0x5A, 0xFF].map guarded = [0x200, 0x301, 0x25A, 0x2FF] ∧ guardHolds 0 = false ∧ guardHolds 0x3FF = false := by
  decide

end Sys2Proof.Tests
end

/-! The verb families (R22): what a verb's row does for a request that is taken in, and where dual control stands among its checks
(R84, R93, R107). -/

namespace Sys2Proof.Machine

/-! ## A row of a verb serves it -/

/-- The first check that fails is the first of a list, or else the first of the rest. -/
theorem firstFail_cons (a : Option Reply) (l : List (Option Reply)) : firstFail (a :: l) = a.or (firstFail l) := by
  cases a <;> rfl

theorem serve_of_takesIn {v : Verb} {b : Barge} {s : State} (h : v.takesIn b s) :
    serve v b s = (s.busyWith (v.served b)).finish v (v.served b) := by
  obtain ⟨hrun, hroom, hopen⟩ := h
  have hopcode : (v.served b).opcode = v.opcode := rfl
  show intake (v.served b) s _ (fun s => s.finish v (v.served b)) = _
  simp only [intake, hroom, hrun, hopcode, hopen, Bool.false_eq_true, if_false]

theorem servesRow_of_verbStep {row : Barge → Instr} {v : Verb} (hrow : ∀ b s, exec (row b) s = verbStep v b s) :
    servesRow row v := by
  intro b s h
  refine ⟨fun hgate => ?_, fun r hgate => ?_⟩ <;> rw [hrow, verbStep, serve_of_takesIn h]
  · simp only [State.finish, runVerb, hgate, Option.isNone_none, Bool.true_and]
    rfl
  · simp only [State.finish, runVerb, hgate, Effect.starved, bne_self_eq_false, Option.isNone_some, Bool.false_and,
      Bool.false_eq_true, if_false]
    rfl

/-- Settles O10: every row of sessions is its verb's step. -/
theorem sessionVerbsServe : Obligations.SessionVerbsServe := by
  unfold Obligations.SessionVerbsServe
  and_intros <;> exact servesRow_of_verbStep fun _ _ => rfl

/-- Settles O11: every row of custody and slices is its verb's step. -/
theorem custodyVerbsServe : Obligations.CustodyVerbsServe := by
  unfold Obligations.CustodyVerbsServe
  and_intros <;> exact servesRow_of_verbStep fun _ _ => rfl

/-- Settles O12: every row of the key store is its verb's step. -/
theorem keyStoreVerbsServe : Obligations.KeyStoreVerbsServe := by
  unfold Obligations.KeyStoreVerbsServe
  and_intros <;> exact servesRow_of_verbStep fun _ _ => rfl

/-- Settles O13: every row of storage is its verb's step. -/
theorem storageVerbsServe : Obligations.StorageVerbsServe := by
  unfold Obligations.StorageVerbsServe
  and_intros <;> exact servesRow_of_verbStep fun _ _ => rfl

/-- Settles O14: every row of payment is its verb's step. -/
theorem paymentVerbsServe : Obligations.PaymentVerbsServe := by
  unfold Obligations.PaymentVerbsServe
  and_intros <;> exact servesRow_of_verbStep fun _ _ => rfl

/-- Settles O15: every row of the engines is its verb's step. -/
theorem engineVerbsServe : Obligations.EngineVerbsServe := by
  unfold Obligations.EngineVerbsServe
  and_intros <;> exact servesRow_of_verbStep fun _ _ => rfl

/-- Settles O16: every row of the pair, the basin and the domain is its verb's step. -/
theorem pairVerbsServe : Obligations.PairVerbsServe := by
  unfold Obligations.PairVerbsServe
  and_intros <;> exact servesRow_of_verbStep fun _ _ => rfl

/-- Settles O17: every row of the charter and the sentinel is its verb's step. -/
theorem charterVerbsServe : Obligations.CharterVerbsServe := by
  unfold Obligations.CharterVerbsServe
  and_intros <;> exact servesRow_of_verbStep fun _ _ => rfl

/-- Settles O18: every row of the chart is its verb's step. -/
theorem chartVerbsServe : Obligations.ChartVerbsServe := by
  unfold Obligations.ChartVerbsServe
  and_intros <;> exact servesRow_of_verbStep fun _ _ => rfl

/-- Settles O19: every row of observability is its verb's step. -/
theorem observabilityVerbsServe : Obligations.ObservabilityVerbsServe := by
  unfold Obligations.ObservabilityVerbsServe
  and_intros <;> exact servesRow_of_verbStep fun _ _ => rfl

/-! ## Dual control (R84, R107) -/

/-- The checks of R22 are those before dual control, then dual control's own, then the rest. -/
theorem gate_eq_beforeBallot_or (v : Verb) (b : Barge) (s : State) :
    gate v b s = (v.beforeBallot b s).or (firstFail [quorumFail v b s, frozenFail v b s, soloFail v b s,
      (s.runningRecord b.opcode).bind fun r => policyTable r b s]) := by
  simp only [gate, policyFail, Verb.beforeBallot, firstFail_cons, Option.or_assoc, firstFail, Option.or_none]

theorem needsBallot_of_servesRow {row : Barge → Instr} {v : Verb} (h : servesRow row v) : needsBallot row v := by
  intro b s r hin
  refine ⟨fun c hc => (h b s hin).2 c ?_, fun hc hrole => (h b s hin).2 _ ?_⟩
  · rw [gate_eq_beforeBallot_or, hc, Option.some_or]
  · rw [gate_eq_beforeBallot_or, hc, Option.none_or, firstFail_cons, quorumFail, hrole, Option.some_or]

/-! ## BALLOT_EXECUTE (R93) -/

/-- The payload that a digest-bound ballot takes is the one presented; an inline ballot has its own (R90, R93). -/
def Ballot.payloadFits (x : Ballot) (p : Bytes) : Prop :=
  x.pflags % 2 = 0 ∨ p.length = x.length ∧ fit 48 (Config.sha384 p) = fit 48 x.payload

/-- The target of a ballot has moved on since it was proposed (R93, R100). -/
def State.ballotStale (s : State) (x : Ballot) : Prop :=
  s.bound x.opcode x.target ≠ x.generation ∨ bindsOf x.opcode = .slice ∧ (s.slice x.target).acts ≠ x.acts

/-- The state on which a verb's work for a request runs: the request is in progress and the draws are the verb's own. -/
def Verb.workState (v : Verb) (b : Barge) (s : State) : State := (s.busyWith (v.served b)).drawAs v.drawer

/-- The inner request of a ballot that runs: the checks of a direct arrival decide, and then its verb's own work (step 4 of R93). -/
def State.innerEffect (s : State) (b : Barge) (x : Ballot) (v : Verb) : Effect :=
  let inner := executedBarge b s x
  match firstFail [must (targetFits x.opcode x.target false inner.payload) stBadFormat, innerGate v inner s] with
  | some r => { st := s, reply := r }
  | none => v.workFrom inner 111 s

theorem Ballot.payloadFits.not_refused {x : Ballot} {p : Bytes} (h : x.payloadFits p) :
    ¬(x.pflags % 2 = 1 ∧ ¬(p.length = x.length ∧ fit 48 (Config.sha384 p) = fit 48 x.payload)) := by
  rintro ⟨hdigest, hno⟩
  exact h.elim (fun hinline => by omega) hno

theorem State.executeBallot_of_stale {b : Barge} {s : State} {id : Nat} {x : Ballot} {v : Verb}
    (hp : x.payloadFits (sl b.payload 12 (fld b.payload 8 2))) (hstale : s.ballotStale x) :
    s.executeBallot b id x v =
      { st := s.endBallot id x .void, reply := ⟨stBallotStale, be 4 (s.bound x.opcode x.target).toNat⟩,
        touch := [.ballot id true] } := by
  rw [State.executeBallot, if_neg hp.not_refused, if_pos (show _ ∨ _ from hstale)]

theorem State.executeBallot_of_allowed {b : Barge} {s : State} {id : Nat} {x : Ballot} {v : Verb}
    (hp : x.payloadFits (sl b.payload 12 (fld b.payload 8 2))) (hstale : ¬s.ballotStale x)
    (hstate : v.state (executedBarge b s x) s = none) (hrole : x.opcode ≠ 0x0206 ∨ s.roleBelow = none) :
    s.executeBallot b id x v = finishBallot s id x (s.innerEffect b x v) := by
  have hquorum : (if x.opcode = 0x0206 then s.roleBelow else none) = none := by
    split
    · exact hrole.resolve_left (not_not_intro ‹_›)
    · rfl
  rw [State.executeBallot, if_neg hp.not_refused, if_neg (show ¬(_ ∨ _) from hstale), hstate, hquorum]
  rfl

theorem ballotExecuteVerb_run_of_named {b : Barge} {s : State} {id : Nat} {x : Ballot} {v : Verb}
    (hn : namedBallot b s = some (id, x)) (hv : baseVerb x.opcode = some v) :
    ballotExecuteVerb.run b s = s.executeBallot b id x v := by
  simp only [ballotExecuteVerb, hn, hv]

/-- A BALLOT_EXECUTE of a named ballot that passes its checks does the ballot's work. -/
theorem exec_ballotExecute {b : Barge} {s : State} {id : Nat} {x : Ballot} {v : Verb} {e : Effect}
    (h : ballotExecuteVerb.takesIn b s)
    (hgate : gate ballotExecuteVerb (ballotExecuteVerb.served b) (s.busyWith (ballotExecuteVerb.served b)) = none)
    (hn : namedBallot (ballotExecuteVerb.served b) (ballotExecuteVerb.workState b s) = some (id, x))
    (hv : baseVerb x.opcode = some v)
    (he : (ballotExecuteVerb.workState b s).executeBallot (ballotExecuteVerb.served b) id x v = e) :
    exec (.ballotExecute b) s =
      .next (ballotExecuteVerb.goesOn b s { e with st := e.st.drawAs (s.busyWith (ballotExecuteVerb.served b)).ent.drawer }) := by
  have hserves : servesRow .ballotExecute ballotExecuteVerb := servesRow_of_verbStep fun _ _ => rfl
  have hrun := (ballotExecuteVerb_run_of_named hn hv).trans he
  rw [Verb.workState] at hrun
  rw [(hserves b s h).1 hgate, Verb.workFrom, hrun]

/-- Settles O20: dual control stands between the earlier checks and the rest, and an execution runs the ballot's own work. -/
theorem dualControlNeedsBallot : Obligations.DualControlNeedsBallot := by
  unfold Obligations.DualControlNeedsBallot
  and_intros
  rotate_right
  · intro b s id x v h c u w done p inner stale hgate hn hv hp
    exact ⟨fun hstale => exec_ballotExecute h hgate hn hv (State.executeBallot_of_stale hp hstale),
      fun hstale hstate hrole => exec_ballotExecute h hgate hn hv (State.executeBallot_of_allowed hp hstale hstate hrole)⟩
  all_goals exact needsBallot_of_servesRow (servesRow_of_verbStep fun _ _ => rfl)

end Sys2Proof.Machine

/-! Vault slots as an erasure leaves them (R13, R125, R130), and register reads and writes by a reader that has the right (R24 to R28,
R56, R491). -/

namespace Sys2Proof.Machine

/-! ## Vault slots (R13, R125, R130) -/

theorem State.slot_writeSlot_ne (s : State) {i j : Nat} (x : Slot) (h : j ≠ i) : (s.writeSlot i x).slot j = s.slot j := by
  unfold State.writeSlot
  dsimp only
  split
  · exact State.slot_setSlot_ne s i j _ h
  · split
    · rfl
    · exact State.slot_setSlot_ne s i j _ h

theorem State.slot_writeSlot_of_stores (s : State) {i : Nat} (x : Slot) (h : isTransit i = true ∨ s.vlt.badWrites < 3) :
    (s.writeSlot i x).slot i = { x with tag := s.slotTag i x } := by
  unfold State.writeSlot
  dsimp only
  split
  · exact State.slot_setSlot s i _
  · rename_i htransit
    rw [if_neg (Nat.not_le.2 (h.resolve_left htransit))]
    exact State.slot_setSlot s i _

theorem State.writeSlot_of_readBackFails (s : State) {i : Nat} (x : Slot) (ht : isTransit i = false) (h : 3 ≤ s.vlt.badWrites) :
    s.writeSlot i x =
      { s with vlt := { s.vlt with badWrites := s.vlt.badWrites - 3, imageFaults := s.vlt.imageFaults + 1 } } := by
  simp [State.writeSlot, ht, h]

theorem State.writeSlot_eng (s : State) (i : Nat) (x : Slot) : (s.writeSlot i x).eng = s.eng := by
  unfold State.writeSlot
  dsimp only
  (repeat' split) <;> rfl

/-- Settles O59: an erasure is one write of the slot, whose read-back decides what stands. -/
theorem eraseRetires : Obligations.EraseRetires := by
  unfold Obligations.EraseRetires
  intro s i t
  refine ⟨?_, fun j hj => ?_, fun hstores => ?_, fun htransit hbad => ?_⟩
  · show (State.writeSlot _ i _).eng.counters.find i = none
    rw [State.writeSlot_eng]
    exact Map.find_del_self ..
  · exact State.slot_writeSlot_ne _ _ hj
  · have ht : t.slot i = _ := State.slot_writeSlot_of_stores _ _ hstores
    rw [ht]
    exact ⟨rfl, rfl, rfl⟩
  · have ht : t = _ := State.writeSlot_of_readBackFails _ _ htransit hbad
    rw [ht]
    exact ⟨rfl, rfl⟩

/-! ## Registers (R24, R26, R28, R56, R491) -/

/-- Settles O24: each of the three register functions asks first whether the selection lies beyond. -/
theorem beyondLastInstance : Obligations.BeyondLastInstance := by
  unfold Obligations.BeyondLastInstance
  intro s r addr v hbeyond hoff
  refine ⟨?_, ?_, ?_⟩
  · simp [State.registerValue, hoff, hbeyond]
  · simp [State.writeRegister, hoff, hbeyond]
  · simp [State.afterRead, hbeyond]

theorem exec_loReadLatch_core {s : State} {n : Nat} {k : Bool} {addr : Nat} (haddr : registerAddress addr = true)
    (hright : s.mayRead (.core n) k addr = true) :
    exec (.loReadLatch ⟨.core n, k, addr⟩) s = .next (((s.wakeRegister (.core n) addr).afterRead (.core n) addr).emit
      (.access n true (be 4 ((s.wakeRegister (.core n) addr).registerValue (.core n) addr)))) := by
  show execLoReadLatch _ s = _
  simp [execLoReadLatch, haddr, State.readRegister, hright]

theorem exec_loReadLatch_session {s : State} {n : Nat} {k : Bool} {addr : Nat} (haddr : registerAddress addr = true)
    (hright : s.mayRead (.session n) k addr = true) :
    exec (.loReadLatch ⟨.session n, k, addr⟩) s = .next ((s.wakeRegister (.session n) addr).afterRead (.session n) addr) := by
  show execLoReadLatch _ s = _
  simp [execLoReadLatch, haddr, State.readRegister, hright]

theorem exec_pcntLoWrite {s : State} {x : RegWrite} {block : Nat} (hblock : blockCounters block ≠ 0)
    (hright : s.mayWrite x.reader x.kernel (block * 65536 + 0x88) = true) :
    exec (.pcntLoWrite x block) s = .next (if s.beyond x.reader block = true then s
      else (s.wakeRegister x.reader (block * 65536 + 0x88)).writeSite x.reader block (s.channel x.reader block) 0x88 x.value) := by
  show execPcntLoWrite x block s = _
  simp only [execPcntLoWrite, hblock, hright, if_false, Bool.not_true, Bool.false_eq_true]
  split <;> rfl

/-- A write of PCNT_LO reaches the selected counter where the site has it (R491). -/
theorem State.writeSite_pcntLo (s : State) (r : Reader) (block i : Nat) (v : W32) :
    s.writeSite r block i 0x88 v =
      if blockCounters block ≤ s.counterSel r block then s else s.writePcnt r block i (s.counterSel r block) v := by
  simp [State.writeSite]

theorem State.linkcfgBy_of_right {s : State} {x : RegWrite} (hright : s.mayWrite x.reader x.kernel 0x10010 = true)
    (f : State → Nat → State) :
    s.linkcfgBy x f = if 3 ≤ s.channel x.reader 1 then s else f (s.wakeRegister x.reader 0x10010) (s.channel x.reader 1) := by
  simp [State.linkcfgBy, hright, State.beyond, blockInstances]

/-! ### WHF_LINKCFG (R56) -/

theorem State.resetPcs_of_set (s : State) (c : Nat) {v : W32} (h : v.toNat.testBit 10 = true) :
    s.resetPcs c v = s.retrain c := by
  simp [State.resetPcs, h]

theorem State.resetPcs_of_clear (s : State) (c : Nat) {v : W32} (h : v.toNat.testBit 10 = false) : s.resetPcs c v = s := by
  simp [State.resetPcs, h]

theorem State.writeLinkcfg_of_set (s : State) (c : Nat) {v : W32} (h : v.toNat.testBit 10 = true) :
    s.writeLinkcfg c v = s.retrain c := by
  simp [State.writeLinkcfg, h, State.resetPcs_of_set]

theorem State.writeLinkcfg_towpath (s : State) {v : W32} (h : v.toNat.testBit 10 = false) : s.writeLinkcfg 2 v = s := by
  simp [State.writeLinkcfg, State.resetPcs_of_clear s 2 h]

theorem State.writeLinkcfg_host (s : State) {c : Nat} {v : W32} (hc : c ≠ 2) (h : v.toNat.testBit 10 = false) :
    s.writeLinkcfg c v = (s.modLink c fun l => { l with cfg := v &&& 0xBFF }).retrain c := by
  simp [State.writeLinkcfg, hc, h, linkMask]

/-- Settles O21: each command by the equation of its access with the right, then by its register's own cases. -/
theorem registerCommandsAct : Obligations.RegisterCommandsAct := by
  unfold Obligations.RegisterCommandsAct
  refine ⟨?_, ?_, ?_⟩
  · intro s r k addr haddr hright w
    constructor
    · rintro n rfl
      exact exec_loReadLatch_core haddr hright
    · rintro n rfl
      exact exec_loReadLatch_session haddr hright
  · intro s x block hblock hright w i n
    rw [exec_pcntLoWrite hblock hright, State.writeSite_pcntLo]
    refine ⟨fun hin hn => ?_, fun hin hn => ?_, fun hbeyond => ?_⟩
    · rw [hin, if_neg Bool.false_ne_true, if_neg (Nat.not_le.2 hn)]
      rfl
    · rw [hin, if_neg Bool.false_ne_true, if_pos hn]
    · rw [hbeyond, if_pos rfl]
  · intro s x hright w c
    have hlink : exec (.whfLinkcfgWrite x) s = .next (if 3 ≤ c then s else w.writeLinkcfg c x.value) :=
      congrArg _ (State.linkcfgBy_of_right hright _)
    have hpcs : exec (.resetPcs x) s = .next (if 3 ≤ c then s else w.resetPcs c x.value) :=
      congrArg _ (State.linkcfgBy_of_right hright _)
    rw [hlink, hpcs]
    refine ⟨fun hc hbit => ?_, fun hc hbit => ?_, fun hc hbit => ?_, fun hc hbit => ?_, fun hc => ?_⟩
    · rw [if_neg (by omega), State.writeLinkcfg_host w (by omega) hbit]
    · rw [if_neg (by omega), if_neg (by omega), State.writeLinkcfg_of_set w c hbit, State.resetPcs_of_set w c hbit]
      exact ⟨rfl, rfl⟩
    · rw [if_neg (by omega), State.resetPcs_of_clear w c hbit]
    · rw [if_neg (by omega), hc, State.writeLinkcfg_towpath w hbit]
    · rw [if_pos hc, if_pos hc]
      exact ⟨rfl, rfl⟩

end Sys2Proof.Machine

/-! Admission by the lock keeper, and flights in and out of service (R161, R166, R377). -/

namespace Sys2Proof.Machine

/-! ## Admission (R71, R161, R165, R377) -/

/-- A barge of this pair's own slices, or one forwarded to it, is not sent on (R375, R377). -/
theorem State.not_sentOn {s : State} {r : BargeRec}
    (hown : s.forwardHome r.barge.slice = none ∨ s.tow.foreign.find r.barge.session ≠ none) :
    ((s.forwardHome r.barge.slice).isSome && (s.tow.foreign.find r.barge.session).isNone) = false := by
  rcases hown with h | h
  · simp [h]
  · simp [Option.isSome_iff_ne_none.2 h]

section Admission
variable {s : State} {n : Nat} {r : BargeRec} (hfind : s.flt.barges.find n = some r) (harrived : r.stage = .arrived)
  (hopen : s.holdsAdmission r.barge.opcode = false)
include hfind harrived hopen

theorem exec_bargeAdmit_elsewhere {home : W64} (hhome : s.forwardHome r.barge.slice = some home)
    (hforeign : s.tow.foreign.find r.barge.session = none) :
    exec (.bargeAdmit n) s = .next ((s.dropBarge n).forward r.barge home (bargeRecord r.barge)) := by
  show execBargeAdmit n s = _
  simp [execBargeAdmit, State.sendOn, hfind, harrived, hopen, hhome, hforeign]

variable (hown : s.forwardHome r.barge.slice = none ∨ s.tow.foreign.find r.barge.session ≠ none)
include hown

theorem exec_bargeAdmit_refilled {reply : Reply} (hstored : s.storedResult r.barge = some reply) :
    exec (.bargeAdmit n) s = .next (s.answerRefill n r reply) := by
  show execBargeAdmit n s = _
  simp [execBargeAdmit, hfind, harrived, hopen, State.not_sentOn hown, hstored]

/-- With no stored result the opcode decides first, then its floor, then the checks of admission (R161). -/
theorem exec_bargeAdmit_checked (hstored : s.storedResult r.barge = none) :
    exec (.bargeAdmit n) s = .next (
      if assigned r.barge.opcode = false then s.endBarge n ⟨stBadFormat, []⟩
      else (darkFail r.barge.opcode s).elim (s.checkAdmission n r) (s.endBarge n)) := by
  show execBargeAdmit n s = _
  simp only [execBargeAdmit, hfind, harrived, hopen, State.not_sentOn hown, hstored, ne_eq, not_true_eq_false, decide_false,
    Bool.or_self, Bool.false_eq_true, if_false]
  cases assigned r.barge.opcode <;> cases darkFail r.barge.opcode s <;> rfl

end Admission

theorem State.checkAdmission_of_ineligible {s : State} {n : Nat} {r : BargeRec}
    (h : s.ineligible r.barge (s.groupFor s.cht.bank r.barge.opcode) = true) :
    s.checkAdmission n r =
      (s.modClass r.barge.cls fun c => { c with inelig := c.inelig + 1 }).endBarge n ⟨stIneligible, []⟩ := by
  simp only [State.checkAdmission, h, if_true, State.refuseBarge]

theorem State.checkAdmission_of_restarting {s : State} {n : Nat} {r : BargeRec}
    (heligible : s.ineligible r.barge (s.groupFor s.cht.bank r.barge.opcode) = false) (hc0 : r.barge.cls = 0)
    (hrestart : s.cor.restarting = true) : s.checkAdmission n r = s.endBarge n ⟨stRestarting, []⟩ := by
  simp [State.checkAdmission, heligible, hc0, hrestart, State.refuseBarge]

/-- An eligible barge that no restart refuses needs a charge, then room in a pound (R161). -/
theorem State.checkAdmission_of_served {s : State} {n : Nat} {r : BargeRec}
    (heligible : s.ineligible r.barge (s.groupFor s.cht.bank r.barge.opcode) = false)
    (hserved : r.barge.cls ≠ 0 ∨ s.cor.restarting = false) :
    let group := s.groupFor s.cht.bank r.barge.opcode
    let charge := s.chargeOf s.cht.bank r.barge
    let full := (s.countFull r.barge.cls r.barge.slice).endBarge n ⟨stClassFull, []⟩
    s.checkAdmission n r = (s.grant r.barge group charge).elim full fun g =>
      (s.place r.barge g.1 group).elim full fun f => s.admitBarge n r group charge g.1 f g.2 := by
  intro group charge full
  have hkeeper : (r.barge.cls == 0 && s.cor.restarting) = false := by
    rcases hserved with h | h <;> simp [h]
  simp only [State.checkAdmission, heligible, hkeeper, Bool.false_eq_true, if_false]
  cases hgrant : s.grant r.barge group charge with
  | none => rfl
  | some g =>
    dsimp only [Option.elim_some]
    cases s.place r.barge g.1 group <;> rfl

/-! ## Flights (R148, R166) and the wait for a lease (R137) -/

theorem exec_bargeTakeContext {s : State} {f n k : Nat} {r : BargeRec} (hf : f < 32) (hup : s.flightUp f = true)
    (hfree : s.contexts f < 16) (hnext : s.nextBarge f = some ((n, r), k)) :
    exec (.bargeTakeContext f) s = .next (s.enterContext n r k) := by
  show execBargeTakeContext f s = _
  simp [execBargeTakeContext, hup, hnext, Nat.not_lt.2 (Nat.le_of_lt_succ hf), Nat.not_le.2 hfree]

theorem exec_flightReturn {s : State} {f : Nat} (hf : f < 32) (hdown : (s.flight f).inService = false)
    (hreturns : (s.flight f).out = false) :
    exec (.flightReturn f) s = .next (s.modFlight f fun x => { x with inService := true }).refreshReady := by
  show execFlightReturn f s = _
  simp [execFlightReturn, hdown, hreturns, Nat.not_lt.2 (Nat.le_of_lt_succ hf)]

theorem exec_leaseWaitTimeout {s : State} {n t : Nat} {r : BargeRec} (hfind : s.flt.barges.find n = some r)
    (hwait : r.leaseWait = some t) : exec (.leaseWaitTimeout n) s = .next ((s.upTo t).endBarge n ⟨stMirror, []⟩) := by
  show execLeaseWaitTimeout n s = _
  simp [execLeaseWaitTimeout, hfind, hwait]

/-- The faults of a flight within the last second, with the one that comes now (R166). -/
def State.faultTimes (s : State) (f : Nat) : List Nat := within s.now 1000000000 (s.flight f).faults ++ [s.now]

/-- A flight goes out of service by a fault: its barges end and its pound moves (R166). -/
def State.flightDown (s : State) (f : Nat) (cause : FlightCause) : State :=
  (((s.modFlight f fun x => { x with
      inService := false, fault := x.fault ||| flightBit cause, faults := s.faultTimes f,
      out := (s.flight f).out || decide (3 ≤ (s.faultTimes f).length) }).countFault.raise
    64 f 0xFFFF stFault.toNat (flightBit cause).toNat).abortBarges
      (fun r => r.stage == .context && r.flight == f) stFault).movePound f

/-- A fault that puts a flight out for good raises its condition; one that does not, or of a flight already out, raises none. -/
theorem exec_flightFault {s : State} {f : Nat} (hf : f < 32) (cause : FlightCause) :
    exec (.flightFault f cause) s = .next (
      if 3 ≤ (s.faultTimes f).length ∧ (s.flight f).out = false
        then ((s.flightDown f cause).level 65 true f 0xFFFF 0 0).refreshReady
        else (s.flightDown f cause).refreshReady) := by
  show execFlightFault f cause s = _
  rw [execFlightFault, if_neg (Nat.not_lt.2 (Nat.le_of_lt_succ hf))]
  have hfresh : (((s.flight f).out || decide (3 ≤ (s.faultTimes f).length)) && !(s.flight f).out) =
      decide (3 ≤ (s.faultTimes f).length ∧ (s.flight f).out = false) := by
    cases (s.flight f).out <;> simp
  show Host.Outcome.next (State.refreshReady (if (((s.flight f).out || decide (3 ≤ (s.faultTimes f).length)) &&
    !(s.flight f).out) = true then (s.flightDown f cause).level 65 true f 0xFFFF 0 0 else s.flightDown f cause)) = _
  rw [hfresh, apply_ite State.refreshReady]
  simp only [decide_eq_true_eq]

/-- Settles O34: the checks of admission in their order, then one lemma for each other command. -/
theorem lockKeeperCommandsAct : Obligations.LockKeeperCommandsAct := by
  unfold Obligations.LockKeeperCommandsAct
  refine ⟨?_, fun f n k r s => exec_bargeTakeContext, ?_, fun f s => exec_flightReturn, fun n t r s => exec_leaseWaitTimeout⟩
  · intro n r s hfind harrived hopen own
    have hchecked (hown : own) := exec_bargeAdmit_checked hfind harrived hopen hown
    refine ⟨fun home => exec_bargeAdmit_elsewhere hfind harrived hopen,
      fun reply hown => exec_bargeAdmit_refilled hfind harrived hopen hown, fun hown hstored hcode => ?_,
      fun reply hown hstored hcode hdark => ?_, fun hown hstored hcode hdark => ?_⟩
    · rw [hchecked hown hstored, if_pos hcode]
    · rw [hchecked hown hstored, hcode, if_neg (by decide), hdark]
      rfl
    · intro b group charge
      rw [hchecked hown hstored, hcode, if_neg (by decide), hdark, Option.elim_none]
      refine ⟨fun hinel => ?_, fun hel => ⟨fun hc0 hrestart => ?_, fun hserved => ?_⟩⟩
      · rw [State.checkAdmission_of_ineligible hinel]
      · rw [State.checkAdmission_of_restarting hel hc0 hrestart]
      · rw [State.checkAdmission_of_served hel hserved]
        refine ⟨fun hgrant => ?_, fun cls drawn hgrant => ⟨fun hplace => ?_, fun f hplace => ?_⟩⟩
        · rw [hgrant, Option.elim_none]
        · rw [hgrant, Option.elim_some, hplace, Option.elim_none]
        · rw [hgrant, Option.elim_some, hplace, Option.elim_some]
  · intro f cause s hf times out t
    rw [exec_flightFault hf]
    constructor
    · intro hno
      have hnew : ¬(3 ≤ times.length ∧ (s.flight f).out = false) := by
        rintro ⟨hthird, hin⟩
        exact hno.elim (fun hout => absurd hin (by simp [hout])) (Nat.not_lt.2 hthird)
      exact congrArg _ (if_neg hnew)
    · intro hin hthird
      exact congrArg _ (if_pos ⟨hthird, hin⟩)

end Sys2Proof.Machine

/-! The steps of a barge at the locks of its flight, and its way back from a core queue (R147 to R153). -/

namespace Sys2Proof.Machine

/-! ## The steps of a barge (R147, R150, R153) -/

/-- KEYFETCH wakes the vault, and the hold for a barge that selects a KEK (R33). -/
def State.wakeForKeys (s : State) (r : BargeRec) : State :=
  if (kekSelectors r.barge).isEmpty = true then s.wakeDomain 3 else (s.wakeDomain 3).wakeDomain 4

/-- How a barge stands after a fetch: it waits, ends, or passes the lock with the last key of its step (R147). -/
def FetchResult.goOn (n : Nat) (r : BargeRec) : FetchResult → State
  | .wait t => t
  | .ends t reply => t.endBarge n reply
  | .ok t => if (t.recordFor r).isSome = true ∨ t.fetchLeft n = false then t.pass n else t

section Steps
variable {s : State} {n : Nat} {r : BargeRec} (hfind : s.flt.barges.find n = some r)
include hfind

/-! ### PARSE and POLICY -/

theorem exec_parseStep (hturn : s.turn n r 0 = true) :
    exec (.parseStep n) s = .next
      ((firstFail [s.fieldFail r, (verbOf r.barge.opcode).bind fun v => parseFail v r.barge s]).elim (s.pass n) (s.endBarge n)) := by
  show execParseStep n s = _
  simp only [execParseStep, hfind, hturn, Bool.not_true, Bool.false_eq_true, if_false]
  cases firstFail [s.fieldFail r, (verbOf r.barge.opcode).bind fun v => parseFail v r.barge s] <;> rfl

section Policy
variable {v : Verb} (hturn : s.turn n r 1 = true) (hverb : verbOf r.barge.opcode = some v)
include hturn hverb

theorem exec_policyStep_refused {reply : Reply}
    (hfail : firstFail [restartFail v s, s.worldFail r v, policyFail v r.barge s, s.handleFail r] = some reply) :
    exec (.policyStep n) s = .next (s.endBarge n reply) := by
  show execPolicyStep n s = _
  simp [execPolicyStep, hfind, hturn, hverb, hfail]

variable (hpass : firstFail [restartFail v s, s.worldFail r v, policyFail v r.barge s, s.handleFail r] = none)
include hpass

theorem exec_policyStep_assisted (hassists : s.assists r v = true) :
    exec (.policyStep n) s = .next (
      if (worldEffect v r s).waits then s.awaitLease n (worldEffect v r s)
      else (s.pass n).modBarge n fun r =>
        { r with stage := .coreQueue, leaseWait := none, decTabs := s.tablesRead r.barge }) := by
  show execPolicyStep n s = _
  simp only [execPolicyStep, hfind, hturn, hverb, hpass, hassists, Bool.not_true, Bool.false_eq_true, if_false, if_true]
  split <;> rfl

theorem exec_policyStep_program (hprogram : s.assists r v = false) :
    exec (.policyStep n) s = .next (s.policyProgram n r v) := by
  show execPolicyStep n s = _
  simp [execPolicyStep, hfind, hturn, hverb, hpass, hprogram]

end Policy

/-! ### KEYFETCH -/

theorem exec_keyfetchStep_replied (errors : Nat) (hturn : s.turn n r 2 = true) {reply : Reply} (hreply : r.reply = some reply) :
    exec (.keyfetchStep n errors) s = .next ((s.wakeForKeys r).endBarge n reply) := by
  show execKeyfetchStep n errors s = _
  simp [execKeyfetchStep, hfind, hturn, hreply, State.wakeForKeys]

theorem exec_keyfetchStep_fetches (errors : Nat) (hturn : s.turn n r 2 = true) (hreply : r.reply = none) :
    exec (.keyfetchStep n errors) s = .next (((s.wakeForKeys r).fetchNext n errors r).goOn n r) := by
  show execKeyfetchStep n errors s = _
  simp only [execKeyfetchStep, hfind, hturn, hreply, Bool.not_true, Bool.false_eq_true, if_false, State.wakeForKeys]
  generalize State.fetchNext _ n errors r = fetched
  cases fetched with
  | wait t => rfl
  | ends t reply => rfl
  | ok t =>
    dsimp only [FetchResult.goOn]
    cases t.recordFor r <;> cases t.fetchLeft n <;> rfl

/-! ### The engine locks, FORMAT and EMIT -/

theorem exec_cipherStep {j : Job} (hturn : s.turn n r 3 = true) (hjob : s.cipherJob n r = some j) :
    exec (.cipherStep n) s = .next ((s.workWaits n r).getD (((s.work n r).takeChamber n r).startJob n j)) := by
  show execCipherStep n s = _
  simp only [execCipherStep, hfind, hturn, hjob, Bool.not_true, Bool.false_eq_true, if_false]
  cases s.workWaits n r <;> rfl

theorem exec_hashStep {e : Nat} (hturn : s.turn n r 4 = true) (hengine : lowest (s.grantable .hash r) = some e) :
    exec (.hashStep n) s = .next ((s.workWaits n r).getD
      ((s.work n r).startJob n { kind := .hash, engine := e, attached := false, position := s.position r })) := by
  show execHashStep n s = _
  simp only [execHashStep, hfind, hturn, hengine, Bool.not_true, Bool.false_eq_true, if_false]
  cases s.workWaits n r <;> rfl

theorem exec_pkeStep {e : Nat} (hturn : s.turn n r 5 = true) (hengine : lowest (s.grantable (pkeKind r) r) = some e) :
    exec (.pkeStep n) s = .next ((s.workWaits n r).getD
      ((s.work n r).startJob n { kind := pkeKind r, engine := e, attached := false, position := s.position r })) := by
  show execPkeStep n s = _
  simp only [execPkeStep, hfind, hturn, hengine, Bool.not_true, Bool.false_eq_true, if_false]
  cases s.workWaits n r <;> rfl

theorem exec_formatStep (hturn : s.turn n r 6 = true) :
    exec (.formatStep n) s = .next ((s.workWaits n r).getD ((s.work n r).pass n)) := by
  show execFormatStep n s = _
  simp only [execFormatStep, hfind, hturn, Bool.not_true, Bool.false_eq_true, if_false]
  cases s.workWaits n r <;> rfl

theorem exec_emitStep {reply : Reply} (hturn : s.turn n r 7 = true) (hreply : r.reply = some reply) :
    let t := ((s.judge n).discharge n).judgeLate r
    exec (.emitStep n) s =
      .next ((t.completeWith r.prior r.request r.pn r.flight { st := t, reply := reply, touch := r.touch }).countSite
        3 r.flight 513 1).switchAdvance := by
  intro t
  show execEmitStep n s = _
  simp only [execEmitStep, hfind, hturn, hreply, Bool.not_true, Bool.false_eq_true, if_false]
  rfl

/-! ### FW_ASSIST_RETURN (R36, R102) -/

section Return
variable (hqueued : r.stage = .coreQueue)
include hqueued

theorem exec_fwAssistReturn_old (hold : (s.slice r.barge.slice).generation ≠ r.barge.generation) :
    exec (.fwAssistReturn n) s = .next (s.discharge n) := by
  show execFwAssistReturn n s = _
  simp [execFwAssistReturn, hfind, hqueued, hold]

theorem exec_fwAssistReturn (hnew : (s.slice r.barge.slice).generation = r.barge.generation) {v : Verb}
    (hverb : verbOf r.barge.opcode = some v) :
    let w := (s.wakeWorld (queueWorld r.barge.opcode)).wakeKeys r.barge.opcode
    let e := w.worldWork r v
    exec (.fwAssistReturn n) s = .next (
      if e.starved w = true then w.awaitDraw n e
      else if e.later = true then (e.st.recordIdem r.barge none false).discharge n
      else ((w.keepEffect n r.barge e).worldJob r.barge e.reply).comeBack n r.flight) := by
  intro w e
  show execFwAssistReturn n s = _
  simp only [execFwAssistReturn, hfind, hqueued, hnew, hverb, ne_eq, not_true_eq_false, if_false, bne_self_eq_false,
    Bool.false_eq_true]
  rw [apply_ite Host.Outcome.next, apply_ite Host.Outcome.next]

end Return

end Steps

/-- Settles O35: one lemma for each step at its lock. -/
theorem stepsAct : Obligations.StepsAct := by
  unfold Obligations.StepsAct
  intro n r s hfind
  refine ⟨fun hturn => ?_, fun hturn v hverb => ?_, fun errors hturn => ?_, fun j => exec_cipherStep hfind,
    fun e => exec_hashStep hfind, fun e => exec_pkeStep hfind, exec_formatStep hfind, fun reply => exec_emitStep hfind,
    fun hqueued => ⟨exec_fwAssistReturn_old hfind hqueued, fun hnew v => exec_fwAssistReturn hfind hqueued hnew⟩⟩
  · intro fail
    have hstep : exec (.parseStep n) s = .next (fail.elim (s.pass n) (s.endBarge n)) := exec_parseStep hfind hturn
    constructor
    · intro hfail
      rw [hstep, hfail, Option.elim_none]
    · intro reply hfail
      rw [hstep, hfail, Option.elim_some]
  · exact ⟨fun reply => exec_policyStep_refused hfind hturn hverb, exec_policyStep_assisted hfind hturn hverb,
      exec_policyStep_program hfind hturn hverb⟩
  · exact ⟨fun reply => exec_keyfetchStep_replied hfind errors hturn, exec_keyfetchStep_fetches hfind errors hturn⟩

end Sys2Proof.Machine

/-! Every row of the opcode table answers a next state. -/

namespace Sys2Proof.Machine

/-! ## Every command answers (R22) -/

/-- A command's outcome is a next state. -/
inductive Answers : Host.Outcome State Fault Refusal → Prop
  | next (t : State) : Answers (.next t)

theorem Answers.exists_next {o : Host.Outcome State Fault Refusal} (h : Answers o) : ∃ t, o = .next t := by
  cases h with
  | next t => exact ⟨t, rfl⟩

/-- A command that tests a condition answers where both of its branches do. -/
theorem Answers.ite {p : Prop} {_ : Decidable p} {a b : Host.Outcome State Fault Refusal} (ha : Answers a) (hb : Answers b) :
    Answers (if p then a else b) := by
  split <;> assumption

/-- Each row's meaning is a tree of tests and cases, and each of its leaves is a next state; a verb's row and a row without a test
are such a leaf themselves. -/
theorem exec_answers (c : Instr) (s : State) : Answers (exec c s) := by
  cases c
  all_goals dsimp only [exec,
    execLoReadLatch, execPcntLoWrite, execIxpRattrWrite, execIxpFbattrWrite, execPop, execKeeperLeaseWrite, execLeaseCeiling,
    execCoreWdkick, execCoreNwdkick, execRestart, execKeeperWatchdogExpire, execSecureKernelException,
    execSecureRestartComplete, execRestartEscalateTimeout, execNormalWatchdogExpire, execNormalRestartComplete,
    execFabricAccess, execHostFrameRx, execArpRequest, execNeighbourSolicitation, execEchoRequest, execHostLinkUp,
    execHostLinkDown, execAnRestartTimeout, execBeaconTimer, execPtpMessage, execHelloC, execFinishC, execClose, execPing,
    execResponseGatherTimeout, execHandshakeTimeout, execSessionIdleTimeout, execSendKeyUpdate, execPrevKeyDiscard,
    execIdemEntryExpire, execTlsHandshake, execRequest, execFgl1Request, execFgl2Request, execBargeAdmit,
    execBargeTakeContext, execFlightFault, execFlightReturn, execIdleWindowEnd, execThermalQuarterClock, execThermalEnd,
    execInputQualified, execInputOutage, execOutageTimeout, execInputLossTrip, execHoldupThreshold, execShortLBreak,
    execPowerStateEval, execCageInsert, execCagePowerOn, execCageInterrupt, execPmbusRead, execPmbusWrite, execOutageEnd,
    execBlockWake, execPtpLockLost, execParseStep, execPolicyStep, execKeyfetchStep, execCipherStep, execHashStep,
    execPkeStep, execFormatStep, execEmitStep, execFwAssistReturn, execDrainTimeout, execLeaseWaitTimeout,
    execDrbgDrawTimeout, execCipherJobDone, execPkeJobDone, execLatticeJobDone, execHashJobDone, execSegmentCombine,
    execSuspendedJobResume, execSeedTimeout, execPeriodicKat, execEpochClose, execEpochSegment, execSegmentResend,
    execSlotFetch, execSlotReply, execTowpathHello, execTowpathBeat, execBeatSendTimer, execPartnerSilent, execAuditTimer,
    execAuditFrame, execStandbyKatTimer, execSyncDone, execTowpathLinkUp, execEpochAck, execSwitchoverFrame,
    execWitnessBeatTimer, execWitnessAnswer, execLeaseLapse, execWitnessGrant, execWitnessDeny, execWitnessBeatRx,
    execWitnessClaimRx, execWitnessReleaseRx, execHealthInLow, execFenceDone, execNoEntropySwitchover, execWitnessLeaseExpiry,
    execApprovalExpire, execBallotExpire, execBallotRecordDiscard, execHoldOffEnd, execSliceDrainDone,
    execSliceTransferAbandon, execShredDrainDone, execShredCertSigned, execLmsTreeBuilt, execLmsBucketToken,
    execShareWindowExpire, execPendingSlotExpire, execVaultScrubPass, execVaultSlotRestore, execStagingExpire,
    execProgramBankDrained, execChartDrainTimeout, execIslandClockSettled, execCacheLoadDone, execParkedJobExpire,
    execIslandRelease, execEntSourceFail, execSourceRestartTimeout, execSourceStartupPass, execDrbgReseed, execGenPairFail,
    execReadyRecoveryDelay, execHealthReportTick, execHealthReportChange, execInterlinkHello, execInterlinkHelloTimer,
    execInterlinkForward, execForwardReply, execForwardTimeout, execDirectoryUpdate, execDomainRecord, execDomainAck,
    execDomainPull, execShareClaim, execShareGrant, execJoinRequest, execJoinGrant, execInterlinkRefusal, execAdmissionExpire,
    execLcWriteDone, execDelayedFullReset, execFactoryTransition, execDbgCertExpire, execBoot, execRootGenRetry, execStart,
    execHeldRelease, execSensorAlarm, execShadowScan, execEvidenceCopy, execDetectorDisagreement, execCounterWrap,
    execTimeLeap]
  all_goals repeat' first | with_reducible exact Answers.next _ | with_reducible apply Answers.ite | split
  all_goals exact Answers.next _

/-- Settles O3: no arm of the table faults or is refused. -/
theorem everyCommandAnswers : Obligations.EveryCommandAnswers := by
  unfold Obligations.EveryCommandAnswers
  exact fun c s => (exec_answers c s).exists_next

end Sys2Proof.Machine

/-! Epochs as they close, are sent again, acknowledged and taken in (R38, R355, R357 to R359). -/

namespace Sys2Proof.Machine

/-! ## Epochs at the serving module (R355, R357) -/

theorem exec_epochClose {e : Epoch} {s : State} (hopen : s.tow.epochs.find s.tow.epoch = some e) :
    exec .epochClose s = .next (s.upTo (e.opened + 20000)).closeEpoch := by
  show execEpochClose s = _
  simp [execEpochClose, hopen]

theorem exec_epochAck (frame : Bytes) (s : State) :
    exec (.epochAck frame) s = .next (
      if (s.openTowpath 3 frame).2.isSome = true
        then ((s.openTowpath 3 frame).1.acknowledge (fld frame 24 8)).switchAdvance
        else (s.openTowpath 3 frame).1) := by
  show execEpochAck frame s = _
  unfold execEpochAck
  rcases s.openTowpath 3 frame with ⟨t, _ | b⟩
  · rfl
  · rw [if_pos (Option.isSome_some ..)]

/-- A closed epoch goes out again, and its segments count as resent (R357). -/
def State.resendEpoch (s : State) (n : Nat) (e : Epoch) : State :=
  State.sendEpoch { s with tow := { s.tow with
    epochs := s.tow.epochs.put n { e with sent := s.now, resends := e.resends + 1 },
    chan0 := { s.tow.chan0 with resent := s.tow.chan0.resent + BitVec.ofNat 32 e.segments.length } } } n

theorem exec_segmentResend_due {n : Nat} {e : Epoch} {s : State} (hfind : s.tow.epochs.find n = some e)
    (hclosed : e.closed = true) (hleft : e.resends < 40) (hlive : s.linkLive = true) :
    exec (.segmentResend n) s = .next ((s.upTo (e.sent + 15000)).resendEpoch n e) := by
  show execSegmentResend n s = _
  simp [execSegmentResend, hfind, hclosed, hlive, Nat.not_le.2 hleft, State.resendEpoch]

theorem exec_segmentResend_idle {n : Nat} {e : Epoch} {s : State} (hfind : s.tow.epochs.find n = some e)
    (hidle : e.closed = false ∨ 40 ≤ e.resends ∨ s.linkLive = false) : exec (.segmentResend n) s = .next s := by
  show execSegmentResend n s = _
  simp [execSegmentResend, hfind, hidle]

/-! ## Epochs at the standby (R358, R359) -/

theorem exec_epochSegment (frame : Bytes) (s : State) :
    exec (.epochSegment frame) s = .next (
      match (s.openTowpath 2 frame).2 with
      | none => (s.openTowpath 2 frame).1
      | some b => (s.openTowpath 2 frame).1.takeSegment frame b) := by
  show execEpochSegment frame s = _
  unfold execEpochSegment
  rcases s.openTowpath 2 frame with ⟨t, _ | b⟩ <;> rfl

/-- A module follows epochs as a standby or while it joins. -/
def State.follows (s : State) : Prop := s.tow.pair = .standby ∨ s.tow.pair = .syncing

/-- A segment is held with those of its epoch that have come, and its last one tells how many there are (R358). -/
def State.holdSegment (s : State) (frame body : Bytes) : State :=
  { s with tow := { s.tow with received := s.tow.received.upd {} (fld frame 24 8) fun x => { x with
    segments := x.segments.put (fld frame 12 4) (recordsOf body (fld frame 10 2)),
    total := if fld frame 5 1 = 1 then some (fld frame 12 4 + 1) else x.total } } }

/-- What is complete in order is applied; a joiner that has applied nothing starts at the epoch that opens the sync (R355,
R358). -/
def State.applyHeld (s : State) : State :=
  if s.tow.pair == .syncing && s.tow.acked == 0 then
    match s.syncStart with
    | none => s
    | some first => State.applyEpochs { s with tow := { s.tow with acked := first - 1 } } s.tow.received.length
  else s.applyEpochs s.tow.received.length

theorem State.applyHeld_of_following {s : State} (h : s.tow.pair = .standby ∨ s.tow.acked ≠ 0) :
    s.applyHeld = s.applyEpochs s.tow.received.length := by
  rcases h with h | h <;> simp [State.applyHeld, h]

theorem State.applyHeld_of_joining {s : State} (hpair : s.tow.pair = .syncing) (hacked : s.tow.acked = 0) :
    s.applyHeld = s.syncStart.elim s fun first =>
      State.applyEpochs { s with tow := { s.tow with acked := first - 1 } } s.tow.received.length := by
  simp only [State.applyHeld, hpair, hacked, beq_self_eq_true, Bool.and_self, if_true]
  cases s.syncStart <;> rfl

/-- The ack that answers a segment names the highest epoch applied (R358). -/
def State.ackSegment (s : State) : State := s.sendTowpath 3 0 [] 0 s.tow.acked

section Segment
variable {s : State} {frame body : Bytes}

theorem State.takeSegment_of_not_follows (hstandby : s.tow.pair ≠ .standby) (hsyncing : s.tow.pair ≠ .syncing) :
    s.takeSegment frame body = s := by
  simp [State.takeSegment, hstandby, hsyncing]

variable (hfollows : s.follows)
include hfollows

theorem State.takeSegment_of_mirrorRefused (hrefused : s.tow.mirrorRefused = true) :
    s.takeSegment frame body = { s with tow := { s.tow with mirrorRefused := false } } := by
  rcases hfollows with h | h <;> simp [State.takeSegment, h, hrefused]

/-- A follower acknowledges every segment; one of an epoch not yet applied it first holds, and applies what it can. -/
theorem State.takeSegment_of_follows (hmirror : s.tow.mirrorRefused = false) :
    s.takeSegment frame body =
      (if fld frame 24 8 ≤ s.tow.acked then s else (s.holdSegment frame body).applyHeld).ackSegment := by
  have hpair : (s.tow.pair != .standby && s.tow.pair != .syncing) = false := by
    rcases hfollows with h | h <;> simp [h]
  rw [State.takeSegment, hpair, hmirror, if_neg Bool.false_ne_true, if_neg Bool.false_ne_true]
  rfl

end Segment

/-- Settles O37: one lemma for each command, and those of a segment by what the module that takes it is. -/
theorem epochCommandsAct : Obligations.EpochCommandsAct := by
  unfold Obligations.EpochCommandsAct
  refine ⟨fun e s => exec_epochClose, exec_epochAck, fun n e s => exec_segmentResend_due,
    fun n e s => exec_segmentResend_idle, exec_epochSegment, ?_⟩
  intro frame body s e hold taken joins
  refine ⟨State.takeSegment_of_not_follows, fun hjoins hrefused => State.takeSegment_of_mirrorRefused hjoins hrefused,
    fun hjoins hmirror => ?_⟩
  have htake : s.takeSegment frame body = (if e ≤ s.tow.acked then s else (hold s).applyHeld).ackSegment :=
    State.takeSegment_of_follows hjoins hmirror
  refine ⟨fun happlied => ?_, fun hnew hfollowing => ?_, fun hnew hsyncing hnone => ?_⟩
  · rw [htake, if_pos happlied]
    rfl
  · have hheld : (hold s).applyHeld = _ := State.applyHeld_of_following hfollowing
    rw [htake, if_neg (Nat.not_le.2 hnew), hheld]
    rfl
  · have hheld : (hold s).applyHeld = _ := State.applyHeld_of_joining hsyncing hnone
    rw [htake, if_neg (by omega), hheld]
    constructor
    · intro hstart
      rw [hstart, Option.elim_none, State.ackSegment, show (hold s).tow.acked = 0 from hnone]
    · intro first hstart
      rw [hstart, Option.elim_some]
      rfl

end Sys2Proof.Machine

/-! What the rows of the opcode table leave of memory and of the queue, where they neither store nor reset (R34, R395, R404). -/

namespace Sys2Proof.Machine

/-! ## Outcomes that keep memory and the queue -/

/-- A command's outcome is a next state with the memory and the queue of `s`. -/
inductive Keeps (s : State) : Host.Outcome State Fault Refusal → Prop
  | next (t : State) (h : t.mem = s.mem ∧ t.pending = s.pending) : Keeps s (.next t)

@[simp] theorem keeps_next {s t : State} : Keeps s (.next t) ↔ t.mem = s.mem ∧ t.pending = s.pending :=
  ⟨fun h => by cases h; assumption, .next t⟩

@[simp] theorem State.mem_ite (p : Prop) [Decidable p] (s t : State) : (if p then s else t).mem = if p then s.mem else t.mem :=
  apply_ite State.mem p s t

@[simp] theorem State.pending_ite (p : Prop) [Decidable p] (s t : State) :
    (if p then s else t).pending = if p then s.pending else t.pending :=
  apply_ite State.pending p s t

theorem Keeps.ite {s : State} {p : Prop} [Decidable p] {a b : Host.Outcome State Fault Refusal} (ha : Keeps s a)
    (hb : Keeps s b) : Keeps s (if p then a else b) := by
  split <;> assumption

/-! ## One law for each row -/

/-! ### Observability and time -/

@[simp] theorem execRecorderWrite_keeps (s : State) : Keeps s (execRecorderWrite s) := .next _ (recorderDrain_keeps s)

@[simp] theorem execCounterWrap_keeps (block site counter : Nat) (s : State) :
    Keeps s (execCounterWrap block site counter s) := by
  dsimp only [execCounterWrap]
  (repeat' split) <;> simp [State.freeNat_keeps]

@[simp] theorem execTimeLeap_keeps (s : State) : Keeps s (execTimeLeap s) := by
  unfold execTimeLeap
  split <;> simp

/-! ### Cages, frames and PTP -/

@[simp] theorem execHostLinkUp_keeps (cage : Nat) (partner : LinkPartner) (s : State) :
    Keeps s (execHostLinkUp cage partner s) := by
  unfold execHostLinkUp
  (repeat' split) <;> simp [State.trainFail_keeps, State.linkUp_keeps]

@[simp] theorem execHostLinkDown_keeps (cage : Nat) (trainFail : Bool) (s : State) :
    Keeps s (execHostLinkDown cage trainFail s) := by
  unfold execHostLinkDown
  (repeat' split) <;> simp [State.trainFail_keeps, State.linkDown_keeps]

@[simp] theorem execAnRestartTimeout_keeps (cage : Nat) (s : State) : Keeps s (execAnRestartTimeout cage s) := by
  unfold execAnRestartTimeout
  split <;> simp

@[simp] theorem execHostFrameRx_keeps (f : HostFrame) (s : State) : Keeps s (execHostFrameRx f s) := by
  dsimp only [execHostFrameRx]
  (repeat' split) <;> simp [State.countFec_keeps, State.dropFrame_keeps, State.wake_keeps, State.handOn_keeps]

@[simp] theorem execArpRequest_keeps (q : AddrQuery) (s : State) : Keeps s (execArpRequest q s) := by
  dsimp only [execArpRequest]
  split <;> simp [State.wake_keeps]

@[simp] theorem execNeighbourSolicitation_keeps (q : AddrQuery) (s : State) : Keeps s (execNeighbourSolicitation q s) := by
  dsimp only [execNeighbourSolicitation]
  split <;> simp [State.wake_keeps]

@[simp] theorem execEchoRequest_keeps (q : AddrQuery) (s : State) : Keeps s (execEchoRequest q s) := by
  dsimp only [execEchoRequest]
  (repeat' split) <;> simp

@[simp] theorem execBeaconTimer_keeps (cage : Nat) (s : State) : Keeps s (execBeaconTimer cage s) := by
  unfold execBeaconTimer
  (repeat' split) <;> simp [State.freeNat_keeps, State.sendClear_keeps]

@[simp] theorem execPtpMessage_keeps (m : PtpMessage) (s : State) : Keeps s (execPtpMessage m s) := by
  dsimp only [execPtpMessage]
  (repeat' split) <;> simp [State.wake_keeps, State.delayRequest_keeps, State.measure_keeps]

/-! ### Sessions -/

@[simp] theorem execClose_keeps (d : Datagram) (s : State) : Keeps s (execClose d s) := by
  dsimp only [execClose]
  split <;> simp [State.wake_keeps, State.openDatagram_keeps, State.endSession_keeps]

@[simp] theorem execPing_keeps (d : Datagram) (s : State) : Keeps s (execPing d s) := by
  dsimp only [execPing]
  split <;> simp [State.wake_keeps, State.openDatagram_keeps, State.sendSealed_keeps]

/-- The tests of a HELLO_C are a chain of branches too long for `split`. -/
@[simp] theorem execHelloC_keeps (d : Datagram) (s : State) : Keeps s (execHelloC d s) := by
  unfold execHelloC
  (repeat' with_reducible apply Keeps.ite) <;>
    simp [State.wake_keeps, State.alertClear_keeps, State.sendClear_keeps, State.helloM_keeps]

@[simp] theorem execFinishC_keeps (d : Datagram) (s : State) : Keeps s (execFinishC d s) := by
  dsimp only [execFinishC]
  (repeat' split) <;> simp [State.wake_keeps, State.resetHint_keeps, State.dropAuth_keeps, State.firmwareJobs_keeps,
    State.alertHandshake_keeps, State.establish_keeps]

@[simp] theorem execResponseGatherTimeout_keeps (session pn : Nat) (s : State) :
    Keeps s (execResponseGatherTimeout session pn s) := by
  unfold execResponseGatherTimeout
  split <;> simp [State.flush_keeps]

@[simp] theorem execHandshakeTimeout_keeps (session : Nat) (s : State) : Keeps s (execHandshakeTimeout session s) := by
  unfold execHandshakeTimeout
  split <;> simp

@[simp] theorem execSessionIdleTimeout_keeps (session : Nat) (s : State) : Keeps s (execSessionIdleTimeout session s) := by
  unfold execSessionIdleTimeout
  split <;> simp [State.endSession_keeps]

@[simp] theorem execSendKeyUpdate_keeps (session : Nat) (s : State) : Keeps s (execSendKeyUpdate session s) := by
  unfold execSendKeyUpdate
  (repeat' split) <;> simp

@[simp] theorem execPrevKeyDiscard_keeps (session : Nat) (s : State) : Keeps s (execPrevKeyDiscard session s) := by
  unfold execPrevKeyDiscard
  (repeat' split) <;> simp

@[simp] theorem execIdemEntryExpire_keeps (slice : Nat) (generation : W32) (key : W64) (s : State) :
    Keeps s (execIdemEntryExpire slice generation key s) := by
  unfold execIdemEntryExpire
  split <;> simp

@[simp] theorem execTlsHandshake_keeps (h : TlsHello) (s : State) : Keeps s (execTlsHandshake h s) := by
  unfold execTlsHandshake
  split <;> simp [State.wake_keeps, State.firmwareJobs_keeps, State.tlsFull_keeps, State.tlsKeyUpdate_keeps]

/-! ### The vault and the engines -/

@[simp] theorem execShredDrainDone_keeps (shred : Nat) (s : State) : Keeps s (execShredDrainDone shred s) := by
  unfold execShredDrainDone
  (repeat' split) <;> simp [State.shredErase_keeps, State.shredAdvance_keeps]

@[simp] theorem execBnkCoreReturn_keeps (core : Nat) (pass : Bool) (s : State) : Keeps s (execBnkCoreReturn core pass s) :=
  .next _ (s.returnEngine_keeps ..)

@[simp] theorem execEngineReturn_keeps (kind : EngineKind) (engine : Nat) (pass : Bool) (s : State) :
    Keeps s (execEngineReturn kind engine pass s) :=
  .next _ (s.returnEngine_keeps ..)

@[simp] theorem execIslandRelease_keeps (island : Nat) (s : State) : Keeps s (execIslandRelease island s) := by
  dsimp only [execIslandRelease]
  (repeat' split) <;> simp [State.setBlock_keeps, State.drawFrom_keeps, State.refreshReady_keeps]

@[simp] theorem execParkedJobExpire_keeps (job : Nat) (s : State) : Keeps s (execParkedJobExpire job s) := by
  unfold execParkedJobExpire
  split <;> simp

@[simp] theorem execShareWindowExpire_keeps (s : State) : Keeps s (execShareWindowExpire s) := by
  unfold execShareWindowExpire
  (repeat' split) <;> simp

@[simp] theorem execPendingSlotExpire_keeps (slot : Nat) (s : State) : Keeps s (execPendingSlotExpire slot s) := by
  unfold execPendingSlotExpire
  (repeat' split) <;> simp [State.eraseSlot_keeps, State.mirror_keeps]

@[simp] theorem execVaultScrubPass_keeps (guardErrors : List (Nat × Nat)) (s : State) :
    Keeps s (execVaultScrubPass guardErrors s) := by
  simp [execVaultScrubPass, State.scrubSlot_keeps, foldl_mem, foldl_pending]

@[simp] theorem execVaultSlotRestore_keeps (slot : Nat) (s : State) : Keeps s (execVaultSlotRestore slot s) := by
  dsimp only [execVaultSlotRestore]
  (repeat' split) <;> simp [State.sendTowpath_keeps, State.lostSlot_keeps, State.restoreSlot_keeps]

/-! ### Custody and slices -/

@[simp] theorem execApprovalExpire_keeps (ballot custodian : Nat) (s : State) :
    Keeps s (execApprovalExpire ballot custodian s) := by
  unfold execApprovalExpire
  (repeat' split) <;> simp [State.setBallot_keeps, State.mirror_keeps]

@[simp] theorem execBallotExpire_keeps (ballot : Nat) (s : State) : Keeps s (execBallotExpire ballot s) := by
  unfold execBallotExpire
  (repeat' split) <;> simp [State.endBallot_keeps, State.mirror_keeps]

@[simp] theorem execBallotRecordDiscard_keeps (ballot : Nat) (s : State) : Keeps s (execBallotRecordDiscard ballot s) := by
  unfold execBallotRecordDiscard
  (repeat' split) <;> simp

@[simp] theorem execHoldOffEnd_keeps (custodian : Nat) (s : State) : Keeps s (execHoldOffEnd custodian s) := by
  unfold execHoldOffEnd
  (repeat' split) <;> simp [State.setCustodian_keeps, State.mirror_keeps]

@[simp] theorem execSliceDrainDone_keeps (slice : Nat) (s : State) : Keeps s (execSliceDrainDone slice s) := by
  unfold execSliceDrainDone
  (repeat' split) <;> simp [State.finishDrain_keeps]

@[simp] theorem execSliceTransferAbandon_keeps (slice : Nat) (s : State) : Keeps s (execSliceTransferAbandon slice s) := by
  unfold execSliceTransferAbandon
  (repeat' split) <;> simp [State.dropRestore_keeps, State.mirror_keeps]

/-! ### The cache and the signer -/

theorem State.loadOnce_keeps_of_eq {s t : State} {slice : Nat} {bl : Bytes} {read : Option W64} {x : Except Reply CacheEntry}
    (h : s.loadOnce slice bl read = (t, x)) : t.mem = s.mem ∧ t.pending = s.pending := by
  have hkeeps := s.loadOnce_keeps slice bl read
  rwa [h] at hkeeps

@[simp] theorem execCacheLoadDone_keeps (barge : Nat) (s : State) : Keeps s (execCacheLoadDone barge s) := by
  dsimp only [execCacheLoadDone]
  split
  · simp
  · split <;> rename_i hload <;> simp [State.loaderJob_keeps, State.loadOnce_keeps_of_eq hload]

@[simp] theorem execShredCertSigned_keeps (shred : Nat) (s : State) : Keeps s (execShredCertSigned shred s) := by
  unfold execShredCertSigned
  (repeat' split) <;> simp [State.signHead_keeps]

@[simp] theorem execLmsBucketToken_keeps (s : State) : Keeps s (execLmsBucketToken s) := .next _ (s.upTo_keeps _)

@[simp] theorem execLmsTreeBuilt_keeps (level tree : Nat) (s : State) : Keeps s (execLmsTreeBuilt level tree s) := by
  dsimp only [execLmsTreeBuilt]
  split <;> simp

/-! ### Entropy and health -/

@[simp] theorem execEntSourceFail_keeps (source : Nat) (adaptive : Bool) (s : State) :
    Keeps s (execEntSourceFail source adaptive s) := by
  dsimp only [execEntSourceFail]
  split <;> simp [State.failSource_keeps, State.sourcesChanged_keeps]

@[simp] theorem execSourceRestartTimeout_keeps (source : Nat) (s : State) : Keeps s (execSourceRestartTimeout source s) := by
  dsimp only [execSourceRestartTimeout]
  split <;> simp [State.setSource_keeps]

@[simp] theorem execSourceStartupPass_keeps (source : Nat) (s : State) : Keeps s (execSourceStartupPass source s) := by
  dsimp only [execSourceStartupPass]
  split <;> simp [State.setSource_keeps, State.reseed_keeps, State.sourcesChanged_keeps, foldl_mem, foldl_pending]

@[simp] theorem execDrbgReseed_keeps (drbg : Nat) (s : State) : Keeps s (execDrbgReseed drbg s) := by
  unfold execDrbgReseed
  split <;> simp [State.reseedDue_keeps]

@[simp] theorem execGenPairFail_keeps (core : Nat) (s : State) : Keeps s (execGenPairFail core s) := by
  unfold execGenPairFail
  split <;> simp [State.level_keeps, State.refreshReady_keeps]

@[simp] theorem execReadyRecoveryDelay_keeps (s : State) : Keeps s (execReadyRecoveryDelay s) := by
  unfold execReadyRecoveryDelay
  split <;> simp [State.refreshReady_keeps]

@[simp] theorem execHealthReportTick_keeps (s : State) : Keeps s (execHealthReportTick s) := by
  unfold execHealthReportTick
  split <;> simp [State.formReport_keeps]

@[simp] theorem execHealthReportChange_keeps (s : State) : Keeps s (execHealthReportChange s) := by
  unfold execHealthReportChange
  split <;> simp [State.formReport_keeps]

/-! ### The chart -/

@[simp] theorem execStagingExpire_keeps (s : State) : Keeps s (execStagingExpire s) := by
  unfold execStagingExpire
  split <;> simp

@[simp] theorem execProgramBankDrained_keeps (s : State) : Keeps s (execProgramBankDrained s) := by
  unfold execProgramBankDrained
  split <;> simp

@[simp] theorem execChartDrainTimeout_keeps (s : State) : Keeps s (execChartDrainTimeout s) := by
  unfold execChartDrainTimeout
  split <;> simp [State.abortBarges_keeps]

@[simp] theorem execIslandClockSettled_keeps (island : Nat) (s : State) : Keeps s (execIslandClockSettled island s) := by
  unfold execIslandClockSettled
  split <;> simp [State.rebase_keeps]

/-! ### The towpath -/

@[simp] theorem execEpochSegment_keeps (frame : Bytes) (s : State) : Keeps s (execEpochSegment frame s) := by
  dsimp only [execEpochSegment]
  split <;> simp [State.openTowpath_keeps, State.takeSegment_keeps]

@[simp] theorem execEpochClose_keeps (s : State) : Keeps s (execEpochClose s) := by
  unfold execEpochClose
  split <;> simp [State.closeEpoch_keeps]

@[simp] theorem execSegmentResend_keeps (epoch : Nat) (s : State) : Keeps s (execSegmentResend epoch s) := by
  unfold execSegmentResend
  (repeat' split) <;> simp [State.sendEpoch_keeps]

@[simp] theorem execSyncDone_keeps (s : State) : Keeps s (execSyncDone s) := by
  unfold execSyncDone
  (repeat' split) <;> simp

@[simp] theorem execTowpathLinkUp_keeps (s : State) : Keeps s (execTowpathLinkUp s) := by
  dsimp only [execTowpathLinkUp]
  (repeat' split) <;> simp [State.linkUp_keeps, State.newLink_keeps, State.sendHello_keeps]

@[simp] theorem execTowpathHello_keeps (frame : Bytes) (s : State) : Keeps s (execTowpathHello frame s) := by
  dsimp only [execTowpathHello]
  (repeat' split) <;> simp [State.dropTowpath_keeps, State.formHck_keeps, State.enterSyncing_keeps, State.afterHello_keeps,
    State.newLink_keeps, State.sendHello_keeps, State.helloDone_keeps]

@[simp] theorem execBeatSendTimer_keeps (s : State) : Keeps s (execBeatSendTimer s) := by
  unfold execBeatSendTimer
  (repeat' split) <;> simp [State.sendTowpath_keeps]

@[simp] theorem execTowpathBeat_keeps (frame : Bytes) (s : State) : Keeps s (execTowpathBeat frame s) := by
  dsimp only [execTowpathBeat]
  split <;> simp [State.openTowpath_keeps]

@[simp] theorem execPartnerSilent_keeps (pcsLoss : Bool) (s : State) : Keeps s (execPartnerSilent pcsLoss s) := by
  unfold execPartnerSilent
  (repeat' split) <;> simp [State.partnerLost_keeps]

@[simp] theorem execSlotFetch_keeps (frame : Bytes) (s : State) : Keeps s (execSlotFetch frame s) := by
  dsimp only [execSlotFetch]
  split <;> simp [State.openTowpath_keeps, State.sendTowpath_keeps]

@[simp] theorem execSlotReply_keeps (frame : Bytes) (s : State) : Keeps s (execSlotReply frame s) := by
  dsimp only [execSlotReply]
  split <;> simp [State.openTowpath_keeps, State.takeSlotCopy_keeps]

@[simp] theorem execAuditTimer_keeps (s : State) : Keeps s (execAuditTimer s) := by
  unfold execAuditTimer
  split <;> simp [State.sendTowpath_keeps]

@[simp] theorem execAuditFrame_keeps (frame : Bytes) (s : State) : Keeps s (execAuditFrame frame s) := by
  dsimp only [execAuditFrame]
  split <;> simp [State.openTowpath_keeps, State.auditRange_keeps]

@[simp] theorem execStandbyKatTimer_keeps (pass : Bool) (s : State) : Keeps s (execStandbyKatTimer pass s) := by
  unfold execStandbyKatTimer
  split <;> simp

/-! ### The lease and the witness -/

@[simp] theorem execWitnessBeatTimer_keeps (s : State) : Keeps s (execWitnessBeatTimer s) := by
  unfold execWitnessBeatTimer
  (repeat' split) <;> simp [State.toWitness_keeps]

@[simp] theorem execWitnessAnswer_keeps (m : WitnessMsg) (s : State) : Keeps s (execWitnessAnswer m s) := by
  unfold execWitnessAnswer
  (repeat' split) <;>
    simp (disch := assumption) [State.learnTerm_keeps, State.resumeServing_keeps, State.renewed_keeps s]

@[simp] theorem execLeaseLapse_keeps (s : State) : Keeps s (execLeaseLapse s) := by
  unfold execLeaseLapse
  (repeat' split) <;> simp [State.toSeeking_keeps]

@[simp] theorem execWitnessGrant_keeps (m : WitnessMsg) (s : State) : Keeps s (execWitnessGrant m s) := by
  unfold execWitnessGrant
  split <;> simp [State.beginFence_keeps]

@[simp] theorem execWitnessDeny_keeps (m : WitnessMsg) (s : State) : Keeps s (execWitnessDeny m s) := by
  unfold execWitnessDeny
  split <;> simp

@[simp] theorem execFenceDone_keeps (s : State) : Keeps s (execFenceDone s) := by
  unfold execFenceDone
  split <;> simp [State.reserveNext_keeps, State.continueBallots_keeps, State.continueSlices_keeps,
    State.continueShreds_keeps, State.announceBasin_keeps]

@[simp] theorem execNoEntropySwitchover_keeps (s : State) : Keeps s (execNoEntropySwitchover s) := by
  unfold execNoEntropySwitchover
  (repeat' split) <;> simp [State.beginSwitchover_keeps, State.switchAdvance_keeps]

@[simp] theorem execSwitchoverFrame_keeps (frame : Bytes) (s : State) : Keeps s (execSwitchoverFrame frame s) := by
  dsimp only [execSwitchoverFrame]
  (repeat' split) <;> simp [State.openTowpath_keeps]

@[simp] theorem execEpochAck_keeps (frame : Bytes) (s : State) : Keeps s (execEpochAck frame s) := by
  dsimp only [execEpochAck]
  split <;> simp [State.openTowpath_keeps, State.acknowledge_keeps, State.switchAdvance_keeps]

@[simp] theorem execHealthInHigh_keeps (s : State) : Keeps s (execHealthInHigh s) := by
  simp [execHealthInHigh, State.takePin_keeps]

@[simp] theorem execHealthInLow_keeps (s : State) : Keeps s (execHealthInLow s) := by
  dsimp only [execHealthInLow]
  (repeat' split) <;> simp [State.toSeeking_keeps]

@[simp] theorem execWitnessBeatRx_keeps (m : WitnessMsg) (s : State) : Keeps s (execWitnessBeatRx m s) := by
  dsimp only [execWitnessBeatRx]
  (repeat' split) <;> simp [State.holderBeat_keeps, State.standbyBeat_keeps]

@[simp] theorem execWitnessClaimRx_keeps (m : WitnessMsg) (s : State) : Keeps s (execWitnessClaimRx m s) := by
  unfold execWitnessClaimRx
  (repeat' split) <;> simp [State.witnessSend_keeps, State.setWitnessed_keeps, State.decideClaim_keeps]

@[simp] theorem execWitnessLeaseExpiry_keeps (pair : W64) (s : State) : Keeps s (execWitnessLeaseExpiry pair s) := by
  unfold execWitnessLeaseExpiry
  (repeat' split) <;> simp [State.grantPair_keeps, State.decideClaim_keeps]

@[simp] theorem execWitnessReleaseRx_keeps (m : WitnessMsg) (s : State) : Keeps s (execWitnessReleaseRx m s) := by
  unfold execWitnessReleaseRx
  (repeat' split) <;> simp [State.grantPair_keeps, State.setWitnessed_keeps]

@[simp] theorem execPairSwitchover_keeps (b : Barge) (s : State) : Keeps s (execPairSwitchover b s) := by
  simp [execPairSwitchover, State.switchAdvance_keeps, serve_keeps pairSwitchoverVerb pairSwitchoverVerb_keeps]

/-! ### The interlink -/

@[simp] theorem execInterlinkHelloTimer_keeps (s : State) : Keeps s (execInterlinkHelloTimer s) := by
  simp [execInterlinkHelloTimer, State.openPeer_keeps, State.helloPeer_keeps, foldl_mem, foldl_pending]

@[simp] theorem execInterlinkHello_keeps (d : Bytes) (s : State) : Keeps s (execInterlinkHello d s) := by
  dsimp only [execInterlinkHello]
  (repeat' split) <;> simp [State.dropInterlink_keeps, State.openPeer_keeps, State.helloPeer_keeps, State.pullDomain_keeps,
    State.tellBasin_keeps]

@[simp] theorem execInterlinkRefusal_keeps (d : Bytes) (s : State) : Keeps s (execInterlinkRefusal d s) := by
  unfold execInterlinkRefusal
  split <;> simp [State.pullDomain_keeps]

@[simp] theorem execInterlinkForward_keeps (d : Bytes) (s : State) : Keeps s (execInterlinkForward d s) := by
  dsimp only [execInterlinkForward]
  (repeat' split) <;> simp [State.openInterlink_keeps, State.takeForwarded_keeps]

@[simp] theorem execForwardReply_keeps (d : Bytes) (s : State) : Keeps s (execForwardReply d s) := by
  dsimp only [execForwardReply]
  (repeat' split) <;> simp [State.openInterlink_keeps, State.endForward_keeps]

@[simp] theorem execForwardTimeout_keeps (tag : Nat) (s : State) : Keeps s (execForwardTimeout tag s) := by
  unfold execForwardTimeout
  split <;> simp [State.endForward_keeps]

@[simp] theorem execDirectoryUpdate_keeps (d : Bytes) (s : State) : Keeps s (execDirectoryUpdate d s) := by
  dsimp only [execDirectoryUpdate]
  (repeat' split) <;> simp [State.openInterlink_keeps, State.takeDirAnchor_keeps, State.takeDirectory_keeps]

@[simp] theorem execDomainRecord_keeps (d : Bytes) (s : State) : Keeps s (execDomainRecord d s) := by
  dsimp only [execDomainRecord]
  split <;> simp [State.openInterlink_keeps, State.takeRecordFrom_keeps]

@[simp] theorem execDomainAck_keeps (d : Bytes) (s : State) : Keeps s (execDomainAck d s) := by
  dsimp only [execDomainAck]
  split <;> simp [State.openInterlink_keeps, State.takeAck_keeps]

@[simp] theorem execDomainPull_keeps (d : Bytes) (s : State) : Keeps s (execDomainPull d s) := by
  dsimp only [execDomainPull]
  split <;> simp [State.openInterlink_keeps, State.sendInterlink_keeps, foldl_mem, foldl_pending]

@[simp] theorem execShareClaim_keeps (d : Bytes) (s : State) : Keeps s (execShareClaim d s) := by
  dsimp only [execShareClaim]
  split <;> simp [State.openInterlink_keeps, State.answerClaim_keeps]

@[simp] theorem execShareGrant_keeps (d : Bytes) (s : State) : Keeps s (execShareGrant d s) := by
  dsimp only [execShareGrant]
  split <;> simp [State.openInterlink_keeps, State.takeUnit_keeps]

@[simp] theorem execJoinRequest_keeps (d : Bytes) (s : State) : Keeps s (execJoinRequest d s) := by
  dsimp only [execJoinRequest]
  (repeat' split) <;> simp [State.dropInterlink_keeps, State.openPeer_keeps, State.envelope_keeps, State.sendInterlink_keeps,
    State.admitMember_keeps]

@[simp] theorem execJoinGrant_keeps (d : Bytes) (s : State) : Keeps s (execJoinGrant d s) := by
  dsimp only [execJoinGrant]
  (repeat' split) <;> simp [State.dropInterlink_keeps, State.takeDomain_keeps]

@[simp] theorem execAdmissionExpire_keeps (joiner : W64) (s : State) : Keeps s (execAdmissionExpire joiner s) := by
  unfold execAdmissionExpire
  split <;> simp

/-! ### Tamper, boot and lifecycle -/

@[simp] theorem execDetectorDisagreement_keeps (code : Nat) (detectorB : Bool) (s : State) :
    Keeps s (execDetectorDisagreement code detectorB s) := by
  unfold execDetectorDisagreement
  split <;> simp [State.disagree_keeps]

@[simp] theorem execEvidenceCopy_keeps (s : State) : Keeps s (execEvidenceCopy s) := by
  unfold execEvidenceCopy
  split <;> simp [State.copyStaged_keeps]

@[simp] theorem execRootGenRetry_keeps (s : State) : Keeps s (execRootGenRetry s) := by
  dsimp only [execRootGenRetry]
  (repeat' split) <;> simp [State.drawRoot_keeps, State.finishBoot_keeps]

@[simp] theorem execLcWriteDone_keeps (s : State) : Keeps s (execLcWriteDone s) := by
  unfold execLcWriteDone
  (repeat' split) <;> simp [State.writeTransition_keeps, State.answer_keeps]

@[simp] theorem execFactoryTransition_keeps (s : State) : Keeps s (execFactoryTransition s) := by
  unfold execFactoryTransition
  (repeat' split) <;> simp

@[simp] theorem execDbgCertExpire_keeps (s : State) : Keeps s (execDbgCertExpire s) := by
  dsimp only [execDbgCertExpire]
  split <;> simp [State.upToStamp_keeps]

/-! ### Power and cages -/

@[simp] theorem execInputOutage_keeps (exceeds : Bool) (s : State) : Keeps s (execInputOutage exceeds s) := by
  unfold execInputOutage
  split <;> simp

@[simp] theorem execDischargeEnd_keeps (s : State) : Keeps s (execDischargeEnd s) := .next _ ⟨rfl, rfl⟩

@[simp] theorem execThermalQuarterClock_keeps (s : State) : Keeps s (execThermalQuarterClock s) := by
  unfold execThermalQuarterClock
  split <;> simp [State.rebase_keeps]

@[simp] theorem execThermalEnd_keeps (s : State) : Keeps s (execThermalEnd s) := by
  unfold execThermalEnd
  split <;> simp [State.rebase_keeps, State.level_keeps]

@[simp] theorem execPowerStateEval_keeps (s : State) : Keeps s (execPowerStateEval s) := by
  unfold execPowerStateEval
  split <;> simp [State.evalPower_keeps]

@[simp] theorem execIdleWindowEnd_keeps (s : State) : Keeps s (execIdleWindowEnd s) := by
  unfold execIdleWindowEnd
  split <;> simp [State.evalPower_keeps]

@[simp] theorem execBlockWake_keeps (domain : Nat) (s : State) : Keeps s (execBlockWake domain s) := by
  unfold execBlockWake
  split <;> simp [State.wakeDomain_keeps]

@[simp] theorem execCageInsert_keeps (cage : Nat) (s : State) : Keeps s (execCageInsert cage s) := by
  unfold execCageInsert
  split <;> simp [State.setCage_keeps]

@[simp] theorem execCagePowerOn_keeps (cage milliwatts : Nat) (active : Bool) (s : State) :
    Keeps s (execCagePowerOn cage milliwatts active s) := by
  unfold execCagePowerOn
  split <;> simp [State.setCage_keeps, State.linkDown_keeps]

@[simp] theorem execCageInterrupt_keeps (cage status : Nat) (s : State) : Keeps s (execCageInterrupt cage status s) := by
  unfold execCageInterrupt
  split <;> simp [State.setCage_keeps]

@[simp] theorem execPmbusRead_keeps (command : Nat) (s : State) : Keeps s (execPmbusRead command s) := by
  unfold execPmbusRead
  (repeat' split) <;> simp

@[simp] theorem execPmbusWrite_keeps (command : Nat) (data : Bytes) (s : State) :
    Keeps s (execPmbusWrite command data s) := by
  unfold execPmbusWrite
  split <;> simp

@[simp] theorem execPtpLockLost_keeps (cage : Nat) (s : State) : Keeps s (execPtpLockLost cage s) := by
  unfold execPtpLockLost
  (repeat' split) <;> simp [State.ptpUnlock_keeps]

/-! ### Registers and gates -/

@[simp] theorem execIxpRattrWrite_keeps (w : RegWrite) (s : State) : Keeps s (execIxpRattrWrite w s) := by
  unfold execIxpRattrWrite
  split <;> simp [State.wakeRegister_keeps, State.writeRattr_keeps, State.denyRegister_keeps]

@[simp] theorem execIxpFbattrWrite_keeps (w : RegWrite) (s : State) : Keeps s (execIxpFbattrWrite w s) := by
  unfold execIxpFbattrWrite
  split <;> simp [State.wakeRegister_keeps, State.writeFbattr_keeps, State.denyRegister_keeps]

@[simp] theorem execPop_keeps (w : RegWrite) (s : State) : Keeps s (execPop w s) := by
  unfold execPop
  split <;> simp [State.wakeRegister_keeps, State.writeVctrl_keeps, State.denyRegister_keeps]

@[simp] theorem execClkOff_keeps (w : RegWrite) (s : State) : Keeps s (execClkOff w s) := .next _ (s.gateWrite_keeps w)

@[simp] theorem execPwrOff_keeps (w : RegWrite) (s : State) : Keeps s (execPwrOff w s) := .next _ (s.gateWrite_keeps w)

@[simp] theorem execKeeperLeaseWrite_keeps (w : RegWrite) (s : State) : Keeps s (execKeeperLeaseWrite w s) := by
  dsimp only [execKeeperLeaseWrite]
  (repeat' split) <;> simp [State.denyRegister_keeps, State.writeLease_keeps]

@[simp] theorem execGatereqClockOff_keeps (w : RegWrite) (s : State) : Keeps s (execGatereqClockOff w s) :=
  .next _ (s.gatereqWrite_keeps w 1)

@[simp] theorem execGatereqPowerOff_keeps (w : RegWrite) (s : State) : Keeps s (execGatereqPowerOff w s) :=
  .next _ (s.gatereqWrite_keeps w 2)

@[simp] theorem execGatereqRestore_keeps (w : RegWrite) (s : State) : Keeps s (execGatereqRestore w s) :=
  .next _ (s.gatereqWrite_keeps w 3)

@[simp] theorem execGateRequestGrant_keeps (domain : Nat) (s : State) : Keeps s (execGateRequestGrant domain s) :=
  .next _ (s.grantQueued_keeps domain)

@[simp] theorem execLeaseCeiling_keeps (domain : Nat) (s : State) : Keeps s (execLeaseCeiling domain s) := by
  unfold execLeaseCeiling
  split <;> simp [State.revokeLeases_keeps, State.grantQueued_keeps]

@[simp] theorem execCoreNwdkick_keeps (w : RegWrite) (s : State) : Keeps s (execCoreNwdkick w s) := by
  unfold execCoreNwdkick
  (repeat' split) <;> simp [State.denyRegister_keeps, State.kickNormal_keeps]

@[simp] theorem execNormalWatchdogExpire_keeps (s : State) : Keeps s (execNormalWatchdogExpire s) := by
  unfold execNormalWatchdogExpire
  split <;> simp [State.startNormalRestart_keeps]

@[simp] theorem execWhfLinkcfgWrite_keeps (w : RegWrite) (s : State) : Keeps s (execWhfLinkcfgWrite w s) :=
  .next _ (s.linkcfgBy_keeps w _ fun s c => s.writeLinkcfg_keeps c w.value)

@[simp] theorem execResetPcs_keeps (w : RegWrite) (s : State) : Keeps s (execResetPcs w s) :=
  .next _ (s.linkcfgBy_keeps w _ fun s c => s.resetPcs_keeps c w.value)

@[simp] theorem execPcntLoWrite_keeps (w : RegWrite) (block : Nat) (s : State) : Keeps s (execPcntLoWrite w block s) := by
  unfold execPcntLoWrite
  (repeat' split) <;> simp [State.denyRegister_keeps, State.wakeRegister_keeps, State.writeSite_keeps]

/-! ### Requests, admission and flights -/

@[simp] theorem execRequest_keeps (d : Datagram) (s : State) : Keeps s (execRequest d s) := by
  dsimp only [execRequest]
  (repeat' split) <;> simp [State.wake_keeps, State.openDatagram_keeps, State.sendSealed_keeps, State.endIdle_keeps,
    State.takeRecord_keeps, foldl_mem, foldl_pending]

@[simp] theorem execFgl1Request_keeps (session : Nat) (frame : Bytes) (s : State) :
    Keeps s (execFgl1Request session frame s) := by
  unfold execFgl1Request
  (repeat' split) <;> simp [State.closeTcp_keeps, State.wake_keeps, State.endIdle_keeps, State.fgl1Accept_keeps,
    State.sendOn_keeps]

@[simp] theorem execFgl2Request_keeps (session : Nat) (frame : Bytes) (s : State) :
    Keeps s (execFgl2Request session frame s) := by
  dsimp only [execFgl2Request]
  (repeat' split) <;> simp [State.closeTcp_keeps, State.wake_keeps, State.endIdle_keeps, State.answerNow_keeps,
    State.enter_keeps, State.sendOn_keeps]

@[simp] theorem execBargeAdmit_keeps (barge : Nat) (s : State) : Keeps s (execBargeAdmit barge s) := by
  dsimp only [execBargeAdmit]
  (repeat' split) <;> simp [State.sendOn_keeps, State.answerRefill_keeps, State.refuseBarge_keeps, State.endBarge_keeps,
    State.checkAdmission_keeps]

@[simp] theorem execBargeTakeContext_keeps (flight : Nat) (s : State) : Keeps s (execBargeTakeContext flight s) := by
  unfold execBargeTakeContext
  (repeat' split) <;> simp [State.enterContext_keeps]

@[simp] theorem execFlightFault_keeps (flight : Nat) (cause : FlightCause) (s : State) :
    Keeps s (execFlightFault flight cause s) := by
  unfold execFlightFault
  split <;> simp [State.countFault_keeps, State.abortBarges_keeps, State.movePound_keeps, State.level_keeps,
    State.refreshReady_keeps]

@[simp] theorem execFlightReturn_keeps (flight : Nat) (s : State) : Keeps s (execFlightReturn flight s) := by
  unfold execFlightReturn
  split <;> simp [State.refreshReady_keeps]

/-! ### Steps of barges and ends of jobs -/

@[simp] theorem execParseStep_keeps (barge : Nat) (s : State) : Keeps s (execParseStep barge s) := by
  unfold execParseStep
  (repeat' split) <;> simp [State.endBarge_keeps, State.pass_keeps]

@[simp] theorem execPolicyStep_keeps (barge : Nat) (s : State) : Keeps s (execPolicyStep barge s) := by
  dsimp only [execPolicyStep]
  (repeat' split) <;> simp [State.endBarge_keeps, State.awaitLease_keeps, State.pass_keeps, State.policyProgram_keeps]

@[simp] theorem execLeaseWaitTimeout_keeps (barge : Nat) (s : State) : Keeps s (execLeaseWaitTimeout barge s) := by
  unfold execLeaseWaitTimeout
  (repeat' split) <;> simp [State.endBarge_keeps]

@[simp] theorem execDrbgDrawTimeout_keeps (barge : Nat) (s : State) : Keeps s (execDrbgDrawTimeout barge s) := by
  unfold execDrbgDrawTimeout
  (repeat' split) <;> simp [State.endBarge_keeps]

theorem State.wakeForKeys_keeps (s : State) (r : BargeRec) :
    (s.wakeForKeys r).mem = s.mem ∧ (s.wakeForKeys r).pending = s.pending := by
  unfold State.wakeForKeys
  split <;> simp [State.wakeDomain_keeps]

theorem FetchResult.goOn_keeps (n : Nat) (r : BargeRec) (x : FetchResult) :
    (x.goOn n r).mem = x.state.mem ∧ (x.goOn n r).pending = x.state.pending := by
  cases x <;> simp [FetchResult.goOn, FetchResult.state, State.endBarge_keeps, State.pass_keeps]

@[simp] theorem execKeyfetchStep_keeps (barge guardErrors : Nat) (s : State) :
    Keeps s (execKeyfetchStep barge guardErrors s) := by
  cases hfind : s.flt.barges.find barge with
  | none => simp [execKeyfetchStep, hfind]
  | some r =>
    by_cases hturn : s.turn barge r 2 = true
    · cases hreply : r.reply with
      | some reply =>
        rw [show execKeyfetchStep barge guardErrors s = _ from exec_keyfetchStep_replied hfind guardErrors hturn hreply]
        simp [State.endBarge_keeps, State.wakeForKeys_keeps]
      | none =>
        rw [show execKeyfetchStep barge guardErrors s = _ from exec_keyfetchStep_fetches hfind guardErrors hturn hreply]
        simp [FetchResult.goOn_keeps, State.fetchNext_keeps, State.wakeForKeys_keeps]
    · simp [execKeyfetchStep, hfind, hturn]

@[simp] theorem execEmitStep_keeps (barge : Nat) (s : State) : Keeps s (execEmitStep barge s) := by
  unfold execEmitStep
  (repeat' split) <;> simp [State.judge_keeps, State.discharge_keeps, State.judgeLate_keeps, State.completeWith_keeps,
    State.switchAdvance_keeps]

@[simp] theorem execDrainTimeout_keeps (d : Drain) (s : State) : Keeps s (execDrainTimeout d s) := by
  unfold execDrainTimeout
  (repeat' split) <;> simp [State.abortBarges_keeps, State.switchAdvance_keeps]

@[simp] theorem execSegmentCombine_keeps (barge : Nat) (s : State) : Keeps s (execSegmentCombine barge s) := by
  unfold execSegmentCombine
  (repeat' split) <;> simp [State.commitCipher_keeps, State.spreadSegments_keeps]

@[simp] theorem execHashJobDone_keeps (barge compressions : Nat) (s : State) :
    Keeps s (execHashJobDone barge compressions s) := by
  unfold execHashJobDone
  (repeat' split) <;> simp [State.countOps_keeps, State.writeResults_keeps, State.finishJob_keeps]

@[simp] theorem execSuspendedJobResume_keeps (barge : Nat) (s : State) : Keeps s (execSuspendedJobResume barge s) := by
  dsimp only [execSuspendedJobResume]
  (repeat' split) <;> simp [State.loadKey_keeps, State.modEngine_keeps]

/-! ### Rows of verbs -/

theorem verbStep_keeps {v : Verb} (h : ∀ b s, (v.run b s).st.mem = s.mem ∧ (v.run b s).st.pending = s.pending) (b : Barge)
    (s : State) : Keeps s (verbStep v b s) :=
  .next _ (serve_keeps v h b s)

theorem verbStep_keeps_of_base {v : Verb} (h : baseVerb v.opcode = some v) (b : Barge) (s : State) : Keeps s (verbStep v b s) :=
  verbStep_keeps (baseVerb_keeps v.opcode v h) b s

/-! ## Every command that neither stores nor resets -/

/-- A command that neither stores nor may reset leaves memory, and the queue with it: the row of a verb of a family by the law of
`baseVerb`, that of a ballot or of the debug port by its verb's, and any other row by its own. -/
theorem exec_keeps (c : Instr) (s : State) (hstores : stores c = false) (hclears : clears c = false) : Keeps s (exec c s) := by
  cases c with
  | fabricAccess | cipherStep | hashStep | pkeStep | formatStep | fwAssistReturn | dbgWrite => simp [stores] at hstores
  | readReg | writeReg | readRegDx6100 | loReadLatch | coreWdkick | restart | cipherJobDone | pkeJobDone | latticeJobDone
  | bnkCoreFault | seedTimeout | engineFault | deviceSignatureDone | periodicKat | keeperWatchdogExpire
  | secureKernelException | secureRestartComplete | restartEscalateTimeout | normalRestartComplete | delayedFullReset
  | dbgRead | boot | start | sensorAlarm | heldRelease | shadowScan | inputQualified | outageTimeout | inputLossTrip
  | holdupThreshold | shortLBreak | outageEnd => simp [clears] at hclears
  | sessionInfo | moduleInfo | moduleInfoDx6100 | idleAnnounce | custodianEnrol | custodianSuspend | custodianReinstate
  | custodianRevoke | custodianRead | custodyEstablish | ballotApprove | ballotWithdraw | ballotStatus | sliceCreate
  | sliceSetQuota | sliceBind | sliceFreeze | sliceThaw | sliceReset | sliceRemove | sliceSave | sliceRestore | sliceStatus
  | sliceMapRead | anchorAdd | anchorRemove | keyGenerate | keyImportWrapped | keyComponent | keyDelete | keyAttrRead
  | keyAttrRestrict | keyExportWrapped | keyBlobRead | keyBlobLoad | keyShred | certRead | domainBackup | shareImportKey
  | domainShareImport | keyAttrReadDx6100 | keyDeleteDx6100 | chartRead | chartStage | chartDiscard | chartApply
  | chartStatus | settingsStore | settingsRead | chartStatusDx6100 | dkGenerate | dkWrap | dkUnwrap | dkRewrap | dkUnwrapBulk
  | dkRewrapBulk | bucketCreate | bucketReparent | kekLoad | kekEvict | kekShred | pinTranslate | pinTranslate4 | pinVerify
  | arqcVerify | arqcVerifyExt | cvvGenerate | cvvVerify | macGenerate | macVerify | kbImport | kbExport | dectabSet
  | pinVerifyDx6100 | pinTranslateDx6100 | pinTranslateDukptDx6100 | cvvGenerateDx6100 | cvvVerifyDx6100 | macGenerateDx6100
  | macVerifyDx6100 | arqcVerifyExtDx6100 | kbImportDx6100 | kbExportDx6100 | aeadSeal | aeadOpen | ecdsaSign | ecdsaVerify
  | ecdhDerive | eddsaSign | eddsaVerify | xdhDerive | pubkeyRead | rsaPrivate | rsaPublic | modOp | kemEncaps | kemDecaps
  | mldsaSign | mldsaVerify | hash | hmacGenerate | hmacVerify | opbufAlloc | opbufWrite | opbufRead | opbufFree
  | rsaPrivateDx6100 | rsaPublicDx6100 | ecdsaSignDx6100 | ecdsaVerifyDx6100 | pairStatus | pairBind | pairPolicy
  | witnessSet | basinConfig | basinStatus | domainStatus | domainJoin | domainAdmit | domainExpel | commitFloor
  | sliceSpread | keyDistribute | domainRegistrar | pairStatusDx6100 | lcStatus | lcTransition | fwStage | fwActivate
  | fwStatus | attestIdentity | attestQuote | foundryCertRead | dbgChallenge | dbgEnable | dbgEnd | vendorRevoke
  | lcStatusDx6100 | tamperStatus | tamperConfig | evidenceExport | evidenceMark | recRead | recClear | healthRead
  | counterRead | timeStatus | timeSet => exact verbStep_keeps_of_base (by rfl) ..
  | ballotPropose => exact verbStep_keeps ballotProposeVerb_keeps ..
  | ballotExecute => exact verbStep_keeps ballotExecuteVerb_keeps ..
  | dbgCore => exact verbStep_keeps dbgCoreVerb_keeps ..
  | _ => dsimp only [exec]; simp

/-- Settles O5: memory is one half of what `exec_keeps` says such a command leaves. -/
theorem commandsLeaveMemory : Obligations.CommandsLeaveMemory := by
  unfold Obligations.CommandsLeaveMemory
  intro c s t hstores hclears hnext
  have hkeeps := exec_keeps c s hstores hclears
  rw [hnext, keeps_next] at hkeeps
  exact hkeeps.1

end Sys2Proof.Machine

/-! Frames, links, the answers of the wharf and beacons (R48 to R54, R81, R509). -/

namespace Sys2Proof.Machine

/-! ## Frames (R51, R52, R509) -/

/-- A frame counts its FEC codewords and site event 512. -/
def State.countFrame (s : State) (f : HostFrame) : State := (s.countFec f).countSite 1 f.cage 512 1

/-- Bytes in the link buffer. -/
def State.buffered (s : State) : Nat := (s.pwr.linkBuffer.map fun e => e.2.length).foldl (· + ·) 0

/-- A frame stands in the link buffer, behind those that came before it. -/
def State.bufferFrame (s : State) (f : HostFrame) : State :=
  { s with pwr := { s.pwr with linkBuffer := s.pwr.linkBuffer ++ [(f.cage, f.bytes)] } }

section Frames
variable {f : HostFrame} {s : State}

theorem exec_hostFrameRx_ignored (hcage : f.cage < 3) (hignored : f.cage = 2 ∨ isPause f.bytes = true) :
    exec (.hostFrameRx f) s = .next (s.countFrame f) := by
  show execHostFrameRx f s = _
  rw [execHostFrameRx, if_neg (Nat.not_lt.2 (Nat.le_of_lt_succ hcage))]
  exact if_pos hignored

variable (hhost : f.cage < 2) (hpause : isPause f.bytes = false)
include hhost hpause

/-- A frame of a host port that is no pause frame goes by what the wharf accepts. -/
theorem exec_hostFrameRx :
    exec (.hostFrameRx f) s = .next ((acceptFrame f).elim ((s.countFrame f).dropFrame f.cage) fun v =>
      if (s.countFrame f).pwr.state = 4 then
        if 2097152 < (s.countFrame f).buffered + f.bytes.length then (s.countFrame f).dropFrame f.cage
        else if wakesModule f.bytes = true then ((s.countFrame f).bufferFrame f).wake else (s.countFrame f).bufferFrame f
      else (s.countFrame f).handOn f.cage v f.bytes) := by
  show execHostFrameRx f s = _
  have hgoes : ¬(f.cage = 2 ∨ isPause f.bytes = true) := by simp [hpause, Nat.ne_of_lt hhost]
  rw [execHostFrameRx, if_neg (by omega)]
  refine (if_neg hgoes).trans ?_
  cases acceptFrame f with
  | none => rfl
  | some v =>
    simp only [Option.elim_some, apply_ite Host.Outcome.next]
    rfl

end Frames

/-! ## The answers of the wharf (R53) -/

theorem exec_arpRequest (q : AddrQuery) (s : State) :
    exec (.arpRequest q) s = .next (
      if q.target.length = 4 ∧ s.wake.answersFor q.cage q.vlan q.target = true
        then s.wake.emit (.frame q.cage q.sender (be 2 2 ++ q.target ++ q.sender)) else s.wake) := by
  show execArpRequest q s = _
  simp only [execArpRequest, Bool.and_eq_true, beq_iff_eq, apply_ite Host.Outcome.next]

theorem exec_neighbourSolicitation (q : AddrQuery) (s : State) :
    exec (.neighbourSolicitation q) s = .next (
      if q.target.length = 16 ∧ s.wake.answersFor q.cage q.vlan q.target = true
        then s.wake.emit (.frame q.cage q.sender (be 1 136 ++ q.target ++ q.sender)) else s.wake) := by
  show execNeighbourSolicitation q s = _
  simp only [execNeighbourSolicitation, Bool.and_eq_true, beq_iff_eq, apply_ite Host.Outcome.next]

/-- Echo replies of a port in the present second. -/
def State.echoesNow (s : State) (cage : Nat) : Nat :=
  if (s.link cage).echoSecond = s.now / 1000000000 then (s.link cage).echoes else 0

/-- One more echo request counts against the port's second. -/
def State.countEcho (s : State) (cage : Nat) : State :=
  s.modLink cage fun l => { l with echoSecond := s.now / 1000000000, echoes := min 1000 (s.echoesNow cage + 1) }

section Echo
variable {q : AddrQuery} {s : State}

theorem exec_echoRequest_foreign (hforeign : s.answersFor q.cage q.vlan q.target = false) :
    exec (.echoRequest q) s = .next s := by
  show execEchoRequest q s = _
  simp [execEchoRequest, hforeign]

theorem exec_echoRequest_own (hown : s.answersFor q.cage q.vlan q.target = true) :
    exec (.echoRequest q) s = .next (
      if s.echoesNow q.cage < 1000 then (s.countEcho q.cage).emit
        (.frame q.cage q.sender (be 1 (if q.target.length = 4 then 0 else 129) ++ q.target ++ q.data))
      else s.countEcho q.cage) := by
  show execEchoRequest q s = _
  rw [execEchoRequest, if_pos hown, apply_ite Host.Outcome.next]
  rfl

end Echo

/-! ## Links (R48, R50, R56, R521) -/

section HostLink
variable {cage : Nat} {p : LinkPartner} {s : State}

theorem exec_hostLinkUp_over_budget (hover : (s.cage cage).exceeds = true) : exec (.hostLinkUp cage p) s = .next s :=
  if_pos (.inr hover)

theorem exec_hostLinkUp (hcage : cage < 3) (hbudget : (s.cage cage).exceeds = false) :
    exec (.hostLinkUp cage p) s = .next (((s.link cage).resolve cage p).elim
      (if (s.link cage).anEn = true then s.trainFail cage else s) fun x => s.linkUp cage x.1 x.2) := by
  show execHostLinkUp cage p s = _
  have hup : ¬(2 < cage ∨ (s.cage cage).exceeds = true) := by simp [hbudget]; omega
  refine (if_neg hup).trans ?_
  cases (s.link cage).resolve cage p <;> rfl

theorem exec_hostLinkDown (hcage : cage < 3) (failed : Bool) :
    exec (.hostLinkDown cage failed) s = .next (if failed = true then (s.linkDown cage).trainFail cage else s.linkDown cage) := by
  show execHostLinkDown cage failed s = _
  rw [execHostLinkDown, if_neg (Nat.not_lt.2 (Nat.le_of_lt_succ hcage)), apply_ite Host.Outcome.next]

end HostLink

theorem exec_anRestartTimeout {cage t : Nat} {s : State} (hdue : (s.link cage).anRestart = some t) :
    exec (.anRestartTimeout cage) s = .next ((s.upTo t).modLink cage fun l => { l with anRestart := none, anDone := false }) := by
  show execAnRestartTimeout cage s = _
  simp [execAnRestartTimeout, hdue]

theorem exec_towpathLinkUp_over_budget {s : State} (hover : (s.cage 2).exceeds = true) : exec .towpathLinkUp s = .next s :=
  if_pos hover

theorem exec_towpathLinkUp {s : State} (hbudget : (s.cage 2).exceeds = false) :
    exec .towpathLinkUp s = .next (
      if (s.linkUp 2 1 2).tow.partner = 0 then s.linkUp 2 1 2
      else ((s.linkUp 2 1 2).newLink (s.linkUp 2 1 2).tow.partner).sendHello) := by
  show execTowpathLinkUp s = _
  have hup : ¬(s.cage 2).exceeds = true := by simp [hbudget]
  refine (if_neg hup).trans ?_
  rw [apply_ite Host.Outcome.next]

/-! ## Beacons (R81) -/

/-- The next beacon of a port counts, a second after the last. -/
def State.countBeacon (s : State) (cage : Nat) : State :=
  (s.upTo (s.link cage).beaconAt).modLink cage fun l =>
    { l with beaconPn := (s.link cage).beaconPn + 1, beaconAt := (s.upTo (s.link cage).beaconAt).now + 1000000000 }

/-- The body of a beacon, but for its signature (R81). -/
def State.beaconBody (s : State) : Bytes :=
  be 8 s.ctr.moduleId.toNat ++ be 8 s.stamp.toNat ++ be 2 s.ctr.state.code ++ be 1 s.ctr.state.view ++ be 1 s.beaconFlags ++
    be 4 s.ctr.svn ++ be 1 s.fglEnabled ++ zeros 3

/-- The signature over a beacon's header and body (R81). -/
def State.beaconSignature (s : State) (pn : Nat) : Bytes :=
  s.sign384 s.sessionKey (fglHeader 0x20 false 0 pn (s.beaconBody.length + 96) ++ s.beaconBody)

theorem exec_beaconTimer {cage : Nat} {dest : Bytes} {s : State} (hdest : s.setting 6 (be 1 cage) = some dest) (hhost : cage < 2)
    (hup : (s.link cage).up = true) :
    let pn := (s.link cage).beaconPn + 1
    let t := s.countBeacon cage
    exec (.beaconTimer cage) s =
      .next (t.freeNat.2.sendClear 0x20 0 pn (t.beaconBody ++ t.beaconSignature pn) cage (sl dest 4 16 ++ sl dest 2 2)) := by
  intro pn t
  show execBeaconTimer cage s = _
  have hsends : ((s.link cage).up && decide (cage < 2)) = true := by simp [hup, hhost]
  unfold execBeaconTimer
  rw [hdest]
  exact if_pos hsends

/-- Settles O29: one lemma for each command, with its cases taken from its equation. -/
theorem wharfCommandsAct : Obligations.WharfCommandsAct := by
  unfold Obligations.WharfCommandsAct
  refine ⟨?frames, ?addresses, ?echoes, ?linkUp, fun cage s hcage => ⟨exec_hostLinkDown hcage false, exec_hostLinkDown hcage true⟩,
    fun cage t s => exec_anRestartTimeout, fun cage dest s hdest hhost hup => exec_beaconTimer hdest hhost hup, ?towpath⟩
  case frames =>
    intro f s hcage t
    refine ⟨exec_hostFrameRx_ignored hcage, fun hhost hpause => ?_⟩
    have hframe := exec_hostFrameRx (s := s) hhost hpause
    refine ⟨fun hbad => ?_, fun v hgood hawake => ?_, fun v hgood hasleep => ?_⟩
    · rw [hframe, hbad]
      rfl
    · rw [hframe, hgood]
      exact congrArg _ (if_neg hawake)
    · rw [hgood] at hframe
      have hheld := hframe.trans (congrArg _ (if_pos hasleep))
      exact ⟨fun hfull => hheld.trans (congrArg _ (if_pos hfull)),
        fun hroom => hheld.trans (congrArg _ (if_neg (Nat.not_lt.2 hroom)))⟩
  case addresses =>
    intro q s w
    refine ⟨fun hv4 hown => ?_, fun hv6 hown => ?_, fun hforeign => ?_⟩
    · exact (exec_arpRequest q s).trans (congrArg _ (if_pos ⟨hv4, hown⟩))
    · exact (exec_neighbourSolicitation q s).trans (congrArg _ (if_pos ⟨hv6, hown⟩))
    · have hnone (n : Nat) : ¬(q.target.length = n ∧ w.answersFor q.cage q.vlan q.target = true) := by simp [hforeign]
      exact ⟨(exec_arpRequest q s).trans (congrArg _ (if_neg (hnone 4))),
        (exec_neighbourSolicitation q s).trans (congrArg _ (if_neg (hnone 16)))⟩
  case echoes =>
    intro q s second n t
    refine ⟨fun hown hfew => ?_, fun hown hmany => ?_, exec_echoRequest_foreign⟩
    · refine (exec_echoRequest_own hown).trans (congrArg _ ((if_pos hfew).trans ?_))
      rw [apply_ite (be 1)]
      rfl
    · exact (exec_echoRequest_own hown).trans (congrArg _ (if_neg (Nat.not_lt.2 hmany)))
  case linkUp =>
    intro cage p s hcage
    refine ⟨exec_hostLinkUp_over_budget, fun hbudget => ⟨fun m f hresolved => ?_, fun hresolved => ?_⟩⟩ <;>
      rw [exec_hostLinkUp hcage hbudget, hresolved] <;> rfl
  case towpath =>
    intro s t
    refine ⟨exec_towpathLinkUp_over_budget, fun hbudget halone => ?_, fun hbudget hpaired => ?_⟩
    · exact (exec_towpathLinkUp hbudget).trans (congrArg _ (if_pos halone))
    · exact (exec_towpathLinkUp hbudget).trans (congrArg _ (if_neg hpaired))

end Sys2Proof.Machine

/-! PTP messages on a port of the configured domain, and the lock of a port (R82, R496, R497). -/

namespace Sys2Proof.Machine

/-! ## The tests of a PTP message (R82) -/

/-- A message comes on a port of the configured domain: a host port that the settings let take part. -/
def State.hearsPtp (s : State) (m : PtpMessage) : Prop :=
  m.cage < 2 ∧ m.domain = s.ptpSetting.1 ∧ s.ptpSetting.2.1.testBit m.cage = true

theorem State.hearsPtp_iff (s : State) (m : PtpMessage) :
    s.hearsPtp m ↔ ¬(1 < m.cage ∨ m.domain ≠ s.ptpSetting.1 ∨ (!s.ptpSetting.2.1.testBit m.cage) = true) := by
  simp only [State.hearsPtp, not_or, Nat.not_lt, ne_eq, Decidable.not_not, Bool.not_eq_true', Bool.not_eq_false]
  exact and_congr Nat.lt_succ_iff Iff.rfl

/-- An announce becomes its port's dataset: it is the first, comes from the port's master, or is better. -/
def PtpPort.takes (p : PtpPort) (m : PtpMessage) : Bool :=
  p.best.isNone || p.master == m.source || datasetLess m.quality (p.best.getD [])

theorem PtpPort.takes_iff (p : PtpPort) (m : PtpMessage) :
    p.takes m = true ↔ p.best = none ∨ p.master = m.source ∨ datasetLess m.quality (p.best.getD []) = true := by
  simp [PtpPort.takes, or_assoc]

/-- A port gives the time of day: it is the best, or none is yet. -/
def State.leadsPtp (s : State) (cage : Nat) : Bool := s.whf.ptpBest == some cage || s.whf.ptpBest.isNone

theorem State.leadsPtp_iff (s : State) (cage : Nat) :
    s.leadsPtp cage = true ↔ s.whf.ptpBest = some cage ∨ s.whf.ptpBest = none := by
  simp [State.leadsPtp]

/-! ## PTP messages (R82, R496, R497) -/

/-- A PTP message wakes the module and counts site event 518. -/
def State.countPtp (s : State) (m : PtpMessage) : State := s.wake.countSite 1 m.cage 518 1

/-- An announce as its port's dataset. -/
def State.takeDataset (s : State) (m : PtpMessage) : State :=
  s.modPtp m.cage fun p => { p with best := some m.quality, master := m.source }

/-- The UTC offset and the leap that an announce gives (R497). -/
def State.takeUtc (s : State) (m : PtpMessage) : State :=
  { s with clk := { s.clk with
    utcOffset := if m.utcOffsetValid then m.utcOffset % 256 else s.clk.utcOffset,
    leapFlag := if m.leap61 then 1 else if m.leap59 then -1 else 0 } }

theorem exec_ptpMessage_unheard {m : PtpMessage} {s : State} (h : ¬s.hearsPtp m) :
    exec (.ptpMessage m) s = .next (s.countPtp m) :=
  if_pos (Classical.byContradiction fun hgoes => h ((s.hearsPtp_iff m).2 hgoes))

section Heard
variable {m : PtpMessage} {s : State} (hheard : s.hearsPtp m)
include hheard

theorem exec_ptpMessage_announce (hkind : m.kind = .announce) :
    exec (.ptpMessage m) s = .next (
      if ((s.countPtp m).ptpPort m.cage).takes m = true then
        if ((s.countPtp m).takeDataset m).leadsPtp m.cage = true then ((s.countPtp m).takeDataset m).takeUtc m
        else (s.countPtp m).takeDataset m
      else s.countPtp m) := by
  refine (if_neg ((s.hearsPtp_iff m).1 hheard)).trans ?_
  simp only [hkind, apply_ite Host.Outcome.next]
  rfl

theorem exec_ptpMessage_sync (hkind : m.kind = .sync) (hmaster : ((s.countPtp m).ptpPort m.cage).master = m.source)
    (hbest : ((s.countPtp m).ptpPort m.cage).best ≠ none) :
    exec (.ptpMessage m) s = .next (State.delayRequest
      (if m.twoStep = true
        then (s.countPtp m).modPtp m.cage fun p => { p with sync := some (m.sequence, (s.countPtp m).stamp.toNat) }
        else (s.countPtp m).measure m.cage m.origin (s.countPtp m).stamp.toNat) m.cage m.transport m.sequence) := by
  refine (if_neg ((s.hearsPtp_iff m).1 hheard)).trans ?_
  have hown : (((s.countPtp m).ptpPort m.cage).master != m.source || ((s.countPtp m).ptpPort m.cage).best.isNone) = false := by
    simp [hmaster, Option.isSome_iff_ne_none, hbest]
  simp only [hkind]
  refine (if_neg ((Bool.not_eq_true _).mpr hown)).trans ?_
  cases m.twoStep <;> rfl

theorem exec_ptpMessage_followUp {ingress : Nat} (hkind : m.kind = .followUp)
    (hsync : ((s.countPtp m).ptpPort m.cage).sync = some (m.sequence, ingress))
    (hmaster : ((s.countPtp m).ptpPort m.cage).master = m.source) :
    exec (.ptpMessage m) s = .next ((s.countPtp m).measure m.cage m.origin ingress) := by
  refine (if_neg ((s.hearsPtp_iff m).1 hheard)).trans ?_
  rw [State.countPtp] at *
  simp [hkind, hsync, hmaster]

theorem exec_ptpMessage_delayReq (hkind : m.kind = .delayReq) :
    exec (.ptpMessage m) s = .next (
      if s.ptpSetting.2.2 = 1 then (s.countPtp m).emit (.frame m.cage m.source
        (be 1 m.transport ++ be 1 3 ++ be 2 m.sequence ++ be 8 (s.countPtp m).stamp.toNat))
      else s.countPtp m) := by
  refine (if_neg ((s.hearsPtp_iff m).1 hheard)).trans ?_
  simp only [hkind, apply_ite Host.Outcome.next]
  rfl

theorem exec_ptpMessage_delayResp {egress : Nat} {delay : Int} (hkind : m.kind = .delayResp)
    (hreq : ((s.countPtp m).ptpPort m.cage).req = some (m.sequence, egress))
    (hdelay : pathDelay (s.ptpSetting.2.2 = 1) m egress (s.countPtp m).stamp.toNat ((s.countPtp m).ptpPort m.cage).last = some delay) :
    exec (.ptpMessage m) s = .next ((s.countPtp m).modPtp m.cage fun p => { p with req := none, delay := delay }) := by
  refine (if_neg ((s.hearsPtp_iff m).1 hheard)).trans ?_
  rw [State.countPtp] at *
  rw [State.ptpSetting] at hdelay
  simp [hkind, hreq, hdelay]

end Heard

theorem exec_ptpLockLost {cage : Nat} {p : PtpPort} {s : State} (hport : s.whf.ptp.find cage = some p) (hlocked : p.locked = true) :
    exec (.ptpLockLost cage) s = .next (s.ptpUnlock cage) := by
  show execPtpLockLost cage s = _
  simp [execPtpLockLost, hport, hlocked]

/-- Settles O30: one lemma for each kind of message, and one for the lock. -/
theorem ptpCommandsAct : Obligations.PtpCommandsAct := by
  unfold Obligations.PtpCommandsAct
  refine ⟨fun m s => ⟨fun hunheard => ?_, fun hhost hdomain hport => ?_⟩, fun cage p s => exec_ptpLockLost⟩
  · refine exec_ptpMessage_unheard ?_
    rintro ⟨hhost, hdomain, hport⟩
    rcases hunheard with h | h | h
    · exact Nat.not_lt.2 h hhost
    · exact h hdomain
    · exact absurd hport (by simp [h])
  have hheard : s.hearsPtp m := ⟨hhost, hdomain, hport⟩
  refine ⟨?announce, ?sync, fun ingress => exec_ptpMessage_followUp hheard, ?delayReq, ?delayResp⟩
  case announce =>
    intro hkind take t
    have hannounce := exec_ptpMessage_announce hheard hkind
    simp only [PtpPort.takes_iff, State.leadsPtp_iff] at hannounce
    refine ⟨fun htake hother hsome => ?_, fun htake hleads => ?_, fun hkeep => ?_⟩
    · exact hannounce.trans (congrArg _ ((if_pos htake).trans (if_neg (not_or.2 ⟨hother, hsome⟩))))
    · exact hannounce.trans (congrArg _ ((if_pos htake).trans (if_pos hleads)))
    · exact hannounce.trans (congrArg _ (if_neg hkeep))
  case sync =>
    intro hkind hmaster hbest
    have hsync := exec_ptpMessage_sync hheard hkind hmaster hbest
    refine ⟨fun hone => ?_, fun htwo => ?_⟩
    · rw [hone] at hsync
      exact hsync
    · rw [htwo] at hsync
      exact hsync
  case delayReq =>
    intro hkind
    have hanswer := exec_ptpMessage_delayReq hheard hkind
    exact ⟨fun hpeer => hanswer.trans (congrArg _ (if_pos hpeer)), fun hpeer => hanswer.trans (congrArg _ (if_neg hpeer))⟩
  case delayResp =>
    intro egress hkind hreq
    refine ⟨fun hpeer => ?_, fun o i hpeer hlast => ?_⟩ <;> refine exec_ptpMessage_delayResp hheard hkind hreq ?_
    · rw [decide_eq_true hpeer]
      rfl
    · rw [decide_eq_false hpeer]
      exact congrArg (Option.map _) hlast

end Sys2Proof.Machine

/-! HELLO_C, FINISH_C and the TLS handshakes (R62 to R65, R74, R78). -/

namespace Sys2Proof.Machine

/-! ## HELLO_C (R62, R64, R74) -/

/-- The answer to a well-formed HELLO_C, by the checks in their order (R62, R64, R65, R74). -/
def State.helloAnswer (s : State) (d : Datagram) : State :=
  let body := dgBody d
  let cookie := sl body 36 32
  let validated := cookieValid d.source cookie s.now
  if fld body 32 2 < 4096 ∨ 9146 < fld body 32 2 then s.alertClear d stBadFormat
  else if allZero cookie = false ∧ validated = false then s
  else if 65536 ≤ s.sessionCount (fun x => x.fgl == 3) then
    (s.raise 4 d.cage 0xFFFF stClassFull.toNat 0).alertClear d stClassFull
  else if 8000 ≤ s.handshakesNow then s.alertClear d stClassFull
  else if validated = false ∧ (s.amplifies d = true ∨ 4096 < s.whf.halfOpen.length) then
    s.sendClear 0x06 0 0 (cookieFor d.source s.now) d.cage d.source
  else if Config.onCurve 2 (sl body 68 97) = false then s.alertClear d stNotOnCurve
  else if Config.kemKeyOk (sl body 165 1184) = false then s.alertClear d stNoncanonical
  else s.helloM d body

section Hello
variable {d : Datagram} {s : State} (hlong : 24 ≤ d.bytes.length) (htype : dgType d = 0x01)
include hlong htype

/-- A HELLO_C has the length of a header and its type. -/
theorem hello_shape : ¬(d.bytes.length < 24 ∨ dgType d ≠ 0x01) :=
  not_or.2 ⟨Nat.not_lt.2 hlong, not_not_intro htype⟩

theorem exec_helloC_version (hversion : fld d.bytes 0 1 ≠ 3) : exec (.helloC d) s = .next (s.wake.alertClear d stVersion) :=
  (if_neg (hello_shape hlong htype)).trans (if_pos hversion)

variable (hversion : fld d.bytes 0 1 = 3) (hnormal : s.wake.cor.normalRestarting = false)
include hversion hnormal

theorem exec_helloC_off (hoff : s.wake.fglEnabled.testBit 2 = false) :
    exec (.helloC d) s = .next (s.wake.alertClear d stVersion) := by
  show execHelloC d s = _
  simp [execHelloC, Nat.not_lt.2 hlong, htype, hversion, hnormal, hoff]

theorem exec_helloC (hon : s.wake.fglEnabled.testBit 2 = true) (hbody : (dgBody d).length = 1349)
    (hlength : fld d.bytes 20 2 = 1349) : exec (.helloC d) s = .next (s.wake.helloAnswer d) := by
  show execHelloC d s = _
  simp only [execHelloC, State.helloAnswer, hello_shape hlong htype, hversion, hnormal, hon, hbody, hlength, ne_eq,
    not_true_eq_false, Bool.not_true, Bool.false_eq_true, or_self, if_false, apply_ite Host.Outcome.next, Bool.and_eq_true,
    Bool.or_eq_true, Bool.not_eq_eq_eq_not, decide_eq_true_eq]

end Hello

/-! ## FINISH_C (R63, R65, R77) -/

section Finish
variable {d : Datagram} {s : State} (hshape : dgShape d 0x03 = true) (hnormal : s.wake.cor.normalRestarting = false)
include hshape hnormal

theorem exec_finishC_unknown (hunknown : s.wake.whf.halfOpen.find (dgSession d) = none) :
    exec (.finishC d) s = .next (if (s.wake.session (dgSession d)).isSome = true then s.wake else s.wake.resetHint d) := by
  show execFinishC d s = _
  simp [execFinishC, hshape, hnormal, hunknown]

variable {o : HalfOpen} (hopen : s.wake.whf.halfOpen.find (dgSession d) = some o)
include hopen

theorem exec_finishC_unauthentic
    (hbad : Config.gcmOpen (trafficKey o.cHs) (datagramNonce (trafficIv o.cHs) 1) (dgHeader d) (dgBody d) = none) :
    exec (.finishC d) s = .next (s.wake.dropAuth d.cage) := by
  show execFinishC d s = _
  simp [execFinishC, hshape, hnormal, hopen, hbad]

variable {plain : Bytes}
  (hgood : Config.gcmOpen (trafficKey o.cHs) (datagramNonce (trafficIv o.cHs) 1) (dgHeader d) (dgBody d) = some plain)
include hgood

theorem exec_finishC_refused {c : W16}
    (hfail : ((s.wake.countSite 1 d.cage 514 1).firmwareJobs .publicKey).finishChecks o plain = .error c) :
    exec (.finishC d) s =
      .next (((s.wake.countSite 1 d.cage 514 1).firmwareJobs .publicKey).alertHandshake (dgSession d) o c) := by
  show execFinishC d s = _
  simp [execFinishC, hshape, hnormal, hopen, hgood, hfail]

theorem exec_finishC_establishes {a slice : Nat} {p th : Bytes}
    (hpass : ((s.wake.countSite 1 d.cage 514 1).firmwareJobs .publicKey).finishChecks o plain = .ok (a, p, slice, th)) :
    exec (.finishC d) s =
      .next (((s.wake.countSite 1 d.cage 514 1).firmwareJobs .publicKey).establish (dgSession d) o d a p slice th) := by
  show execFinishC d s = _
  simp [execFinishC, hshape, hnormal, hopen, hgood, hpass]

end Finish

/-! ## The TLS handshakes (R74, R78) -/

/-- Resumption, a pre-shared key and early data are never granted: each runs the full handshake (R78). -/
theorem exec_tlsHandshake_full {h : TlsHello}
    (hask : h.ask = .full ∨ h.ask = .resumption ∨ h.ask = .preShared ∨ h.ask = .earlyData) (s : State) :
    exec (.tlsHandshake h) s = .next ((s.wake.firmwareJobs .publicKey).tlsFull h) := by
  show execTlsHandshake h s = _
  rcases hask with hask | hask | hask | hask <;> simp [execTlsHandshake, hask]

theorem exec_tlsHandshake_renegotiation {h : TlsHello} (hask : h.ask = .renegotiation) (s : State) :
    exec (.tlsHandshake h) s = .next s.wake := by
  show execTlsHandshake h s = _
  simp [execTlsHandshake, hask]

theorem exec_tlsHandshake_keyUpdate {h : TlsHello} {requested : Bool} (hask : h.ask = .keyUpdate requested) (s : State) :
    exec (.tlsHandshake h) s = .next (s.wake.tlsKeyUpdate h.cage h.source requested) := by
  show execTlsHandshake h s = _
  simp [execTlsHandshake, hask]

/-- A module that takes connections hears a client of a generation that is on, with the parameters of R78. -/
def State.tlsFair (s : State) (h : TlsHello) : Prop :=
  s.cor.normalRestarting = false ∧ s.ctr.dbgNormal = none ∧ s.fglEnabled.testBit (h.fgl - 1) = true ∧ tlsParams h = true

theorem State.tlsFair_iff (s : State) (h : TlsHello) :
    s.tlsFair h ↔ ¬(s.cor.normalRestarting = true ∨ s.ctr.dbgNormal.isSome = true ∨
      (!s.fglEnabled.testBit (h.fgl - 1)) = true ∨ (!tlsParams h) = true) := by
  simp [State.tlsFair]

/-- The client's chain, signature and slice are refused: the signature fails, the slice takes no session, or its quota is full. -/
def State.refusesTls (s : State) (h : TlsHello) (slice : Nat) : Prop :=
  verify384 (Config.leafKey h.chain) h.transcript h.signature = false ∨ s.sliceOpen slice = false ∨
    (s.slice slice).quota.sessions12 ≤ s.sessionCount (fun x => x.fgl != 3 && x.slice == slice)

/-- A traffic secret of an FGL-2 connection, the module's or the client's; FGL-1 has none (R78). -/
def tlsSecretOf (h : TlsHello) (module : Bool) : Bytes := if h.fgl = 2 then fit 48 (Config.tlsSecret h.transcript module) else []

/-- A full handshake opens a session bound to a principal's slice. -/
def State.openTls (s : State) (h : TlsHello) (a : Nat) (p : Bytes) (slice : Nat) : State :=
  { s with whf := { s.whf with
    nextTcp := s.whf.nextTcp + 1,
    sessions := s.whf.sessions.put s.whf.nextTcp
      { fgl := h.fgl, slice := slice, generation := s.sessionGeneration slice, anchor := a, principal := p, limit := 0,
        cage := h.cage, source := h.source, lastHeard := s.now, idle := s.idleS,
        recv := { secret := tlsSecretOf h false, since := s.now }, send := { secret := tlsSecretOf h true, since := s.now } } } }

section Tls
variable {s : State} {h : TlsHello}

theorem State.tlsFull_of_not_fair (hunfair : ¬s.tlsFair h) : s.tlsFull h = s.emit (.tcpReset h.cage h.source) :=
  if_pos (Classical.byContradiction fun hgoes => hunfair ((s.tlsFair_iff h).2 hgoes))

variable (hfair : s.tlsFair h)
include hfair

theorem State.tlsFull_of_full (hfull : 4096 ≤ s.sessionCount (fun x => x.fgl != 3)) :
    s.tlsFull h = (s.raise 4 h.cage 0xFFFF stClassFull.toNat 0).emit (.tcpReset h.cage h.source) :=
  (if_neg ((s.tlsFair_iff h).1 hfair)).trans (if_pos hfull)

variable (hroom : s.sessionCount (fun x => x.fgl != 3) < 4096)
include hroom

theorem State.tlsFull_of_unbound (hunbound : s.bindingOf h.chain = none) :
    s.tlsFull h = s.emit (.tcpReset h.cage h.source) := by
  refine ((if_neg ((s.tlsFair_iff h).1 hfair)).trans (if_neg (Nat.not_le.2 hroom))).trans ?_
  simp [hunbound]

theorem State.tlsFull_of_refused {a slice : Nat} {p : Bytes} (hbound : s.bindingOf h.chain = some (a, p, slice))
    (hrefused : s.refusesTls h slice) : s.tlsFull h = s.emit (.tcpReset h.cage h.source) := by
  refine ((if_neg ((s.tlsFair_iff h).1 hfair)).trans (if_neg (Nat.not_le.2 hroom))).trans ?_
  rcases hrefused with hbad | hclosed | hquota
  · simp [hbad]
  · simp [hbound, hclosed]
  · simp [hbound, hquota]

theorem State.tlsFull_of_accepted {a slice : Nat} {p : Bytes} (hbound : s.bindingOf h.chain = some (a, p, slice))
    (haccepted : ¬s.refusesTls h slice) : s.tlsFull h = s.openTls h a p slice := by
  refine ((if_neg ((s.tlsFair_iff h).1 hfair)).trans (if_neg (Nat.not_le.2 hroom))).trans ?_
  obtain ⟨hgood, hopen, hquota⟩ : verify384 (Config.leafKey h.chain) h.transcript h.signature = true ∧ s.sliceOpen slice = true ∧
      ¬(s.slice slice).quota.sessions12 ≤ s.sessionCount (fun x => x.fgl != 3 && x.slice == slice) := by
    simpa [State.refusesTls, not_or] using haccepted
  simp only [hgood, hbound, hopen, hquota, Bool.not_true, Bool.false_eq_true, if_false, decide_false, Bool.or_self]
  rfl

end Tls

/-- Settles O31: the checks of each handshake in their order. -/
theorem handshakesAct : Obligations.HandshakesAct := by
  unfold Obligations.HandshakesAct
  refine ⟨fun d s => exec_helloC_version, fun d s hlong htype hversion hnormal => ⟨exec_helloC_off hlong htype hversion hnormal,
    exec_helloC hlong htype hversion hnormal⟩, ?finish, ?tls,
    fun h s => ⟨fun hask => exec_tlsHandshake_renegotiation hask s, fun r hask => exec_tlsHandshake_keyUpdate hask s⟩⟩
  case finish =>
    intro d s hshape hnormal
    refine ⟨fun o hopen => ?_, exec_finishC_unknown hshape hnormal⟩
    split
    next hbad => exact exec_finishC_unauthentic hshape hnormal hopen hbad
    next plain hgood =>
      dsimp only
      split
      next c hfail => exact exec_finishC_refused hshape hnormal hopen hgood hfail
      next a p slice th hpass => exact exec_finishC_establishes hshape hnormal hopen hgood hpass
  case tls =>
    intro h s w reset fair hask
    have hfull := exec_tlsHandshake_full hask s
    refine ⟨fun hunfair => ?_, fun hfair hmany => ?_, fun hfair hroom => ?_⟩
    · exact hfull.trans (congrArg _ (State.tlsFull_of_not_fair hunfair))
    · exact hfull.trans (congrArg _ (State.tlsFull_of_full hfair hmany))
    · intro secret
      split
      next hunbound => exact hfull.trans (congrArg _ (State.tlsFull_of_unbound hfair hroom hunbound))
      next a p slice hbound =>
        split
        next hrefused => exact hfull.trans (congrArg _ (State.tlsFull_of_refused hfair hroom hbound hrefused))
        next haccepted => exact hfull.trans (congrArg _ (State.tlsFull_of_accepted hfair hroom hbound haccepted))

end Sys2Proof.Machine

/-! Datagrams of a session, and the frames of TLS sessions (R58 to R60, R66, R67, R70, R75, R79). -/

namespace Sys2Proof.Machine

/-! ## REQUEST, CLOSE and PING (R58, R66, R67, R75, R76) -/

/-- The records of a REQUEST that has opened are taken one by one, gathered under its packet number. -/
def State.takeRecords (s : State) (d : Datagram) (x : Session) (body : Bytes) (rs : List RequestRecord) : State :=
  rs.foldl (fun s r => s.takeRecord (dgSession d) (dgPn d) x (dgClean d && allZero (sl body 1 3)) r)
    (s.endIdle.setGather (dgSession d) (dgPn d) (some { outstanding := rs.length, source := d.source, cage := d.cage }))

section Request
variable {d : Datagram} {s : State}

/-- A datagram that does not open, or whose session does not stand, asks for nothing. -/
theorem exec_request_dropped (hdropped : ∀ body x, (s.wake.openDatagram 0x10 d).2 = some body →
    (s.wake.openDatagram 0x10 d).1.session (dgSession d) = some x → False) :
    exec (.request d) s = .next (s.wake.openDatagram 0x10 d).1 := by
  show execRequest d s = _
  unfold execRequest
  generalize s.wake.openDatagram 0x10 d = o at hdropped ⊢
  obtain ⟨t, _ | body⟩ := o
  · rfl
  · cases hsession : t.session (dgSession d) with
    | none => simp only [hsession]
    | some x => exact (hdropped body x rfl hsession).elim

variable {body : Bytes} {x : Session} (hbody : (s.wake.openDatagram 0x10 d).2 = some body)
  (hsession : (s.wake.openDatagram 0x10 d).1.session (dgSession d) = some x)
include hbody hsession

theorem exec_request_bad_split (hbad : requestRecords body = none) :
    exec (.request d) s = .next ((s.wake.openDatagram 0x10 d).1.sendSealed (dgSession d) 0x3F
      (alertBody stBadFormat ++ be 8 (dgPn d)) d.cage d.source) := by
  show execRequest d s = _
  simp [execRequest, hbody, hsession, hbad]

theorem exec_request {rs : List RequestRecord} (hsplit : requestRecords body = some rs) :
    exec (.request d) s = .next ((s.wake.openDatagram 0x10 d).1.takeRecords d x body rs) := by
  show execRequest d s = _
  simp [execRequest, hbody, hsession, hsplit, State.takeRecords]

end Request

theorem exec_close (d : Datagram) (s : State) :
    exec (.close d) s = .next (
      if (s.wake.openDatagram 0x30 d).2 = none then (s.wake.openDatagram 0x30 d).1
      else (s.wake.openDatagram 0x30 d).1.endSession (dgSession d)) := by
  show execClose d s = _
  unfold execClose
  rcases s.wake.openDatagram 0x30 d with ⟨t, _ | body⟩ <;> rfl

section Ping
variable {d : Datagram} {s : State}

/-- A PONG of the host is opened and not answered (R58). -/
theorem exec_ping_pong (htype : dgType d = 0x32) : exec (.ping d) s = .next (s.wake.openDatagram 0x32 d).1 := by
  show execPing d s = _
  simp [execPing, htype]

theorem exec_ping (htype : dgType d ≠ 0x32) :
    exec (.ping d) s = .next ((s.wake.openDatagram 0x31 d).2.elim (s.wake.openDatagram 0x31 d).1 fun body =>
      if body.length = 8 then (s.wake.openDatagram 0x31 d).1.sendSealed (dgSession d) 0x32 body d.cage d.source
      else (s.wake.openDatagram 0x31 d).1) := by
  show execPing d s = _
  unfold execPing
  simp only [htype, if_false]
  rcases s.wake.openDatagram 0x31 d with ⟨t, _ | body⟩ <;> rfl

end Ping

/-! ## Frames of TLS sessions (R79) -/

/-- A frame of a session wakes the module, ends an announced idle window and counts as heard. -/
def State.hearFrame (s : State) (n : Nat) : State :=
  s.wake.endIdle.modSession n fun x => { x with lastHeard := s.now, idle := s.idleS }

/-- An FGL-1 frame has its header, and the length that its header states. -/
def fgl1Whole (frame : Bytes) : Prop := 8 ≤ frame.length ∧ frame.length ≤ 65535 ∧ frame.length = 2 + fld frame 0 2

theorem fgl1Whole_iff (frame : Bytes) :
    fgl1Whole frame ↔ ¬(65535 < frame.length ∨ frame.length < 8 ∨ frame.length ≠ 2 + fld frame 0 2) := by
  unfold fgl1Whole
  omega

/-- An FGL-2 frame has its header, and the length that its header states. -/
def fgl2Whole (frame : Bytes) : Prop := 16 ≤ frame.length ∧ frame.length ≤ 1048576 ∧ frame.length = 4 + fld frame 0 4

theorem fgl2Whole_iff (frame : Bytes) :
    fgl2Whole frame ↔ ¬(1048576 < frame.length ∨ frame.length < 16 ∨ frame.length ≠ 4 + fld frame 0 4) := by
  unfold fgl2Whole
  omega

/-- The barge that an FGL-2 frame of a session becomes (R79). -/
def Session.fgl2Barge (x : Session) (n : Nat) (frame : Bytes) : Barge :=
  { session := n, pn := 0, slice := x.slice, generation := x.generation, cls := 2, opcode := fld frame 4 2,
    requestId := BitVec.ofNat 64 (fld frame 8 8), idem := 0, payload := frame.drop 16 }

section Frames
variable {n : Nat} {frame : Bytes} {x : Session} {s : State} (hsession : s.session n = some x)
include hsession

/-! ### FGL-1 -/

section Fgl1
variable (hfgl1 : x.fgl = 1)
include hfgl1

theorem exec_fgl1Request_closes (hill : ¬fgl1Whole frame) : exec (.fgl1Request n frame) s = .next (s.closeTcp n x) := by
  show execFgl1Request n frame s = _
  unfold execFgl1Request
  rw [hsession]
  exact (if_neg (not_not_intro hfgl1)).trans (if_pos (Classical.byContradiction fun hgoes => hill ((fgl1Whole_iff frame).2 hgoes)))

/-- A whole frame is taken at once, or held while sixteen are outstanding. -/
theorem exec_fgl1Request (hwhole : fgl1Whole frame) :
    exec (.fgl1Request n frame) s = .next (
      if 16 ≤ x.order.length then (s.hearFrame n).modSession n fun x => { x with held := x.held ++ [frame] }
      else ((s.hearFrame n).fgl1Accept n frame).sendOn (s.hearFrame n).flt.nextBarge) := by
  show execFgl1Request n frame s = _
  unfold execFgl1Request
  rw [hsession, apply_ite Host.Outcome.next]
  exact (if_neg (not_not_intro hfgl1)).trans (if_neg ((fgl1Whole_iff frame).1 hwhole))

end Fgl1

/-! ### FGL-2 -/

section Fgl2
variable (hfgl2 : x.fgl = 2)
include hfgl2

theorem exec_fgl2Request_closes (hill : ¬fgl2Whole frame) : exec (.fgl2Request n frame) s = .next (s.closeTcp n x) := by
  show execFgl2Request n frame s = _
  unfold execFgl2Request
  rw [hsession]
  exact (if_neg (not_not_intro hfgl2)).trans (if_pos (Classical.byContradiction fun hgoes => hill ((fgl2Whole_iff frame).2 hgoes)))

/-- A whole frame becomes a barge, but for one whose reserved field or whose session's room refuses it. -/
theorem exec_fgl2Request (hwhole : fgl2Whole frame) :
    exec (.fgl2Request n frame) s = .next (
      if fld frame 6 2 ≠ 0 then (s.hearFrame n).answerNow (x.fgl2Barge n frame) ⟨stReserved, []⟩
      else (intakeFail (x.fgl2Barge n frame) (s.hearFrame n)).elim
        (((s.hearFrame n).enter (x.fgl2Barge n frame) .arrived).sendOn (s.hearFrame n).flt.nextBarge)
        ((s.hearFrame n).answerNow (x.fgl2Barge n frame))) := by
  show execFgl2Request n frame s = _
  unfold execFgl2Request
  rw [hsession, apply_ite Host.Outcome.next]
  refine ((if_neg (not_not_intro hfgl2)).trans (if_neg ((fgl2Whole_iff frame).1 hwhole))).trans ?_
  refine congrArg (ite _ _) ?_
  split
  next r hfail =>
    rw [show intakeFail (x.fgl2Barge n frame) (s.hearFrame n) = some r from hfail]
    rfl
  next hroom =>
    rw [show intakeFail (x.fgl2Barge n frame) (s.hearFrame n) = none from hroom]
    rfl

end Fgl2

end Frames

/-- Settles O32: one lemma for each outcome of a datagram or a frame. -/
theorem sessionDatagramsAct : Obligations.SessionDatagramsAct := by
  unfold Obligations.SessionDatagramsAct
  refine ⟨?request, exec_close, fun d s => ⟨exec_ping_pong, ?ping⟩,
    fun n frame x s hsession => ⟨fun hfgl1 => ?fgl1, fun hfgl2 => ?fgl2⟩⟩
  case request =>
    intro d s o
    split
    next body x hbody hsession =>
      split
      next hbad => exact exec_request_bad_split hbody hsession hbad
      next rs hsplit => exact exec_request hbody hsession hsplit
    next hdropped => exact exec_request_dropped hdropped
  case ping =>
    intro htype o
    rw [exec_ping htype]
    split
    next body hopened => rw [hopened, Option.elim_some]
    next hopened => rw [hopened, Option.elim_none]
  case fgl1 =>
    refine ⟨fun hwhole hfew => ?_, fun hwhole hmany => ?_, exec_fgl1Request_closes hsession hfgl1⟩
    · exact (exec_fgl1Request hsession hfgl1 hwhole).trans (congrArg _ (if_neg (Nat.not_le.2 hfew)))
    · exact (exec_fgl1Request hsession hfgl1 hwhole).trans (congrArg _ (if_pos hmany))
  case fgl2 =>
    refine ⟨fun hwhole hreserved => ?_, fun hwhole hclean hroom => ?_, fun r hwhole hclean hfail => ?_,
      exec_fgl2Request_closes hsession hfgl2⟩ <;> have hframe := exec_fgl2Request hsession hfgl2 hwhole
    · exact hframe.trans (congrArg _ (if_pos hreserved))
    · exact hframe.trans (congrArg _ ((if_neg (not_not_intro hclean)).trans (congrArg (Option.elim · _ _) hroom)))
    · exact hframe.trans (congrArg _ ((if_neg (not_not_intro hclean)).trans (congrArg (Option.elim · _ _) hfail)))

end Sys2Proof.Machine

/-! The timers of sessions, what the end of a session leaves, and repeats under an idempotency key (R61, R69, R71, R72, R75, R76). -/

namespace Sys2Proof.Machine

/-! ## Timers of sessions (R61, R69, R72, R75) -/

/-- A module that was serving and seeks its lease holds its responses (R361). -/
def State.holdsResponses (s : State) : Prop := s.tow.pair = .seeking ∧ s.tow.wasServing = true

section Gather
variable {n pn : Nat} {g : Gather} {s : State} (hgather : s.gather n pn = some g)
include hgather

theorem exec_responseGatherTimeout_flushes (hrecords : g.records ≠ []) (hfree : ¬s.holdsResponses) :
    exec (.responseGatherTimeout n pn) s = .next ((s.upTo (g.oldest + 20000)).flush n pn) := by
  show execResponseGatherTimeout n pn s = _
  have hgoes : (g.records.isEmpty || (s.tow.pair == .seeking && s.tow.wasServing)) = false := by
    simpa [State.holdsResponses, hrecords] using hfree
  simp [execResponseGatherTimeout, hgather, hgoes]

theorem exec_responseGatherTimeout_held (hheld : s.holdsResponses) : exec (.responseGatherTimeout n pn) s = .next s := by
  obtain ⟨hseeking, hserved⟩ := hheld
  show execResponseGatherTimeout n pn s = _
  simp [execResponseGatherTimeout, hgather, hseeking, hserved]

end Gather

theorem exec_handshakeTimeout {n : Nat} {o : HalfOpen} {s : State} (hopen : s.whf.halfOpen.find n = some o) :
    let t := s.upTo o.deadline
    exec (.handshakeTimeout n) s = .next { t with whf := { t.whf with halfOpen := t.whf.halfOpen.del n } } := by
  show execHandshakeTimeout n s = _
  simp [execHandshakeTimeout, hopen]

section Session
variable {n : Nat} {x : Session} {s : State} (hsession : s.session n = some x)
include hsession

theorem exec_sessionIdleTimeout :
    exec (.sessionIdleTimeout n) s = .next ((s.upTo (x.lastHeard + x.idle * 1000000000)).endSession n) := by
  show execSessionIdleTimeout n s = _
  simp [execSessionIdleTimeout, hsession]

theorem exec_sendKeyUpdate (hfgl3 : x.fgl = 3) (hheard : x.heardSinceFlip = true) :
    let t := if 2 ^ 30 ≤ x.send.count then s else s.upTo (x.send.since + 86400000000000)
    exec (.sendKeyUpdate n) s = .next (t.modSession n fun x =>
      { x with heardSinceFlip := false,
               send := { secret := hkdfExpand x.send.secret (ascii "upd") 48, phase := !x.send.phase, since := t.now } }) := by
  show execSendKeyUpdate n s = _
  simp only [execSendKeyUpdate, hsession, hfgl3, hheard, and_self, if_true]

theorem exec_prevKeyDiscard {t : Nat} {k : Bytes} (hprev : x.recv.prev = some (k, t)) :
    exec (.prevKeyDiscard n) s = .next ((s.upTo t).modSession n fun x => { x with recv := { x.recv with prev := none } }) := by
  show execPrevKeyDiscard n s = _
  simp [execPrevKeyDiscard, hsession, hprev]

end Session

theorem exec_idemEntryExpire {n : Nat} {g : W32} {k : W64} {e : IdemEntry} {s : State} (hentry : s.idemEntry n g k = some e) :
    exec (.idemEntryExpire n g k) s = .next ((s.upTo e.expiry).setIdem n g k none) := by
  show execIdemEntryExpire n g k s = _
  simp [execIdemEntryExpire, hentry]

/-- Settles O33: one lemma for each timer. -/
theorem sessionTimersAct : Obligations.SessionTimersAct := by
  unfold Obligations.SessionTimersAct
  refine ⟨fun n pn g s hgather hrecords => ⟨fun hfree => ?_, fun hseeking hserved => ?_⟩, fun n o s => exec_handshakeTimeout,
    fun n x s => exec_sessionIdleTimeout, fun n x s => exec_sendKeyUpdate, fun n t x k s hsession => exec_prevKeyDiscard hsession,
    fun n g k e s => exec_idemEntryExpire⟩
  · refine exec_responseGatherTimeout_flushes hgather hrecords ?_
    rintro ⟨hseeking, hserved⟩
    exact hfree.elim (absurd hseeking) (by simp [hserved])
  · exact exec_responseGatherTimeout_held hgather ⟨hseeking, hserved⟩

/-! ## The end of a session (R76) -/

@[simp] theorem State.session_endSession_self (s : State) (n : Nat) : (s.endSession n).session n = none :=
  Map.find_del_self s.whf.sessions n

/-- The outcome of a key rests on the entries and on the slice's quota alone, of which the end of a session changes neither. -/
@[simp] theorem idemOutcome_endSession (b : Barge) (s : State) (n : Nat) : idemOutcome b (s.endSession n) = idemOutcome b s := rfl

/-- A response to a session that has ended is discarded, by a module that holds its responses too (R76, R361). -/
theorem State.respond_of_no_session {s : State} {n : Nat} (hforeign : s.tow.foreign.find n = none) (hsession : s.session n = none)
    (pn opcode cls : Nat) (id : W64) (r : Reply) (again : Bool) : s.respond n pn opcode cls id r again = s := by
  simp [State.respond, hforeign, hsession]

/-- Settles O53: the end of a session changes the wharf's sessions and gathers and the reader's copies alone, and then a response
finds no session. -/
theorem sessionEndKeepsWork : Obligations.SessionEndKeepsWork := by
  unfold Obligations.SessionEndKeepsWork
  intro n s
  refine ⟨s.session_endSession_self n, rfl, rfl, rfl, rfl, rfl, rfl, rfl, fun b => idemOutcome_endSession b s n, ?_⟩
  intro pn opcode cls id r again hforeign
  exact State.respond_of_no_session (s := s.endSession n) hforeign (s.session_endSession_self n) pn opcode cls id r again

/-! ## Repeats under an idempotency key (R71, R72, R218) -/

/-- A barge repeats an entry's request: the same payload by its digest, and the same opcode where the entry has one; a mirrored
entry may have none (log entry 10). -/
def IdemEntry.matches (e : IdemEntry) (b : Barge) : Prop :=
  (e.opcode = none ∨ e.opcode = some b.opcode) ∧ e.digest = Config.sha384 (idemPayload b)

/-- An entry that a barge does not match is of another opcode or another payload. -/
theorem IdemEntry.not_matches_iff (e : IdemEntry) (b : Barge) :
    ¬e.matches b ↔ (∃ o, e.opcode = some o ∧ o ≠ b.opcode) ∨ e.digest ≠ Config.sha384 (idemPayload b) := by
  rw [IdemEntry.matches, Classical.not_and_iff_not_or_not]
  refine or_congr ?_ Iff.rfl
  cases e.opcode <;> simp

section Repeat
variable {b : Barge} {e : IdemEntry} {s : State} (hkey : b.idem ≠ 0) (hentry : s.idemEntry b.slice b.generation b.idem = some e)
include hkey hentry

theorem idemOutcome_of_not_matches (hother : ¬e.matches b) : idemOutcome b s = .answer ⟨stIdemConflict, []⟩ false := by
  have hconflict : ((e.opcode.any fun o => o != b.opcode) || e.digest != Config.sha384 (idemPayload b)) = true := by
    rw [IdemEntry.not_matches_iff] at hother
    simpa [Option.any_eq_true] using hother
  simp only [idemOutcome, hkey, hentry, hconflict, if_false, if_true]

/-- A repeat of the same request is answered with the result, or waits for it (R72). -/
theorem idemOutcome_of_matches (hsame : e.matches b) :
    idemOutcome b s = e.result.elim .wait fun r => .answer ⟨r.1, r.2⟩ true := by
  obtain ⟨hopcode, hdigest⟩ := hsame
  have hagrees : ((e.opcode.any fun o => o != b.opcode) || e.digest != Config.sha384 (idemPayload b)) = false := by
    rcases hopcode with h | h <;> simp [h, hdigest]
  simp only [idemOutcome, hkey, hentry, hagrees, if_false, Bool.false_eq_true]
  cases e.result <;> rfl

end Repeat

section TakeIn
variable {b : Barge} {s : State} (hkept : sealPortOpcodes.contains b.opcode = false)
include hkept

/-- A barge whose result does not pass the seal port keeps its key (R326). -/
theorem Barge.idem_of_kept : { b with idem := if sealPortOpcodes.contains b.opcode then 0 else b.idem } = b := by
  rw [hkept, if_neg Bool.false_ne_true]

theorem State.takeIn_of_intakeFail {r : Reply} (hfail : intakeFail b s = some r) : s.takeIn b = s.answerNow b r := by
  simp only [State.takeIn, Barge.idem_of_kept hkept, hfail]

variable (hroom : intakeFail b s = none)
include hroom

theorem State.takeIn_of_wait (hwait : idemOutcome b s = .wait) : s.takeIn b = s.enter b .held := by
  simp only [State.takeIn, Barge.idem_of_kept hkept, hroom, hwait]

theorem State.takeIn_of_answer {r : Reply} {again : Bool} (hrefill : refillOpcodes.contains b.opcode = false)
    (hanswer : idemOutcome b s = .answer r again) :
    s.takeIn b = (s.busyWith b).respond b.session b.pn b.opcode b.cls b.requestId r again := by
  simp only [State.takeIn, Barge.idem_of_kept hkept, hroom, hanswer, hrefill, Bool.and_false, Bool.false_eq_true, if_false]

end TakeIn

/-- Settles O54: what the entry decides, and then what is done of that. -/
theorem repeatsExecuteNothing : Obligations.RepeatsExecuteNothing := by
  unfold Obligations.RepeatsExecuteNothing
  intro b e s hkey hkept hrefill hentry t
  refine ⟨fun r => State.takeIn_of_intakeFail hkept, fun hroom => ⟨fun hopcode hdigest => ?_, fun hother => ?_⟩⟩
  · have houtcome := idemOutcome_of_matches hkey hentry ⟨hopcode, hdigest⟩
    refine ⟨fun c p hresult => ?_, fun hresult => ?_⟩ <;> rw [hresult] at houtcome
    · exact State.takeIn_of_answer hkept hroom hrefill houtcome
    · exact State.takeIn_of_wait hkept hroom houtcome
  · exact State.takeIn_of_answer hkept hroom hrefill
      (idemOutcome_of_not_matches hkey hentry ((e.not_matches_iff b).2 hother))

end Sys2Proof.Machine

/-! The timers of custody: approvals, ballots, hold-offs, drains and transfers (R86, R92 to R94, R102, R105). -/

namespace Sys2Proof.Machine

/-! ## Ballots and hold-offs (R86, R92 to R94) -/

section Ballot
variable {b : Nat} {x : Ballot} {s : State} (hballot : s.cus.ballots.find b = some x)
include hballot

theorem exec_approvalExpire {c t : Nat} (happroval : x.approvals.find c = some t) (hopen : x.state.terminal = false) :
    exec (.approvalExpire b c) s =
      .next (((s.upTo t).setBallot b (({ x with approvals := x.approvals.del c }).settled
        (s.upTo t).cus.custodians (s.upTo t).now)).mirror s [.ballot b false]) := by
  show execApprovalExpire b c s = _
  simp only [execApprovalExpire, hballot, happroval, hopen, Bool.false_eq_true, if_false]

theorem exec_ballotExpire (hopen : x.state.terminal = false) :
    exec (.ballotExpire b) s = .next (((s.upTo x.expires).endBallot b x .expired).mirror s [.ballot b false]) := by
  show execBallotExpire b s = _
  simp only [execBallotExpire, hballot, hopen, Bool.false_eq_true, if_false]

theorem exec_ballotRecordDiscard (hterminal : x.state.terminal = true) :
    let t := s.upTo x.dropAt
    exec (.ballotRecordDiscard b) s = .next { t with cus := { t.cus with ballots := t.cus.ballots.del b } } := by
  show execBallotRecordDiscard b s = _
  simp only [execBallotRecordDiscard, hballot, hterminal, if_true]

end Ballot

theorem exec_holdOffEnd {c t : Nat} {x : Custodian} {s : State} (hcustodian : s.custodian c = some x) (hheld : x.holdOff = some t) :
    exec (.holdOffEnd c) s =
      .next (((s.upTo t).setCustodian c (some { x with holdOff := none, fails := 0 })).mirror s [.custodian c false]) := by
  show execHoldOffEnd c s = _
  simp only [execHoldOffEnd, hcustodian, hheld]

/-! ## Drains and transfers of slices (R102, R105) -/

section Drain
variable {n : Nat} {d : DrainSeq} {s : State} (hdrain : (s.slice n).drain = some d)
include hdrain

theorem exec_sliceDrainDone (hempty : s.draining n d = false) : exec (.sliceDrainDone n) s = .next (s.finishDrain n d) := by
  show execSliceDrainDone n s = _
  simp only [execSliceDrainDone, hdrain, hempty, Bool.false_eq_true, if_false]

/-- A drain that runs out ends the barges of the slice's old generation (R102). -/
theorem exec_drainTimeout_slice :
    exec (.drainTimeout (.slice n)) s = .next ((s.upTo d.deadline).abortBarges
      (fun r => r.barge.slice == n && r.barge.generation == d.oldGeneration) stAbortHost) := by
  show execDrainTimeout (.slice n) s = _
  simp only [execDrainTimeout, hdrain]

end Drain

section Transfer
variable {n : Nat} {tr : Transfer} {s : State} (htransfer : (s.slice n).transfer = some tr)
include htransfer

/-- A save leaves its slice as it stands: only the transfer is forgotten (R105). -/
theorem exec_sliceTransferAbandon_save (hsave : tr.save = true) :
    let t := s.upTo tr.deadline
    exec (.sliceTransferAbandon n) s = .next (t.setSlice n { t.slice n with transfer := none }) := by
  show execSliceTransferAbandon n s = _
  simp only [execSliceTransferAbandon, htransfer, hsave, if_true]

/-- A restore drops what it has of its slice (R105). -/
theorem exec_sliceTransferAbandon_restore (hrestore : tr.save = false) :
    exec (.sliceTransferAbandon n) s = .next (((s.upTo tr.deadline).dropRestore n).mirror s [.slice n true]) := by
  show execSliceTransferAbandon n s = _
  simp only [execSliceTransferAbandon, htransfer, hrestore, Bool.false_eq_true, if_false]

end Transfer

/-- Settles O38: one lemma for each timer; a restore that is dropped leaves its slice absent, but a retired one. -/
theorem custodyTimersAct : Obligations.CustodyTimersAct := by
  unfold Obligations.CustodyTimersAct
  refine ⟨fun b c t x s hballot => exec_approvalExpire hballot,
    fun b x s hballot => ⟨exec_ballotExpire hballot, exec_ballotRecordDiscard hballot⟩,
    fun c t x s => exec_holdOffEnd, fun n d s hdrain => ⟨exec_sliceDrainDone hdrain, exec_drainTimeout_slice hdrain⟩,
    fun n tr s htransfer => ⟨exec_sliceTransferAbandon_save htransfer, fun hrestore => ?_⟩⟩
  rw [exec_sliceTransferAbandon_restore htransfer hrestore, State.dropRestore]

end Sys2Proof.Machine

/-! The timers of the key store: shreds, collection windows, pending slots, cache loads, scrubs and slot copies (R126, R127, R141,
R144, R145, R214, R373). -/

namespace Sys2Proof.Machine

/-! ## Shreds and their certificates (R144, R145, R322) -/

section Shred
variable {n : Nat} {q : ShredSeq} {s : State} (hshred : s.vlt.shreds.find n = some q)
include hshred

section Serving
variable (hserves : s.tow.pair.serves = true)
include hserves

/-- A sequence still before phase 3 whose keys no barge uses erases them first. -/
theorem exec_shredDrainDone_erases (hphase : q.phase < 3) (hunused : s.flt.barges.vals.any (shredInUse q) = false) :
    exec (.shredDrainDone n) s = .next ((s.shredErase n q).shredAdvance n) := by
  show execShredDrainDone n s = _
  simp only [execShredDrainDone, hshred, hserves, hphase, hunused, Bool.not_true, Bool.false_eq_true, if_false, if_true]

theorem exec_shredDrainDone_advances (hphase : 3 ≤ q.phase) : exec (.shredDrainDone n) s = .next (s.shredAdvance n) := by
  show execShredDrainDone n s = _
  simp only [execShredDrainDone, hshred, hserves, Nat.not_lt.2 hphase, Bool.not_true, Bool.false_eq_true, if_false]

end Serving

/-- A shred's drain that runs out ends the barges that use its keys. -/
theorem exec_drainTimeout_shred (hphase : q.phase < 3) :
    exec (.drainTimeout (.shred n)) s = .next ((s.upTo q.deadline).abortBarges (shredInUse q) stAbortHost) := by
  show execDrainTimeout (.shred n) s = _
  simp only [execDrainTimeout, hshred, hphase, if_true]

end Shred

theorem exec_shredCertSigned {n : Nat} {rest : List LmsRequest} {s : State} (hqueue : s.eng.lmsQueue = .cert n :: rest) :
    exec (.shredCertSigned n) s = .next (s.signHead true) := by
  show execShredCertSigned n s = _
  simp only [execShredCertSigned, hqueue, if_true]

/-! ## The collection of shares and of components (R120, R141) -/

section Import
variable {im : ShareImport} {s : State} (himport : s.vlt.shareImport = some im)
include himport

/-- The window of a collection that ends before the import key takes the shares with it, and the key stays. -/
theorem exec_shareWindowExpire_window (hshares : im.shares ≠ []) (hfirst : im.windowEnd < im.keyEnd) :
    let t := s.upTo im.windowEnd
    exec .shareWindowExpire s =
      .next { t with vlt := { t.vlt with shareImport := some { im with shares := [], windowEnd := 0 } } } := by
  show execShareWindowExpire s = _
  have hends : (!im.shares.isEmpty && decide (im.windowEnd < im.keyEnd)) = true := by simp [hshares, hfirst]
  simp only [execShareWindowExpire, himport, hends, if_true]

theorem exec_shareWindowExpire_key (hends : im.shares = [] ∨ im.keyEnd ≤ im.windowEnd) :
    let t := s.upTo im.keyEnd
    exec .shareWindowExpire s = .next { t with vlt := { t.vlt with shareImport := none } } := by
  show execShareWindowExpire s = _
  have hkey : (!im.shares.isEmpty && decide (im.windowEnd < im.keyEnd)) = false := by
    rcases hends with h | h <;> simp [h]
  simp only [execShareWindowExpire, himport, hkey, Bool.false_eq_true, if_false]

end Import

theorem exec_pendingSlotExpire {i : Nat} {k : PendingKey} {s : State} (hkey : s.vlt.pendingKeys.find i = some k)
    (hpending : (s.slot i).state = .pending) :
    exec (.pendingSlotExpire i) s = .next (((s.upTo k.deadline).eraseSlot i).mirror (s.upTo k.deadline) [.slotErased i]) := by
  show execPendingSlotExpire i s = _
  simp only [execPendingSlotExpire, hkey, hpending, if_true]

/-! ## Scrub passes (R125, R126) -/

/-- Guard errors that a scrub pass met on the read path of a slot. -/
def guardErrorsAt (errs : List (Nat × Nat)) (i : Nat) : Nat := ((errs.find? fun e => e.1 == i).map (·.2)).getD 0

/-- Test every slot in a scrub pass. -/
def State.scrubSlots (s : State) (errs : List (Nat × Nat)) : State :=
  s.vlt.slots.keys.foldl (fun s i => s.scrubSlot i (guardErrorsAt errs i)) s

theorem State.scrubSlots_eq {errs : List (Nat × Nat)} {f : Nat → Nat} (hmet : ∀ i, f i = guardErrorsAt errs i) (s : State) :
    s.vlt.slots.keys.foldl (fun s i => s.scrubSlot i (f i)) s = s.scrubSlots errs := by
  rw [funext hmet, State.scrubSlots]

theorem exec_vaultScrubPass (errs : List (Nat × Nat)) (s : State) :
    let u := (s.upTo (s.clk.startAt + (s.vlt.scrubs.toNat + 1) * 10000000000)).scrubSlots errs
    exec (.vaultScrubPass errs) s = .next { u with vlt := { u.vlt with scrubs := u.vlt.scrubs + 1 } } := by
  show execVaultScrubPass errs s = _
  dsimp only [execVaultScrubPass]
  rw [State.scrubSlots_eq (errs := errs)]
  case hmet =>
    intro i
    unfold guardErrorsAt
    cases errs.find? fun e => e.1 == i <;> rfl

/-! ## Slots that come back (R127, R373) -/

/-- The partner is asked for its copy of a slot; without a partner the slot is lost. -/
def State.seekCopy (s : State) (i : Nat) : State :=
  let t := s.sendTowpath 5 0 [be 2 i ++ zeros 2] 0 0
  if s.linkLive then { t with tow := { t.tow with slotFetches := s.tow.slotFetches ++ [i] } } else s.lostSlot i

section Restore
variable {i : Nat} {s : State} (hbad : (s.slot i).state = .quarantined)
include hbad

theorem exec_vaultSlotRestore_image {y : Slot} (himage : s.imageSlot i = some y)
    (hcopy : y.epoch = (s.slot i).epoch ∧ y.state = .active) : exec (.vaultSlotRestore i) s = .next (s.restoreSlot i y) := by
  show execVaultSlotRestore i s = _
  simp only [execVaultSlotRestore, hbad, himage, hcopy, ne_eq, not_true_eq_false, if_false, and_self, if_true]

/-- An image of another epoch, or of a slot that was not active, is no copy: the partner's is sought as where there is none. -/
theorem exec_vaultSlotRestore_elsewhere
    (hnone : ∀ y, s.imageSlot i = some y → ¬(y.epoch = (s.slot i).epoch ∧ y.state = .active)) :
    exec (.vaultSlotRestore i) s = .next (s.seekCopy i) := by
  show execVaultSlotRestore i s = _
  simp only [execVaultSlotRestore, hbad, ne_eq, not_true_eq_false, if_false]
  cases himage : s.imageSlot i with
  | none => rfl
  | some y => exact if_neg (hnone y himage)

end Restore

theorem exec_slotFetch (frame : Bytes) (s : State) :
    exec (.slotFetch frame) s = .next ((s.openTowpath 5 frame).2.elim (s.openTowpath 5 frame).1 fun b =>
      (s.openTowpath 5 frame).1.sendTowpath 6 0
        [recordBytes ((s.openTowpath 5 frame).1.touchRecord (.slot (fld b 0 2)))] 0 0) := by
  show execSlotFetch frame s = _
  unfold execSlotFetch
  rcases s.openTowpath 5 frame with ⟨t, _ | b⟩ <;> rfl

section Reply
variable {frame : Bytes} {s : State}

theorem exec_slotReply {r : MirrorRec} (hrecord : ((s.openTowpath 6 frame).2.map fun b => recordsOf b 1) = some [r]) :
    exec (.slotReply frame) s =
      .next ((s.openTowpath 6 frame).1.takeSlotCopy (fld r.body 0 2) (slotOfBytes (sl r.body 4 112) [])) := by
  show execSlotReply frame s = _
  simp only [execSlotReply, hrecord]

theorem exec_slotReply_dropped (hnone : ∀ r, ((s.openTowpath 6 frame).2.map fun b => recordsOf b 1) ≠ some [r]) :
    exec (.slotReply frame) s = .next (s.openTowpath 6 frame).1 := by
  show execSlotReply frame s = _
  dsimp only [execSlotReply]
  split
  next _ r hrecord => exact absurd hrecord (hnone r)
  next => rfl

end Reply

/-- A copy restores a quarantined slot: it is active and of the slot's epoch; a slot of epoch 0 takes any (log entry 22). -/
def Slot.restores (x y : Slot) : Prop := x.state = .active ∧ (x.epoch = y.epoch ∨ y.epoch = 0)

theorem Slot.not_restores_iff (x y : Slot) : ¬x.restores y ↔ x.state ≠ .active ∨ x.epoch ≠ y.epoch ∧ y.epoch ≠ 0 := by
  rw [Slot.restores, Classical.not_and_iff_not_or_not, not_or]

/-- The copy of a slot that was asked for has come. -/
def State.endFetch (s : State) (i : Nat) : State :=
  { s with tow := { s.tow with slotFetches := s.tow.slotFetches.erase i } }

section TakeCopy
variable {i : Nat} {x : Slot} {s : State} (hasked : i ∈ s.tow.slotFetches)
include hasked

/-- What the slot holds decides what is done of a copy that was asked for. -/
theorem State.takeSlotCopy_of_asked :
    s.takeSlotCopy i x =
      if (s.slot i).state = .quarantined then
        if x.state = .active ∧ (x.epoch = (s.slot i).epoch ∨ (s.slot i).epoch = 0) then (s.endFetch i).restoreSlot i x
        else (s.endFetch i).lostSlot i
      else if s.tow.pair = .standby then (s.endFetch i).copySlot i x
      else if (s.slot i).state = .free ∨ (s.slot i).state = .retired then s.endFetch i
      else (s.endFetch i).writeSlot i x := by
  have hcontains : (!s.tow.slotFetches.contains i) = false := by simp [hasked]
  rw [State.takeSlotCopy, hcontains, if_neg Bool.false_ne_true]
  rfl

theorem State.takeSlotCopy_restores (hbad : (s.slot i).state = .quarantined) (hcopy : x.restores (s.slot i)) :
    s.takeSlotCopy i x = (s.endFetch i).restoreSlot i x := by
  rw [Slot.restores] at hcopy
  rw [State.takeSlotCopy_of_asked hasked, if_pos hbad, if_pos hcopy]

theorem State.takeSlotCopy_lost (hbad : (s.slot i).state = .quarantined) (hcopy : ¬x.restores (s.slot i)) :
    s.takeSlotCopy i x = (s.endFetch i).lostSlot i := by
  rw [Slot.restores] at hcopy
  rw [State.takeSlotCopy_of_asked hasked, if_pos hbad, if_neg hcopy]

theorem State.takeSlotCopy_standby (hgood : (s.slot i).state ≠ .quarantined) (hstandby : s.tow.pair = .standby) :
    s.takeSlotCopy i x = (s.endFetch i).copySlot i x := by
  rw [State.takeSlotCopy_of_asked hasked, if_neg hgood, if_pos hstandby]

/-- Off a standby an empty slot takes no copy. -/
theorem State.takeSlotCopy_empty (hpair : s.tow.pair ≠ .standby) (hempty : (s.slot i).state = .free ∨ (s.slot i).state = .retired) :
    s.takeSlotCopy i x = s.endFetch i := by
  have hgood : (s.slot i).state ≠ .quarantined := by rcases hempty with h | h <;> simp [h]
  rw [State.takeSlotCopy_of_asked hasked, if_neg hgood, if_neg hpair, if_pos hempty]

theorem State.takeSlotCopy_writes (hpair : s.tow.pair ≠ .standby) (hgood : (s.slot i).state ≠ .quarantined)
    (hheld : ¬((s.slot i).state = .free ∨ (s.slot i).state = .retired)) :
    s.takeSlotCopy i x = (s.endFetch i).writeSlot i x := by
  rw [State.takeSlotCopy_of_asked hasked, if_neg hgood, if_neg hpair, if_neg hheld]

end TakeCopy

/-! ## Cache loads (R214) -/

/-- The loads that wait on one blob of a slice: each is of a slice, for a barge, with what it has read. -/
def State.loadsOf (s : State) (slice : Nat) (bl : Bytes) : List (Nat × Nat × Bytes × Option W64) :=
  s.vlt.loads.filter fun l => l.1 == slice && l.2.2.1 == bl

/-- The loads that wait on one blob of a slice leave. -/
def State.dropLoads (s : State) (slice : Nat) (bl : Bytes) : State :=
  { s with vlt := { s.vlt with loads := s.vlt.loads.filter fun l => !(l.1 == slice && l.2.2.1 == bl) } }

/-- The barge of every load of a list changes. -/
def State.modLoading (s : State) (loads : List (Nat × Nat × Bytes × Option W64)) (f : BargeRec → BargeRec) : State :=
  { s with flt := { s.flt with barges := loads.foldl (fun m l => m.mod l.2.1 f) s.flt.barges } }

/-- A number of barges pin a cache entry. -/
def State.pinEntry (s : State) (ref : W64) (pins : Nat) : State :=
  { s with vlt := { s.vlt with cache := s.vlt.cache.map fun x => if x.ref == ref then { x with pins := x.pins + pins } else x } }

section Load
variable {n slice : Nat} {bl : Bytes} {read : Option W64} {s : State}
  (hload : s.vlt.loads.find? (fun l => l.2.1 == n) = some (slice, n, bl, read))
include hload

theorem exec_cacheLoadDone_error {v : State} {r : Reply} (hfail : (s.dropLoads slice bl).loadOnce slice bl read = (v, .error r)) :
    exec (.cacheLoadDone n) s =
      .next ((v.loaderJob ((s.loadsOf slice bl).map (·.2.1)) false).modLoading (s.loadsOf slice bl)
        fun x => { x with reply := some r }) := by
  show execCacheLoadDone n s = _
  rw [State.dropLoads] at hfail
  simp only [execCacheLoadDone, hload, hfail]
  rfl

theorem exec_cacheLoadDone_ok {v : State} {e : CacheEntry} (hloaded : (s.dropLoads slice bl).loadOnce slice bl read = (v, .ok e)) :
    exec (.cacheLoadDone n) s =
      .next (((v.loaderJob ((s.loadsOf slice bl).map (·.2.1)) (fld bl 4 1 = 2)).modLoading (s.loadsOf slice bl)
        fun x => { x with pinned := x.pinned ++ [e.ref] }).pinEntry e.ref (s.loadsOf slice bl).length) := by
  show execCacheLoadDone n s = _
  rw [State.dropLoads] at hloaded
  simp only [execCacheLoadDone, hload, hloaded]
  rfl

end Load

/-- Settles O39: one lemma for each timer and each outcome of a copy. -/
theorem keyStoreTimersAct : Obligations.KeyStoreTimersAct := by
  unfold Obligations.KeyStoreTimersAct
  refine ⟨fun n q s hshred => ⟨exec_shredDrainDone_erases hshred, exec_shredDrainDone_advances hshred,
      exec_drainTimeout_shred hshred⟩,
    fun n rest s => exec_shredCertSigned,
    fun im s himport => ⟨exec_shareWindowExpire_window himport, exec_shareWindowExpire_key himport⟩,
    fun i k s => exec_pendingSlotExpire, exec_vaultScrubPass, ?restore,
    fun n slice bl read s hload => ⟨fun v r => exec_cacheLoadDone_error hload, fun v e => exec_cacheLoadDone_ok hload⟩,
    ?fetch, ?reply, ?copy⟩
  case restore =>
    intro i s hbad t elsewhere
    split
    next y himage =>
      split
      next hcopy => exact exec_vaultSlotRestore_image hbad himage hcopy
      next hother =>
        refine exec_vaultSlotRestore_elsewhere hbad fun z hz => ?_
        rwa [Option.some.inj (himage.symm.trans hz)] at hother
    next hnone => exact exec_vaultSlotRestore_elsewhere hbad fun z hz => absurd (hnone.symm.trans hz) (by simp)
  case fetch =>
    intro frame s o
    rw [exec_slotFetch]
    split
    next b hopened => rw [hopened, Option.elim_some]
    next hopened => rw [hopened, Option.elim_none]
  case reply =>
    intro frame s o
    split
    next r hrecord => exact exec_slotReply hrecord
    next hnone => exact exec_slotReply_dropped hnone
  case copy =>
    intro i x s hasked t y
    refine ⟨fun hbad hactive hepoch => State.takeSlotCopy_restores hasked hbad ⟨hactive, hepoch⟩,
      fun hbad hother => State.takeSlotCopy_lost hasked hbad ((x.not_restores_iff y).2 hother),
      State.takeSlotCopy_standby hasked, State.takeSlotCopy_empty hasked,
      fun hpair hgood hfree hretired => State.takeSlotCopy_writes hasked hpair hgood (not_or.2 ⟨hfree, hretired⟩)⟩

end Sys2Proof.Machine

/-! The draws of a counter at the ends of its range (R135, R137, R286). -/

namespace Sys2Proof.Machine

/-! ## Draws that are refused, and draws within a block (R284, R286) -/

/-- No usage limit is stated for a key (R135). -/
abbrev noUsageLimit : Nat := 2 ^ 64 - 1

section Refusal
variable {limit : Nat} {c : Counter}

theorem drawRefused_of_exhausted (hlimit : limit = noUsageLimit) (hlast : 2 ^ 48 ≤ c.next) :
    drawRefused 0 limit c = some stNonceExhausted := by
  simp only [drawRefused, hlimit, hlast, ne_eq, not_true_eq_false, false_and, and_false, if_false, and_self, if_true]

theorem drawRefused_past_limit (hlimit : limit ≠ noUsageLimit) (hpast : limit < c.next) :
    drawRefused 0 limit c = some stUsageExhausted :=
  if_pos ⟨rfl, hlimit, hpast⟩

/-- A value below 2^48 that no stated limit lies under may be drawn. -/
theorem drawRefused_eq_none (hrange : c.next < 2 ^ 48) (hlimit : limit = noUsageLimit ∨ c.next ≤ limit) :
    drawRefused 0 limit c = none := by
  have hwithin : ¬(0 = 0 ∧ limit ≠ noUsageLimit ∧ limit < c.next) := fun ⟨_, hstated, hpast⟩ =>
    hlimit.elim hstated (Nat.not_le.2 hpast)
  have hleft : ¬(0 = 0 ∧ 2 ^ 48 ≤ c.next) := fun ⟨_, hlast⟩ => Nat.not_le.2 hrange hlast
  exact (if_neg hwithin).trans (if_neg hleft)

end Refusal

section Draw
variable {s : State} {k : KeyRef} {c : Counter} (hcounter : s.counterOf k = some c) {key : W64} {salt : Bytes} {scope limit : Nat}
include hcounter

/-- A refused draw takes nothing. -/
theorem State.issue_of_refused {e : W16} (hrefused : drawRefused scope limit c = some e) :
    s.issue k key salt scope limit = (s, .error e) := by
  simp only [State.issue, hcounter, Option.bind_some, hrefused]

theorem State.blockInUse_of_within (hblock : c.next ≤ c.top) : s.blockInUse k key scope limit = (s, some c) := by
  simp only [State.blockInUse, hcounter, hblock, if_true]

/-- A draw within its block issues the counter's next value. -/
theorem State.issue_of_within (hallowed : drawRefused scope limit c = none) (hblock : c.next ≤ c.top) :
    s.issue k key salt scope limit = (s.issueNext k key salt scope limit c, .ok c.next) := by
  simp only [State.issue, hcounter, Option.bind_some, hallowed, Option.isNone_some, Bool.false_and, Bool.false_eq_true, if_false,
    State.blockInUse_of_within hcounter hblock]

end Draw

/-- Settles O55: what R286 refuses takes nothing, and any other draw within its block issues the next value. -/
theorem counterDraws : Obligations.CounterDraws := by
  unfold Obligations.CounterDraws
  intro s i key salt limit c hcounter d
  have issues (hrange : c.next < 2 ^ 48) (hlimit : limit = noUsageLimit ∨ c.next ≤ limit) (hblock : c.next ≤ c.top) :
      d.2 = .ok c.next :=
    congrArg Prod.snd (State.issue_of_within hcounter (drawRefused_eq_none hrange hlimit) hblock)
  exact ⟨fun hlimit hrange => issues hrange (.inl hlimit),
    fun hlimit hlast => State.issue_of_refused hcounter (drawRefused_of_exhausted hlimit hlast),
    fun hlimit hpast => State.issue_of_refused hcounter (drawRefused_past_limit hlimit hpast),
    fun _ hlimit hrange => issues hrange (.inr hlimit)⟩

end Sys2Proof.Machine

/-! Staging, draining and clocking of a chart change (R198 to R201). -/

namespace Sys2Proof.Machine

/-! ## Staging (R198) -/

theorem exec_stagingExpire {s : State} (hstaged : s.cht.staging.valid = true) :
    let t := s.upTo s.cht.staging.deadline
    exec .stagingExpire s = .next { t with cht := { t.cht with staging := {} } } := by
  show execStagingExpire s = _
  simp only [execStagingExpire, hstaged, Bool.not_true, Bool.false_eq_true, if_false]

/-! ## Draining and clocking (R199, R200) -/

section Draining
variable {s : State} (hdraining : s.cht.mode = .draining)
include hdraining

/-- With no barge left on it, the old bank's programs go; what has no clock to settle is steady at once. -/
theorem exec_programBankDrained (hgone : s.flt.barges.vals.any s.onOldBank = false) :
    exec .programBankDrained s = .next { s with cht := { s.cht with
      mode := if s.cht.clocking.isEmpty then .steady else .clocking, oldPrograms := [] } } := by
  show execProgramBankDrained s = _
  simp only [execProgramBankDrained, hdraining, hgone, bne_self_eq_false, Bool.false_eq_true, or_self, if_false]

/-- A drain that runs out ends the barges still on the old bank. -/
theorem exec_chartDrainTimeout :
    exec .chartDrainTimeout s =
      .next ((s.upTo s.cht.drainDeadline).abortBarges (s.upTo s.cht.drainDeadline).onOldBank stAbortHost) := by
  show execChartDrainTimeout s = _
  simp only [execChartDrainTimeout, hdraining, bne_self_eq_false, Bool.false_eq_true, if_false]

end Draining

/-- Cycles are counted up to now at the old clock before the chart's clock of the island applies. -/
theorem exec_islandClockSettled {island : Nat} {s : State} (hclocking : s.cht.mode = .clocking)
    (hwaits : island ∈ s.cht.clocking) :
    let t := s.rebase
    let rest := t.cht.clocking.filter (· != island)
    exec (.islandClockSettled island) s = .next { t with cht := { t.cht with
      clocks := t.cht.clocks.put island (chartClock t.cht.sections island), clocking := rest,
      mode := if rest.isEmpty then .steady else .clocking } } := by
  show execIslandClockSettled island s = _
  have hlisted : s.cht.clocking.contains island = true := List.contains_iff_mem.2 hwaits
  simp only [execIslandClockSettled, hclocking, hlisted, bne_self_eq_false, Bool.not_true, Bool.false_eq_true, or_self, if_false]

/-- Settles O40: one lemma for each timer of a chart change. -/
theorem chartTimersAct : Obligations.ChartTimersAct := by
  unfold Obligations.ChartTimersAct
  exact ⟨fun s => exec_stagingExpire, fun s hdraining => ⟨exec_programBankDrained hdraining, exec_chartDrainTimeout hdraining⟩,
    fun island s => exec_islandClockSettled⟩

end Sys2Proof.Machine

/-! Format failures of a slice counted within a second (R246). -/

namespace Sys2Proof.Machine

/-- The format failures of a slice within the last second, the one that is counted now included. -/
def State.formatFailTimes (s : State) (n : Nat) : List Nat := within s.now 1000000000 (s.slice n).storm ++ [s.now]

/-- The slice with the failure counted: it holds the latest 1,001 times. -/
def State.stormCounted (s : State) (n : Nat) : Slice :=
  { s.slice n with storm := (s.formatFailTimes n).drop ((s.formatFailTimes n).length - 1001) }

/-- The failure raises PAY_FMT_STORM: it is one of more than 1,000, and the slice's last event is a second old or more. -/
def State.StormDue (s : State) (n : Nat) : Prop :=
  1000 < (s.formatFailTimes n).length ∧ ∀ at_, (s.slice n).stormAt = some at_ → at_ + 1000000000 ≤ s.now

/-- After reset, a slice's failure that follows 1,000 others at the same instant is due. -/
theorem witness_stormDue :
    State.StormDue { State.reset with cus := { State.reset.cus with
      slices := [(5, { storm := List.replicate 1000 State.reset.now })] } } 5 :=
  ⟨by decide +kernel, fun _ hlast => nomatch hlast⟩

@[simp] theorem fail_st (s : State) (c : W16) : (fail s c).st = s := rfl
@[simp] theorem fail_reply (s : State) (c : W16) : (fail s c).reply = ⟨c, []⟩ := rfl

theorem State.formatFail_of_stormDue {s : State} {n : Nat} (hdue : s.StormDue n) :
    s.formatFail n =
      fail ((s.setSlice n { s.stormCounted n with stormAt := some s.now }).raise 66 noInst n 0 0) stFormatCheck := by
  obtain ⟨hmany, hquiet⟩ := hdue
  dsimp only [formatFail, stormCounted, formatFailTimes] at hmany ⊢
  rw [if_pos]
  cases hlast : (s.slice n).stormAt with
  | none => simpa using hmany
  | some at_ => simpa using And.intro hmany (hquiet at_ hlast)

theorem State.formatFail_of_not_stormDue {s : State} {n : Nat} (hdue : ¬ s.StormDue n) :
    s.formatFail n = fail (s.setSlice n (s.stormCounted n)) stFormatCheck := by
  refine if_neg fun hstorm => hdue ?_
  obtain ⟨hmany, hquiet⟩ := Bool.and_eq_true_iff.1 hstorm
  refine ⟨of_decide_eq_true hmany, fun at_ hlast => ?_⟩
  simpa [hlast] using hquiet

/-- Raised or not, the event limits nothing: the request ends with FORMAT_CHECK_FAIL. -/
theorem State.formatFail_reply (s : State) (n : Nat) : (s.formatFail n).reply = ⟨stFormatCheck, []⟩ := by
  by_cases hdue : s.StormDue n
  · rw [formatFail_of_stormDue hdue, fail_reply]
  · rw [formatFail_of_not_stormDue hdue, fail_reply]

/-- Settles O58: whether the event is due decides the state, and 1,000 failures or an event within the last second keep it
from being due. -/
theorem formatStorm : Obligations.FormatStorm := by
  unfold Obligations.FormatStorm
  intro s n
  have counted (hdue : ¬ s.StormDue n) : (s.formatFail n).st = s.setSlice n (s.stormCounted n) := by
    rw [State.formatFail_of_not_stormDue hdue, fail_st]
  refine ⟨s.formatFail_reply n, fun hfew => counted fun hdue => Nat.not_le.2 hdue.1 hfew,
    fun at_ hlast hrecent => counted fun hdue => Nat.not_lt.2 (hdue.2 at_ hlast) hrecent, fun hmany hquiet => ?_⟩
  have hdue : s.StormDue n := by
    refine ⟨hmany, fun at_ hlast => ?_⟩
    obtain hnever | ⟨last, hat, hold⟩ := hquiet
    · simp [hnever] at hlast
    · obtain rfl : last = at_ := Option.some.inj (hat.symm.trans hlast)
      exact hold
  simp only [State.formatFail_of_stormDue hdue, fail_st, State.stormCounted, State.formatFailTimes]

end Sys2Proof.Machine

/-! Two draws in turn for one key of scope 0 (R137, R138, R284). -/

namespace Sys2Proof.Machine

/-! ## The block that a draw issues from (R137) -/

/-- A block of a SCOPE 0 key starts no lower than it was asked to, and holds a value. -/
theorem State.blockFrom_bounds {s : State} {key : W64} {start a b : Nat} (hblock : s.blockFrom 0 key start = some (a, b)) :
    start ≤ a ∧ a ≤ b := by
  obtain ⟨rfl, rfl⟩ : max 1 start = a ∧ start / 65536 * 65536 + 65535 = b := by simpa [State.blockFrom] using hblock
  omega

theorem State.readyBlock_bounds {s : State} {k : KeyRef} {key : W64} {limit start a b : Nat}
    (hready : (s.readyBlock k key 0 limit start).2 = some (a, b)) : start ≤ a ∧ a ≤ b := by
  dsimp only [State.readyBlock] at hready
  split at hready
  next => cases hready
  next hblock =>
    cases hready
    exact State.blockFrom_bounds hblock

theorem Counter.waiting_bounds {c : Counter} {a b : Nat} {ready : Bool} (hwaiting : c.waiting = some (a, b, ready)) :
    c.top < a ∧ a ≤ b := by
  simpa using (Option.filter_eq_some_iff.1 hwaiting).2

/-- The next block stands above the one in use, readied ahead or now, and holds the value it starts from. -/
theorem State.nextBlock_bounds {s : State} {k : KeyRef} {key : W64} {limit start : Nat} {c d : Counter}
    (hnext : (s.nextBlock k key 0 limit c start).2 = some d) : d.next ≤ d.top ∧ (c.top < start → c.top < d.next) := by
  unfold State.nextBlock at hnext
  split at hnext
  case h_1 a b ready hwaiting =>
    have ⟨habove, hholds⟩ := Counter.waiting_bounds hwaiting
    cases ready <;> cases hnext
    exact ⟨hholds, fun _ => habove⟩
  case h_2 =>
    split at hnext
    next => cases hnext
    next a b hready =>
      have ⟨hfrom, hholds⟩ := State.readyBlock_bounds (congrArg Prod.snd hready)
      split at hnext <;> cases hnext
      exact ⟨hholds, fun hstart => Nat.lt_of_lt_of_le hstart hfrom⟩

section InUse
variable {s : State} {k : KeyRef} {key : W64} {limit : Nat} {d : Counter} (huse : (s.blockInUse k key 0 limit).2 = some d)
include huse

/-- A draw issues from a block that holds its value. -/
theorem State.next_le_top_of_blockInUse : d.next ≤ d.top := by
  unfold State.blockInUse at huse
  split at huse
  next => exact (State.nextBlock_bounds huse).1
  next c _ =>
    split at huse
    next hwithin =>
      cases huse
      exact hwithin
    next => exact (State.nextBlock_bounds huse).1

/-- A counter within its block, or one past it, never draws lower than its next value. -/
theorem State.next_le_next_of_blockInUse {c : Counter} (hcounter : s.counterOf k = some c) (hclose : c.next ≤ c.top + 1) :
    c.next ≤ d.next := by
  simp only [State.blockInUse, hcounter] at huse
  split at huse
  next =>
    cases huse
    exact Nat.le_refl _
  next => exact Nat.le_trans hclose ((State.nextBlock_bounds huse).2 (Nat.lt_succ_self _))

end InUse

/-! ## What a draw leaves (R284) -/

theorem State.counterOf_putCounter_slot (s : State) (i : Nat) (c : Counter) :
    (s.putCounter (.slot i) c).counterOf (.slot i) = some c := Map.find_put_self s.eng.counters i c

/-- After a draw the counter stands one value further in the same block, whether or not the next block is readied. -/
theorem State.counterOf_issueNext (s : State) (i : Nat) (key : W64) (salt : Bytes) (scope limit : Nat) (c : Counter) :
    ∃ d, (s.issueNext (.slot i) key salt scope limit c).counterOf (.slot i) = some d ∧ d.next = c.next + 1 ∧ d.top = c.top := by
  dsimp only [State.issueNext]
  split
  · split <;> exact ⟨_, State.counterOf_putCounter_slot .., rfl, rfl⟩
  · exact ⟨_, State.counterOf_putCounter_slot .., rfl, rfl⟩

/-- A draw that issues a value takes it from the block in use; whatever else it meets is an error. -/
theorem State.issue_eq_ok {s u : State} {k : KeyRef} {key : W64} {salt : Bytes} {scope limit v : Nat}
    (hissue : s.issue k key salt scope limit = (u, .ok v)) :
    ∃ t c, s.blockInUse k key scope limit = (t, some c) ∧ c.next = v ∧ u = t.issueNext k key salt scope limit c := by
  unfold State.issue at hissue
  repeat' split at hissue
  all_goals cases hissue
  next t c huse _ _ => exact ⟨t, c, huse, rfl, rfl⟩

/-- Settles O56: the first draw leaves the counter one value further in a block that held its value, and the second draws from no
lower. -/
theorem drawsAscend : Obligations.DrawsAscend := by
  unfold Obligations.DrawsAscend
  intro s i key salt limit v w hfirst hsecond
  rcases hissue : s.issue (.slot i) key salt 0 limit with ⟨u, r⟩
  rw [hissue] at hfirst hsecond
  obtain rfl : r = .ok v := hfirst
  obtain ⟨t, c, huse, rfl, rfl⟩ := State.issue_eq_ok hissue
  obtain ⟨_, e, huse', rfl, -⟩ := State.issue_eq_ok (Prod.ext rfl hsecond)
  obtain ⟨d, hcounter, hnext, htop⟩ := t.counterOf_issueNext i key salt 0 limit c
  have hheld : c.next ≤ c.top := State.next_le_top_of_blockInUse (congrArg Prod.snd huse)
  have hafter : d.next ≤ e.next := State.next_le_next_of_blockInUse (congrArg Prod.snd huse') hcounter (by omega)
  omega

end Sys2Proof.Machine

/-! The ends of jobs on the engines, and suspended jobs that resume (R151, R278 to R280, R304, R309, R310, R313, R316, R317). -/

namespace Sys2Proof.Machine

/-- One of a masked job's cores computes without its key yet. -/
def State.keyless (s : State) (j : Job) : Bool :=
  (j.engine :: j.more).any fun c => j.kind == .masked && (s.engine j.kind c).path.roundKeys.isEmpty

/-- ML-DSA signing at its cap of 256 iterations (R316). -/
def BargeRec.signCapped (r : BargeRec) (iterations : Nat) : Prop := r.barge.opcode = 0x0632 ∧ 256 ≤ iterations

/-- A lattice engine counts the iterations of an ML-DSA signing, up to the cap (R329). -/
def State.countIterations (s : State) (r : BargeRec) (engine iterations : Nat) : State :=
  let run := if r.barge.opcode = 0x0632 then min iterations 256 else 0
  s.modEngine .lattice engine fun e => { e with aux := e.aux + BitVec.ofNat 32 run }

section JobEnd
variable {n : Nat} {r : BargeRec} {j : Job} {s : State} (hbarge : s.flt.barges.find n = some r)
include hbarge

/-! ## Cipher jobs (R278 to R280) -/

section Cipher
variable (hjob : runningJob r isCipher = some j)
include hjob

/-- A job stays with its core until the core's key is loaded. -/
theorem exec_cipherJobDone_keyless (hkey : (s.retrySetUp n r j).keyless j = true) :
    exec (.cipherJobDone n .commit) s = .next (s.retrySetUp n r j) := by
  show execCipherJobDone n .commit s = _
  rw [State.keyless] at hkey
  simp only [execCipherJobDone, hbarge, hjob, hkey, if_true]

section Keyed
variable (hkey : (s.retrySetUp n r j).keyless j = false)
include hkey

theorem exec_cipherJobDone_whole (hwhole : j.segments = 0) :
    exec (.cipherJobDone n .commit) s = .next ((s.retrySetUp n r j).commitCipher n r j).spreadSegments := by
  show execCipherJobDone n .commit s = _
  rw [State.keyless] at hkey
  simp only [execCipherJobDone, hbarge, hjob, hkey, hwhole, Bool.false_eq_true, if_false, if_true]

theorem exec_cipherJobDone_segment (hsplit : 2 ≤ j.segments) :
    exec (.cipherJobDone n .commit) s = .next ((s.retrySetUp n r j).endSegment n r j) := by
  show execCipherJobDone n .commit s = _
  have ⟨hsome, hlast⟩ : j.segments ≠ 0 ∧ j.segments ≠ 1 := by omega
  rw [State.keyless] at hkey
  simp only [execCipherJobDone, hbarge, hjob, hkey, hsome, hlast, Bool.false_eq_true, if_false]

end Keyed

theorem exec_segmentCombine (hlast : j.segments = 1) :
    exec (.segmentCombine n) s = .next (s.commitCipher n r j).spreadSegments := by
  show execSegmentCombine n s = _
  simp only [execSegmentCombine, hbarge, hjob, hlast, if_true]

/-- A core's fault, by its bit and status. -/
theorem exec_cipherJobDone_faults :
    exec (.cipherJobDone n .guard) s = .next (s.faultAnswered j.kind j.engine 1 stGuard) ∧
    exec (.cipherJobDone n .control) s = .next (s.faultAnswered j.kind j.engine 2 stFault) ∧
    exec (.cipherJobDone n .maskgen) s = .next (s.faultAnswered j.kind j.engine 4 stFault) := by
  have harm (end_ : JobEnd) : exec (.cipherJobDone n end_) s = execCipherJobDone n end_ s := rfl
  simp only [harm, execCipherJobDone, hbarge, hjob, and_self]

end Cipher

/-! ## Public-key, lattice and hash jobs (R304, R309, R310, R313, R316, R317) -/

theorem exec_pkeJobDone (hjob : runningJob r (· == .publicKey) = some j) (twin : Bool) :
    exec (.pkeJobDone n twin) s = .next (
      if twin then ((s.countJob r j).writeResults r).finishJob n j
      else (s.countSite 5 0 514 1).faultAnswered .publicKey j.engine 4 stFault) := by
  show execPkeJobDone n twin s = _
  simp only [execPkeJobDone, hbarge, hjob]
  cases twin <;> rfl

section Lattice
variable (hjob : runningJob r (· == .lattice) = some j) {iterations : Nat}
include hjob

/-- A job within the cap ends as its release check says. -/
theorem exec_latticeJobDone (hwithin : ¬r.signCapped iterations) (release : Bool) :
    let t := s.countIterations r j.engine iterations
    exec (.latticeJobDone n iterations release) s = .next (
      if release then ((t.countJob r j).writeResults r).finishJob n j else t.faultAnswered .lattice j.engine 4 stFault) := by
  show execLatticeJobDone n iterations release s = _
  rw [BargeRec.signCapped] at hwithin
  simp only [execLatticeJobDone, hbarge, hjob, State.countIterations, Bool.and_eq_true, beq_iff_eq, decide_eq_true_eq, hwithin,
    if_false]
  cases release <;> rfl

/-- At the cap the job fails whatever the release check says, and the engine stays in service. -/
theorem exec_latticeJobDone_capped (hcapped : r.signCapped iterations) (release : Bool) :
    let t := s.countIterations r j.engine iterations
    exec (.latticeJobDone n iterations release) s =
      .next ((t.endJob n stFault).modEngine .lattice j.engine fun e => { e with faultBits := e.faultBits ||| 8 }) := by
  show execLatticeJobDone n iterations release s = _
  rw [BargeRec.signCapped] at hcapped
  simp only [execLatticeJobDone, hbarge, hjob, State.countIterations, Bool.and_eq_true, beq_iff_eq, decide_eq_true_eq, hcapped,
    and_self, if_true]

end Lattice

theorem exec_hashJobDone (hjob : runningJob r (· == .hash) = some j) (compressions : Nat) :
    exec (.hashJobDone n compressions) s = .next (((s.countOps .hash j.engine compressions).writeResults r).finishJob n j) := by
  show execHashJobDone n compressions s = _
  simp only [execHashJobDone, hbarge, hjob]

/-! ## Suspended jobs (R151) -/

/-- A core takes a suspended job up again with its saved state. -/
def Engine.resumed (e : Engine) : Engine :=
  { e with busy := true, suspended := false, path := { e.path with shares := savedShares e.path.saveRam, saveRam := [] } }

/-- A job that nothing blocks resumes, or waits on its core for the seed of its key load. -/
theorem exec_suspendedJobResume (hjob : r.job = some j) (hsuspended : j.suspended = true)
    (hclear : s.blocked r j.position = false) (hidle : (s.engine j.kind j.engine).busy = false) :
    let u := s.loadKey j.kind j.engine (s.jobKey r j.position) n
    exec (.suspendedJobResume n) s = .next (
      if (u.engine j.kind j.engine).seedless.isSome then u
      else (u.modEngine j.kind j.engine Engine.resumed).modBarge n fun r =>
        { r with job := some { j with suspended := false } }) := by
  show execSuspendedJobResume n s = _
  simp only [execSuspendedJobResume, hbarge, hjob, hsuspended, hclear, hidle, Bool.not_true, Bool.or_self, Bool.false_eq_true,
    if_false]
  split <;> rfl

end JobEnd

/-- Settles O36: one lemma for each end of a job. -/
theorem jobEndsAct : Obligations.JobEndsAct := by
  unfold Obligations.JobEndsAct
  intro n r j s hbarge
  refine ⟨fun hjob => ⟨exec_cipherJobDone_keyless hbarge hjob, exec_cipherJobDone_whole hbarge hjob,
      exec_cipherJobDone_segment hbarge hjob, exec_segmentCombine hbarge hjob, exec_cipherJobDone_faults hbarge hjob⟩,
    fun hjob => ⟨exec_pkeJobDone hbarge hjob true, exec_pkeJobDone hbarge hjob false⟩,
    fun iterations hjob => ⟨fun hwithin => ?within, fun release hsigns hcap => ?capped⟩,
    fun compressions hjob => exec_hashJobDone hbarge hjob compressions, fun hjob hsuspended hclear hidle => ?resume⟩
  case within =>
    have hwithin : ¬r.signCapped iterations := fun ⟨hsigns, hcap⟩ => hwithin.elim (· hsigns) (Nat.not_lt.2 hcap)
    exact ⟨exec_latticeJobDone hbarge hjob hwithin true, exec_latticeJobDone hbarge hjob hwithin false⟩
  case capped => exact exec_latticeJobDone_capped hbarge hjob ⟨hsigns, hcap⟩ release
  case resume =>
    have hresume := exec_suspendedJobResume hbarge hjob hsuspended hclear hidle
    exact ⟨fun hseedless => hresume.trans (congrArg _ (if_pos (Option.isSome_iff_ne_none.2 hseedless))),
      fun hseeded => hresume.trans (congrArg _ (if_neg (by simp [hseeded])))⟩

end Sys2Proof.Machine

/-! Faults and returns of the engines, their known answers, parked jobs, island resets and the device signer (R276, R279, R281, R290,
R310, R312, R319 to R323, R342). -/

namespace Sys2Proof.Machine

/-! ## Faults of engines (R279, R281, R310, R312) -/

/-- An engine out of service for a fault: idle, with nothing in its key path and the fault counted. -/
def Engine.faulted (e : Engine) (bit : W32) : Engine :=
  { e.idle with
    inService := false, suspended := false, path := {}, faultBits := e.faultBits ||| bit, faultCount := sat 15 (e.faultCount + 1) }

/-- The jobs of an engine end, and it is out of service with its cause. -/
def State.takeOut (s : State) (k : EngineKind) (n : Nat) (bit : W32) (status : W16) : State :=
  ((s.endJobs k n status).modEngine k n (·.faulted bit)).countFault.raise (engineEvents k).1 n 0xFFFF status.toNat bit.toNat

/-- An engine at its third fault is locked out, and a spare takes its place (R281). -/
def State.lockOutThird (s : State) (k : EngineKind) (n : Nat) : State :=
  if 3 ≤ (s.engine k n).faultCount ∧ (s.engine k n).lockedOut = false then
    ((s.modEngine k n fun e => { e with lockedOut := true }).level (engineEvents k).2.1 true n 0xFFFF 0 0).mapSpare k n
  else s

/-- Faults of an engine kind's block within the last second, one now among them. -/
def State.blockFaultTimes (s : State) (k : EngineKind) : List Nat := within s.now 1000000000 (s.block k).window ++ [s.now]

/-- A block counts a fault, and its third within a second raises the island's alarm (R281, R312). -/
def State.countBlockFault (s : State) (k : EngineKind) : State :=
  let t := s.setBlock k { s.block k with window := s.blockFaultTimes k }
  if (s.blockFaultTimes k).length = 3 then t.alarmLine (engineAlarm k) else t

theorem State.faultEngine_eq (s : State) (k : EngineKind) (n : Nat) (bit : W32) (status : W16) :
    s.faultEngine k n bit status = (((s.takeOut k n bit status).lockOutThird k n).countBlockFault k).refreshReady := by
  have hlock (t : State) : t.lockOutThird k n =
      if 3 ≤ (t.engine k n).faultCount && !(t.engine k n).lockedOut then
        ((t.modEngine k n fun e => { e with lockedOut := true }).level (engineEvents k).2.1 true n 0xFFFF 0 0).mapSpare k n
      else t := by
    simp only [State.lockOutThird, Bool.and_eq_true, decide_eq_true_eq, Bool.not_eq_true']
  rw [hlock]
  rfl

/-- The sentinel answers one alarm line that stands, with a free reading (log entry 25). -/
def State.answerAlarm (s : State) (code : Nat) : State :=
  if (s.sensor code).condition = true then
    (s.freeNat.2.modSensor code fun x => { x with condition := false }).alarm code 0 (BitVec.ofNat 32 s.freeNat.1) 0
  else s

theorem State.answerAlarms_eq (s : State) : s.answerAlarms = [0x23, 0x24, 0x25, 0x26].foldl State.answerAlarm s := rfl

theorem exec_seedTimeout {core t : Nat} {s : State} (hseedless : (s.engine (coreKind core) core).seedless = some t)
    (hjobs : s.jobsOn (coreKind core) core ≠ []) :
    exec (.seedTimeout core) s = .next ((s.upTo t).faultAnswered (coreKind core) core 4 stFault) := by
  show execSeedTimeout core s = _
  simp only [execSeedTimeout, hseedless, List.isEmpty_iff, hjobs, if_false]

/-! ## Returns and known answers (R279, R310, R342) -/

theorem State.returnEngine_eq (s : State) (k : EngineKind) (n : Nat) (pass : Bool) :
    s.returnEngine k n pass =
      if pass = true ∧ (s.engine k n).lockedOut = false then
        (s.modEngine k n fun e => { e with inService := true }).refreshReady
      else s := by
  simp only [State.returnEngine, Bool.and_eq_true, Bool.not_eq_true']

theorem exec_periodicKat {k : EngineKind} {n : Nat} {s : State} (hmay : s.katMayRun k n = true) (pass : Bool) :
    let t := s.upTo (max (s.engine k n).katAt (s.clk.startAt + 3600000000000))
    let u := t.modEngine k n fun e => { e with katAt := t.now + 3600000000000 }
    exec (.periodicKat k n pass) s = .next (if pass then u else u.faultAnswered k n 0 stFault) := by
  show execPeriodicKat k n pass s = _
  simp only [execPeriodicKat, hmay, Bool.not_true, Bool.false_eq_true, if_false]

/-! ## Parked jobs and islands (R281, R290, R312) -/

theorem exec_parkedJobExpire {job : Nat} {p : Parked} {s : State} (hparked : s.eng.parked.find job = some p) :
    let t := s.upTo p.expiry
    exec (.parkedJobExpire job) s = .next { t with eng := { t.eng with parked := t.eng.parked.del job } } := by
  show execParkedJobExpire job s = _
  simp only [execParkedJobExpire, hparked]

/-- A block out of its reset: every engine that is not locked out is in service. -/
def State.releaseBlock (s : State) (k : EngineKind) : State :=
  s.setBlock k { s.block k with
    resetting := false, window := [],
    engines := (s.block k).engines.map fun e => (e.1, { e.2 with inService := !e.2.lockedOut }) }

/-- What an island draws or forms anew as it comes out of its reset: CI_BANK its context key, CI_HASH its LMS seed. -/
def State.renewIsland (s : State) (island : Nat) : State :=
  if island = 0x03 then { (s.drawFrom 111 32).2 with eng := { (s.drawFrom 111 32).2.eng with contextKey := (s.drawFrom 111 32).1 } }
  else if island = 0x04 then { s with eng := { s.eng with lmsSeed := true } }
  else s

theorem exec_islandRelease {island : Nat} {k : EngineKind} {rest : List EngineKind} {s : State}
    (hkinds : islandKinds island = k :: rest) (hresetting : (s.block k).resetting = true) :
    exec (.islandRelease island) s = .next ((s.releaseBlock k).renewIsland island).refreshReady := by
  show execIslandRelease island s = _
  simp only [execIslandRelease, hkinds, hresetting, Bool.not_true, Bool.false_eq_true, if_false, State.renewIsland,
    State.releaseBlock]

/-! ## The signer's trees (R321) -/

theorem exec_lmsTreeBuilt {level tree : Nat} {s : State} (hnew : (level, tree) ∉ s.eng.lmsTrees)
    (hdue : (level, tree) ∈ treesAt s.eng.lmsPos ++ treesDue s.eng.lmsPos) :
    let kept := s.eng.lmsTrees.filter (treesAt s.eng.lmsPos ++ treesDue s.eng.lmsPos).contains
    exec (.lmsTreeBuilt level tree) s = .next { s with eng := { s.eng with lmsTrees := kept ++ [(level, tree)] } } := by
  show execLmsTreeBuilt level tree s = _
  have hbuilds : (s.eng.lmsTrees.contains (level, tree) ||
      !(treesAt s.eng.lmsPos ++ treesDue s.eng.lmsPos).contains (level, tree)) = false := by
    rw [List.contains_iff_mem.2 hdue, Bool.not_true, Bool.or_false]
    simpa using hnew
  simp only [execLmsTreeBuilt, hbuilds, Bool.false_eq_true, if_false]

/-! ## Device signatures (R320, R322, R323, R446) -/

/-- The request at the head of the signer's queue leaves it. -/
def State.dropRequest (s : State) (rest : List LmsRequest) : State := { s with eng := { s.eng with lmsQueue := rest } }

/-- The signer may complete a request: it holds a token, its seed and the trees of its position, and the module did not start with
secure debug in CUSTODY. -/
def State.signerReady (s : State) : Prop :=
  s.eng.lmsTokens ≠ 0 ∧ s.eng.lmsSeed = true ∧ (s.ctr.dbgStart = false ∨ s.ctr.state ≠ .custody) ∧
    (treesAt s.eng.lmsPos).all s.eng.lmsTrees.contains = true

theorem State.not_signerReady_iff (s : State) :
    ¬s.signerReady ↔ (s.eng.lmsTokens = 0 || !s.eng.lmsSeed || (s.ctr.dbgStart && s.ctr.state == .custody) ||
      !((treesAt s.eng.lmsPos).all s.eng.lmsTrees.contains)) = true := by
  simp only [State.signerReady, Bool.or_eq_true, Bool.not_eq_true', Bool.and_eq_true, decide_eq_true_eq, beq_iff_eq]
  grind

/-- The signature at the next position, made and counted on the units that are taken for it. -/
def State.signNext (s : State) : State × Nat := (s.signUnits.2.2.countSignature s.signUnits.1 s.signUnits.2.1).takePosition

/-- The state once a signature is made, with the reading of the unit to blame taken. -/
def State.signatureMade (s : State) : State := s.signNext.1.freeNat.2

/-- The unit to blame for a signature that does not verify: one of those that made it, which one is free (log entry 43). -/
def State.blamedUnit (s : State) : Nat :=
  (s.signUnits.2.1 :: s.signUnits.1).getD (s.signNext.1.freeNat.1 % (s.signUnits.1.length + 1)) s.signUnits.2.1

/-- A signature that does not verify takes its blamed unit out of service. -/
def State.signFailed (s : State) : State := s.signatureMade.faultEngine .hash s.blamedUnit 4 stFault

/-- The head request ends with its signature: a certificate goes to its store and a quote to its answer, and without a signature that
verifies the certificate waits while the quote fails. -/
def LmsRequest.ended (r : LmsRequest) (rest : List LmsRequest) (verified : Bool) (pos : Nat) (s : State) : State :=
  match r with
  | .cert n => if verified then (s.dropRequest rest).storeCert n pos else s
  | .quote w body =>
    let t := s.dropRequest rest
    if verified then t.answer w ⟨stDone, body ++ t.hss pos (body.take 312)⟩ [] else t.answer w ⟨stFault, []⟩ []

section Signer
variable {r : LmsRequest} {rest : List LmsRequest} {s : State}

section Spent
variable (hspent : s.lmsSpent = true)
include hspent

theorem State.signHead_cert_spent {n : Nat} (hqueue : s.eng.lmsQueue = .cert n :: rest) (verified : Bool) :
    s.signHead verified = s.dropRequest rest := by
  simp only [State.signHead, hqueue, hspent, if_true, State.dropRequest]

theorem State.signHead_quote_spent {w : Waiter} {body : Bytes} (hqueue : s.eng.lmsQueue = .quote w body :: rest) (verified : Bool) :
    s.signHead verified = (s.dropRequest rest).answer w ⟨stLmsExhausted, []⟩ [] := by
  simp only [State.signHead, hqueue, hspent, if_true, State.dropRequest]

end Spent

variable (hleft : s.lmsSpent = false)
include hleft

/-- A signer that may not sign leaves its queue as it is. -/
theorem State.signHead_not_ready (hqueue : s.eng.lmsQueue = r :: rest) (hready : ¬s.signerReady) (verified : Bool) :
    s.signHead verified = s := by
  rw [State.not_signerReady_iff] at hready
  simp only [State.signHead, hqueue, hleft, hready, Bool.false_eq_true, if_false, if_true]

section Ready
variable (hready : s.signerReady)
include hready

theorem State.signHead_of_ready (hqueue : s.eng.lmsQueue = r :: rest) (verified : Bool) :
    s.signHead verified = r.ended rest verified s.signNext.2 (if verified then s.signatureMade else s.signFailed) := by
  have hsigns := Bool.eq_false_iff.2 fun h => s.not_signerReady_iff.2 h hready
  rcases hunits : s.signUnits with ⟨signers, verifier, t⟩
  rcases hposition : (t.countSignature signers verifier).takePosition with ⟨u, pos⟩
  rcases hreading : u.freeNat with ⟨reading, v⟩
  simp only [State.signHead, hqueue, hleft, hsigns, Bool.false_eq_true, if_false, State.signFailed, State.signatureMade,
    State.blamedUnit, State.signNext, hunits, hposition, hreading]
  cases r <;> rfl

/-- A certificate whose signature fails stays at the head, to be made again (R322; log entry 44). -/
theorem State.signHead_cert {n : Nat} (hqueue : s.eng.lmsQueue = .cert n :: rest) :
    s.signHead true = (s.signatureMade.dropRequest rest).storeCert n s.signNext.2 ∧ s.signHead false = s.signFailed := by
  simp only [State.signHead_of_ready hleft hready hqueue, LmsRequest.ended, if_true, Bool.false_eq_true, if_false, and_self]

theorem State.signHead_quote {w : Waiter} {body : Bytes} (hqueue : s.eng.lmsQueue = .quote w body :: rest) :
    let t := s.signatureMade.dropRequest rest
    s.signHead true = t.answer w ⟨stDone, body ++ t.hss s.signNext.2 (body.take 312)⟩ [] ∧
    s.signHead false = (s.signFailed.dropRequest rest).answer w ⟨stFault, []⟩ [] := by
  simp only [State.signHead_of_ready hleft hready hqueue, LmsRequest.ended, if_true, Bool.false_eq_true, if_false, and_self]

end Ready
end Signer

/-- Settles O41: one lemma for each event. -/
theorem engineCommandsAct : Obligations.EngineCommandsAct := by
  unfold Obligations.EngineCommandsAct
  refine ⟨fun k n bit status s => s.faultEngine_eq k n bit status, fun _ _ _ _ => rfl, fun _ _ _ => rfl, State.answerAlarms_eq,
    fun k n pass s => congrArg _ (s.returnEngine_eq k n pass),
    fun core pass s => congrArg _ (s.returnEngine_eq (coreKind core) core pass),
    fun core t s => exec_seedTimeout, fun k n s hmay => ⟨exec_periodicKat hmay true, exec_periodicKat hmay false⟩,
    fun job p s => exec_parkedJobExpire, fun level tree s => exec_lmsTreeBuilt, fun _ => rfl, ?release, ?signer⟩
  case release =>
    intro island k rest s hkinds hresetting t
    have ht : s.releaseBlock k = t := rfl
    have hrelease := exec_islandRelease hkinds hresetting
    rw [ht] at hrelease
    refine ⟨fun hbank => ?_, fun hhash => ?_, fun hbank hhash => ?_⟩
    · rwa [State.renewIsland, if_pos hbank] at hrelease
    · rwa [State.renewIsland, if_neg (by simp [hhash]), if_pos hhash] at hrelease
    · rwa [State.renewIsland, if_neg hbank, if_neg hhash] at hrelease
  case signer =>
    intro verified r rest s hqueue dropped ready q p unit bad popped
    have hmade : p = (s.signatureMade, s.signNext.2) := rfl
    have hbad : bad = s.signFailed := rfl
    have hpopped (t : State) : popped t = t.dropRequest rest := rfl
    rw [hmade, hbad]
    simp only [hpopped]
    refine ⟨rfl, ?_, ?_, fun hleft hready => State.signHead_not_ready hleft hqueue hready verified,
      fun hleft hready => ⟨?_, ?_⟩⟩
    · rintro hspent n rfl
      exact State.signHead_cert_spent hspent hqueue verified
    · rintro hspent w body rfl
      exact State.signHead_quote_spent hspent hqueue verified
    · rintro n rfl
      obtain ⟨hstored, hfailed⟩ := State.signHead_cert hleft hready hqueue
      exact ⟨hstored, (exec_shredCertSigned hqueue).trans (congrArg _ hstored), hfailed⟩
    · rintro w body rfl
      exact State.signHead_quote hleft hready hqueue

end Sys2Proof.Machine

/-! Sources, reseeds, draws that time out, generator pairs, READY after an outage and the health report (R333 to R338, R345). -/

namespace Sys2Proof.Machine

/-! ## Sources (R333, R337, R338) -/

/-- Failures of a source within the last hour, one now among them. -/
def State.sourceFails (s : State) (n : Nat) : List Nat := within s.now 3600000000000 (s.source n).fails ++ [s.now]

/-- A source that fails a test counts it and loses its pending block; it is latched off at its third failure within an hour and
restarts otherwise. -/
def State.countSourceFail (s : State) (n : Nat) (adaptive : Bool) : State :=
  let x := s.source n
  s.setSource n { x with
    state := if 3 ≤ (s.sourceFails n).length then .latched else .restarting, fails := s.sourceFails n, raw := [],
    rctFail := if adaptive then x.rctFail else x.rctFail + 1, aptFail := if adaptive then x.aptFail + 1 else x.aptFail,
    restartAt := s.now + 100000000 }

/-- The failure of a source that runs raises ENT_SOURCE_FAIL. -/
def State.reportSourceFail (s : State) (n : Nat) (adaptive : Bool) : State :=
  let t := s.countSourceFail n adaptive
  if (s.source n).state = .running then t.raise 224 n 0xFFFF 0 (s.sourceFails n).length else t

theorem State.failSource_restarts {s : State} {n : Nat} (hfew : (s.sourceFails n).length < 3) (adaptive : Bool) :
    s.failSource n adaptive = s.reportSourceFail n adaptive := by
  have hthird := Nat.not_le.2 hfew
  rw [State.sourceFails] at hthird
  simp only [State.failSource, State.reportSourceFail, State.countSourceFail, State.sourceFails, hthird, beq_iff_eq, decide_false,
    Bool.false_eq_true, if_false]

theorem State.failSource_latches {s : State} {n : Nat} (hthird : 3 ≤ (s.sourceFails n).length) (adaptive : Bool) :
    s.failSource n adaptive = (s.reportSourceFail n adaptive).level 225 true n 0xFFFF 0 0 := by
  rw [State.sourceFails] at hthird
  simp only [State.failSource, State.reportSourceFail, State.countSourceFail, State.sourceFails, hthird, beq_iff_eq, decide_true,
    if_true]

/-- A source runs again: the stalled instances reseed first, and then those whose reseed is due. -/
def State.startSource (s : State) (n : Nat) : State :=
  let t := s.setSource n { s.source n with state := .running }
  let u := t.stalled.foldl State.reseed t
  u.reseedsDue.foldl State.reseed u

section Source
variable {n : Nat} {s : State} (hsource : n < 2)
include hsource

theorem exec_entSourceFail (htests : (s.source n).state = .startup ∨ (s.source n).state = .running) (adaptive : Bool) :
    exec (.entSourceFail n adaptive) s = .next (s.failSource n adaptive).sourcesChanged := by
  show execEntSourceFail n adaptive s = _
  have htests : ((s.source n).state == .startup || (s.source n).state == .running) = true := by simpa using htests
  simp only [execEntSourceFail, htests, Nat.not_lt.2 (Nat.le_of_lt_succ hsource), Bool.not_true, Bool.false_eq_true, or_self, if_false]

theorem exec_sourceRestartTimeout (hrestarting : (s.source n).state = .restarting) :
    exec (.sourceRestartTimeout n) s =
      .next ((s.upTo (s.source n).restartAt).setSource n { s.source n with state := .startup }) := by
  show execSourceRestartTimeout n s = _
  exact if_neg (by simp [Nat.le_of_lt_succ hsource, hrestarting])

section Pass
variable (hstartup : (s.source n).state = .startup)
include hstartup

theorem exec_sourceStartupPass (hrunning : s.pwr.started = false ∨ s.sourceRunning = true) :
    exec (.sourceStartupPass n) s = .next (s.startSource n).sourcesChanged := by
  show execSourceStartupPass n s = _
  have houtage : (s.pwr.started && !s.sourceRunning) = false := by
    rwa [Bool.and_eq_false_iff, Bool.not_eq_false']
  simp only [execSourceStartupPass, State.startSource, hstartup, houtage, Nat.not_lt.2 (Nat.le_of_lt_succ hsource), ne_eq,
    not_true_eq_false, or_self, Bool.false_eq_true, if_false]

/-- READY waits one millisecond more where the source ends an outage of a module that has started (R338). -/
theorem exec_sourceStartupPass_outage (hstarted : s.pwr.started = true) (hnone : s.sourceRunning = false) :
    let u := s.startSource n
    exec (.sourceStartupPass n) s =
      .next ({ u with ent := { u.ent with readyAt := some (u.now + 1000000) } } : State).sourcesChanged := by
  show execSourceStartupPass n s = _
  simp only [execSourceStartupPass, State.startSource, hstartup, hstarted, hnone, Nat.not_lt.2 (Nat.le_of_lt_succ hsource), ne_eq,
    not_true_eq_false, or_self, if_false, Bool.not_false, Bool.and_self, if_true]

end Pass
end Source

/-! ## Reseeds and draws (R334, R335, R337) -/

/-- The time at which an instance reaches its reseed point: now by its requests, else by time. -/
def State.reseedTime (s : State) (n : Nat) : Nat :=
  if (reseedPoint n).1 ≤ (s.instanceAt n).requests then s.now else (s.instanceAt n).reseeded + (reseedPoint n).2

theorem exec_drbgReseed {n : Nat} (hinstance : n < 113) (s : State) :
    exec (.drbgReseed n) s = .next ((s.upTo (s.reseedTime n)).reseedDue n) :=
  if_neg (Nat.not_le.2 hinstance)

theorem exec_drbgDrawTimeout {n : Nat} {r : BargeRec} {s : State} (hbarge : s.flt.barges.find n = some r)
    (hwaits : s.waitsForDraw n r = true) :
    exec (.drbgDrawTimeout n) s = .next ((s.upTo (r.drawWait.getD s.now)).endBarge n ⟨stFault, []⟩) := by
  show execDrbgDrawTimeout n s = _
  simp only [execDrbgDrawTimeout, hbarge, hwaits, Bool.not_true, Bool.false_eq_true, if_false]

/-! ## Generator pairs (R336, R337) -/

/-- The other core of a generator core's pair. -/
def pairedCore (core : Nat) : Nat := if core % 2 = 0 then core + 1 else core - 1

theorem pairedCore_div_two (core : Nat) : pairedCore core / 2 = core / 2 := by
  unfold pairedCore
  split <;> omega

/-- The generator cores that still pass once a core fails; whether the other core of its pair fails too is free (log entry 3). -/
def State.coresKept (s : State) (core : Nat) : List Nat :=
  (List.range 8).filter fun i => s.ent.genOk.testBit i && i != core && !(Config.freeBool s.draws && i == pairedCore core)

theorem State.mem_coresKept {s : State} {core i : Nat} :
    i ∈ s.coresKept core ↔
      i < 8 ∧ s.ent.genOk.testBit i = true ∧ i ≠ core ∧ (Config.freeBool s.draws = true → i ≠ pairedCore core) := by
  simp only [State.coresKept, List.mem_filter, List.mem_range, Bool.and_eq_true, bne_iff_ne, Bool.not_eq_true', Bool.and_eq_false_imp,
    beq_eq_false_iff_ne, and_assoc]

theorem State.not_mem_coresKept_self (s : State) (core : Nat) : core ∉ s.coresKept core := by
  rw [State.mem_coresKept]
  rintro ⟨-, -, hother, -⟩
  exact hother rfl

/-- A core of another pair passes as before. -/
theorem State.mem_coresKept_of_other_pair {s : State} {core i : Nat} (hcore : i < 8) (hpair : i / 2 ≠ core / 2) :
    i ∈ s.coresKept core ↔ s.ent.genOk.testBit i = true := by
  have hself : i ≠ core := fun h => hpair (h ▸ rfl)
  have hpaired : i ≠ pairedCore core := fun h => hpair (h ▸ pairedCore_div_two core)
  simp [State.mem_coresKept, hcore, hself, hpaired]

theorem exec_genPairFail {core : Nat} (hcore : core < 8) (s : State) :
    let t : State := { s with draws := s.draws + 1, ent := { s.ent with
      genOk := ((s.coresKept core).map fun i => 2 ^ i).foldl (· + ·) 0 } }
    exec (.genPairFail core) s =
      .next (if t.pairsServing < 2 then t.level 227 true noInst 0xFFFF 0 0 else t).refreshReady :=
  if_neg (Nat.not_le.2 hcore)

/-! ## READY and the health report (R338, R345) -/

theorem exec_readyRecoveryDelay {at_ : Nat} {s : State} (hready : s.ent.readyAt = some at_) :
    let t := s.upTo at_
    exec .readyRecoveryDelay s = .next ({ t with ent := { t.ent with readyAt := none } } : State).refreshReady := by
  show execReadyRecoveryDelay s = _
  simp only [execReadyRecoveryDelay, hready]

/-- A tick forms the report and sets the next point of its grid, but for P4, which suspends it. -/
theorem exec_healthReportTick (s : State) :
    let t := s.upTo (max s.hlt.gridAt (s.clk.startAt + 1000000))
    let next := t.clk.startAt + ((t.now - t.clk.startAt) / 1000000 + 1) * 1000000
    exec .healthReportTick s =
      if s.pwr.state = 4 then .next s else .next ({ t with hlt := { t.hlt with gridAt := next } } : State).formReport := rfl

theorem exec_healthReportChange (s : State) :
    exec .healthReportChange s =
      if reportFields (s.healthBytes 0) = reportFields s.hlt.report then .next s
      else .next (s.upTo (s.hlt.formed + 100000)).formReport := rfl

/-- Settles O42: one lemma for each event. -/
theorem entropyCommandsAct : Obligations.EntropyCommandsAct := by
  unfold Obligations.EntropyCommandsAct
  refine ⟨?fails, fun n s => exec_sourceRestartTimeout, fun n s hsource hstartup => ⟨exec_sourceStartupPass hsource hstartup,
      exec_sourceStartupPass_outage hsource hstartup⟩, ?reseeds, fun n r s => exec_drbgDrawTimeout, ?pair,
    fun at_ s => exec_readyRecoveryDelay,
    fun s => ⟨fun hgrid => (exec_healthReportTick s).trans (if_neg hgrid), fun hgrid => (exec_healthReportTick s).trans (if_pos hgrid)⟩,
    fun s => ⟨fun hchanged => (exec_healthReportChange s).trans (if_neg hchanged),
      fun hsame => (exec_healthReportChange s).trans (if_pos hsame)⟩⟩
  case fails =>
    intro n adaptive s hsource htests x fails t u
    have hfails := exec_entSourceFail hsource htests adaptive
    refine ⟨fun hfew => ?_, fun hthird => ?_⟩
    · rwa [State.failSource_restarts hfew] at hfails
    · rwa [State.failSource_latches hthird] at hfails
  case reseeds =>
    intro n s hinstance d p t
    have hreseeds : exec (.drbgReseed n) s = .next (t.reseedDue n) := exec_drbgReseed hinstance s
    exact ⟨fun hruns => hreseeds.trans (congrArg _ (if_pos hruns)),
      fun hnone => hreseeds.trans (congrArg _ (if_neg (Bool.eq_false_iff.1 hnone)))⟩
  case pair =>
    intro core s hcore
    exact ⟨s.coresKept core, List.filter_sublist.subset, s.not_mem_coresKept_self core,
      fun i hi hpair => State.mem_coresKept_of_other_pair hi hpair, exec_genPairFail hcore s⟩

end Sys2Proof.Machine

/-! The frames and timers of the towpath: hellos, beats, a silent partner, audits and the end of a sync (R350, R352 to R355, R357,
R372, R373, R387). -/

namespace Sys2Proof.Machine

section Hello
variable (f : Bytes) (s : State)

/-- The module that a hello names as its sender. -/
def helloSender : W64 := BitVec.ofNat 64 (fld (f.drop 40) 0 8)

/-- A hello whose frame is whole and whose sender's attestation holds (R354; its layout in log entry 31). -/
def helloGenuine : Bool :=
  decide (fld f 0 4 = 0x44585450 ∧ fld f 4 1 = 1 ∧ (f.drop 40).length = 160 ∧
    Config.attested (helloSender f).toNat (sl (f.drop 40) 0 64) (sl (f.drop 40) 64 96) = true)

/-- The sender of a hello is the partner that the pair record names (R352). -/
def State.helloPartner : Bool :=
  decide (helloSender f = s.tow.partner ∧ helloSender f ≠ 0 ∧
    (BitVec.ofNat 64 (fld (f.drop 40) 8 8) = s.tow.pairId ∨ BitVec.ofNat 64 (fld (f.drop 40) 8 8) = helloSender f) ∧
    (s.tow.partnerDigest = [] ∨ s.tow.partnerDigest = fit 48 (Config.identityDigest (helloSender f).toNat)))

/-- A hello is one that a join was approved for. -/
def State.helloJoins : Bool := s.acceptsPairing (helloSender f) (fld (f.drop 40) 22 1)

/-- What a hello changes in the pair state: a module that joins takes the pair from it and enters SYNCING. -/
def State.meetHello : State :=
  if s.helloJoins f = true then
    (({ s with tow := { s.tow with
      partner := helloSender f, pairId := BitVec.ofNat 64 (fld (f.drop 40) 8 8),
      term := max s.tow.term (fld (f.drop 40) 24 8) } } : State).formHck).enterSyncing
  else s.afterHello (fld (f.drop 40) 22 1) (fld (f.drop 40) 24 8)

/-- No hello of this module's own stands that the sender could have answered. -/
def State.unheard (peer : W64) : Bool := s.tow.link.all fun l => l.peer != peer || l.live || l.nonce.isEmpty

/-- The link is up with the keys of both nonces and what the sender announced (R354). -/
def State.linkHello : State :=
  let own := match s.tow.link with
    | some l => l.nonce
    | none => []
  let ks := linkKeys (s.domAt s.tow.floor) (ascii "DX8300 towpath") (be 8 s.tow.pairId.toNat) s.ctr.moduleId (helloSender f) own
    (sl (f.drop 40) 32 32)
  (s.modTow fun l => { l with
    pairId := BitVec.ofNat 64 (fld (f.drop 40) 8 8), svn := fld (f.drop 40) 16 2, announced := s.now, state := fld (f.drop 40) 22 1,
    txKey := ks.1, rxKey := ks.2, live := true, rxPn := fld f 32 8, heard := s.now,
    term := max l.term (fld (f.drop 40) 24 8) }).helloDone (fld (f.drop 40) 22 1)

theorem helloGenuine_eq :
    helloGenuine f = (fld f 0 4 == 0x44585450 && fld f 4 1 == 1 && (f.drop 40).length == 160 &&
      Config.attested (helloSender f).toNat (sl (f.drop 40) 0 64) (sl (f.drop 40) 64 96)) := by
  rw [Bool.eq_iff_iff, helloGenuine, decide_eq_true_iff]
  simp only [Bool.and_eq_true, beq_iff_eq, and_assoc]

theorem State.helloPartner_eq :
    s.helloPartner f = (helloSender f == s.tow.partner && helloSender f != 0 &&
      (s.tow.partnerDigest.isEmpty || s.tow.partnerDigest == fit 48 (Config.identityDigest (helloSender f).toNat)) &&
      (BitVec.ofNat 64 (fld (f.drop 40) 8 8) == s.tow.pairId || BitVec.ofNat 64 (fld (f.drop 40) 8 8) == helloSender f)) := by
  rw [Bool.eq_iff_iff, State.helloPartner, decide_eq_true_iff]
  simp only [Bool.and_eq_true, Bool.or_eq_true, beq_iff_eq, bne_iff_ne, List.isEmpty_iff, and_assoc]
  rw [and_comm (a := _ ∨ _)]

theorem State.unheard_eq (peer : W64) :
    s.unheard peer = match s.tow.link with
      | some l => l.peer != peer || l.live || l.nonce.isEmpty
      | none => true := by
  unfold State.unheard
  cases s.tow.link <;> rfl

/-- A hello is dropped that is not genuine, of another module or of a lower term (R352, R355). -/
def State.dropsHello : Prop :=
  helloGenuine f = false ∨ s.helloPartner f = false ∧ s.helloJoins f = false ∨ fld f 16 8 < s.tow.term

/-- A hello below the floor or of an expelled module is refused (R387). -/
def State.refusesHello : Prop := fld (f.drop 40) 16 2 < s.tow.floor ∨ s.tow.expelled.contains (helloSender f) = true

/-- This module answers with a hello of its own where none stands, or where it has learned a newer term. -/
def State.answerHello : State :=
  if (s.meetHello f).unheard (helloSender f) = true then ((s.meetHello f).newLink (helloSender f)).sendHello
  else if s.tow.term < (s.meetHello f).tow.term then (s.meetHello f).sendHello
  else s.meetHello f

theorem State.dropsHello_iff :
    s.dropsHello f ↔ (!helloGenuine f) = true ∨ (!(s.helloPartner f || s.helloJoins f)) = true ∨ fld f 16 8 < s.tow.term := by
  simp only [State.dropsHello, Bool.not_eq_true', Bool.or_eq_false_iff]

theorem State.linkHello_answerHello :
    (s.answerHello f).linkHello f =
      if (s.meetHello f).unheard (helloSender f) = true then (((s.meetHello f).newLink (helloSender f)).sendHello).linkHello f
      else if s.tow.term < (s.meetHello f).tow.term then (s.meetHello f).sendHello.linkHello f
      else (s.meetHello f).linkHello f := by
  simp only [State.answerHello, apply_ite (State.linkHello f)]

variable {f s}

theorem exec_towpathHello_dropped (hdrops : s.dropsHello f) : exec (.towpathHello f) s = .next s.dropTowpath := by
  show execTowpathHello f s = _
  rw [State.dropsHello_iff, helloGenuine_eq, State.helloPartner_eq] at hdrops
  exact if_pos hdrops

section Kept
variable (hkept : ¬s.dropsHello f)
include hkept

theorem exec_towpathHello_refused (hrefused : s.refusesHello f) :
    exec (.towpathHello f) s = .next (s.raise 354 noInst 0xFFFF stFloor.toNat (fld (f.drop 40) 16 2)) := by
  show execTowpathHello f s = _
  rw [State.dropsHello_iff, helloGenuine_eq, State.helloPartner_eq] at hkept
  exact (if_neg hkept).trans (if_pos hrefused)

theorem exec_towpathHello_taken (hallowed : ¬s.refusesHello f) :
    exec (.towpathHello f) s = .next ((s.answerHello f).linkHello f) := by
  show execTowpathHello f s = _
  rw [State.dropsHello_iff, helloGenuine_eq, State.helloPartner_eq] at hkept
  rw [State.answerHello, State.unheard_eq]
  exact (if_neg hkept).trans (if_neg hallowed)

end Kept

end Hello

/-! ## Beats and a silent partner (R355, R357) -/

theorem exec_towpathBeat (frame : Bytes) (s : State) :
    let o := s.openTowpath 4 frame
    exec (.towpathBeat frame) s = .next (
      match o.2 with
      | none => o.1
      | some b => o.1.modTow fun l =>
        { l with svn := fld b 0 2, announced := o.1.now, state := fld b 4 1, ready := fld b 14 2 % 2 == 1 }) := by
  show execTowpathBeat frame s = _
  unfold execTowpathBeat
  rcases s.openTowpath 4 frame with ⟨t, _ | b⟩ <;> rfl

section Live
variable {l : PeerLink} {s : State} (hlink : s.tow.link = some l) (hlive : l.live = true)
include hlink hlive

theorem exec_beatSendTimer :
    let t := s.upTo (l.sent + 100000)
    exec .beatSendTimer s = .next (t.sendTowpath 4 0 [t.beatBody] 0 t.tow.acked) := by
  show execBeatSendTimer s = _
  simp only [execBeatSendTimer, hlink, hlive, Bool.not_true, Bool.false_eq_true, if_false]

theorem exec_partnerSilent (pcsLoss : Bool) :
    exec (.partnerSilent pcsLoss) s = .next
      ((if pcsLoss = true then s.modLink 2 fun k => { k with up := false } else s.upTo (l.heard + 1000000)).raise
        357 noInst 0xFFFF 0 0).partnerLost := by
  show execPartnerSilent pcsLoss s = _
  simp only [execPartnerSilent, hlink, hlive, Bool.not_true, Bool.false_eq_true, if_false]

end Live

/-! ## Audits, tests of the standby and switchovers (R372, R373) -/

theorem exec_auditTimer {s : State} (hprimary : s.tow.pair = .primary) (hlive : s.linkLive = true) :
    let r := s.tow.auditRange
    let u := s.upTo s.tow.auditAt
    let t := u.sendTowpath 7 0 [be 1 r ++ zeros 3 ++ fit 48 (u.rangeDigest r)] 0 0
    exec .auditTimer s = .next { t with tow := { t.tow with auditRange := (r + 1) % 256, auditAt := t.now + 40000000 } } := by
  show execAuditTimer s = _
  simp only [execAuditTimer, hprimary, hlive, bne_self_eq_false, Bool.not_true, Bool.or_self, Bool.false_eq_true, if_false]

theorem exec_auditFrame (frame : Bytes) (s : State) :
    let o := s.openTowpath 7 frame
    exec (.auditFrame frame) s = .next (
      match o.2 with
      | none => o.1
      | some b => o.1.auditRange (fld b 0 1) (sl b 4 48)) := by
  show execAuditFrame frame s = _
  unfold execAuditFrame
  rcases s.openTowpath 7 frame with ⟨t, _ | b⟩ <;> rfl

theorem exec_standbyKatTimer (pass : Bool) {s : State} (hstandby : s.tow.pair = .standby) :
    let t := s.upTo s.tow.katAt
    exec (.standbyKatTimer pass) s = .next { t with tow := { t.tow with
      katFailed := t.tow.katFailed || !pass, katPart := (t.tow.katPart + 1) % max 1 t.pools.length,
      katAt := t.now + 60000000000 } } := by
  show execStandbyKatTimer pass s = _
  simp only [execStandbyKatTimer, hstandby, bne_self_eq_false, Bool.false_eq_true, if_false]

theorem exec_switchoverFrame (frame : Bytes) (s : State) :
    let o := s.openTowpath 8 frame
    exec (.switchoverFrame frame) s = .next (
      if o.2 ≠ none ∧ o.1.tow.pair = .standby then { o.1 with tow := { o.1.tow with switchover := true } } else o.1) := by
  show execSwitchoverFrame frame s = _
  unfold execSwitchoverFrame
  rcases s.openTowpath 8 frame with ⟨t, _ | b⟩
  · rfl
  · simp only [beq_iff_eq, ne_eq, reduceCtorEq, not_false_eq_true, true_and, apply_ite Host.Outcome.next]

/-! ## The end of a sync (R353) -/

theorem exec_syncDone_joiner {s : State} (hsyncing : s.tow.pair = .syncing) :
    exec .syncDone s =
      .next (({ s with tow := { s.tow with pair := .standby, syncDone := 0 } } : State).raise 353 noInst 0xFFFF 0 0) :=
  if_pos hsyncing

theorem exec_syncDone_holder {s : State} (hsolo : s.tow.pair = .solo) (hsyncing : s.tow.syncing = true) :
    exec .syncDone s =
      .next ((({ s with tow := { s.tow with pair := .primary, syncing := false } } : State).modTow fun l =>
        { l with state := 2 }).raise 353 noInst 0xFFFF 0 0) :=
  (if_neg (by simp [hsolo])).trans (if_pos ⟨hsolo, hsyncing⟩)

/-- Settles O43: a hello by what becomes of it, and one lemma for each other command. -/
theorem towpathCommandsAct : Obligations.TowpathCommandsAct := by
  unfold Obligations.TowpathCommandsAct
  refine ⟨?hello, exec_towpathBeat,
    fun l s hlink hlive =>
      ⟨exec_beatSendTimer hlink hlive, exec_partnerSilent hlink hlive false, exec_partnerSilent hlink hlive true⟩,
    fun s => exec_auditTimer, exec_auditFrame, fun pass s => exec_standbyKatTimer pass, exec_switchoverFrame,
    fun s => ⟨exec_syncDone_joiner, exec_syncDone_holder⟩⟩
  case hello =>
    intro f s body peer pair svn state term genuine partner joins t fresh done
    by_cases hdrops : s.dropsHello f
    · exact (exec_towpathHello_dropped hdrops).trans (congrArg _ (if_pos hdrops).symm)
    by_cases hrefused : s.refusesHello f
    · exact (exec_towpathHello_refused hdrops hrefused).trans (congrArg _ ((if_neg hdrops).trans (if_pos hrefused)).symm)
    have hmeets : s.meetHello f = t := rfl
    have hpeer : helloSender f = peer := rfl
    have hfresh : t.unheard peer = fresh := rfl
    have hdone (u : State) : u.linkHello f = done u := rfl
    have htaken := exec_towpathHello_taken hdrops hrefused
    rw [State.linkHello_answerHello, hmeets, hpeer, hfresh, hdone, hdone, hdone] at htaken
    exact htaken.trans (congrArg _ ((if_neg hdrops).trans (if_neg hrefused)).symm)

end Sys2Proof.Machine

/-! The lease of a pair: its witness's messages, the take-over fence and planned switchovers (R361, R364, R365, R367 to
R369, R371, R372). -/

namespace Sys2Proof.Machine

/-! ## BEATs to the witness and its answers (R361, R364, R370) -/

theorem exec_witnessBeatTimer {s : State}
    (hmember : s.tow.pair = .primary ∨ s.tow.pair = .solo ∨ s.tow.pair = .seeking ∨ s.tow.pair = .standby)
    (hkind : s.tow.witness.kind = 1 ∨ s.tow.witness.kind = 2) :
    let u := s.upTo (s.tow.beats.2.1 + 1000000)
    let t := u.toWitness 1 u.hlt.report
    exec .witnessBeatTimer s = .next { t with tow := { t.tow with
      beats := (t.tow.beats.1, t.now, t.tow.witnessSeq),
      beatsOut := (t.tow.beatsOut.filter fun b => t.now < b + 3000000) ++ [t.now] } } := by
  show execWitnessBeatTimer s = _
  have hout : (s.tow.pair == .unpaired || s.tow.pair == .fenced || s.tow.pair == .syncing) = false := by
    rcases hmember with h | h | h | h <;> rw [h] <;> rfl
  simp only [execWitnessBeatTimer, hout, Bool.false_eq_true, if_false]
  exact if_neg (by omega)

theorem State.renewed_of_none {s : State} (hnone : s.tow.beatsOut = []) : s.renewed = none := by
  simp [State.renewed, hnone]

/-- An answer renews the lease from one of the BEATs not answered yet, and those before it are answered no more. -/
theorem State.exists_renewed {s : State} (hout : s.tow.beatsOut ≠ []) :
    ∃ k < s.tow.beatsOut.length, s.renewed = some { s with
      draws := s.draws + 1,
      tow := { s.tow with lease := true, beats := (s.tow.beatsOut.getD k 0, s.tow.beats.2),
                          beatsOut := s.tow.beatsOut.drop (k + 1) } } :=
  ⟨Config.freeNat s.draws % s.tow.beatsOut.length, Nat.mod_lt _ (List.length_pos_iff.2 hout),
    if_neg (mt List.isEmpty_iff.1 hout)⟩

theorem exec_witnessAnswer (m : WitnessMsg) (s : State) :
    exec (.witnessAnswer m) s = .next (
      if s.fromWitness 2 m = false then s
      else if s.tow.term < fld m.bytes 24 8 then s.learnTerm (fld m.bytes 24 8)
      else if fld m.bytes 24 8 < s.tow.term ∨ fld m.bytes 44 4 = 0 then s
      else
        match s.renewed with
        | none => s
        | some held =>
          if s.tow.pair = .primary ∨ s.tow.pair = .solo ∨ s.tow.pair = .standby ∧ s.tow.fence ≠ none then held
          else if s.tow.pair = .seeking then held.resumeServing
          else s) := by
  show execWitnessAnswer m s = _
  simp only [execWitnessAnswer, Bool.not_eq_true', apply_ite Host.Outcome.next]
  rcases s.renewed with _ | held
  · rfl
  cases hpair : s.tow.pair <;> simp [apply_ite Host.Outcome.next, Option.isSome_iff_ne_none]

/-! ## Leases that lapse, grants and denials (R361, R364, R365, R368) -/

section Lapse
variable {s : State} (hlease : s.tow.lease = true) (hkind : s.tow.witness.kind ≠ 3)
include hlease hkind

theorem exec_leaseLapse_holder (hholder : s.tow.pair = .primary ∨ s.tow.pair = .solo) :
    exec .leaseLapse s = .next (s.upTo (s.tow.beats.1 + 3000000)).toSeeking := by
  show execLeaseLapse s = _
  simp [execLeaseLapse, hlease, hkind, hholder]

theorem exec_leaseLapse_fence (hstandby : s.tow.pair = .standby) (hfence : s.tow.fence ≠ none) :
    let t := s.upTo (s.tow.beats.1 + 3000000)
    exec .leaseLapse s = .next { t with tow := { t.tow with lease := false } } := by
  show execLeaseLapse s = _
  simp [execLeaseLapse, hlease, hkind, hstandby, Option.isSome_iff_ne_none, hfence]

end Lapse

section Standby
variable {m : WitnessMsg} {s : State} (hstandby : s.tow.pair = .standby)
include hstandby

theorem exec_witnessGrant (hfence : s.tow.fence = none) (hnewer : s.tow.term < fld m.bytes 24 8) :
    exec (.witnessGrant m) s = .next (if s.fromWitness 4 m then s.beginFence (fld m.bytes 24 8) else s) := by
  show execWitnessGrant m s = _
  simp [execWitnessGrant, hstandby, hfence, hnewer, apply_ite Host.Outcome.next]

theorem exec_witnessDeny (hclaiming : s.tow.claiming = true) :
    exec (.witnessDeny m) s =
      .next (if s.fromWitness 5 m then { s with tow := { s.tow with pair := .fenced, claiming := false } } else s) := by
  show execWitnessDeny m s = _
  simp [execWitnessDeny, hstandby, hclaiming, apply_ite Host.Outcome.next]

end Standby

/-! ## The health line of a chassis witness (R367) -/

/-- The reading of HEALTH_IN and the time of its change. -/
def State.healthLine (s : State) (high : Bool) : State := { s with tow := { s.tow with healthIn := (high, s.now) } }

/-- A term above every one that this module has seen. -/
def State.newTerm (s : State) : Nat :=
  let seen := match s.tow.link with
    | some l => l.term
    | none => 0
  max s.tow.term seen + 1

section Health
variable {s : State}

theorem exec_healthInHigh (s : State) : exec .healthInHigh s = .next (s.healthLine true).takePin := rfl

theorem State.takePin_of_lease (hlease : s.tow.lease = true) : s.takePin = s := by
  simp [State.takePin, hlease]

section Pin
variable (hkind : s.tow.witness.kind = 3) (hlease : s.tow.lease = false) (hhigh : s.tow.healthIn.1 = true)
include hkind hlease hhigh

theorem State.takePin_acts : ¬(s.tow.witness.kind ≠ 3 ∨ s.tow.lease = true ∨ (!s.tow.healthIn.1) = true) := by
  simp [hkind, hlease, hhigh]

theorem State.takePin_of_standby (hstandby : s.tow.pair = .standby) : s.takePin = s.beginFence s.newTerm := by
  rw [State.takePin, if_neg (State.takePin_acts hkind hlease hhigh), hstandby]
  rfl

theorem State.takePin_of_seeking (hseeking : s.tow.pair = .seeking) :
    s.takePin = State.resumeServing { s with tow := { s.tow with term := s.newTerm } } := by
  rw [State.takePin, if_neg (State.takePin_acts hkind hlease hhigh), hseeking]
  rfl

theorem State.takePin_of_holder (hholder : s.tow.pair = .primary ∨ s.tow.pair = .solo) :
    s.takePin = { s with tow := { s.tow with term := s.newTerm, lease := true } } := by
  rw [State.takePin, if_neg (State.takePin_acts hkind hlease hhigh)]
  rcases hholder with h | h <;> rw [h] <;> rfl

end Pin

theorem exec_healthInLow_no_lease (hlease : s.tow.lease = false) : exec .healthInLow s = .next (s.healthLine false) := by
  show execHealthInLow s = _
  simp [execHealthInLow, hlease, State.healthLine]

section Low
variable (hkind : s.tow.witness.kind = 3) (hlease : s.tow.lease = true)
include hkind hlease

theorem exec_healthInLow_holder (hholder : s.tow.pair = .primary ∨ s.tow.pair = .solo) :
    exec .healthInLow s = .next (s.healthLine false).toSeeking := by
  show execHealthInLow s = _
  simp [execHealthInLow, hkind, hlease, hholder, State.healthLine]

theorem exec_healthInLow_other (hprimary : s.tow.pair ≠ .primary) (hsolo : s.tow.pair ≠ .solo) :
    let low := s.healthLine false
    exec .healthInLow s = .next { low with tow := { low.tow with lease := false } } := by
  show execHealthInLow s = _
  simp [execHealthInLow, hkind, hlease, hprimary, hsolo, State.healthLine]

end Low
end Health

/-! ## The end of the fence and planned switchovers (R369, R371, R372) -/

theorem exec_fenceDone {f : Nat} {s : State} (hfence : s.tow.fence = some f) :
    let present := match s.tow.link with
      | some l => l.live && (l.state == 2 || l.state == 6)
      | none => false
    let t := s.reserveNext
    let u : State := { t with
      flt := { t.flt with held := false },
      tow := { t.tow with
        pair := if t.tow.lease = false then .seeking else if present then .primary else .solo, fence := none,
        wasServing := !t.tow.lease, switchover := false, claiming := false,
        epoch := max t.tow.epoch (t.tow.acked + 1), epochs := [] } }
    exec .fenceDone s = .next u.continueBallots.continueSlices.continueShreds.announceBasin := by
  show execFenceDone s = _
  simp only [execFenceDone, hfence, Bool.not_eq_true'] <;> rfl

theorem exec_noEntropySwitchover {at_ : Nat} {s : State} (hnone : s.ent.noneSince = some at_) (hprimary : s.tow.pair = .primary)
    (hready : s.standbyReady = true) (hidle : s.tow.switchover = false) :
    exec .noEntropySwitchover s = .next ((s.upTo (at_ + 100000000)).beginSwitchover none).switchAdvance := by
  show execNoEntropySwitchover s = _
  simp only [execNoEntropySwitchover, hnone, hprimary, hready, hidle, beq_self_eq_true, Bool.not_false, Bool.and_self, if_true]

/-- A verb whose request is taken in and passes its checks does its work. -/
theorem serve_of_gate {v : Verb} {b : Barge} {s : State} (htaken : v.takesIn b s)
    (hgate : gate v (v.served b) (s.busyWith (v.served b)) = none) :
    serve v b s = v.goesOn b s (v.workFrom (v.served b) v.drawer (s.busyWith (v.served b))) := by
  rw [serve_of_takesIn htaken]
  simp only [State.finish, runVerb, hgate, Option.isNone_none, Bool.true_and]
  rfl

/-- A PAIR_SWITCHOVER that passes its checks does its verb's work, and the switchover goes on as far as it can. -/
theorem exec_pairSwitchover {b : Barge} {s : State} (htaken : pairSwitchoverVerb.takesIn b s)
    (hgate : gate pairSwitchoverVerb (pairSwitchoverVerb.served b) (s.busyWith (pairSwitchoverVerb.served b)) = none) :
    exec (.pairSwitchover b) s = .next (pairSwitchoverVerb.goesOn b s
      (pairSwitchoverVerb.workFrom (pairSwitchoverVerb.served b) pairSwitchoverVerb.drawer
        (s.busyWith (pairSwitchoverVerb.served b)))).switchAdvance := by
  show execPairSwitchover b s = _
  rw [execPairSwitchover, serve_of_gate htaken hgate]

theorem exec_drainTimeout_switchover {s : State} (hruns : s.tow.switchover = true) (hprimary : s.tow.pair = .primary) :
    exec (.drainTimeout .switchover) s =
      .next (((s.upTo s.tow.switchDrain).abortBarges BargeRec.running stAbortHost).switchAdvance) := by
  show execDrainTimeout .switchover s = _
  simp only [execDrainTimeout, hruns, hprimary, beq_self_eq_true, Bool.and_self, if_true]

/-- Settles O44: one lemma for each command, and those of the health line by what the module that reads it is. -/
theorem leaseOfPairActs : Obligations.LeaseOfPairActs := by
  unfold Obligations.LeaseOfPairActs
  refine ⟨fun s => exec_witnessBeatTimer, exec_witnessAnswer, fun s => ⟨State.renewed_of_none, State.exists_renewed⟩,
    fun s hlease hkind => ⟨exec_leaseLapse_holder hlease hkind, exec_leaseLapse_fence hlease hkind⟩,
    fun m s hstandby => ⟨exec_witnessGrant hstandby, exec_witnessDeny hstandby⟩, ?health, fun f s => exec_fenceDone,
    fun at_ s => exec_noEntropySwitchover, fun b s => ⟨rfl, exec_pairSwitchover⟩, fun s => exec_drainTimeout_switchover⟩
  case health =>
    intro s hkind seen high low
    have hhigh : exec .healthInHigh s = .next high.takePin := exec_healthInHigh s
    refine ⟨fun hlease hpair => ?_, fun hlease hpair => ?_, fun hlease hpair => ?_, fun hlease => ?_,
      exec_healthInLow_holder hkind, exec_healthInLow_other hkind, exec_healthInLow_no_lease⟩
    · rwa [State.takePin_of_standby (s := high) hkind hlease rfl hpair] at hhigh
    · rwa [State.takePin_of_seeking (s := high) hkind hlease rfl hpair] at hhigh
    · rwa [State.takePin_of_holder (s := high) hkind hlease rfl hpair] at hhigh
    · rwa [State.takePin_of_lease (s := high) hlease] at hhigh

end Sys2Proof.Machine

/-! This module as the witness of other pairs (R364 to R366). -/

namespace Sys2Proof.Machine

/-! ## Beats of a pair (R364, R366) -/

theorem exec_witnessBeatRx (m : WitnessMsg) (s : State) :
    exec (.witnessBeatRx m) s = .next (
      match s.toThisWitness 1 m with
      | none => s
      | some (v, pair) =>
        let state := fld m.bytes 5 1
        let term := fld m.bytes 24 8
        let granted := ∃ r, s.tow.witnessed.find pair.toNat = some r ∧ r.holder = v ∧ r.term = term
        if s.tow.witnessed.find pair.toNat = none ∧ 32 ≤ s.tow.witnessed.length then s
        else if state = 1 ∨ state = 3 ∨ state = 4 ∨ granted then s.holderBeat v pair term
        else s.standbyBeat v pair state term (fld m.bytes 54 2)) := by
  show execWitnessBeatRx m s = _
  unfold execWitnessBeatRx
  rcases s.toThisWitness 1 m with _ | ⟨v, pair⟩
  · rfl
  · simp only [Option.any_eq_true, Bool.and_eq_true, beq_iff_eq, Option.isNone_iff_eq_none, apply_ite Host.Outcome.next]

/-! ## Claims and releases (R365, R366) -/

theorem exec_witnessClaimRx (m : WitnessMsg) (s : State) :
    exec (.witnessClaimRx m) s = .next (
      match s.toThisWitness 3 m with
      | none => s
      | some (v, pair) =>
        match s.tow.witnessed.find pair.toNat with
        | none => s.witnessSend v pair 5 (fld m.bytes 24 8) 0
        | some r =>
          if r.holder = v then s.witnessSend v pair 5 r.term 0
          else if s.now < max r.expiry s.tow.witnessFrom then s.setWitnessed pair { r with claim := some v }
          else s.decideClaim pair v r) := by
  show execWitnessClaimRx m s = _
  unfold execWitnessClaimRx
  rcases s.toThisWitness 3 m with _ | ⟨v, pair⟩
  · rfl
  dsimp only
  rcases s.tow.witnessed.find pair.toNat with _ | r
  · rfl
  · simp only [apply_ite Host.Outcome.next]

theorem exec_witnessReleaseRx (m : WitnessMsg) (s : State) :
    exec (.witnessReleaseRx m) s = .next (
      match s.toThisWitness 6 m with
      | none => s
      | some (v, pair) =>
        match s.tow.witnessed.find pair.toNat with
        | none => s
        | some r =>
          if r.holder = v ∧ fld m.bytes 24 8 = r.term then
            match r.standby with
            | some c =>
              if s.tow.witnessFrom ≤ s.now then s.grantPair pair c.1 r
              else s.setWitnessed pair { r with expiry := s.tow.witnessFrom, released := true }
            | none => s.setWitnessed pair { r with expiry := s.now }
          else s) := by
  show execWitnessReleaseRx m s = _
  unfold execWitnessReleaseRx
  rcases s.toThisWitness 6 m with _ | ⟨v, pair⟩
  · rfl
  dsimp only
  rcases s.tow.witnessed.find pair.toNat with _ | r
  · rfl
  dsimp only
  by_cases hholder : r.holder = v ∧ fld m.bytes 24 8 = r.term
  · rw [if_pos hholder, if_neg (by simp [hholder])]
    rcases r.standby with _ | ⟨c, beat⟩
    · rfl
    · simp only [apply_ite Host.Outcome.next]
  · rw [if_neg hholder, if_pos (Decidable.not_and_iff_not_or_not.1 hholder)]

/-! ## Leases that expire (R365, R366) -/

section Expiry
variable {pair c : W64} {r : WitnessRec} {s : State} (hrecord : s.tow.witnessed.find pair.toNat = some r)
include hrecord

theorem exec_witnessLeaseExpiry_released {beat : Nat × Nat × Nat} (hreleased : r.released = true)
    (hstandby : r.standby = some (c, beat)) :
    exec (.witnessLeaseExpiry pair) s = .next ((s.upTo (max r.expiry s.tow.witnessFrom)).grantPair pair c r) := by
  show execWitnessLeaseExpiry pair s = _
  simp only [execWitnessLeaseExpiry, hrecord, hreleased, hstandby, if_true]

theorem exec_witnessLeaseExpiry_claimed (hnotReleased : r.released = false ∨ r.standby = none) (hclaim : r.claim = some c) :
    exec (.witnessLeaseExpiry pair) s = .next ((s.upTo (max r.expiry s.tow.witnessFrom)).decideClaim pair c r) := by
  show execWitnessLeaseExpiry pair s = _
  have hnone : (if r.released = true then r.standby else none) = none := by
    rcases hnotReleased with h | h <;> simp [h]
  simp only [execWitnessLeaseExpiry, hrecord, hnone, hclaim]

end Expiry

/-- Settles O45: one lemma for each message, and those of a lease that expires by whether the pair was released. -/
theorem witnessCommandsAct : Obligations.WitnessCommandsAct := by
  unfold Obligations.WitnessCommandsAct
  exact ⟨exec_witnessBeatRx, exec_witnessClaimRx, exec_witnessReleaseRx, fun pair r s hrecord =>
    ⟨fun c => exec_witnessLeaseExpiry_released hrecord, fun c => exec_witnessLeaseExpiry_claimed hrecord⟩⟩

end Sys2Proof.Machine

/-! The interlink: hellos, forwarded barges and the directory of the gate pair (R98, R374 to R378, R386, R387). -/

namespace Sys2Proof.Machine

/-! ## Hellos of the interlink (R375, R376, R386, R387) -/

section InterlinkHello
variable (d : Bytes) (s : State)

/-- A hello of a member of this domain whose datagram is whole and whose sender's attestation holds. -/
def interlinkGenuine : Bool :=
  decide (interlinkShape 0x01 d = true ∧ (d.drop 32).length = 168 ∧ fld (d.drop 32) 0 8 = (interlinkSender d).toNat ∧
    fld (d.drop 32) 64 8 = s.vlt.domainId.toNat ∧ interlinkSender d ≠ s.ctr.moduleId ∧
    Config.attested (interlinkSender d).toNat (sl (d.drop 32) 0 72) (sl (d.drop 32) 72 96) = true)

/-- An interlink hello below the floor or of an expelled module is refused. -/
def State.refusesPeer : Prop := fld (d.drop 32) 16 2 < s.tow.floor ∨ s.tow.expelled.contains (interlinkSender d) = true

/-- No hello has gone to a peer yet. -/
def State.peerUngreeted (id : W64) : Bool :=
  match s.peer id with
  | some l => l.nonce.isEmpty
  | none => true

/-- The peer link that a hello finds, opened and greeted where it was not. -/
def State.greetPeer (id : W64) : State := if s.peerUngreeted id then (s.openPeer id).helloPeer id else s.openPeer id

/-- The link of a peer is up with its keys and what its hello announced. -/
def State.linkPeer (l : PeerLink) : State :=
  let ks := linkKeys (s.domAt s.tow.floor) (ascii "DX8300 hener") (peerContext s.ctr.moduleId (interlinkSender d)) s.ctr.moduleId
    (interlinkSender d) l.nonce (sl (d.drop 32) 32 32)
  let v := s.setPeer { l with
    pairId := BitVec.ofNat 64 (fld (d.drop 32) 8 8), svn := fld (d.drop 32) 16 2, announced := s.now, state := fld (d.drop 32) 22 1,
    term := max l.term (fld (d.drop 32) 24 8), txKey := ks.1, rxKey := ks.2, live := true, rxPn := max l.rxPn (fld d 24 8),
    heard := s.now }
  { v with tow := { v.tow with chan1 := { v.tow.chan1 with rx := v.tow.chan1.rx + 1 } } }

/-- A peer at a higher floor index makes the module pull the commit. -/
def State.catchUp : State := if s.tow.floorIndex < fld (d.drop 32) 20 2 then s.pullDomain else s

/-- A new link to the gate brings its directory up to date. -/
def State.tellNewGate (l : PeerLink) : State :=
  if l.live = false ∧ fld (d.drop 32) 8 8 = s.tow.gatePair.toNat ∧ s.tow.pair.serves = true then s.tellBasin else s

theorem interlinkGenuine_eq :
    interlinkGenuine d s = (interlinkShape 0x01 d && (d.drop 32).length == 168 &&
      fld (d.drop 32) 0 8 == (interlinkSender d).toNat && fld (d.drop 32) 64 8 == s.vlt.domainId.toNat &&
      interlinkSender d != s.ctr.moduleId &&
      Config.attested (interlinkSender d).toNat (sl (d.drop 32) 0 72) (sl (d.drop 32) 72 96)) := by
  rw [Bool.eq_iff_iff, interlinkGenuine, decide_eq_true_iff]
  simp only [Bool.and_eq_true, beq_iff_eq, bne_iff_ne, and_assoc]

theorem State.tellNewGate_eq (l : PeerLink) :
    s.tellNewGate d l =
      if !l.live && fld (d.drop 32) 8 8 == s.tow.gatePair.toNat && s.tow.pair.serves then s.tellBasin else s := by
  simp only [State.tellNewGate, Bool.and_eq_true, Bool.not_eq_true', beq_iff_eq, and_assoc]

variable {d s}

theorem exec_interlinkHello_dropped (hforged : interlinkGenuine d s = false) :
    exec (.interlinkHello d) s = .next s.dropInterlink := by
  show execInterlinkHello d s = _
  rw [interlinkGenuine_eq, ← Bool.not_eq_true'] at hforged
  exact if_pos hforged

section Genuine
variable (hgenuine : ¬interlinkGenuine d s = false)
include hgenuine

theorem exec_interlinkHello_refused (hrefused : s.refusesPeer d) :
    exec (.interlinkHello d) s = .next (s.raise 354 noInst 0xFFFF stFloor.toNat (fld (d.drop 32) 16 2)) := by
  show execInterlinkHello d s = _
  rw [interlinkGenuine_eq, ← Bool.not_eq_true'] at hgenuine
  exact (if_neg hgenuine).trans (if_pos hrefused)

theorem exec_interlinkHello_taken (hallowed : ¬s.refusesPeer d) :
    exec (.interlinkHello d) s = .next (
      match (s.greetPeer (interlinkSender d)).peer (interlinkSender d) with
      | none => s.greetPeer (interlinkSender d)
      | some l => (((s.greetPeer (interlinkSender d)).linkPeer d l).catchUp d).tellNewGate d l) := by
  show execInterlinkHello d s = _
  rw [interlinkGenuine_eq, ← Bool.not_eq_true'] at hgenuine
  refine ((if_neg hgenuine).trans (if_neg hallowed)).trans ?_
  show (match (s.greetPeer (interlinkSender d)).peer (interlinkSender d) with
    | none => _
    | some l => _) = _
  rcases (s.greetPeer (interlinkSender d)).peer (interlinkSender d) with _ | l
  · rfl
  · simp only [State.tellNewGate_eq]
    rfl

end Genuine
end InterlinkHello

theorem exec_interlinkHelloTimer (s : State) :
    let u := s.upTo s.tow.helloAt
    let t : State := { u with tow := { u.tow with helloAt := u.now + 100000000 } }
    exec .interlinkHelloTimer s = .next (t.tow.members.foldl (fun s m => (s.openPeer m).helloPeer m) t) := rfl

theorem exec_interlinkRefusal (d : Bytes) (s : State) :
    exec (.interlinkRefusal d) s = .next (
      if interlinkShape 0x0D d = true ∧ s.peer (interlinkSender d) ≠ none ∧ s.tow.floorIndex < fld d 32 2 then s.pullDomain
      else s) := by
  show execInterlinkRefusal d s = _
  simp only [execInterlinkRefusal, Bool.and_eq_true, decide_eq_true_eq, Option.isSome_iff_ne_none, and_assoc,
    apply_ite Host.Outcome.next]

/-! ## Forwarded barges (R377, R378) -/

theorem exec_interlinkForward (d : Bytes) (s : State) :
    let o := s.openInterlink 0x02 d
    exec (.interlinkForward d) s = .next (
      match o.2 with
      | none => o.1
      | some (gate, p) =>
        match splitRecords 1 (p.drop 16) with
        | some [r] => o.1.takeForwarded gate (fld p 0 8) (fld p 8 2 % 4096) (BitVec.ofNat 32 (fld p 12 4)) r
        | _ => o.1) := by
  show execInterlinkForward d s = _
  unfold execInterlinkForward
  rcases s.openInterlink 0x02 d with ⟨t, _ | ⟨gate, p⟩⟩
  · rfl
  · dsimp only
    rcases splitRecords 1 (p.drop 16) with _ | (_ | ⟨r, _ | _⟩) <;> rfl

theorem exec_forwardReply (d : Bytes) (s : State) :
    let o := s.openInterlink 0x03 d
    exec (.forwardReply d) s = .next (
      match o.2 with
      | none => o.1
      | some (_, p) =>
        match o.1.tow.forwards.find (fld p 0 8) with
        | none => o.1
        | some f =>
          o.1.endForward (fld p 0 8) f ⟨BitVec.ofNat 16 (fld p 10 2), sl p 28 (fld p 24 2)⟩ (fld p 20 4 % 2 == 1)) := by
  show execForwardReply d s = _
  unfold execForwardReply
  rcases s.openInterlink 0x03 d with ⟨t, _ | ⟨_, p⟩⟩
  · rfl
  · dsimp only
    rcases t.tow.forwards.find (fld p 0 8) with _ | f <;> rfl

theorem exec_forwardTimeout {tag : Nat} {f : Forward} {s : State} (hforward : s.tow.forwards.find tag = some f) :
    exec (.forwardTimeout tag) s = .next ((s.upTo f.deadline).endForward tag f ⟨stUnreachable, []⟩ false) := by
  show execForwardTimeout tag s = _
  simp only [execForwardTimeout, hforward]

/-! ## The directory of the gate pair (R98, R374, R375) -/

theorem exec_directoryUpdate (d : Bytes) (s : State) :
    let o := s.openInterlink 0x0B d
    exec (.directoryUpdate d) s = .next (
      match o.2 with
      | none => o.1
      | some (id, p) =>
        let home := ((o.1.peer id).map PeerLink.pairId).getD 0
        if fld p 2 1 = 1 then o.1.takeDirAnchor home (fld p 4 1) (if fld p 3 1 = 1 then none else some (p.drop 8))
        else o.1.takeDirectory home (fld p 0 2 % 4096) (fld p 3 1 = 1) (BitVec.ofNat 32 (fld p 4 4))
          ((bindingsOf (fld p 0 2 % 4096) (p.drop 12) (fld p 8 2)).map fun x => (x.anchor, x.principal))) := by
  show execDirectoryUpdate d s = _
  unfold execDirectoryUpdate
  rcases s.openInterlink 0x0B d with ⟨t, _ | ⟨id, p⟩⟩
  · rfl
  · dsimp only
    rcases t.peer id with _ | l <;> simp only [apply_ite Host.Outcome.next] <;> rfl

section Directory
variable (s : State) (home : W64) (t : Nat)

/-- No other pair is the home of a slice. -/
def State.homeFree : Prop := ∀ e, s.tow.directory.find t = some e → e.home = home

/-- The bindings that the directory holds of a slice. -/
def State.dirBindings : List (Nat × Bytes) := ((s.tow.directory.find t).map DirEntry.bindings).getD []

/-- The directory changes at a slice, and the change is mirrored. -/
def State.putDirectory (m : Map DirEntry) : State :=
  ({ s with tow := { s.tow with directory := m } } : State).mirrorOnly s [.directory t]

variable {s home t}

theorem State.takeDirectory_of_home (hhome : s.homeFree home t) (hgate : s.atGate = true) (hroom : s.basinRoom home = true)
    (gone : Bool) (gen : W32) (bs : List (Nat × Bytes)) :
    s.takeDirectory home t gone gen bs =
      (s.putDirectory t (if gone then s.tow.directory.del t else
        s.tow.directory.put t { home := home, generation := gen, bindings := bs.take 8 })).endSessions fun x => x.slice == t &&
        ((s.dirBindings t).filter fun y => gone || !(bs.take 8).contains y).contains (x.anchor, x.principal) := by
  rcases hfind : s.tow.directory.find t with _ | e
  · simp only [State.takeDirectory, State.dirBindings, State.putDirectory, hgate, hroom, hfind, Bool.not_true, Bool.false_eq_true,
      or_self, if_false, Option.map_none, Option.getD_none]
  · simp only [State.takeDirectory, State.dirBindings, State.putDirectory, hgate, hroom, hfind, hhome e hfind, beq_self_eq_true,
      Bool.not_true, Bool.false_eq_true, or_self, if_false, Option.map_some, Option.getD_some]

theorem State.takeDirectory_elsewhere (helsewhere : ¬s.homeFree home t ∨ s.atGate = false ∨ s.basinRoom home = false)
    (gone : Bool) (gen : W32) (bs : List (Nat × Bytes)) : s.takeDirectory home t gone gen bs = s := by
  rcases helsewhere with hother | hgate | hroom
  · obtain ⟨e, hother⟩ := Classical.not_forall.1 hother
    obtain ⟨hfind, hother⟩ := Classical.not_imp.1 hother
    simp [State.takeDirectory, hfind, hother]
  · simp [State.takeDirectory, hgate]
  · simp [State.takeDirectory, hroom]

end Directory

/-- Settles O46: a hello by what becomes of it, an entry of the directory by who may change it, and one lemma for each other
command. -/
theorem interlinkCommandsAct : Obligations.InterlinkCommandsAct := by
  unfold Obligations.InterlinkCommandsAct
  refine ⟨?hello, exec_interlinkHelloTimer, exec_interlinkForward, exec_forwardReply, fun tag f s => exec_forwardTimeout,
    exec_directoryUpdate, ?directory, exec_interlinkRefusal⟩
  case hello =>
    intro d s body id svn genuine t fresh u linked
    by_cases hgenuine : interlinkGenuine d s = false
    · exact (exec_interlinkHello_dropped hgenuine).trans (congrArg _ (if_pos hgenuine).symm)
    by_cases hrefused : s.refusesPeer d
    · exact (exec_interlinkHello_refused hgenuine hrefused).trans
        (congrArg _ ((if_neg hgenuine).trans (if_pos hrefused)).symm)
    have hid : interlinkSender d = id := rfl
    have hgreets : s.greetPeer id = u := rfl
    have hlinked (l : PeerLink) : u.linkPeer d l = linked l := rfl
    have htaken := exec_interlinkHello_taken hgenuine hrefused
    rw [hid, hgreets] at htaken
    simp only [hlinked] at htaken
    exact htaken.trans (congrArg _ ((if_neg hgenuine).trans (if_neg hrefused)).symm)
  case directory =>
    intro home t gen bs s mine old put
    refine ⟨fun hhome hgate hroom => ?_, fun gone => fun helsewhere => State.takeDirectory_elsewhere helsewhere gone gen bs⟩
    have htakes := State.takeDirectory_of_home hhome hgate hroom
    have hall : (s.dirBindings t).filter (fun y => true || !(bs.take 8).contains y) = old :=
      List.filter_eq_self.2 fun _ _ => rfl
    refine ⟨htakes false gen bs, ?_⟩
    rw [htakes true gen bs, hall]
    rfl

end Sys2Proof.Machine

/-! The domain: its records, units of keys and joins (R379 to R384, R386, R387). -/

namespace Sys2Proof.Machine

/-! ## Domain records (R379, R380, R384) -/

theorem exec_domainRecord (d : Bytes) (s : State) :
    let o := s.openInterlink 0x04 d
    exec (.domainRecord d) s = .next (
      match o.2 with
      | none => o.1
      | some (id, p) => o.1.takeRecordFrom id (fld p 0 8) (fld p 8 1) (p.drop 12)) := by
  show execDomainRecord d s = _
  unfold execDomainRecord
  rcases s.openInterlink 0x04 d with ⟨t, _ | ⟨id, p⟩⟩ <;> rfl

/-- The registrar applies a proposal as the next record and makes it known. -/
def State.applyProposal (s : State) (kind : Nat) (b : Bytes) : State :=
  (s.applyDomain (s.tow.domainSeq + 1) kind b).domainChange kind b true

/-- What a member does of a record once it is applied: it acknowledges it, and counts the acknowledgements that came before it. -/
def State.takeNext (s : State) (id : W64) (seq kind : Nat) (b : Bytes) : State :=
  let t := s.applyNumbered seq kind b
  if t.tow.domainSeq = seq then t.tow.memberAcks.foldl (fun s a => s.takeAck a.1 a.2) (t.ackDomain id kind) else s

section Record
variable {id : W64} {seq kind : Nat} {b : Bytes} {s : State}

section Proposal
variable (hproposal : seq = 0)
include hproposal

theorem State.takeRecordFrom_dropped (hdrops : s.tow.registrar ≠ s.tow.pairId ∨ s.cannotEnter kind b = true) :
    s.takeRecordFrom id seq kind b = s := by
  rcases hdrops with h | h <;> simp [State.takeRecordFrom, hproposal, h]

variable (hregistrar : s.tow.registrar = s.tow.pairId) (henters : s.cannotEnter kind b = false)
include hregistrar henters

theorem State.takeRecordFrom_registrar (hkind : kind = 8) :
    s.takeRecordFrom id seq kind b = if s.silentMember = true then s else s.giveRegistrar b := by
  subst hkind
  simp only [State.takeRecordFrom, hproposal, hregistrar, henters, Bool.false_eq_true, if_false, if_true]

theorem State.takeRecordFrom_proposal (hkind : kind ≠ 8) :
    let applied := s.applyProposal kind b
    s.takeRecordFrom id seq kind b =
      if kind = 2 ∨ kind = 3 then applied.sendAfter s.epochNow 0x05 [id] (be 8 applied.tow.domainSeq) else applied := by
  simp only [State.takeRecordFrom, State.applyProposal, hproposal, hregistrar, henters, hkind, Bool.false_eq_true, if_false,
    if_true]

end Proposal

theorem State.takeRecordFrom_applied (hrecord : seq ≠ 0) (happlied : seq ≤ s.tow.domainSeq) :
    s.takeRecordFrom id seq kind b = s.ackDomain id kind := by
  simp only [State.takeRecordFrom, hrecord, happlied, if_false, if_true]

theorem State.takeRecordFrom_next (hnext : seq = s.tow.domainSeq + 1) :
    let next := s.takeNext id seq kind b
    s.takeRecordFrom id seq kind b = if next.tow.floorIndex = s.tow.floorIndex then next else next.rekey := by
  rw [State.takeRecordFrom, if_neg (by omega), if_neg (by omega), if_pos hnext]
  rfl

theorem State.takeRecordFrom_gap (hgap : s.tow.domainSeq + 1 < seq) :
    s.takeRecordFrom id seq kind b = s.sendInterlink id 0x06 (be 8 s.tow.domainSeq) := by
  rw [State.takeRecordFrom, if_neg (by omega), if_neg (by omega), if_neg (by omega)]

end Record

theorem exec_domainAck (d : Bytes) (s : State) :
    let o := s.openInterlink 0x05 d
    exec (.domainAck d) s = .next (
      match o.2 with
      | none => o.1
      | some (id, p) => o.1.takeAck id (fld p 0 8)) := by
  show execDomainAck d s = _
  unfold execDomainAck
  rcases s.openInterlink 0x05 d with ⟨t, _ | ⟨id, p⟩⟩ <;> rfl

theorem exec_domainPull (d : Bytes) (s : State) :
    let o := s.openInterlink 0x06 d
    exec (.domainPull d) s = .next (
      match o.2 with
      | none => o.1
      | some (id, p) =>
        let later := o.1.tow.domainLog.filter fun e => fld p 0 8 < e.1
        later.foldl (fun s e => s.sendInterlink id 0x04 (domainRecordBody e.1 e.2.1 e.2.2)) { o.1 with tow := { o.1.tow with
          chan1 := { o.1.tow.chan1 with resent := o.1.tow.chan1.resent + BitVec.ofNat 32 later.length } } }) := by
  show execDomainPull d s = _
  unfold execDomainPull
  rcases s.openInterlink 0x06 d with ⟨t, _ | ⟨id, p⟩⟩ <;> rfl

/-! ## Units of keys (R383) -/

theorem exec_shareClaim (d : Bytes) (s : State) :
    let o := s.openInterlink 0x07 d
    exec (.shareClaim d) s = .next (
      match o.2 with
      | none => o.1
      | some (id, p) => o.1.answerClaim id (BitVec.ofNat 64 (fld p 0 8)) (fld p 8 8)) := by
  show execShareClaim d s = _
  unfold execShareClaim
  rcases s.openInterlink 0x07 d with ⟨t, _ | ⟨id, p⟩⟩ <;> rfl

section Claim
variable {id key : W64} {limit : Nat} {s : State}

theorem State.answerClaim_elsewhere (hother : s.tow.registrar ≠ s.tow.pairId) : s.answerClaim id key limit = s :=
  if_pos hother

variable (hregistrar : s.tow.registrar = s.tow.pairId)
include hregistrar

theorem State.answerClaim_spent (hcut : (s.ledgerFor key limit).1.cut limit = none) :
    s.answerClaim id key limit = (s.ledgerFor key limit).2.sendInterlink id 0x08 (be 8 key.toNat ++ be 8 1 ++ be 8 0) := by
  simp only [State.answerClaim, hregistrar, hcut, ne_eq, not_true_eq_false, if_false]

theorem State.answerClaim_granted {a b : Nat} {l : Ledger} (hcut : (s.ledgerFor key limit).1.cut limit = some (a, b, l)) :
    let g := s.ledgerFor key limit
    let r := g.2.reserve (g.2.ledgerRef key) key g.1.issued false
    let u : State := { r with tow := { r.tow with ledgers := (r.tow.ledgers.filter fun x => x.key != key) ++ [l] } }
    s.answerClaim id key limit = u.sendAfter g.2.epochNow 0x08 [id] (be 8 key.toNat ++ be 8 a ++ be 8 b) := by
  simp only [State.answerClaim, hregistrar, hcut, ne_eq, not_true_eq_false, if_false]

end Claim

theorem exec_shareGrant (d : Bytes) (s : State) :
    let o := s.openInterlink 0x08 d
    exec (.shareGrant d) s = .next (
      match o.2 with
      | none => o.1
      | some (_, p) => o.1.takeUnit (BitVec.ofNat 64 (fld p 0 8)) (fld p 8 8) (fld p 16 8)) := by
  show execShareGrant d s = _
  unfold execShareGrant
  rcases s.openInterlink 0x08 d with ⟨t, _ | ⟨_, p⟩⟩ <;> rfl

/-- A claim for a unit of a key is answered and stands no more. -/
def State.endClaim (s : State) (key : W64) : State :=
  { s with tow := { s.tow with claims := s.tow.claims.filter fun c => c.1 != key } }

section Unit
variable {key : W64} {a b : Nat} {s : State}

theorem State.takeUnit_held (hunit : a ≤ b) (hheld : (key, a, b) ∈ s.tow.units) : s.takeUnit key a b = s.endClaim key := by
  simp only [State.takeUnit, State.endClaim, Nat.not_lt.2 hunit, List.contains_iff_mem.2 hheld, if_false, if_true]

theorem State.takeUnit_new (hunit : a ≤ b) (hnew : (key, a, b) ∉ s.tow.units) :
    s.takeUnit key a b = (s.endClaim key).addUnit ((s.endClaim key).ledgerRef key) key a b := by
  simp only [State.takeUnit, State.endClaim, Nat.not_lt.2 hunit, Bool.eq_false_iff.2 (mt List.contains_iff_mem.1 hnew),
    Bool.false_eq_true, if_false]

theorem State.takeUnit_spent_again (hnone : b < a) (hknown : key ∈ s.tow.exhausted) : s.takeUnit key a b = s.endClaim key := by
  simp only [State.takeUnit, State.endClaim, hnone, List.contains_iff_mem.2 hknown, if_true]

theorem State.takeUnit_spent (hnone : b < a) (hnew : key ∉ s.tow.exhausted) :
    let t := s.endClaim key
    s.takeUnit key a b = { t with tow := { t.tow with exhausted := t.tow.exhausted ++ [key] } } := by
  simp only [State.takeUnit, State.endClaim, hnone, Bool.eq_false_iff.2 (mt List.contains_iff_mem.1 hnew), Bool.false_eq_true,
    if_false, if_true]

end Unit

/-! ## Joins (R381, R386, R387) -/

/-- A join request proves good: the joiner's statement fits the digest of the admission, its key signed the request, and it is not
expelled. -/
def State.joinGood (s : State) (d : Bytes) (a : Admission) : Bool :=
  let p := d.drop 32
  let id := interlinkSender d
  decide (interlinkShape 0x09 d = true ∧ p.length = 2100 ∧
    statementOk (sl p 0 708) id.toNat (fld a.digest 0 48) = true ∧ fld (sl p 0 708) 18 2 = fld p 708 2 ∧
    verify384 (sl (sl p 0 708) 273 97) (sl p 0 2004) (sl p 2004 96) = true ∧ s.tow.expelled.contains id = false)

theorem State.joinGood_eq (s : State) (d : Bytes) (a : Admission) :
    s.joinGood d a = (interlinkShape 0x09 d && (d.drop 32).length == 2100 &&
      statementOk (sl (d.drop 32) 0 708) (interlinkSender d).toNat (fld a.digest 0 48) &&
      fld (sl (d.drop 32) 0 708) 18 2 == fld (d.drop 32) 708 2 &&
      verify384 (sl (sl (d.drop 32) 0 708) 273 97) (sl (d.drop 32) 0 2004) (sl (d.drop 32) 2004 96) &&
      !s.tow.expelled.contains (interlinkSender d)) := by
  rw [Bool.eq_iff_iff, State.joinGood, decide_eq_true_iff]
  simp only [Bool.and_eq_true, Bool.not_eq_true', beq_iff_eq, and_assoc]

theorem exec_joinRequest {d : Bytes} {a : Admission} {s : State}
    (hopen : s.tow.admissions.find? (fun a => a.joiner == interlinkSender d && s.now < a.deadline) = some a) :
    let p := d.drop 32
    let id := interlinkSender d
    let t := s.openPeer id
    let e := t.envelope (sl p 712 97) (sl p 812 1184) (ascii "DX8300 join") (be 8 id.toNat)
      (t.dk ++ be 8 t.vlt.domainId.toNat ++ be 2 t.tow.floor ++ be 2 t.tow.floorIndex ++ be 8 t.tow.domainSeq ++
        be 8 t.tow.registrar.toNat)
    let u := e.2.sendInterlink id 0x0A e.1
    exec (.joinRequest d) s = .next (
      if s.joinGood d a = false then s.dropInterlink
      else if fld p 708 2 < s.tow.floor then s.raise 354 noInst 0xFFFF stFloor.toNat (fld p 708 2)
      else ({ u with tow := { u.tow with
        admissions := u.tow.admissions.filter fun x => x.joiner != id } } : State).admitMember id) := by
  show execJoinRequest d s = _
  simp only [execJoinRequest, hopen, State.joinGood_eq, Bool.not_eq_true', apply_ite Host.Outcome.next]

theorem exec_joinGrant {d : Bytes} {x : W64} {ec kem : Bytes} {s : State}
    (hjoin : s.tow.join = some (interlinkSender d, x, ec, kem)) (hshape : interlinkShape 0x0A d = true)
    (hempty : s.noSliceKeys = true) :
    exec (.joinGrant d) s = .next (
      match openEnvelope ec kem (ascii "DX8300 join") (be 8 s.ctr.moduleId.toNat) (d.drop 32) with
      | none => s.dropInterlink
      | some g => if g.length = 60 ∧ fld g 40 2 ≤ s.ctr.svn then s.takeDomain (interlinkSender d) g else s.dropInterlink) := by
  show execJoinGrant d s = _
  simp only [execJoinGrant, hjoin, hshape, hempty, ne_eq, not_true_eq_false, Bool.not_true, Bool.false_eq_true, or_self, if_false]
  rcases openEnvelope ec kem (ascii "DX8300 join") (be 8 s.ctr.moduleId.toNat) (d.drop 32) with _ | g
  · rfl
  · dsimp only
    by_cases hfits : g.length = 60 ∧ fld g 40 2 ≤ s.ctr.svn
    · rw [if_pos hfits, if_neg (by simp [hfits])]
    · rw [if_neg hfits, if_pos (by omega)]

theorem exec_admissionExpire {joiner : W64} {a : Admission} {s : State}
    (hopen : s.tow.admissions.find? (fun a => a.joiner == joiner) = some a) :
    let t := s.upTo a.deadline
    exec (.admissionExpire joiner) s =
      .next { t with tow := { t.tow with admissions := t.tow.admissions.filter fun x => x.joiner != joiner } } := by
  show execAdmissionExpire joiner s = _
  simp only [execAdmissionExpire, hopen]

/-- Settles O47: a record by its number and by who takes it, and one lemma for each other case. -/
theorem domainCommandsAct : Obligations.DomainCommandsAct := by
  unfold Obligations.DomainCommandsAct
  refine ⟨exec_domainRecord, fun id seq kind b s => ⟨State.takeRecordFrom_dropped,
      fun hproposal hregistrar henters => ⟨State.takeRecordFrom_registrar hproposal hregistrar henters,
        State.takeRecordFrom_proposal hproposal hregistrar henters⟩,
      State.takeRecordFrom_applied, State.takeRecordFrom_next, State.takeRecordFrom_gap⟩,
    exec_domainAck, exec_domainPull, exec_shareClaim,
    fun id key limit s => ⟨State.answerClaim_elsewhere, State.answerClaim_spent,
      fun a b l hregistrar => State.answerClaim_granted hregistrar⟩,
    exec_shareGrant,
    fun key a b s => ⟨State.takeUnit_held, State.takeUnit_new, State.takeUnit_spent_again, State.takeUnit_spent⟩,
    fun d a s => exec_joinRequest, fun d x ec kem s => exec_joinGrant, fun joiner a s => exec_admissionExpire⟩

end Sys2Proof.Machine

/-! What the rows that may reset the module or restart its secure world leave of memory (R419, R458, R504). -/

namespace Sys2Proof.Machine

/-! ## Outcomes that only take bytes away -/

/-- A command's outcome is a next state whose memory is a part of that of `s`, with its queue. -/
inductive Shrinks (s : State) : Host.Outcome State Fault Refusal → Prop
  | next (t : State) (h : t.mem.Sublist s.mem ∧ t.pending = s.pending) : Shrinks s (.next t)

@[simp] theorem shrinks_next {s t : State} : Shrinks s (.next t) ↔ t.mem.Sublist s.mem ∧ t.pending = s.pending :=
  ⟨fun h => by cases h; assumption, .next t⟩

theorem Shrinks.ite {s : State} {p : Prop} {_ : Decidable p} {a b : Host.Outcome State Fault Refusal} (ha : Shrinks s a)
    (hb : Shrinks s b) : Shrinks s (if p then a else b) := by
  split <;> assumption

theorem Keeps.shrinks {s : State} {o : Host.Outcome State Fault Refusal} (h : Keeps s o) : Shrinks s o := by
  obtain ⟨t, hmem, hqueue⟩ := h
  exact .next t ⟨hmem ▸ List.Sublist.refl _, hqueue⟩

/-- What shrinks the memory of a state that keeps that of `s` shrinks that of `s`. -/
theorem Shrinks.of_kept {s u : State} {o : Host.Outcome State Fault Refusal} (hkept : u.mem = s.mem ∧ u.pending = s.pending)
    (h : Shrinks u o) : Shrinks s o := by
  obtain ⟨t, hmem, hqueue⟩ := h
  exact .next t ⟨hkept.1 ▸ hmem, hqueue.trans hkept.2⟩

/-- What keeps the memory of a state that shrinks that of `s` shrinks that of `s`. -/
theorem shrinks_of_kept {s u t : State} (h : u.mem.Sublist s.mem ∧ u.pending = s.pending)
    (hkept : t.mem = u.mem ∧ t.pending = u.pending) : t.mem.Sublist s.mem ∧ t.pending = s.pending :=
  ⟨hkept.1 ▸ h.1, hkept.2.trans h.2⟩

theorem State.alarm_shrinks_of_kept {s u : State} (hkept : u.mem = s.mem ∧ u.pending = s.pending) (code dets : Nat)
    (reading : W32) (island : Nat) : Shrinks s (.next (u.alarm code dets reading island)) :=
  .of_kept hkept (.next _ (u.alarm_shrinks code dets reading island))

theorem State.faultAnswered_shrinks_of_kept {s u : State} (hkept : u.mem = s.mem ∧ u.pending = s.pending) (k : EngineKind)
    (n : Nat) (bit : W32) (status : W16) : Shrinks s (.next (u.faultAnswered k n bit status)) :=
  .of_kept hkept (.next _ (u.faultAnswered_shrinks k n bit status))

/-! ### Rows of verbs and registers -/

theorem verbStep_shrinks {v : Verb} (h : ∀ b s, (v.run b s).st.mem.Sublist s.mem ∧ (v.run b s).st.pending = s.pending)
    (b : Barge) (s : State) : Shrinks s (verbStep v b s) :=
  .next _ (serve_shrinks v h b s)

theorem execLoReadLatch_shrinks (r : RegRead) (s : State) : Shrinks s (execLoReadLatch r s) := by
  unfold execLoReadLatch
  split <;> simp [State.readRegister_shrinks]

/-! ### Watchdogs and restarts (R419, R420) -/

theorem execCoreWdkick_shrinks (w : RegWrite) (s : State) : Shrinks s (execCoreWdkick w s) := by
  unfold execCoreWdkick
  (repeat' split) <;> simp [State.denyRegister_keeps, State.kickKeeper_shrinks]

theorem execRestart_shrinks (w : RegWrite) (s : State) : Shrinks s (execRestart w s) := by
  unfold execRestart
  (repeat' split) <;> simp [State.denyRegister_keeps, State.requestRestart_shrinks]

theorem execKeeperWatchdogExpire_shrinks (s : State) : Shrinks s (execKeeperWatchdogExpire s) := by
  unfold execKeeperWatchdogExpire
  split
  · simp
  · exact .of_kept (u := s.upTo _) (by simp) (.next _ (State.startRestart_shrinks _ 1))

theorem execSecureKernelException_shrinks (core : Nat) (s : State) : Shrinks s (execSecureKernelException core s) := by
  unfold execSecureKernelException
  split <;> simp [State.startRestart_shrinks]

theorem execSecureRestartComplete_shrinks (s : State) : Shrinks s (execSecureRestartComplete s) := by
  dsimp only [execSecureRestartComplete]
  split
  · simp
  · split
    · simp [State.endRestart_keeps]
    · split
      · simp [State.alarm_shrinks]
      · split
        · exact State.alarm_shrinks_of_kept (by simp) ..
        · simp [State.endRestart_keeps, State.restoreKeys_keeps]

theorem execRestartEscalateTimeout_shrinks (s : State) : Shrinks s (execRestartEscalateTimeout s) := by
  unfold execRestartEscalateTimeout
  split
  · simp
  · exact State.alarm_shrinks_of_kept (by simp) ..

theorem execNormalRestartComplete_shrinks (s : State) : Shrinks s (execNormalRestartComplete s) := by
  unfold execNormalRestartComplete
  split
  · simp
  · split <;> simp [State.alarm_shrinks]

/-! ### Resets and boots (R427, R436, R513) -/

theorem execDelayedFullReset_shrinks (s : State) : Shrinks s (execDelayedFullReset s) := by
  unfold execDelayedFullReset
  split
  · simp
  · exact .of_kept (u := s.upTo _) (by simp) (.next _ (State.fullReset_shrinks _))

theorem execBoot_shrinks (s : State) : Shrinks s (execBoot s) := by
  unfold execBoot
  split <;> simp [State.bootRom_shrinks]

/-- A start boots between its first tests and its last, none of which touch memory. -/
theorem execStart_shrinks (t : StartTests) (s : State) : Shrinks s (execStart t s) := by
  unfold execStart
  dsimp only
  generalize hw : State.mk .. = w
  have hwarm : w.mem = s.mem ∧ w.pending = s.pending := by subst hw; exact ⟨rfl, rfl⟩
  generalize htests : State.generatorTests _ t = u
  have hkept : u.mem = s.mem ∧ u.pending = s.pending := by
    subst htests
    simp [State.generatorTests_keeps, State.testSource_keeps, State.retestFence_keeps, hwarm]
  have hboot := u.bootRom_shrinks
  rw [hkept.1, hkept.2] at hboot
  split
  · simp
  · split
    · simp [hwarm]
    · split
      · exact .next _ hboot
      · exact .next _ (shrinks_of_kept hboot
          (by simp [State.sourcesChanged_keeps, State.freeNat_keeps, State.powerOnTests_keeps, State.keeperStart_keeps]))

theorem execHeldRelease_shrinks (s : State) : Shrinks s (execHeldRelease s) := by
  unfold execHeldRelease
  split
  · simp
  · exact .of_kept (by simp [foldl_mem, foldl_pending]) (.next _ (State.bootRom_shrinks _))

/-! ### Alarms (R452 to R455, R458) -/

/-- The branches of a report in their order: a logic alarm, a code without a pair of detectors, the cells, what the sentinel does not
hear or hears end, and then a condition that stands, that both detectors raise, or on which they disagree. -/
theorem execSensorAlarm_shrinks (a : AlarmReport) (s : State) : Shrinks s (execSensorAlarm a s) := by
  have hcells := s.cellsReport_keeps a.a a.b
  have hends (u : State) (hkept : u.mem = s.mem ∧ u.pending = s.pending) : Shrinks s (.next (u.conditionEnds a.code)) :=
    .of_kept hkept (by simp [State.conditionEnds_keeps])
  unfold execSensorAlarm
  refine .ite (State.alarm_shrinks_of_kept (s.modSensor_keeps ..) ..) (.ite (by simp) (.ite ?cells (.ite (by simp)
    (.ite (hends s ⟨rfl, rfl⟩) (.ite (by simp) (.ite (State.alarm_shrinks_of_kept (s.modSensor_keeps ..) ..) ?disagree))))))
  case cells =>
    exact .ite (hends _ hcells) (.ite (by simp [hcells]) (State.alarm_shrinks_of_kept (by simp [hcells]) ..))
  case disagree => simp [State.disagree_keeps]

theorem execShadowScan_shrinks (s : State) : Shrinks s (execShadowScan s) := by
  unfold execShadowScan
  dsimp only
  split
  · exact State.alarm_shrinks_of_kept (by simp) ..
  · simp

/-! ### The supply (R502 to R504) -/

theorem execInputQualified_shrinks (millivolts : Nat) (s : State) : Shrinks s (execInputQualified millivolts s) := by
  dsimp only [execInputQualified]
  split
  · simp
  · split
    · simp
    · exact .of_kept (u := { s with pwr := { s.pwr with inputOk := true, vin := millivolts, shortL := true } }) ⟨rfl, rfl⟩
        (.next _ (State.fullReset_shrinks _))

theorem execOutageTimeout_shrinks (s : State) : Shrinks s (execOutageTimeout s) := by
  unfold execOutageTimeout
  split
  · simp
  · exact .of_kept (u := s.upTo _) (by simp) (.next _ (State.shutdown_shrinks _))

theorem execInputLossTrip_shrinks (s : State) : Shrinks s (execInputLossTrip s) := by
  unfold execInputLossTrip
  split
  · simp
  · exact .next _ (shrinks_of_kept s.shutdown_shrinks (State.discharging_keeps _))

theorem execHoldupThreshold_shrinks (millivolts : Nat) (s : State) : Shrinks s (execHoldupThreshold millivolts s) := by
  unfold execHoldupThreshold
  dsimp only
  split
  · simp
  · split
    · simp [State.refreshReady_keeps]
    · split
      · simp
      · split
        · exact .of_kept (by simp [State.refreshReady_keeps]) (.next _ (State.shutdown_shrinks _))
        · simp [State.refreshReady_keeps]

theorem execShortLBreak_shrinks (s : State) : Shrinks s (execShortLBreak s) := by
  unfold execShortLBreak
  split
  · simp
  · exact .next _ (shrinks_of_kept s.shutdown_shrinks (State.discharging_keeps _))

theorem execOutageEnd_shrinks (millivolts : Nat) (s : State) : Shrinks s (execOutageEnd millivolts s) := by
  unfold execOutageEnd
  (repeat' split) <;> simp [State.shutdown_shrinks]

/-! ### Faults of engines (R279, R310, R322) -/

theorem execCipherJobDone_shrinks (barge : Nat) (end_ : JobEnd) (s : State) : Shrinks s (execCipherJobDone barge end_ s) := by
  unfold execCipherJobDone
  split
  · simp
  · split
    · simp
    · cases end_ with
      | commit =>
        dsimp only
        (repeat' split) <;> simp [State.retrySetUp_keeps, State.spreadSegments_keeps, State.commitCipher_keeps,
          State.endSegment_keeps]
      | guard | control | maskgen => simp [State.faultAnswered_shrinks]

theorem execPkeJobDone_shrinks (barge : Nat) (twin : Bool) (s : State) : Shrinks s (execPkeJobDone barge twin s) := by
  unfold execPkeJobDone
  split
  · simp
  · split
    · simp
    · split
      · simp [State.finishJob_keeps, State.writeResults_keeps, State.countJob_keeps]
      · exact State.faultAnswered_shrinks_of_kept (by simp) ..

theorem execLatticeJobDone_shrinks (barge iterations : Nat) (release : Bool) (s : State) :
    Shrinks s (execLatticeJobDone barge iterations release s) := by
  unfold execLatticeJobDone
  split
  · simp
  · split
    · simp
    · dsimp only
      split
      · simp [State.modEngine_keeps, State.endJob_keeps]
      · split
        · simp [State.finishJob_keeps, State.writeResults_keeps, State.countJob_keeps, State.modEngine_keeps]
        · exact State.faultAnswered_shrinks_of_kept (State.modEngine_keeps ..) ..

theorem execSeedTimeout_shrinks (core : Nat) (s : State) : Shrinks s (execSeedTimeout core s) := by
  unfold execSeedTimeout
  split
  · simp
  · split
    · simp
    · exact State.faultAnswered_shrinks_of_kept (by simp) ..

theorem execPeriodicKat_shrinks (kind : EngineKind) (engine : Nat) (pass : Bool) (s : State) :
    Shrinks s (execPeriodicKat kind engine pass s) := by
  unfold execPeriodicKat
  split
  · simp
  · cases pass
    · exact State.faultAnswered_shrinks_of_kept (by simp [State.modEngine_keeps]) ..
    · simp [State.modEngine_keeps]

theorem execDeviceSignatureDone_shrinks (verified : Bool) (s : State) : Shrinks s (execDeviceSignatureDone verified s) :=
  .of_kept (s.signHead_keeps verified) (.next _ (State.answerAlarms_shrinks _))

/-! ### Every command that may reset -/

/-- A command that may reset the module or restart its secure world only takes bytes away, each by the law of its row. -/
theorem exec_shrinks (c : Instr) (s : State) (hclears : clears c = true) : Shrinks s (exec c s) := by
  cases c with
  | readReg => exact verbStep_shrinks readRegVerb_shrinks ..
  | writeReg => exact verbStep_shrinks writeRegVerb_shrinks ..
  | readRegDx6100 => exact verbStep_shrinks readRegDx6100Verb_shrinks ..
  | dbgRead => exact verbStep_shrinks dbgReadVerb_shrinks ..
  | loReadLatch => exact execLoReadLatch_shrinks ..
  | coreWdkick => exact execCoreWdkick_shrinks ..
  | restart => exact execRestart_shrinks ..
  | keeperWatchdogExpire => exact execKeeperWatchdogExpire_shrinks s
  | secureKernelException => exact execSecureKernelException_shrinks ..
  | secureRestartComplete => exact execSecureRestartComplete_shrinks s
  | restartEscalateTimeout => exact execRestartEscalateTimeout_shrinks s
  | normalRestartComplete => exact execNormalRestartComplete_shrinks s
  | delayedFullReset => exact execDelayedFullReset_shrinks s
  | boot => exact execBoot_shrinks s
  | start => exact execStart_shrinks ..
  | sensorAlarm => exact execSensorAlarm_shrinks ..
  | heldRelease => exact execHeldRelease_shrinks s
  | shadowScan => exact execShadowScan_shrinks s
  | inputQualified => exact execInputQualified_shrinks ..
  | outageTimeout => exact execOutageTimeout_shrinks s
  | inputLossTrip => exact execInputLossTrip_shrinks s
  | holdupThreshold => exact execHoldupThreshold_shrinks ..
  | shortLBreak => exact execShortLBreak_shrinks s
  | outageEnd => exact execOutageEnd_shrinks ..
  | cipherJobDone => exact execCipherJobDone_shrinks ..
  | pkeJobDone => exact execPkeJobDone_shrinks ..
  | latticeJobDone => exact execLatticeJobDone_shrinks ..
  | bnkCoreFault | engineFault => exact State.faultAnswered_shrinks_of_kept ⟨rfl, rfl⟩ ..
  | seedTimeout => exact execSeedTimeout_shrinks ..
  | periodicKat => exact execPeriodicKat_shrinks ..
  | deviceSignatureDone => exact execDeviceSignatureDone_shrinks ..
  | _ => simp [clears] at hclears

/-- Settles O6: memory is one half of what `exec_shrinks` says such a command leaves. -/
theorem resetsOnlyClearMemory : Obligations.ResetsOnlyClearMemory := by
  unfold Obligations.ResetsOnlyClearMemory
  intro c s t hclears hnext
  have hshrinks := exec_shrinks c s hclears
  rw [hnext, shrinks_next] at hshrinks
  exact hshrinks.1

end Sys2Proof.Machine

/-! Every step keeps memory in its one form: what the rows that store do to it (R394, R404; log entry 5). -/

namespace Sys2Proof.Machine

/-! ## Outcomes in the one form -/

theorem State.Inv.of_kept {s t : State} (hs : s.Inv) (h : t.mem = s.mem ∧ t.pending = s.pending) : t.Inv := by
  rw [State.Inv, h.1]
  exact hs

theorem State.Inv.of_shrunk {s t : State} (hs : s.Inv) (h : t.mem.Sublist s.mem ∧ t.pending = s.pending) : t.Inv :=
  Memory.wf_sublist h.1 hs

/-- A command's outcome is a next state whose memory is in its one form. -/
inductive Formed : Host.Outcome State Fault Refusal → Prop
  | next (t : State) (h : t.Inv) : Formed (.next t)

@[simp] theorem formed_next {t : State} : Formed (.next t) ↔ t.Inv :=
  ⟨fun h => by cases h; assumption, .next t⟩

theorem Keeps.formed {s : State} {o : Host.Outcome State Fault Refusal} (h : Keeps s o) (hs : s.Inv) : Formed o := by
  obtain ⟨t, hkeeps⟩ := h
  exact .next t (hs.of_kept hkeeps)

theorem Shrinks.formed {s : State} {o : Host.Outcome State Fault Refusal} (h : Shrinks s o) (hs : s.Inv) : Formed o := by
  obtain ⟨t, hshrinks⟩ := h
  exact .next t (hs.of_shrunk hshrinks)

/-! ## The rows that store -/

section Stores
variable {s : State} (hs : s.Inv)
include hs

theorem execDbgWrite_formed (b : Barge) : Formed (execDbgWrite b s) :=
  .next _ (serve_wf dbgWriteVerb dbgWriteVerb_wf b s hs).1

theorem execFabricAccess_formed (x : FabricAccess) : Formed (execFabricAccess x s) := by
  unfold execFabricAccess
  split
  · exact .next _ (s.access_wf x hs).1
  · exact .next s hs

/-- The work of a barge keeps the form, and so does what its step then does with it. -/
theorem State.Inv.of_work {t : State} {n : Nat} {r : BargeRec}
    (h : t.mem = (s.work n r).mem ∧ t.pending = (s.work n r).pending) : t.Inv :=
  State.Inv.of_kept ((s.work_wf n r).1 hs) h

theorem State.Inv.of_workWaits {t : State} {n : Nat} {r : BargeRec} (h : s.workWaits n r = some t) : t.Inv :=
  hs.of_kept (s.workWaits_keeps n r t h)

theorem execCipherStep_formed (barge : Nat) : Formed (execCipherStep barge s) := by
  unfold execCipherStep
  split
  · exact .next s hs
  · rename_i r _
    split
    · exact .next _ (hs.of_kept (by split <;> simp [State.stageKey_keeps, State.standsBy_keeps]))
    · split
      · exact .next s hs
      · rename_i hwaits
        exact .next _ (hs.of_workWaits hwaits)
      · exact .next _ (hs.of_work (n := barge) (r := r) (by simp [State.startJob_keeps, State.takeChamber_keeps]))

theorem execHashStep_formed (barge : Nat) : Formed (execHashStep barge s) := by
  unfold execHashStep
  split
  · exact .next s hs
  · split
    · exact .next _ (hs.of_kept (State.standsBy_keeps ..))
    · split
      · exact .next s hs
      · rename_i hwaits
        exact .next _ (hs.of_workWaits hwaits)
      · exact .next _ (hs.of_work (State.startJob_keeps ..))

theorem execPkeStep_formed (barge : Nat) : Formed (execPkeStep barge s) := by
  unfold execPkeStep
  split
  · exact .next s hs
  · split
    · exact .next _ (hs.of_kept (State.standsBy_keeps ..))
    · split
      · exact .next s hs
      · rename_i hwaits
        exact .next _ (hs.of_workWaits hwaits)
      · exact .next _ (hs.of_work (State.startJob_keeps ..))

theorem execFormatStep_formed (barge : Nat) : Formed (execFormatStep barge s) := by
  unfold execFormatStep
  split
  · exact .next s hs
  · split
    · exact .next _ (hs.of_kept (State.standsBy_keeps ..))
    · split
      · rename_i hwaits
        exact .next _ (hs.of_workWaits hwaits)
      · exact .next _ (hs.of_work (State.pass_keeps ..))

/-- What a world does with an assisted barge: its verb's work on the tables that the barge read. -/
theorem State.Inv.worldWork (r : BargeRec) {v : Verb} (hverb : verbOf r.barge.opcode = some v) : (s.worldWork r v).st.Inv := by
  have htables : (s.putTables r.barge.slice r.decTabs).Inv := hs.of_kept (s.putTables_keeps ..)
  have heffect : (worldEffect v r (s.putTables r.barge.slice r.decTabs)).st.Inv := by
    unfold worldEffect
    split
    · exact htables
    · exact (verbOf_wf _ v hverb r.barge (State.drawAs _ (worldDrawer r))).1 htables
  exact heffect.of_kept (State.putTables_keeps ..)

theorem execFwAssistReturn_formed (barge : Nat) : Formed (execFwAssistReturn barge s) := by
  unfold execFwAssistReturn
  split
  · exact .next s hs
  · rename_i r _
    split
    · exact .next s hs
    · split
      · exact .next _ (hs.of_kept (State.discharge_keeps ..))
      · split
        · exact .next _ (hs.of_kept (State.endBarge_keeps ..))
        · rename_i v hverb
          have hwoken : ((s.wakeWorld (queueWorld r.barge.opcode)).wakeKeys r.barge.opcode).Inv :=
            hs.of_kept (by simp [State.wakeKeys_keeps, State.wakeWorld_keeps])
          have hwork := hwoken.worldWork r hverb
          dsimp only
          split
          · exact .next _ (hwoken.of_kept (State.awaitDraw_keeps ..))
          · split
            · exact .next _ (hwork.of_kept (by simp [State.discharge_keeps, State.recordIdem_keeps]))
            · exact .next _ (hwork.of_kept (by simp [State.comeBack_keeps, State.worldJob_keeps, State.keepEffect_keeps]))

theorem exec_stores_formed (c : Instr) (hstores : stores c = true) : Formed (exec c s) := by
  cases c with
  | fabricAccess => exact execFabricAccess_formed hs ..
  | dbgWrite => exact execDbgWrite_formed hs ..
  | cipherStep => exact execCipherStep_formed hs ..
  | hashStep => exact execHashStep_formed hs ..
  | pkeStep => exact execPkeStep_formed hs ..
  | formatStep => exact execFormatStep_formed hs ..
  | fwAssistReturn => exact execFwAssistReturn_formed hs ..
  | _ => simp [stores] at hstores

/-- Every command keeps the form: it stores, only takes bytes away, or leaves memory as it is. -/
theorem exec_formed (c : Instr) : Formed (exec c s) := by
  by_cases hstores : stores c = true
  · exact exec_stores_formed hs c hstores
  · by_cases hclears : clears c = true
    · exact (exec_shrinks c s hclears).formed hs
    · exact (exec_keeps c s (by simpa using hstores) (by simpa using hclears)).formed hs

/-- A step of a command keeps the form, and one that idles leaves memory as it is. -/
theorem step_formed : Formed (step s) := by
  unfold step
  split
  · exact .next _ (hs.of_kept (by simp))
  · rename_i c rest _
    exact exec_formed (s := { s with pending := rest }) hs c

end Stores

/-- Settles O7: a step's outcome is in the form, as `step_formed` says. -/
theorem stepKeepsMemoryForm : Obligations.StepKeepsMemoryForm := by
  unfold Obligations.StepKeepsMemoryForm
  intro s t hs hstep
  have hformed := step_formed hs
  rwa [hstep, formed_next] at hformed

/-- Settles O8: reset lists no byte. -/
theorem resetMeetsMemoryForm : Obligations.ResetMeetsMemoryForm := by
  unfold Obligations.ResetMeetsMemoryForm
  rfl

end Sys2Proof.Machine

/-! A store writes the bytes it names and no other (R394, R404; log entry 5). -/

namespace Sys2Proof.Machine

/-- Patching one byte within a string sets it. -/
theorem patch_singleton {bs : Bytes} {off : Nat} (h : off < bs.length) (v : Byte) : patch bs off [v] = bs.set off v := by
  have hfit : fit off bs = bs.take off := by
    rw [fit, List.take_append_of_le_length (Nat.le_of_lt h)]
  rw [patch, hfit, List.set_eq_take_append_cons_drop, if_pos h, List.append_assoc]
  rfl

/-! ## Bytes in operand buffers (R42, R303) -/

/-- The offset of an address in the area of the operand buffers. -/
def bufferOffset (a : Nat) : Nat := a - bufferArea * 4096

/-- Addresses of the area that share a buffer and an offset in it are one. -/
theorem bufferOffset_inj {a b : Nat} (ha : bufferArea * 4096 ≤ a) (hb : bufferArea * 4096 ≤ b)
    (hbuffer : bufferOffset b / 65536 = bufferOffset a / 65536) (hoff : bufferOffset b % 65536 = bufferOffset a % 65536) : b = a := by
  unfold bufferOffset at hbuffer hoff
  omega

/-- The byte that an operand buffer holds at an address, where one does. -/
def State.bufferByte (s : State) (a : Nat) : Option Byte :=
  if bufferArea * 4096 ≤ a then
    ((s.eng.opBufs.find (bufferOffset a / 65536)).bind (·.bytes)).bind fun bs => bs[bufferOffset a % 65536]?
  else none

theorem State.bufferAt_cases (s : State) (a : Nat) :
    (s.bufferAt a = none ∧ s.bufferByte a = none) ∨
      ∃ x bs, s.bufferAt a = some (bufferOffset a / 65536, x, bs, bufferOffset a % 65536) ∧ bufferArea * 4096 ≤ a ∧
        s.eng.opBufs.find (bufferOffset a / 65536) = some x ∧ x.bytes = some bs ∧ bufferOffset a % 65536 < bs.length ∧
        s.bufferByte a = some (bs.getD (bufferOffset a % 65536) 0) := by
  unfold State.bufferAt State.bufferByte bufferOffset
  generalize bufferArea * 4096 = start
  dsimp only
  rcases s.eng.opBufs.find ((a - start) / 65536) with _ | x
  · simp
  · rcases hbytes : x.bytes with _ | bs
    · simp [hbytes]
    · by_cases hin : start ≤ a ∧ (a - start) % 65536 < bs.length
      · simp [hbytes, hin]
      · have hnone : start ≤ a → bs.length ≤ (a - start) % 65536 := by omega
        simpa [hbytes, hin] using hnone

/-- A buffer with one byte set holds that byte, and every other byte of the buffers as before. -/
theorem State.bufferByte_setBuffer {s : State} {a : Nat} {x : OpBuf} {bs : Bytes} (harea : bufferArea * 4096 ≤ a)
    (hfind : s.eng.opBufs.find (bufferOffset a / 65536) = some x) (hbytes : x.bytes = some bs)
    (hoff : bufferOffset a % 65536 < bs.length) (v : Byte) (b : Nat) :
    (s.setBuffer (bufferOffset a / 65536) { x with bytes := some (patch bs (bufferOffset a % 65536) [v]) }).bufferByte b =
      if b = a then some v else s.bufferByte b := by
  rw [patch_singleton hoff]
  unfold State.bufferByte State.setBuffer
  by_cases hb : bufferArea * 4096 ≤ b
  · by_cases hbuffer : bufferOffset b / 65536 = bufferOffset a / 65536
    · by_cases hsame : b = a
      · simp [hsame, harea, hoff]
      · have hne : bufferOffset a % 65536 ≠ bufferOffset b % 65536 := fun h => hsame (bufferOffset_inj harea hb hbuffer h.symm)
        simp [hsame, hb, hbuffer, hfind, hbytes, List.getElem?_set_ne hne]
    · have hsame : b ≠ a := fun h => hbuffer (by rw [h])
      simp [hsame, hb, Map.find_put_ne _ _ _ _ hbuffer]
  · have hsame : b ≠ a := fun h => hb (h ▸ harea)
    simp [hsame, hb]

/-! ## One byte -/

/-- A byte of the hold, of MRAM or of cluster SRAM. -/
def storable (a : Nat) : Prop := placeOf a = .hold ∨ placeOf a = .mram ∨ ∃ c, placeOf a = .sram c

theorem State.loadByte_hold {s : State} {r : Reader} {free : Byte} {a : Nat} (h : placeOf a = .hold) :
    s.loadByte r free a = (s.bufferByte a).getD (Memory.read s.mem free a) := by
  unfold State.loadByte
  rw [h]
  rcases s.bufferAt_cases a with ⟨hat, hbyte⟩ | ⟨x, bs, hat, -, -, -, -, hbyte⟩ <;> simp only [hat, hbyte] <;> rfl

/-- Outside the hold no byte comes from an operand buffer. -/
theorem State.loadByte_setBuffer {s : State} {r : Reader} {free : Byte} {a i : Nat} {x : OpBuf} (h : placeOf a ≠ .hold) :
    (s.setBuffer i x).loadByte r free a = s.loadByte r free a := by
  unfold State.loadByte
  cases hplace : placeOf a with
  | hold => exact absurd hplace h
  | _ => rfl

/-- A byte that memory does not list at the address written reads as before. -/
theorem State.loadByte_write_ne {s : State} {r : Reader} {free v : Byte} {a b : Nat} (h : b ≠ a) :
    ({ s with mem := Memory.write s.mem a v } : State).loadByte r free b = s.loadByte r free b := by
  have hread := Memory.read_write_ne s.mem free a b v h
  unfold State.loadByte
  cases placeOf b with
  | hold | flash => dsimp only; rw [hread]; rfl
  | mram | sram => exact hread
  | _ => rfl

/-- A storable byte that no buffer holds is read from memory. -/
theorem State.loadByte_storable {s : State} {r : Reader} {free : Byte} {a : Nat} (h : storable a)
    (hbuffer : placeOf a = .hold → s.bufferByte a = none) : s.loadByte r free a = Memory.read s.mem free a := by
  rcases h with hplace | hplace | ⟨c, hplace⟩
  · rw [State.loadByte_hold hplace, hbuffer hplace, Option.getD_none]
  · rw [State.loadByte, hplace]
  · rw [State.loadByte, hplace]

theorem State.loadByte_storeByte {s : State} {r : Reader} {free : Byte} {a : Nat} (h : storable a) (v : Byte) (b : Nat) :
    (s.storeByte a v).loadByte r free b = if b = a then v else s.loadByte r free b := by
  by_cases hbuffer : placeOf a = .hold → s.bufferByte a = none
  case pos =>
    have hstore : s.storeByte a v = { s with mem := Memory.write s.mem a v } := by
      unfold State.storeByte
      rcases h with hplace | hplace | ⟨c, hplace⟩ <;> rw [hplace]
      rcases s.bufferAt_cases a with ⟨hat, -⟩ | ⟨x, bs, -, -, -, -, -, hbyte⟩
      · simp only [hat]
      · simp [hbuffer hplace] at hbyte
    rw [hstore]
    split
    next hsame =>
      rw [hsame]
      exact (State.loadByte_storable (s := { s with mem := Memory.write s.mem a v }) h hbuffer).trans (Memory.read_write_self ..)
    next hne => exact State.loadByte_write_ne hne
  case neg =>
    obtain ⟨hplace, hheld⟩ := Classical.not_imp.1 hbuffer
    rcases s.bufferAt_cases a with ⟨-, hbyte⟩ | ⟨x, bs, hat, harea, hfind, hbytes, hoff, -⟩
    · exact absurd hbyte hheld
    have hstore : s.storeByte a v =
        s.setBuffer (bufferOffset a / 65536) { x with bytes := some (patch bs (bufferOffset a % 65536) [v]) } := by
      unfold State.storeByte
      rw [hplace]
      simp only [hat]
    rw [hstore]
    by_cases hhold : placeOf b = .hold
    · rw [State.loadByte_hold hhold, State.loadByte_hold hhold, State.bufferByte_setBuffer harea hfind hbytes hoff,
        apply_ite (Option.getD · _), Option.getD_some]
      rfl
    · rw [State.loadByte_setBuffer hhold, if_neg (fun hsame : b = a => hhold (hsame ▸ hplace))]

/-! ## A string of bytes -/

/-- A store from `a` on gives each address the byte of the data that falls on it, and leaves the rest. -/
theorem State.loadByte_storeBytes {s : State} {r : Reader} {free : Byte} {a : Nat} {data : Bytes}
    (h : ∀ i < data.length, storable (a + i)) (b : Nat) :
    (s.storeBytes a data).loadByte r free b = (if a ≤ b then data[b - a]? else none).getD (s.loadByte r free b) := by
  induction data generalizing s a with
  | nil => simp [State.storeBytes]
  | cons v vs ih =>
    have hrest : ∀ i < vs.length, storable (a + 1 + i) := fun i hi => by
      simpa [Nat.add_assoc, Nat.add_comm 1] using h (i + 1) (by simpa using hi)
    rw [State.storeBytes, ih hrest, State.loadByte_storeByte (a := a) (h 0 (by simp))]
    rcases Nat.lt_trichotomy b a with hlt | rfl | hgt
    · simp [show ¬a + 1 ≤ b by omega, show ¬a ≤ b by omega, show b ≠ a by omega]
    · simp
    · obtain ⟨k, rfl⟩ := Nat.exists_eq_add_of_lt hgt
      simp [show a + k + 1 - a = k + 1 by omega, show a + k + 1 - (a + 1) = k by omega, show a + 1 ≤ a + k + 1 by omega,
        show a ≤ a + k + 1 by omega, show a + k + 1 ≠ a by omega]

/-- Settles O9: `State.loadByte_storeBytes` at an address of the data, and at one before or past it. -/
theorem storeBytesFrame : Obligations.StoreBytesFrame := by
  unfold Obligations.StoreBytesFrame
  intro s r free a data hplaces
  refine ⟨fun i hi => ?_, fun b hb => ?_⟩ <;> rw [State.loadByte_storeBytes hplaces]
  · simp [hi]
  · rcases hb with hlt | hge
    · rw [if_neg (by omega), Option.getD_none]
    · simp [List.getElem?_eq_none (show data.length ≤ b - a by omega)]

end Sys2Proof.Machine

/-! Regions of units, fall-back entries and the violation queues (R398 to R400, R407 to R409). -/

namespace Sys2Proof.Machine

/-! ## What waking a block leaves (R33) -/

@[simp] theorem State.rebase_readers (s : State) : s.rebase.readers = s.readers := rfl

@[simp] theorem State.rebase_ixp (s : State) : s.rebase.ixp = s.ixp := rfl

@[simp] theorem State.wakeDomain_readers (s : State) (d : Nat) : (s.wakeDomain d).readers = s.readers := by
  unfold State.wakeDomain
  split <;> simp

@[simp] theorem State.wakeDomain_ixp (s : State) (d : Nat) : (s.wakeDomain d).ixp = s.ixp := by
  unfold State.wakeDomain
  split <;> simp

@[simp] theorem State.wakeRegister_readers (s : State) (r : Reader) (addr : Nat) : (s.wakeRegister r addr).readers = s.readers := by
  unfold State.wakeRegister
  dsimp only
  split
  · rfl
  · exact foldl_field State.readers State.wakeDomain_readers _ s

@[simp] theorem State.wakeRegister_ixp (s : State) (r : Reader) (addr : Nat) : (s.wakeRegister r addr).ixp = s.ixp := by
  unfold State.wakeRegister
  dsimp only
  split
  · rfl
  · exact foldl_field State.ixp State.wakeDomain_ixp _ s

/-- A reader's selections are among its copies, which a wake leaves. -/
@[simp] theorem State.wakeRegister_channel (s : State) (r : Reader) (addr block : Nat) :
    (s.wakeRegister r addr).channel r block = s.channel r block := by
  simp only [State.channel, State.copies, State.wakeRegister_readers]

@[simp] theorem State.wakeRegister_beyond (s : State) (r : Reader) (addr block : Nat) :
    (s.wakeRegister r addr).beyond r block = s.beyond r block := by
  simp only [State.beyond, State.wakeRegister_channel]

/-! ## Commits (R398 to R400) -/

theorem exec_ixpRattrWrite {s : State} {x : RegWrite} (hright : s.mayWrite x.reader x.kernel 0xC001C = true)
    (hunit : s.channel x.reader 12 < 141) :
    let w := s.wakeRegister x.reader 0xC001C
    let u := w.channel x.reader 12
    let c := w.copies x.reader
    let new := (w.region u c.rsel).commit c.rbase c.rlast x.value.toNat
    exec (.ixpRattrWrite x) s = .next (
      if commitDropped (w.secureReader x.reader) (w.region u c.rsel) new = true then w.dropWrite
      else ({ w with ixp := { w.ixp with regions := w.ixp.regions.put (32 * u + c.rsel) new } } : State).modCopies x.reader
        ReaderRegs.noUnitShadow) := by
  intro w u c new
  have hin : ¬140 < u := by simp only [u, w, State.wakeRegister_channel]; omega
  show execIxpRattrWrite x s = _
  rw [execIxpRattrWrite, if_pos hright, State.writeRattr, if_neg hin]

theorem exec_ixpFbattrWrite {s : State} {x : RegWrite} (hright : s.mayWrite x.reader x.kernel 0xC004C = true)
    (hin : s.beyond x.reader 12 = false) :
    let w := s.wakeRegister x.reader 0xC004C
    let c := w.copies x.reader
    let new := (w.fallback c.fbsel).commit c.fbbase c.fblast x.value.toNat
    exec (.ixpFbattrWrite x) s = .next (
      if commitDropped (w.secureReader x.reader) (w.fallback c.fbsel) new = true then w.dropWrite
      else ({ w with ixp := { w.ixp with fallback := w.ixp.fallback.put c.fbsel new } } : State).modCopies x.reader
        ReaderRegs.noEntryShadow) := by
  intro w c new
  show execIxpFbattrWrite x s = _
  rw [execIxpFbattrWrite, if_pos hright, State.writeFbattr, State.wakeRegister_beyond, hin, if_neg Bool.false_ne_true]

/-! ## The violation queues (R407 to R409) -/

/-- POP takes the oldest report of the queue that stands selected once QUEUE is written. -/
theorem exec_pop {s : State} {x : RegWrite} (hright : s.mayWrite x.reader x.kernel 0xC0060 = true)
    (hin : s.beyond x.reader 12 = false) (hpop : x.value.toNat.testBit 1 = true) :
    let w := s.wakeRegister x.reader 0xC0060
    let q := x.value.toNat % 2
    exec (.pop x) s = .next ((if q = 1 ∧ w.secureReader x.reader = false then w.dropWrite
      else w.modCopies x.reader fun c => { c with vqueue := q }).popReport x.reader) := by
  intro w q
  show execPop x s = _
  simp only [execPop, hright, if_true, State.writeVctrl, State.wakeRegister_beyond, hin, Bool.false_eq_true, if_false, hpop,
    Bool.not_eq_true', w, q]

/-- Settles O22: each command by its equation. -/
theorem protectionCommandsAct : Obligations.ProtectionCommandsAct := by
  unfold Obligations.ProtectionCommandsAct
  refine ⟨fun s x hright hunit => ?rattr, fun s x hright hin => ?fbattr, fun s x hright hin hpop => ?pop⟩
  case rattr =>
    intro w u c new
    rw [exec_ixpRattrWrite hright hunit]
    exact ⟨fun hkept => by rw [if_neg (by rw [hkept]; exact Bool.false_ne_true)], fun hdropped => by rw [if_pos hdropped]⟩
  case fbattr =>
    intro w c new
    rw [exec_ixpFbattrWrite hright hin]
    exact ⟨fun hkept => by rw [if_neg (by rw [hkept]; exact Bool.false_ne_true)], fun hdropped => by rw [if_pos hdropped]⟩
  case pop =>
    intro w
    rw [exec_pop hright hin hpop]
    refine ⟨fun hnormal => ?_, fun hsecure hreader => ?_, fun hsecure hreader => ?_⟩
    · rw [hnormal, if_neg (by simp)]
    · rw [hsecure, if_neg (by simp [w, hreader])]
    · rw [if_pos ⟨hsecure, hreader⟩]

/-- Writes of IXP_RBASE and IXP_RLAST go to the reader's copies. -/
theorem State.writeRegister_shadow (s : State) (r : Reader) {addr : Nat} (v : W32) (haddr : addr = 0xC0014 ∨ addr = 0xC0018) :
    (s.writeRegister r addr v).ixp = s.ixp := by
  unfold State.writeRegister
  rcases haddr with rfl | rfl <;> simp only [Nat.reduceDiv, Nat.reduceMod]
  all_goals
    rw [if_neg (by decide)]
    split
    · rfl
    · simp [State.writeOwn, siteOffset, blockCounters, State.writeProtect]

/-- Settles O57: the shadows lie among the reader's copies, and a commit puts the one region. -/
theorem regionChangesAtOnce : Obligations.RegionChangesAtOnce := by
  unfold Obligations.RegionChangesAtOnce
  refine ⟨fun s r addr v => State.writeRegister_shadow s r v, fun s x hright hunit => ?_⟩
  intro w u c old v hkept
  refine ⟨_, (protectionCommandsAct.1 s x hright hunit).1 hkept, ?_, fun k hk => ?_⟩
  · show (w.ixp.regions.put (32 * u + c.rsel) (old.commit c.rbase c.rlast v)).at {} (32 * u + c.rsel) = _
    rw [Map.at, Map.find_put_self]
    rfl
  · show (w.ixp.regions.put (32 * u + c.rsel) _).at {} k = _
    rw [Map.at, Map.find_put_ne _ _ _ _ hk, State.wakeRegister_ixp]
    rfl

end Sys2Proof.Machine

/-! Gating, leases and gating requests (R33, R412 to R417). -/

namespace Sys2Proof.Machine

/-! ## What gating leaves of the domains -/

@[simp] theorem State.domain_rebase (s : State) (d : Nat) : s.rebase.domain d = s.domain d := rfl

/-- Moving pound entries touches no power domain. -/
@[simp] theorem State.movePound_pwr (s : State) (f : Nat) : (s.movePound f).pwr = s.pwr := by
  unfold State.movePound
  refine foldl_field State.pwr (fun t e => ?_) _ s
  split
  · split <;> rfl
  · rfl

theorem State.domain_movePounds (s : State) (fs : List Nat) (d : Nat) : (fs.foldl State.movePound s).domain d = s.domain d := by
  simp only [State.domain, foldl_field State.pwr State.movePound_pwr]

/-! ## PWR_GATE (R412, R417) -/

/-- The gate bits that a write of PWR_GATE clears are cleared. -/
def State.clearGates (s : State) (d v : Nat) : State :=
  s.rebase.modDomain d fun x =>
    { x with powerOff := x.powerOff && v.testBit 1, clockOff := x.clockOff && v.testBit 0 }

/-- A write of PWR_GATE sets a gate bit that stands cleared. -/
abbrev State.newlyGates (s : State) (d v : Nat) : Prop :=
  v.testBit 1 = true ∧ (s.domain d).powerOff = false ∨ v.testBit 0 = true ∧ (s.domain d).clockOff = false

/-- Clearing gate bits takes no lease and releases none. -/
theorem State.leased_clearGates (s : State) (d v : Nat) : (s.clearGates d v).leased d = s.leased d := by
  simp only [State.leased, State.clearGates, State.domain_modDomain, State.domain_rebase]
  rfl

/-- The action of a written value: a power-off where its bit is set. -/
def gateAction (v : Nat) : GateAction := if v.testBit 1 = true then .powerOff else .clockOff

/-- A gate bit is among the two lowest. -/
theorem gateBits_eq_false {v : Nat} : v.testBit 1 = false ∧ v.testBit 0 = false ↔ v % 4 = 0 := by
  rw [Nat.testBit_succ, Nat.testBit_zero, Nat.testBit_zero, decide_eq_false_iff_not, decide_eq_false_iff_not]
  omega

theorem State.writeGate_of_clear {s : State} {d v : Nat} (hv : v % 4 = 0) : s.writeGate d v = s.restoreDomain d := by
  obtain ⟨hoff, hstop⟩ := gateBits_eq_false.2 hv
  simp [State.writeGate, hoff, hstop]

/-- A write that sets a bit clears the other as it says, and gates what it newly sets, or asks for it where a lease stands. -/
theorem State.writeGate_of_set {s : State} {d v : Nat} (hv : v % 4 ≠ 0) :
    s.writeGate d v =
      if s.newlyGates d v then
        if s.leased d = true then (s.clearGates d v).requestGate d (gateAction v) false
        else (domainFlights d).foldl State.movePound
          ((s.clearGates d v).modDomain d fun x => { x with powerOff := v.testBit 1, clockOff := v.testBit 0 })
      else s.clearGates d v := by
  have hset : ¬(!v.testBit 1 && !v.testBit 0) = true := by
    intro hclear
    refine hv (gateBits_eq_false.1 ?_)
    simpa using hclear
  have hnew : ((v.testBit 1 && !(s.domain d).powerOff) || (v.testBit 0 && !(s.domain d).clockOff)) = true ↔
      s.newlyGates d v := by
    simp [State.newlyGates]
  rw [← State.leased_clearGates s d v]
  unfold State.writeGate
  rw [if_neg hset]
  exact if_congr hnew rfl rfl

theorem State.writeGate_bits {s : State} {d v : Nat} (hfree : s.leased d = false) (hv : v % 4 ≠ 0) :
    ((s.writeGate d v).domain d).clockOff = v.testBit 0 ∧ ((s.writeGate d v).domain d).powerOff = v.testBit 1 := by
  rw [State.writeGate_of_set hv]
  split
  · rw [hfree, if_neg Bool.false_ne_true, State.domain_movePounds, State.domain_modDomain]
    exact ⟨rfl, rfl⟩
  · rename_i hold
    simp only [State.newlyGates, not_or, not_and, Bool.not_eq_false] at hold
    obtain ⟨hoff, hstop⟩ := hold
    simp only [State.clearGates, State.domain_modDomain, State.domain_rebase]
    exact ⟨by cases hbit : v.testBit 0 <;> simp_all, by cases hbit : v.testBit 1 <;> simp_all⟩

theorem State.gateWrite_of_right {s : State} {w : RegWrite} (hright : s.mayWrite w.reader w.kernel 0x100020 = true)
    (hd : s.channel w.reader 16 < 32) : s.gateWrite w = s.writeGate (s.channel w.reader 16) w.value.toNat := by
  simp [State.gateWrite, hright, show ¬31 < s.channel w.reader 16 by omega]

/-- CLK_OFF and PWR_OFF are the one write of PWR_GATE. -/
theorem exec_gateWrites {s : State} {w : RegWrite} (hright : s.mayWrite w.reader w.kernel 0x100020 = true)
    (hd : s.channel w.reader 16 < 32) :
    exec (.clkOff w) s = .next (s.writeGate (s.channel w.reader 16) w.value.toNat) ∧
      exec (.pwrOff w) s = .next (s.writeGate (s.channel w.reader 16) w.value.toNat) := by
  rw [← State.gateWrite_of_right hright hd]
  exact ⟨rfl, rfl⟩

/-! ## PWR_LEASE and PWR_GATEREQ (R412, R413, R417) -/

theorem exec_keeperLeaseWrite {s : State} {w : RegWrite} (hright : s.mayWrite w.reader w.kernel 0x100024 = true)
    (hd : s.channel w.reader 16 < 32) :
    exec (.keeperLeaseWrite w) s =
      .next (s.modDomain (s.channel w.reader 16) fun x => { x with keeper := w.value.toNat.testBit 30 }) := by
  show execKeeperLeaseWrite w s = _
  simp [execKeeperLeaseWrite, hright, show ¬31 < s.channel w.reader 16 by omega, State.writeLease]

theorem State.gatereqWrite_of_right {s : State} {w : RegWrite} (hright : s.mayWrite w.reader w.kernel 0x100028 = true)
    (hd : s.channel w.reader 16 < 32) (action : Nat) :
    s.gatereqWrite w action = s.writeGatereq (s.channel w.reader 16) action (!s.secureReader w.reader) := by
  simp [State.gatereqWrite, hright, show ¬31 < s.channel w.reader 16 by omega]

/-! ## Grant and ceiling (R414, R415) -/

theorem State.grantQueued_of_free {s : State} {d ceiling : Nat} {a : GateAction} (hqueued : (s.domain d).queued = some (a, ceiling))
    (hfree : s.leased d = false) : s.grantQueued d = s.gateDomain d a := by
  simp [State.grantQueued, hqueued, hfree]

theorem exec_leaseCeiling {s : State} {d ceiling : Nat} {a : GateAction} (hqueued : (s.domain d).queued = some (a, ceiling)) :
    exec (.leaseCeiling d) s = .next (if (s.upTo ceiling).leased d = true then (s.upTo ceiling).revokeLeases d a
      else (s.upTo ceiling).gateDomain d a) := by
  show execLeaseCeiling d s = _
  have hstill : ((s.upTo ceiling).domain d).queued = some (a, ceiling) := by rwa [State.domain, State.upTo_pwr]
  simp only [execLeaseCeiling, hqueued]
  split
  · rfl
  · rename_i hfree
    rw [State.grantQueued_of_free hstill (by simpa using hfree)]

/-- Settles O25: a write of PWR_GATE by its two bits and the lease, and one lemma for each other command. -/
theorem leaseCommandsAct : Obligations.LeaseCommandsAct := by
  unfold Obligations.LeaseCommandsAct
  refine ⟨fun s w hright hd => ?gate, fun s w => exec_keeperLeaseWrite, fun s w hright hd => ?request,
    fun s d a ceiling hqueued => ?grant⟩
  case gate =>
    intro d
    obtain ⟨hclk, hpwr⟩ := exec_gateWrites hright hd
    refine ⟨fun hfree _ _ => ⟨fun hv => ⟨_, hclk, ?_⟩, fun hv => ⟨_, hpwr, ?_⟩⟩, fun hfree hv => ⟨_, hclk, hpwr, ?_⟩,
      fun hv => ⟨_, hclk, hpwr, ?_⟩, fun hleased hv => ?_⟩
    · obtain ⟨hstop, hoff⟩ := State.writeGate_bits hfree (v := w.value.toNat) (by omega)
      rw [hstop, hoff, Nat.testBit_succ, Nat.testBit_zero, Nat.testBit_zero, decide_eq_true_iff, decide_eq_false_iff_not]
      omega
    · obtain ⟨hstop, hoff⟩ := State.writeGate_bits hfree (v := w.value.toNat) (by omega)
      rw [hstop, hoff, Nat.testBit_succ, Nat.testBit_zero, Nat.testBit_zero, decide_eq_true_iff, decide_eq_true_iff]
      omega
    · exact State.writeGate_bits hfree hv
    · rw [State.writeGate_of_clear hv, State.restoreDomain, State.domain_modDomain]
      exact ⟨rfl, rfl⟩
    · have hwrite := State.writeGate_of_set (s := s) (d := d) hv
      rw [hleased, if_pos rfl] at hwrite
      rw [hclk, hpwr, hwrite]
      exact ⟨rfl, rfl⟩
  case request =>
    intro d
    have hwrite := State.gatereqWrite_of_right hright hd
    refine ⟨congrArg Host.Outcome.next (hwrite 1), congrArg Host.Outcome.next (hwrite 2), _,
      congrArg Host.Outcome.next (hwrite 3), ?_⟩
    rw [State.writeGatereq, if_neg (by decide), if_neg (by decide), if_pos rfl, State.domain_modDomain, State.restoreDomain,
      State.domain_modDomain]
    exact ⟨rfl, rfl, rfl⟩
  case grant =>
    rw [exec_leaseCeiling hqueued]
    exact ⟨fun hfree => congrArg _ (State.grantQueued_of_free hqueued hfree), fun hleased => by rw [if_pos hleased],
      fun hfree => by rw [hfree, if_neg Bool.false_ne_true]⟩

end Sys2Proof.Machine

/-! The watchdogs, and restarts of the secure and the normal world (R418 to R424). -/

namespace Sys2Proof.Machine

/-! ## How restarts begin (R419, R420, R422 to R424) -/

/-- The values and keys of the secure world go as its restart begins, and its cause and count stand (R419, R420). -/
def State.lockForRestart (s : State) (cause : Nat) : State :=
  { s with
    cor := { s.cor with
      restarting := true, phase := 3, cause := cause, count := sat 255 (s.cor.count + 1),
      restarts := within s.now 600000000000 s.cor.restarts ++ [s.now], healthOut := false },
    vlt := { s.vlt with unlocked := false, rat := [], dom := [] } }

/-- Phases 1 to 3 of a secure restart (R419). -/
def State.restartPhases (s : State) (cause : Nat) : State :=
  ((s.lockForRestart cause).abortSecure.endKeeperLeases.clearSecure.reloadUnits true).freshCores true

theorem State.startRestart_eq (s : State) (cause : Nat) :
    s.startRestart cause =
      if s.pwr.started = false ∨ s.pwr.shutDown = true ∨ s.cor.restarting = true then s
      else if 3 ≤ (within s.now 600000000000 s.cor.restarts ++ [s.now]).length then (s.restartPhases cause).alarm 0x27 0 0 0
      else s.restartPhases cause := by
  have hidle : (!s.pwr.started || s.pwr.shutDown || s.cor.restarting) = true ↔
      s.pwr.started = false ∨ s.pwr.shutDown = true ∨ s.cor.restarting = true := by
    simp [or_assoc]
  exact if_congr hidle rfl rfl

/-- Settles O27: the three branches of `State.startRestart_eq`. -/
theorem secureRestartBegins : Obligations.SecureRestartBegins := by
  unfold Obligations.SecureRestartBegins
  intro s cause times t u
  rw [State.startRestart_eq]
  refine ⟨fun hstarted hup hfree => ?_, fun hidle => if_pos hidle⟩
  rw [if_neg (by simp [hstarted, hup, hfree])]
  exact ⟨fun hfew => if_neg (Nat.not_le.2 hfew), fun hthird => if_pos hthird⟩

theorem State.startNormalRestart_eq {s : State} (hstarted : s.pwr.started = true) (hup : s.pwr.shutDown = false)
    (hfree : s.cor.normalRestarting = false) :
    let t : State := { s with cor := { s.cor with normalRestarting := true }, whf := { s.whf with halfOpen := [] } }
    s.startNormalRestart = ((((t.endSessions fun x => x.fgl == 1 || x.fgl == 2).abortBarges (fun r => r.queuedFor .normal)
      stAbortRestart).reloadUnits false).freshCores false) := by
  simp only [State.startNormalRestart, hstarted, hup, hfree, Bool.not_true, Bool.or_self, Bool.false_eq_true, if_false]

/-! ## Kicks and causes (R418 to R420) -/

theorem exec_coreWdkick {s : State} {w : RegWrite} (hright : s.mayWrite w.reader w.kernel 0xB0044 = true)
    (hin : s.beyond w.reader 11 = false) (hfree : s.cor.restarting = false) :
    exec (.coreWdkick w) s = .next (
      if w.value = s.cor.keeperDog.expects then { s with cor := { s.cor with keeperDog := s.cor.keeperDog.kick s.now } }
      else s.startRestart 2) := by
  show execCoreWdkick w s = _
  simp only [execCoreWdkick, hright, hin, State.kickKeeper, hfree, Bool.not_true, Bool.false_eq_true, if_false]

theorem exec_coreNwdkick {s : State} {w : RegWrite} (hright : s.mayWrite w.reader w.kernel 0xB0054 = true)
    (hin : s.beyond w.reader 11 = false) (hfree : s.cor.normalRestarting = false) :
    exec (.coreNwdkick w) s = .next (
      if w.value = s.cor.normalDog.expects then { s with cor := { s.cor with normalDog := s.cor.normalDog.kick s.now } }
      else s.startNormalRestart) := by
  show execCoreNwdkick w s = _
  simp only [execCoreNwdkick, hright, hin, State.kickNormal, hfree, Bool.not_true, Bool.false_eq_true, if_false]

theorem exec_restart {s : State} {w : RegWrite} (hright : s.mayWrite w.reader w.kernel 0xB004C = true)
    (hin : s.beyond w.reader 11 = false) :
    exec (.restart w) s = .next (if w.value.toNat.testBit 0 = true then s.startRestart 3 else s) := by
  show execRestart w s = _
  simp only [execRestart, hright, hin, State.requestRestart, Bool.not_true, Bool.false_eq_true, if_false]

theorem exec_keeperWatchdogExpire {s : State} (hstarted : s.pwr.started = true) (hfree : s.cor.restarting = false)
    (hruns : s.secureHalted = false) :
    exec .keeperWatchdogExpire s =
      .next ((s.upTo (s.cor.keeperDog.kicked + s.cor.keeperDog.period * 1000000)).startRestart 1) := by
  show execKeeperWatchdogExpire s = _
  simp [execKeeperWatchdogExpire, hstarted, hfree, hruns, Watchdog.expiry]

theorem exec_secureKernelException {s : State} {core : Nat} (hcore : core < 64) (hsecure : s.coreSecure core = true) :
    exec (.secureKernelException core) s = .next (s.startRestart 4) := by
  show execSecureKernelException core s = _
  simp [execSecureKernelException, hsecure, show ¬63 < core by omega]

theorem exec_normalWatchdogExpire {s : State} (hstarted : s.pwr.started = true) (hfree : s.cor.normalRestarting = false) :
    exec .normalWatchdogExpire s =
      .next (s.upTo (s.cor.normalDog.kicked + s.cor.normalDog.period * 1000000)).startNormalRestart := by
  show execNormalWatchdogExpire s = _
  simp [execNormalWatchdogExpire, hstarted, hfree, Watchdog.expiry]

/-! ## How restarts end (R419, R423, R424) -/

theorem exec_secureRestartComplete {s : State} (hrestarting : s.cor.restarting = true) :
    exec .secureRestartComplete s = .next (
      if s.keeperKeyed = false then s.endRestart
      else if s.keeperMatches = false then s.alarm 0x27 0 0 0
      else if s.rootSplit = true then
        ({ s with vlt := { s.vlt with shadowFault := true, rootValid := false } } : State).alarm 0x20 0 0 0
      else s.restoreKeys.endRestart) := by
  show execSecureRestartComplete s = _
  simp only [execSecureRestartComplete, hrestarting, Bool.not_true, Bool.false_eq_true, if_false, Bool.not_eq_true',
    apply_ite Host.Outcome.next]

theorem exec_restartEscalateTimeout {s : State} (hrestarting : s.cor.restarting = true) :
    exec .restartEscalateTimeout s = .next ((s.upTo (s.cor.restarts.getLastD s.now + 30000000)).alarm 0x27 0 0 0) := by
  show execRestartEscalateTimeout s = _
  simp [execRestartEscalateTimeout, hrestarting]

theorem exec_normalRestartComplete {s : State} (hrestarting : s.cor.normalRestarting = true) :
    exec .normalRestartComplete s = .next (
      if s.ctr.recovery = true ∨ s.normalMatches = true then
        ({ s with cor := { s.cor with
          normalRestarting := false, normalDog := { s.cor.normalDog with second := false, kicked := s.now } } } : State).raise
            289 noInst 0xFFFF 0 0
      else s.alarm 0x28 0 0 0) := by
  show execNormalRestartComplete s = _
  simp only [execNormalRestartComplete, hrestarting, Bool.not_true, Bool.false_eq_true, if_false]
  by_cases hends : s.ctr.recovery = true ∨ s.normalMatches = true
  · rw [if_pos hends, if_neg (by rcases hends with h | h <;> simp [h])]
  · rw [if_neg hends, if_pos (by simpa using hends)]

/-- Settles O26: one lemma for each command, a kick by whether it is the one due. -/
theorem restartCommandsAct : Obligations.RestartCommandsAct := by
  unfold Obligations.RestartCommandsAct
  refine ⟨fun s w hright hin hfree => ?keeper, fun s w hright hin hfree => ?normal, fun s w hright hin => ?request,
    fun s => exec_keeperWatchdogExpire, fun s core => exec_secureKernelException,
    fun s hrestarting => ⟨exec_secureRestartComplete hrestarting, exec_restartEscalateTimeout hrestarting⟩,
    fun s => exec_normalWatchdogExpire, fun s => exec_normalRestartComplete, fun s => State.startNormalRestart_eq⟩
  case keeper =>
    rw [exec_coreWdkick hright hin hfree]
    exact ⟨fun hdue => congrArg _ (if_pos hdue), fun hother => congrArg _ (if_neg hother)⟩
  case normal =>
    rw [exec_coreNwdkick hright hin hfree]
    exact ⟨fun hdue => congrArg _ (if_pos hdue), fun hother => congrArg _ (if_neg hother)⟩
  case request =>
    rw [exec_restart hright hin]
    exact ⟨fun hset => by rw [if_pos hset], fun hclear => by rw [hclear, if_neg Bool.false_ne_true]⟩

end Sys2Proof.Machine

/-! An access over the fabric: checked, performed or refused (R401, R404 to R407). -/

namespace Sys2Proof.Machine

/-! ## One access of at most 256 bytes (R401, R404, R406) -/

section Once
variable {s : State} {x : FabricAccess}

/-- Counting a look-up and refusing leave memory. -/
theorem State.refuseAccess_countLookup_mem (m : Master) (f : Nat × Nat × Nat × Nat × Option Nat) :
    ((s.countLookup m x).refuseAccess m x f).mem = s.mem :=
  (State.refuseAccess_keeps _ m x f).1.trans (s.countLookup_keeps m x).1

theorem State.countLookup_of_decided {m : Master} (h : s.looksUp m x.address x.length = false) : s.countLookup m x = s := by
  rw [State.countLookup, h, if_neg Bool.false_ne_true]

theorem State.accessOnce_of_forbidden {f : Nat × Nat × Nat × Nat × Option Nat}
    (h : (s.countLookup (s.master x) x).firstForbidden (s.master x) x.kind x.address x.length = some f) :
    s.accessOnce x = ((s.countLookup (s.master x) x).refuseAccess (s.master x) x f, false) := by
  simp only [State.accessOnce, h]

theorem State.accessOnce_of_allowed
    (h : (s.countLookup (s.master x) x).firstForbidden (s.master x) x.kind x.address x.length = none) :
    s.accessOnce x = if misshapen x = true
      then ((s.countLookup (s.master x) x).refuseAccess (s.master x) x (x.address, 3, 0, 2, some 12), false)
      else ((s.countLookup (s.master x) x).performAccess x, true) := by
  simp only [State.accessOnce, h]

end Once

/-! ## A transfer (R404, R405) -/

/-- The state of an access, in which a core has the privilege it was made with (R393). -/
def State.issuing (s : State) (x : FabricAccess) : State :=
  if x.unit < 64 then s.setCore x.unit { s.core x.unit with kernel := !x.task } else s

theorem State.issuing_mem (s : State) (x : FabricAccess) : (s.issuing x).mem = s.mem := by
  unfold State.issuing
  split
  · exact (State.setCore_keeps ..).1
  · rfl

theorem State.accessAll_cons (s : State) (x : FabricAccess) (rest : List FabricAccess) :
    s.accessAll (x :: rest) = if (s.accessOnce x).2 = true then (s.accessOnce x).1.accessAll rest else (s.accessOnce x).1 := rfl

/-- The first of the parts of a transfer that a layer forbids. -/
def State.forbiddenPart (s : State) (x : FabricAccess) : Option FabricAccess :=
  (accessParts x).find? fun p => (s.firstForbidden (s.master x) p.kind p.address p.length).isSome

/-- A write of a unit that is no core goes no further than its first forbidden part; every other transfer goes part by part. -/
theorem State.access_eq (s : State) (x : FabricAccess) :
    s.access x = (if x.kind = .write ∧ 96 ≤ x.unit then (s.issuing x).forbiddenPart x else none).elim
      ((s.issuing x).accessAll (accessParts x)) fun p => ((s.issuing x).accessOnce p).1 := by
  have hparts : s.access x = if x.kind = .write ∧ 96 ≤ x.unit then
      ((s.issuing x).forbiddenPart x).elim ((s.issuing x).accessAll (accessParts x)) fun p => ((s.issuing x).accessOnce p).1
      else (s.issuing x).accessAll (accessParts x) := by
    unfold State.access State.forbiddenPart State.issuing
    dsimp only
    congr 1
    generalize List.find? _ _ = part
    cases part <;> rfl
  rw [hparts]
  split <;> rfl

theorem exec_fabricAccess {s : State} {x : FabricAccess} (hfits : accessFits x = true) :
    exec (.fabricAccess x) s = .next (s.access x) := by
  show execFabricAccess x s = _
  rw [execFabricAccess, if_pos hfits]

/-- Every part of a transfer is made by the master of the whole. -/
theorem master_of_mem_accessParts {x p : FabricAccess} (h : p ∈ accessParts x) (s : State) : s.master p = s.master x := by
  obtain ⟨i, -, rfl⟩ := List.mem_map.1 h
  rfl

theorem unit_of_mem_accessParts {x p : FabricAccess} (h : p ∈ accessParts x) : p.unit = x.unit := by
  obtain ⟨i, -, rfl⟩ := List.mem_map.1 h
  rfl

/-- The misses that a unit has counted decide nothing. -/
theorem State.firstForbidden_misses (s : State) (misses : Map Nat) (m : Master) (k : AccessKind) (a len : Nat) :
    ({ s with ixp := { s.ixp with misses := misses } } : State).firstForbidden m k a len = s.firstForbidden m k a len := rfl

/-- A unit that is no core counts its look-ups in its misses alone. -/
theorem State.firstForbidden_countLookup {s : State} {m : Master} {x : FabricAccess} (hunit : 64 ≤ m.unit) (k : AccessKind)
    (a len : Nat) : (s.countLookup m x).firstForbidden m k a len = s.firstForbidden m k a len := by
  unfold State.countLookup
  split
  · rw [if_neg (Nat.not_lt.2 hunit)]
    exact State.firstForbidden_misses ..
  · rfl

/-- The part at which a write is refused as a whole leaves memory. -/
theorem State.accessOnce_forbiddenPart_mem {s : State} {x p : FabricAccess} (hunit : 96 ≤ x.unit)
    (hpart : s.forbiddenPart x = some p) : (s.accessOnce p).1.mem = s.mem := by
  have hmem := List.mem_of_find?_eq_some hpart
  have hmaster := master_of_mem_accessParts hmem s
  have hforbidden := List.find?_some hpart
  obtain ⟨f, hf⟩ := Option.isSome_iff_exists.1 hforbidden
  have hother : 64 ≤ (s.master p).unit := by
    show 64 ≤ p.unit
    rw [unit_of_mem_accessParts hmem]
    omega
  rw [← hmaster, ← State.firstForbidden_countLookup (x := p) hother] at hf
  rw [State.accessOnce_of_forbidden hf]
  exact State.refuseAccess_countLookup_mem ..

/-- Settles O28: a transfer by `State.access_eq`, and each of its parts by what the layers say of it. -/
theorem fabricAccessActs : Obligations.FabricAccessActs := by
  unfold Obligations.FabricAccessActs
  refine ⟨fun s x hfits => ?transfer, fun s x => ?once, fun s x rest => ⟨rfl, s.accessAll_cons x rest⟩⟩
  case transfer =>
    intro t m refused
    have hpart : refused = t.forbiddenPart x := rfl
    have haccess : exec (.fabricAccess x) s = .next ((if x.kind = .write ∧ 96 ≤ x.unit then refused else none).elim
        (t.accessAll (accessParts x)) fun p => (t.accessOnce p).1) :=
      (exec_fabricAccess hfits).trans (congrArg _ (s.access_eq x))
    rw [haccess]
    refine ⟨fun hparts => ?_, fun p hwrite hunit hrefused => ?_⟩
    · have hnone : (if x.kind = .write ∧ 96 ≤ x.unit then refused else none) = none := by
        rcases hparts with hkind | hunit | hnone
        · exact if_neg fun h => hkind h.1
        · exact if_neg fun h => Nat.not_le.2 hunit h.2
        · rw [hnone, ite_self]
      rw [hnone, Option.elim_none]
    · rw [if_pos ⟨hwrite, hunit⟩, hrefused, Option.elim_some]
      exact ⟨rfl, (State.accessOnce_forbiddenPart_mem hunit (hpart ▸ hrefused)).trans (s.issuing_mem x)⟩
  case once =>
    intro m t
    refine ⟨fun hallowed hshape => ?_, fun hallowed hshape => ?_, fun f hforbidden => ?_, State.countLookup_of_decided⟩
    · rw [State.accessOnce_of_allowed hallowed, hshape, if_neg Bool.false_ne_true]
    · rw [State.accessOnce_of_allowed hallowed, if_pos hshape]
    · exact ⟨State.accessOnce_of_forbidden hforbidden, State.refuseAccess_countLookup_mem m f⟩

end Sys2Proof.Machine

/-! What a step does with the queue of waiting commands (R22; log entry 1). -/

namespace Sys2Proof.Machine

/-! ## Outcomes that leave the queue -/

/-- A command's outcome is a next state with the queue of `s`. -/
inductive KeepsQueue (s : State) : Host.Outcome State Fault Refusal → Prop
  | next (t : State) (h : t.pending = s.pending) : KeepsQueue s (.next t)

@[simp] theorem keepsQueue_next {s t : State} : KeepsQueue s (.next t) ↔ t.pending = s.pending :=
  ⟨fun h => by cases h; assumption, .next t⟩

theorem Keeps.keepsQueue {s : State} {o : Host.Outcome State Fault Refusal} (h : Keeps s o) : KeepsQueue s o := by
  obtain ⟨t, -, hqueue⟩ := h
  exact .next t hqueue

theorem Shrinks.keepsQueue {s : State} {o : Host.Outcome State Fault Refusal} (h : Shrinks s o) : KeepsQueue s o := by
  obtain ⟨t, -, hqueue⟩ := h
  exact .next t hqueue

/-! ## Accesses over the fabric (R404) -/

/-- An access reads and writes registers or places that hold bytes. -/
theorem State.performAccess_pending (s : State) (x : FabricAccess) : (s.performAccess x).pending = s.pending := by
  unfold State.performAccess
  dsimp only
  rw [← (State.wakePlaces_keeps s (.core x.unit) x.address x.length).2]
  generalize s.wakePlaces (.core x.unit) x.address x.length = t
  split
  · split
    · exact (State.emit_pending ..).trans (State.writeWords_shrinks ..).2
    · exact (State.emit_pending ..).trans (State.readWords_shrinks ..).2
    · rfl
  · split
    · exact (State.emit_pending ..).trans (State.storeBytes_pending ..)
    · exact (State.emit_pending ..).trans (State.freeBytes_keeps ..).2

theorem State.accessOnce_pending (s : State) (x : FabricAccess) : (s.accessOnce x).1.pending = s.pending := by
  have hrefused (f : Nat × Nat × Nat × Nat × Option Nat) :
      ((s.countLookup (s.master x) x).refuseAccess (s.master x) x f).pending = s.pending :=
    (State.refuseAccess_keeps ..).2.trans (State.countLookup_keeps ..).2
  cases hlayers : (s.countLookup (s.master x) x).firstForbidden (s.master x) x.kind x.address x.length with
  | some f =>
    rw [State.accessOnce_of_forbidden hlayers]
    exact hrefused f
  | none =>
    rw [State.accessOnce_of_allowed hlayers]
    split
    · exact hrefused _
    · exact (State.performAccess_pending ..).trans (State.countLookup_keeps ..).2

theorem State.accessAll_pending (s : State) (xs : List FabricAccess) : (s.accessAll xs).pending = s.pending := by
  induction xs generalizing s with
  | nil => rfl
  | cons x xs ih =>
    rw [State.accessAll_cons]
    split
    · exact (ih _).trans (s.accessOnce_pending x)
    · exact s.accessOnce_pending x

theorem State.issuing_pending (s : State) (x : FabricAccess) : (s.issuing x).pending = s.pending := by
  unfold State.issuing
  split
  · exact (State.setCore_keeps ..).2
  · rfl

theorem State.access_pending (s : State) (x : FabricAccess) : (s.access x).pending = s.pending := by
  rw [State.access_eq]
  cases (if x.kind = .write ∧ 96 ≤ x.unit then (s.issuing x).forbiddenPart x else none) with
  | none => exact (State.accessAll_pending ..).trans (s.issuing_pending x)
  | some p => exact (State.accessOnce_pending ..).trans (s.issuing_pending x)

theorem execFabricAccess_keepsQueue (x : FabricAccess) (s : State) : KeepsQueue s (execFabricAccess x s) := by
  unfold execFabricAccess
  split
  · exact .next _ (s.access_pending x)
  · exact .next s rfl

/-! ## Requests of a verb that leaves the queue (R22) -/

section Verbs
variable {v : Verb} (hrun : ∀ b s, (v.run b s).st.pending = s.pending)
include hrun

theorem runVerb_pending (b : Barge) (s : State) : (runVerb v b s).st.pending = s.pending := by
  unfold runVerb
  split
  · rfl
  · exact hrun b (s.drawAs v.drawer)

/-- A request starves, waits or is answered, each from what its work leaves or from what was before it. -/
theorem State.finish_pending (s : State) (b : Barge) : (s.finish v b).pending = s.pending := by
  have hwork := runVerb_pending hrun b s
  unfold State.finish
  dsimp only
  (repeat' split) <;> simp [State.addRecord_keeps, State.keepClaims_keeps, State.recordIdem_keeps, State.complete_keeps,
    State.noteStalls_keeps, hwork]

theorem serve_pending (b : Barge) (s : State) : (serve v b s).pending = s.pending := by
  obtain ⟨c, hserve⟩ := serve_eq v b s
  rw [hserve]
  rcases intake_cases c s (v.refill c s) fun s => s.finish v c with hkeeps | hruns
  · exact hkeeps.2
  · rw [hruns]
    exact (State.finish_pending hrun ..).trans (State.busyWith_keeps s c).2

end Verbs

theorem dbgWriteVerb_pending (b : Barge) (s : State) : (dbgWriteVerb.run b s).st.pending = s.pending := by
  dsimp only [dbgWriteVerb]
  split <;> exact State.portWrites_pending ..

theorem execDbgWrite_keepsQueue (b : Barge) (s : State) : KeepsQueue s (execDbgWrite b s) :=
  .next _ (serve_pending dbgWriteVerb_pending b s)

/-! ## The steps that do a barge's work -/

section Work
variable {s t : State} {n : Nat} {r : BargeRec}

theorem State.pending_of_work (h : t.mem = (s.work n r).mem ∧ t.pending = (s.work n r).pending) : t.pending = s.pending :=
  h.2.trans (s.work_wf n r).2

theorem State.pending_of_workWaits (h : s.workWaits n r = some t) : t.pending = s.pending :=
  (s.workWaits_keeps n r t h).2

end Work

theorem execCipherStep_keepsQueue (barge : Nat) (s : State) : KeepsQueue s (execCipherStep barge s) := by
  unfold execCipherStep
  split
  · exact .next s rfl
  · rename_i r _
    split
    · exact .next _ (by split <;> simp [State.stageKey_keeps, State.standsBy_keeps])
    · split
      · exact .next s rfl
      · rename_i hwaits
        exact .next _ (State.pending_of_workWaits hwaits)
      · exact .next _ (State.pending_of_work (n := barge) (r := r) (by simp [State.startJob_keeps, State.takeChamber_keeps]))

theorem execHashStep_keepsQueue (barge : Nat) (s : State) : KeepsQueue s (execHashStep barge s) := by
  unfold execHashStep
  split
  · exact .next s rfl
  · split
    · exact .next _ (State.standsBy_keeps ..).2
    · split
      · exact .next s rfl
      · rename_i hwaits
        exact .next _ (State.pending_of_workWaits hwaits)
      · exact .next _ (State.pending_of_work (State.startJob_keeps ..))

theorem execPkeStep_keepsQueue (barge : Nat) (s : State) : KeepsQueue s (execPkeStep barge s) := by
  unfold execPkeStep
  split
  · exact .next s rfl
  · split
    · exact .next _ (State.standsBy_keeps ..).2
    · split
      · exact .next s rfl
      · rename_i hwaits
        exact .next _ (State.pending_of_workWaits hwaits)
      · exact .next _ (State.pending_of_work (State.startJob_keeps ..))

theorem execFormatStep_keepsQueue (barge : Nat) (s : State) : KeepsQueue s (execFormatStep barge s) := by
  unfold execFormatStep
  split
  · exact .next s rfl
  · split
    · exact .next _ (State.standsBy_keeps ..).2
    · split
      · rename_i hwaits
        exact .next _ (State.pending_of_workWaits hwaits)
      · exact .next _ (State.pending_of_work (State.pass_keeps ..))

theorem State.worldWork_pending (s : State) (r : BargeRec) {v : Verb} (hverb : verbOf r.barge.opcode = some v) :
    (s.worldWork r v).st.pending = s.pending := by
  have heffect : (worldEffect v r (s.putTables r.barge.slice r.decTabs)).st.pending = s.pending := by
    unfold worldEffect
    split
    · exact (s.putTables_keeps ..).2
    · exact (verbOf_wf _ v hverb r.barge (State.drawAs _ (worldDrawer r))).2.trans (s.putTables_keeps ..).2
  exact (State.putTables_keeps ..).2.trans heffect

theorem execFwAssistReturn_keepsQueue (barge : Nat) (s : State) : KeepsQueue s (execFwAssistReturn barge s) := by
  unfold execFwAssistReturn
  split
  · exact .next s rfl
  · rename_i r _
    split
    · exact .next s rfl
    · split
      · exact .next _ (State.discharge_keeps ..).2
      · split
        · exact .next _ (State.endBarge_keeps ..).2
        · rename_i v hverb
          have hwoken : ((s.wakeWorld (queueWorld r.barge.opcode)).wakeKeys r.barge.opcode).pending = s.pending := by
            simp [State.wakeKeys_keeps, State.wakeWorld_keeps]
          have hwork := State.worldWork_pending ((s.wakeWorld (queueWorld r.barge.opcode)).wakeKeys r.barge.opcode) r hverb
          dsimp only
          (repeat' split) <;> simp [State.awaitDraw_keeps, State.discharge_keeps, State.recordIdem_keeps, State.comeBack_keeps,
            State.worldJob_keeps, State.keepEffect_keeps, hwork, hwoken]

/-! ## Every command and every step -/

theorem exec_stores_keepsQueue (c : Instr) (s : State) (hstores : stores c = true) : KeepsQueue s (exec c s) := by
  cases c with
  | fabricAccess => exact execFabricAccess_keepsQueue ..
  | dbgWrite => exact execDbgWrite_keepsQueue ..
  | cipherStep => exact execCipherStep_keepsQueue ..
  | hashStep => exact execHashStep_keepsQueue ..
  | pkeStep => exact execPkeStep_keepsQueue ..
  | formatStep => exact execFormatStep_keepsQueue ..
  | fwAssistReturn => exact execFwAssistReturn_keepsQueue ..
  | _ => simp [stores] at hstores

/-- A command stores, only takes bytes away, or leaves memory, and each of the three leaves the queue. -/
theorem exec_keepsQueue (c : Instr) (s : State) : KeepsQueue s (exec c s) := by
  by_cases hstores : stores c = true
  · exact exec_stores_keepsQueue c s hstores
  · by_cases hclears : clears c = true
    · exact (exec_shrinks c s hclears).keepsQueue
    · exact (exec_keeps c s (by simpa using hstores) (by simpa using hclears)).keepsQueue

/-- Settles O4: what `exec_keepsQueue` says of the outcome. -/
theorem commandsLeaveQueue : Obligations.CommandsLeaveQueue := by
  unfold Obligations.CommandsLeaveQueue
  intro c s t hnext
  have hqueue := exec_keepsQueue c s
  rwa [hnext, keepsQueue_next] at hqueue

theorem step_cons (c : Instr) (rest : List Instr) (s : State) :
    step { s with pending := c :: rest } = exec c { s with pending := rest } := rfl

/-- Settles O1: the equation of `step` on a queue that is not empty. -/
theorem stepRunsFrontCommand : Obligations.StepRunsFrontCommand := by
  unfold Obligations.StepRunsFrontCommand
  exact step_cons

theorem step_of_empty {s : State} (hempty : s.pending = []) : step s = .next (s.upTo (s.now + 1000)) := by
  rw [step, hempty]
  rfl

/-- Passing time touches the clocks, the observability unit, the lock keeper's records, the draws and the output alone. -/
theorem State.upTo_frame (s : State) (t : Nat) :
    s.upTo t = { s with
      clk := (s.upTo t).clk, obs := (s.upTo t).obs, flt := (s.upTo t).flt, draws := (s.upTo t).draws, out := (s.upTo t).out } := by
  rw [← s.upTo_pending t, ← s.upTo_whf t, ← s.upTo_readers t, ← s.upTo_cus t, ← s.upTo_vlt t, ← s.upTo_cht t, ← s.upTo_eng t,
    ← s.upTo_ent t, ← s.upTo_hlt t, ← s.upTo_tow t, ← s.upTo_ixp t, ← s.upTo_cor t, ← s.upTo_ctr t, ← s.upTo_snt t,
    ← s.upTo_pwr t, ← s.upTo_mem t]

/-- The clock never runs back (log entry 8). -/
theorem State.upTo_now (s : State) (t : Nat) : (s.upTo t).now = max s.now t :=
  congrArg Clocks.mono (State.sampleSites_clk ..)

/-- Settles O2: an idle step lets a microsecond pass, as `State.upTo_frame` and `State.upTo_now` say. -/
theorem stepIdlesOnEmptyQueue : Obligations.StepIdlesOnEmptyQueue := by
  unfold Obligations.StepIdlesOnEmptyQueue
  intro s hempty
  exact ⟨(step_of_empty hempty).trans (congrArg _ (s.upTo_frame _)), (s.upTo_now _).trans (by omega)⟩

end Sys2Proof.Machine

/-! Transitions, boots, starts and the release of HELD (R110, R432, R439, R440, R442, R446, R466, R512 to R514). -/

namespace Sys2Proof.Machine

/-! ## Transitions and enables (R439, R440, R446) -/

section Written
variable {w : LcWrite} {s : State} (hwriting : s.ctr.writing = some w)
include hwriting

theorem exec_lcWriteDone_unasked (hanswer : w.answer = none) :
    let t := s.writeTransition w
    exec .lcWriteDone s = .next { t with ctr := { t.ctr with writing := none, resetAt := some (t.now + 10000000) } } := by
  show execLcWriteDone s = _
  simp only [execLcWriteDone, hwriting, hanswer]

theorem exec_lcWriteDone_answers {a : Waiter} (hanswer : w.answer = some a) :
    let t := s.writeTransition w
    let u : State := { t with ctr := { t.ctr with writing := none, resetAt := some (t.now + 10000000) } }
    exec .lcWriteDone s =
      .next (u.answer a ⟨stDone, be 1 (w.slot.getD 0xFF) ++ be 1 u.ctr.tokensLeft ++ zeros 2⟩ []) := by
  show execLcWriteDone s = _
  simp only [execLcWriteDone, hwriting, hanswer]

end Written

theorem exec_delayedFullReset {at_ : Nat} {s : State} (hreset : s.ctr.resetAt = some at_) :
    exec .delayedFullReset s = .next (s.upTo at_).fullReset := by
  show execDelayedFullReset s = _
  simp only [execDelayedFullReset, hreset]

theorem exec_factoryTransition {i : Nat} {rest : List Nat} {s : State} (hblank : s.ctr.state = .blank)
    (hidle : s.ctr.writing = none) (hup : s.pwr.shutDown = false) (hboot : s.ctr.bootDone = true)
    (hslots : s.ctr.freeSlots = i :: rest) :
    exec .factoryTransition s = .next { s with ctr := { s.ctr with
      writing := some { target := .foundryTest, slot := some i, answer := none } } } := by
  show execFactoryTransition s = _
  simp [execFactoryTransition, hblank, hidle, hup, hboot, hslots]

theorem exec_dbgCertExpire {e : Nat} {es : List Nat} {s : State}
    (hends : [s.ctr.dbgNormal, s.ctr.dbgSecure, s.ctr.dbgArmed].filterMap (fun x => x.map BitVec.toNat) = e :: es) :
    let t := s.upToStamp (es.foldl min e)
    exec .dbgCertExpire s = .next { t with ctr := t.ctr.expireDebug (es.foldl min e) } := by
  show execDbgCertExpire s = _
  simp only [execDbgCertExpire, hends]

/-! ## Boots and roots (R110, R432, R466) -/

theorem exec_boot {s : State} (hup : s.pwr.shutDown = false) : exec .boot s = .next s.bootRom := by
  show execBoot s = _
  simp [execBoot, hup]

theorem State.drawRoot_of_test {s : State} (htest : s.ctr.state = .foundryTest ∨ s.ctr.state = .returnTest) :
    s.drawRoot = s.testRootStart := by
  rcases htest with h | h <;> rw [State.drawRoot, h]

theorem State.drawRoot_of_other {s : State} (hfoundry : s.ctr.state ≠ .foundryTest) (hreturn : s.ctr.state ≠ .returnTest) :
    s.drawRoot = s.generateRoot.endorse := by
  cases hstate : s.ctr.state with
  | foundryTest => exact absurd hstate hfoundry
  | returnTest => exact absurd hstate hreturn
  | blank | custody | scrap => rw [State.drawRoot, hstate]

section Retry
variable {s : State} (htried : s.vlt.rootTries ≠ 0) (hleft : s.vlt.rootTries < 3) (hboot : s.ctr.bootDone = false)
include htried hleft hboot

/-- A root is due to be tried again. -/
theorem rootGenRetry_due : ¬(s.vlt.rootTries = 0 ∨ 3 ≤ s.vlt.rootTries ∨ s.ctr.bootDone = true) := by
  simp [htried, hleft, hboot]

theorem exec_rootGenRetry_draws (hsources : (s.upTo s.vlt.rootAt).bothSources = true) :
    exec .rootGenRetry s = .next (s.upTo s.vlt.rootAt).drawRoot.finishBoot := by
  show execRootGenRetry s = _
  rw [execRootGenRetry, if_neg (rootGenRetry_due htried hleft hboot)]
  exact if_pos hsources

/-- The tries left make the failure that raises the event the third one. -/
theorem exec_rootGenRetry_fails (hsources : (s.upTo s.vlt.rootAt).bothSources = false) :
    let t := s.upTo s.vlt.rootAt
    let n := t.vlt.rootTries + 1
    let u : State := { t with vlt := { t.vlt with rootTries := n, rootAt := t.now + 100000000 } }
    exec .rootGenRetry s = .next (if n = 3 then u.raise 418 noInst 0xFFFF 0 n else u) := by
  show execRootGenRetry s = _
  have hthird : 3 ≤ (s.upTo s.vlt.rootAt).vlt.rootTries + 1 ↔ (s.upTo s.vlt.rootAt).vlt.rootTries + 1 = 3 := by
    rw [State.upTo_vlt]
    omega
  rw [execRootGenRetry, if_neg (rootGenRetry_due htried hleft hboot)]
  simp only [hsources, Bool.false_eq_true, if_false, hthird]

end Retry

theorem exec_heldRelease {s : State} (hheld : s.snt.held = true) (hfree : s.snt.locked = false)
    (hclear : s.zeroisingCondition = false) :
    let ends := s.snt.sensors.filterMap fun e =>
      if pairedSensor e.1 && e.2.level == 3 then e.2.clearSince.map (· + 1000000000) else none
    exec .heldRelease s = .next (ends.foldl State.upTo s).bootRom := by
  show execHeldRelease s = _
  rw [execHeldRelease, if_neg (by simp [hheld, hfree, hclear])]

/-! ## Starts (R446, R512 to R514) -/

/-- The state of a start whose calibration and hold are done (R512, R513). -/
def State.starting (s : State) (tests : StartTests) : State :=
  { s with pwr := { s.pwr with
    warm := s.pwr.calibrated && !(s.pwr.resumed && tests.cold), badLines := tests.badLines, calibrated := true,
    resumed := false } }

/-- A start as far as its boot ROM goes: the sources and the generators are tested before it. -/
def State.startBoot (s : State) (tests : StartTests) : State :=
  ((((s.starting tests).retestFence.testSource tests.sources 0).testSource tests.sources 1).generatorTests tests).bootRom

/-- A start after its boot ROM: where that went through, the keeper, the tests of engines and flights, and a free START_MS. -/
def State.startKeeper (b : State) (tests : StartTests) : State :=
  let k := b.keeperStart.powerOnTests tests
  if b.ctr.bootDone then
    ({ k.freeNat.2 with pwr := { k.freeNat.2.pwr with
      started := true, startMs := sat 65535 k.freeNat.1 } } : State).sourcesChanged
  else b

/-- The branch that a start takes at the end of its boot ROM. -/
theorem startKeeper_branch (b : State) (tests : StartTests) :
    (if !b.ctr.bootDone then .next b
      else
        let (ms, k) := (b.keeperStart.powerOnTests tests).freeNat
        .next ({ k with pwr := { k.pwr with started := true, startMs := sat 65535 ms } } : State).sourcesChanged) =
      (Host.Outcome.next (b.startKeeper tests) : Host.Outcome State Fault Refusal) := by
  unfold State.startKeeper
  cases b.ctr.bootDone <;> rfl

section Start
variable {tests : StartTests} {s : State} (hup : s.pwr.shutDown = false) (hfirst : s.pwr.started = false)
include hup hfirst

theorem start_due : ¬(s.pwr.shutDown = true ∨ s.pwr.started = true) := by
  simp [hup, hfirst]

theorem exec_start_badHold (hbad : 1024 < tests.badLines) : exec (.start tests) s = .next (s.starting tests) := by
  show execStart tests s = _
  rw [execStart, if_neg (start_due hup hfirst)]
  exact if_pos hbad

theorem exec_start (hgood : tests.badLines ≤ 1024) :
    exec (.start tests) s = .next ((s.startBoot tests).startKeeper tests) := by
  show execStart tests s = _
  rw [execStart, if_neg (start_due hup hfirst)]
  exact (if_neg (Nat.not_lt.2 hgood)).trans (startKeeper_branch (s.startBoot tests) tests)

end Start

/-- Settles O48: one lemma for each command, a transition by whether it was asked for, and a try at a root by its sources. -/
theorem bootCommandsAct : Obligations.BootCommandsAct := by
  unfold Obligations.BootCommandsAct
  exact ⟨fun w s hwriting => ⟨exec_lcWriteDone_unasked hwriting, fun a => exec_lcWriteDone_answers hwriting⟩,
    fun at_ s => exec_delayedFullReset, fun i rest s => exec_factoryTransition, fun e es s => exec_dbgCertExpire,
    fun s => exec_boot,
    fun s htried hleft hboot => ⟨fun hsources => ⟨exec_rootGenRetry_draws htried hleft hboot hsources,
      State.drawRoot_of_test, State.drawRoot_of_other⟩, exec_rootGenRetry_fails htried hleft hboot⟩,
    fun tests s hup hfirst => ⟨exec_start_badHold hup hfirst, exec_start hup hfirst⟩, fun s => exec_heldRelease⟩

end Sys2Proof.Machine

/-! Alarms, disagreements, the scans of the shadows and the copies of evidence (R452 to R456, R468, R474, R523). -/

namespace Sys2Proof.Machine

/-! ## Logic alarms (R455) -/

theorem exec_sensorAlarm_logic {a : AlarmReport} {s : State} (hlogic : logicAlarm a.code = true) :
    exec (.sensorAlarm a) s =
      .next ((s.modSensor a.code fun x => { x with condition := false }).alarm a.code 0 a.reading a.island) := by
  show execSensorAlarm a s = _
  rw [execSensorAlarm, if_pos hlogic]

/-! ## Pairs of detectors (R453, R454) -/

/-- The sentinel hears a sensor: on main power, or on a cell where the sensor is watched on it. -/
def State.sensorHeard (s : State) (code : Nat) : Bool :=
  s.snt.onMain || ((s.snt.cellA || s.snt.cellB) && (sensorBound code).2.isSome)

theorem State.sensorHeard_iff {s : State} {code : Nat} : s.sensorHeard code = true ↔
    s.snt.onMain = true ∨ (s.snt.cellA = true ∨ s.snt.cellB = true) ∧ (sensorBound code).2 ≠ none := by
  simp [State.sensorHeard, Option.isSome_iff_ne_none]

/-- The bound of a sensor on the power that the sentinel runs on. -/
def State.sensorSpan (s : State) (code : Nat) : Nat :=
  if s.snt.onMain then (sensorBound code).1 else (sensorBound code).2.getD 0

/-- A sensor's condition stands already, or was clear for less than its bound. -/
def State.sensorStands (s : State) (code : Nat) : Bool :=
  (s.sensor code).condition || (s.sensor code).clearSince.any fun t => decide (s.now < t + s.sensorSpan code)

theorem State.sensorStands_iff {s : State} {code : Nat} : s.sensorStands code = true ↔
    (s.sensor code).condition = true ∨ ∃ t, (s.sensor code).clearSince = some t ∧ s.now < t + s.sensorSpan code := by
  simp [State.sensorStands, Option.any_eq_true]

/-- A report of a detector begins its sensor's condition. -/
def State.conditionBegins (s : State) (a : AlarmReport) : State :=
  s.modSensor a.code fun y => { y with condition := true, a := a.a || (y.condition && y.a), b := a.b || (y.condition && y.b) }

/-- The course of a report of a pair of detectors: not heard, the end of a condition, one that stands, an alarm, a disagreement. -/
theorem exec_sensorAlarm_paired {a : AlarmReport} (hlogic : logicAlarm a.code = false) (hpaired : pairedSensor a.code = true)
    (hcell : a.code ≠ 0x0B) (s : State) :
    exec (.sensorAlarm a) s = .next (
      if s.sensorHeard a.code = false then s
      else if a.a = false ∧ a.b = false then s.conditionEnds a.code
      else if s.sensorStands a.code = true then s.conditionBegins a
      else if a.a = true ∧ a.b = true ∨ (s.sensor a.code).level = 3 then
        (s.conditionBegins a).alarm a.code (detectors a.a a.b) a.reading a.island
      else (s.conditionBegins a).disagree a.code (detectors a.a a.b) 0) := by
  show execSensorAlarm a s = _
  have hunheard : (!s.snt.onMain && !s.snt.cellA && !s.snt.cellB || !s.snt.onMain && (sensorBound a.code).2.isNone) = true ↔
      s.sensorHeard a.code = false := by
    unfold State.sensorHeard
    cases s.snt.onMain <;> cases s.snt.cellA <;> cases s.snt.cellB <;> cases (sensorBound a.code).2 <;> simp
  have hstands : s.sensorStands a.code = ((s.sensor a.code).condition || match (s.sensor a.code).clearSince with
      | some t => decide (s.now < t + s.sensorSpan a.code)
      | none => false) := by
    unfold State.sensorStands
    cases (s.sensor a.code).clearSince <;> rfl
  simp only [execSensorAlarm, hlogic, hpaired, hcell, hunheard, hstands, Bool.not_true, Bool.false_eq_true, if_false,
    Bool.and_eq_true, Bool.or_eq_true, Bool.not_eq_true', decide_eq_true_eq, apply_ite Host.Outcome.next] <;> rfl

/-! ## The cells (R469, R523) -/

/-- A report of the cells begins their condition where either is gone. -/
def State.cellsBegin (s : State) (a : AlarmReport) : State :=
  (s.cellsReport a.a a.b).modSensor 0x0B fun x => { x with condition := true, a := a.a, b := a.b }

theorem exec_sensorAlarm_cells {a : AlarmReport} (hcell : a.code = 0x0B) (s : State) :
    exec (.sensorAlarm a) s = .next (
      if a.a = false ∧ a.b = false then (s.cellsReport a.a a.b).conditionEnds 0x0B
      else if (s.sensor 0x0B).condition = true ∨ (s.cellsBegin a).snt.onMain = false ∧ a.a = true ∧ a.b = true then
        s.cellsBegin a
      else (s.cellsBegin a).alarm 0x0B (detectors a.a a.b) a.reading a.island) := by
  show execSensorAlarm a s = _
  have hlogic : logicAlarm 0x0B = false := rfl
  have hpaired : pairedSensor 0x0B = true := rfl
  rw [apply_ite Host.Outcome.next, apply_ite Host.Outcome.next]
  simp only [execSensorAlarm, hcell, hlogic, hpaired, Bool.not_true, Bool.false_eq_true, if_false, if_true, Bool.and_eq_true,
    Bool.or_eq_true, Bool.not_eq_true', State.cellsBegin, and_assoc]
  rfl

/-- A report of some detector is not one of neither. -/
theorem not_neither_detector {a : AlarmReport} (hreport : a.a = true ∨ a.b = true) : ¬(a.a = false ∧ a.b = false) := by
  rcases hreport with h | h <;> simp [h]

/-! ## Disagreements, scans and copies (R454, R468, R474) -/

theorem exec_detectorDisagreement {code : Nat} {s : State} (detectorB : Bool) (hpaired : pairedSensor code = true)
    (hlevel : (s.sensor code).level ≠ 3) (hwatched : s.snt.onMain = true ∨ (sensorBound code).2 ≠ none) :
    exec (.detectorDisagreement code detectorB) s = .next (s.disagree code (if detectorB then 2 else 1) 0) := by
  show execDetectorDisagreement code detectorB s = _
  refine if_neg ?_
  rcases hwatched with h | h <;> simp [hpaired, hlevel, h]

theorem exec_shadowScan (s : State) :
    let u := s.upTo s.snt.scanAt
    let t : State := { u with snt := { u.snt with scanAt := u.now + 1000000 } }
    exec .shadowScan s = .next (if t.snt.corrupt then t.alarm 0x21 0 0 0 else t) :=
  (apply_ite Host.Outcome.next _ _ _).symm

theorem exec_evidenceCopy (s : State) : exec .evidenceCopy s = .next (if s.snt.onMain then s.copyStaged else s) :=
  (apply_ite Host.Outcome.next _ _ _).symm

/-- Settles O49: a report by the course of its kind, and the others one lemma each. -/
theorem sentinelCommandsAct : Obligations.SentinelCommandsAct := by
  unfold Obligations.SentinelCommandsAct
  refine ⟨fun a s => exec_sensorAlarm_logic, fun a s hlogic hpaired hcell => ?paired, fun a s hcell => ?cells,
    fun code b s => exec_detectorDisagreement b, fun s => ?scan, fun s => ?copy⟩
  case paired =>
    intro powered x bound stands t
    have hpowered : s.sensorHeard a.code = true ↔ powered := State.sensorHeard_iff
    have hstands : s.sensorStands a.code = true ↔ stands := State.sensorStands_iff
    rw [exec_sensorAlarm_paired hlogic hpaired hcell]
    refine ⟨fun hdead => ?_, fun hheard hnoneA hnoneB => ?_, fun hheard hreport => ?_⟩
    · rw [if_pos (Bool.eq_false_iff.2 (mt hpowered.1 hdead))]
    · rw [hpowered.2 hheard, if_neg Bool.noConfusion, if_pos ⟨hnoneA, hnoneB⟩]
    · rw [if_neg (by simp [hpowered.2 hheard]), if_neg (not_neither_detector hreport)]
      refine ⟨fun hstood => ?_, fun hclear hboth => ?_, fun hclear hone hlevel => ?_⟩
      · rw [if_pos (hstands.2 hstood)]
        rfl
      · rw [if_neg (mt hstands.1 hclear), if_pos hboth]
        rfl
      · have hother : ¬(a.a = true ∧ a.b = true ∨ (s.sensor a.code).level = 3) := by
          rintro (⟨ha, hb⟩ | h)
          · exact hone (ha.trans hb.symm)
          · exact hlevel h
        rw [if_neg (mt hstands.1 hclear), if_neg hother]
        rfl
  case cells =>
    rw [exec_sensorAlarm_cells hcell]
    refine ⟨fun hnoneA hnoneB => congrArg _ (if_pos ⟨hnoneA, hnoneB⟩), fun hreport => ?_⟩
    rw [if_neg (not_neither_detector hreport)]
    exact ⟨fun hquiet => congrArg _ (if_pos hquiet), fun hloud => congrArg _ (if_neg hloud)⟩
  case scan =>
    rw [exec_shadowScan]
    exact ⟨fun hcorrupt => congrArg _ (if_pos hcorrupt), fun hsound => congrArg _ (if_neg (Bool.eq_false_iff.1 hsound))⟩
  case copy =>
    rw [exec_evidenceCopy]
    exact ⟨fun hmain => congrArg _ (if_pos hmain), fun hcell => congrArg _ (if_neg (Bool.eq_false_iff.1 hcell))⟩

end Sys2Proof.Machine

/-! Thermal emergencies, power states, cages and the bus of the power stage (R508, R510, R511, R521, R522). -/

namespace Sys2Proof.Machine

/-! ## Clocks and power states (R508, R510, R511) -/

section Thermal
variable {s : State} (hthermal : s.pwr.thermal = true)
include hthermal

theorem exec_thermalQuarterClock (hhalf : s.pwr.divisor = 2) :
    let t := (s.upTo (s.pwr.thermalAt + 100000000)).rebase
    exec .thermalQuarterClock s = .next { t with pwr := { t.pwr with divisor := 4 } } := by
  show execThermalQuarterClock s = _
  simp [execThermalQuarterClock, hthermal, hhalf]

theorem exec_thermalEnd :
    let t := (s.upTo (s.pwr.thermalAt + 1000000000)).rebase
    exec .thermalEnd s =
      .next (({ t with pwr := { t.pwr with thermal := false, divisor := 1 } } : State).level 388 false noInst 0xFFFF 0 0) := by
  show execThermalEnd s = _
  simp [execThermalEnd, hthermal]

end Thermal

theorem exec_idleWindowEnd {a e : Nat} {s : State} (hidle : s.pwr.idle = some (a, e)) :
    let t := s.upTo e
    exec .idleWindowEnd s = .next ({ t with pwr := { t.pwr with idle := none } } : State).evalPower := by
  show execIdleWindowEnd s = _
  simp only [execIdleWindowEnd, hidle]

theorem exec_powerStateEval {s : State} (hstarted : s.pwr.started = true) : exec .powerStateEval s = .next s.evalPower := by
  show execPowerStateEval s = _
  rw [execPowerStateEval, if_pos hstarted]

theorem State.wakeDomain_of_stopped {s : State} {d : Nat} (hstopped : (s.domain d).stopped = true) :
    s.wakeDomain d = ((s.upTo (s.now + (s.domain d).wakeNs s.pwr.state)).rebase).modDomain d fun x =>
      { x with down := 0, clockOff := false, powerOff := false } := by
  simp [State.wakeDomain, hstopped]

theorem State.wakeDomain_of_runs {s : State} {d : Nat} (hruns : (s.domain d).stopped = false) : s.wakeDomain d = s := by
  simp [State.wakeDomain, hruns]

theorem exec_blockWake {d : Nat} (hdomain : d < 32) (s : State) : exec (.blockWake d) s = .next (s.wakeDomain d) := by
  show execBlockWake d s = _
  rw [execBlockWake, if_neg (by omega)]

/-! ## Cages (R521) -/

theorem exec_cageInsert {cage : Nat} (hcage : cage < 3) (s : State) :
    exec (.cageInsert cage) s =
      .next (s.setCage cage { present := true, onAt := if s.pwr.shutDown then none else some (s.now + 100000000) }) := by
  show execCageInsert cage s = _
  rw [execCageInsert, if_neg (by omega)]

section PowerOn
variable {cage t mw : Nat} {active : Bool} {s : State} (hon : (s.cage cage).onAt = some t)
include hon

theorem exec_cagePowerOn_fits (hbudget : mw ≤ cageBudget cage) (hpassive : cage ≠ 2 ∨ active = false) :
    let u := s.upTo t
    exec (.cagePowerOn cage mw active) s =
      .next (u.setCage cage { u.cage cage with powered := true, exceeds := false, onAt := none }) := by
  show execCagePowerOn cage mw active s = _
  have hfits : (decide (cageBudget cage < mw) || (cage == 2 && active)) = false := by
    rcases hpassive with h | h <;> simp [h, hbudget]
  simp only [execCagePowerOn, hon, hfits, Bool.false_eq_true, if_false]

theorem exec_cagePowerOn_exceeds (hexceeds : cageBudget cage < mw ∨ cage = 2 ∧ active = true) :
    let u := s.upTo t
    exec (.cagePowerOn cage mw active) s =
      .next ((u.setCage cage { u.cage cage with powered := true, exceeds := true, onAt := none }).linkDown cage) := by
  show execCagePowerOn cage mw active s = _
  have hover : (decide (cageBudget cage < mw) || (cage == 2 && active)) = true := by simpa using hexceeds
  simp only [execCagePowerOn, hon, hover, if_true]

end PowerOn

theorem exec_cageInterrupt {cage : Nat} {s : State} (status : Nat) (hpowered : (s.cage cage).powered = true) :
    exec (.cageInterrupt cage status) s = .next (s.setCage cage { s.cage cage with status := status % 256 }) := by
  show execCageInterrupt cage status s = _
  rw [execCageInterrupt, if_pos hpowered]

/-! ## The bus of the power stage (R522) -/

theorem exec_pmbusWrite_empty {data : Bytes} (hempty : data = []) (c : Nat) (s : State) : exec (.pmbusWrite c data) s = .next s := by
  show execPmbusWrite c data s = _
  simp [execPmbusWrite, hempty]

section Sideband
variable {c : Nat} {s : State} (hup : s.pwr.shutDown = false)
include hup

theorem exec_pmbusRead_unknown (hanswer : s.pmAnswer c = none) : exec (.pmbusRead c) s = .next s := by
  show execPmbusRead c s = _
  simp [execPmbusRead, hup, hanswer]

theorem exec_pmbusRead_answered {bs : Bytes} (hanswer : s.pmAnswer c = some bs) :
    exec (.pmbusRead c) s = .next { s with
      out := s.out ++ [.pmbus c bs], pwr := { s.pwr with cml := if c = 0x7E then 0 else s.pwr.cml } } := by
  show execPmbusRead c s = _
  simp [execPmbusRead, hup, hanswer]

theorem exec_pmbusWrite_data {data : Bytes} (hdata : data ≠ []) :
    exec (.pmbusWrite c data) s = .next { s with pwr := { s.pwr with cml := s.pwr.cml ||| 0x40 } } := by
  show execPmbusWrite c data s = _
  simp [execPmbusWrite, hup, hdata]

end Sideband

/-- Settles O51: one lemma for each command, a wake by whether its domain is stopped. -/
theorem powerCommandsAct : Obligations.PowerCommandsAct := by
  unfold Obligations.PowerCommandsAct
  refine ⟨fun s hthermal => ⟨exec_thermalQuarterClock hthermal, exec_thermalEnd hthermal⟩, fun a e s => exec_idleWindowEnd,
    fun s => exec_powerStateEval, fun d s hdomain => ?wake, fun cage s hcage => exec_cageInsert hcage s,
    fun cage t mw active s hon => ⟨exec_cagePowerOn_fits hon, exec_cagePowerOn_exceeds hon⟩,
    fun cage status s => exec_cageInterrupt status, fun c s => exec_pmbusRead_unknown, fun c bs s hup => exec_pmbusRead_answered hup,
    fun c data s hup => ⟨exec_pmbusWrite_data hup, fun hempty => exec_pmbusWrite_empty hempty c s⟩⟩
  case wake =>
    rw [exec_blockWake hdomain]
    exact ⟨fun hstopped => congrArg _ (State.wakeDomain_of_stopped hstopped),
      fun hruns => congrArg _ (State.wakeDomain_of_runs hruns)⟩

end Sys2Proof.Machine

/-! The recorder, counters that wrap and leap seconds (R486, R487, R494, R497). -/

namespace Sys2Proof.Machine

/-! ## The recorder (R486, R487) -/

section Drain
variable {s : State}

theorem recorderDrain_of_restarting (hrestarting : s.cor.normalRestarting = true) : recorderDrain s = s := by
  rw [recorderDrain, if_pos hrestarting]

variable (hruns : s.cor.normalRestarting = false)
include hruns

theorem recorderDrain_of_dropped (hdropped : s.obs.dropped ≠ 0) (hroom : s.obs.queue.length < 1024) :
    recorderDrain s = s.raiseGap s.obs.dropped := by
  simp [recorderDrain, hruns, hdropped, hroom]

theorem recorderDrain_of_queued {q : QueuedEvent} {rest : List QueuedEvent} (hfull : s.obs.dropped = 0 ∨ 1024 ≤ s.obs.queue.length)
    (hqueue : s.obs.queue = q :: rest) :
    recorderDrain s = { s with obs := { s.obs.write q.time q.source
      (flag (q.asserted && eventLevel q.source) 0 + flag q.merged 1) q.count q.info with queue := rest } } := by
  have hnogap : (decide (s.obs.dropped ≠ 0) && decide (s.obs.queue.length < 1024)) = false := by
    rcases hfull with h | h <;> simp [h]
  simp only [recorderDrain, hruns, hnogap, Bool.false_eq_true, if_false]
  rw [hqueue]

end Drain

/-! ## A counter of a site wraps (R494) -/

section Wrap
variable {block site n : Nat} {s : State} (hcounter : n < blockCounters block)
include hcounter

theorem exec_counterWrap_quiet (hquiet : (s.counter block site n).cfg.toNat.testBit 29 = false) :
    exec (.counterWrap block site n) s =
      .next (s.setCounter block site n { s.counter block site n with value := 0, ovf := true }) := by
  show execCounterWrap block site n s = _
  simp [execCounterWrap, hcounter, hquiet]

section Interrupts
variable (hinterrupts : (s.counter block site n).cfg.toNat.testBit 29 = true)
include hinterrupts

theorem exec_counterWrap_raises (hblock : block ≠ 11) :
    exec (.counterWrap block site n) s =
      .next ((s.setCounter block site n { s.counter block site n with value := 0, ovf := true }).raise
        481 (siteInstance block site) 0xFFFF 0 n) := by
  show execCounterWrap block site n s = _
  simp [execCounterWrap, hcounter, hinterrupts, hblock]

theorem exec_counterWrap_core (hcore : block = 11) :
    let t := s.setCounter block site n { s.counter block site n with value := 0, ovf := true }
    let u := t.freeNat.2
    exec (.counterWrap block site n) s =
      .next (({ u with obs := { u.obs with psample := u.obs.psample.put site (t.freeNat.1 % 2 ^ 40) } } : State).emit
        (.interrupt site 2)) := by
  show execCounterWrap block site n s = _
  simp only [execCounterWrap, hcounter, hinterrupts, if_true, if_pos hcore]

end Interrupts
end Wrap

/-! ## Leap seconds (R497) -/

theorem exec_timeLeap_flagged {s : State} (hflag : s.clk.leapFlag ≠ 0) :
    exec .timeLeap s = .next (({ s with clk := { s.clk with
      rtcBase := s.baseFor s.stamp.toNat, leap := some (s.clk.leapFlag, s.now + 1000000000000), leapFlag := 0 } } : State).raise
        484 noInst 0xFFFF 0 0) := by
  show execTimeLeap s = _
  rw [execTimeLeap, if_neg hflag]

theorem exec_timeLeap_none {s : State} (hflag : s.clk.leapFlag = 0) : exec .timeLeap s = .next s := by
  show execTimeLeap s = _
  rw [execTimeLeap, if_pos hflag]

/-- Settles O52: the recorder by what it drains, a counter by what its wrap tells, and a leap by its flag. -/
theorem observabilityCommandsAct : Obligations.ObservabilityCommandsAct := by
  unfold Obligations.ObservabilityCommandsAct
  have hrecorder (s : State) : exec .recorderWrite s = .next (recorderDrain s) := rfl
  exact ⟨fun s => ⟨fun hrestarting => (hrecorder s).trans (congrArg _ (recorderDrain_of_restarting hrestarting)),
      fun hruns hdropped hroom => (hrecorder s).trans (congrArg _ (recorderDrain_of_dropped hruns hdropped hroom)),
      fun q rest hruns hfull hqueue => (hrecorder s).trans (congrArg _ (recorderDrain_of_queued hruns hfull hqueue))⟩,
    fun block site n s hcounter => ⟨exec_counterWrap_quiet hcounter, exec_counterWrap_raises hcounter,
      exec_counterWrap_core hcounter⟩,
    fun s => exec_timeLeap_flagged, fun s => exec_timeLeap_none⟩

end Sys2Proof.Machine
